-- ==== Sys2Proof/Word.lean ====
section
/-! DEFINITION. The word types of the Ilnar F1024 model, and their plainest arithmetic. -/

namespace Sys2Proof

/-- A register, a descriptor word, a record word: 32 bits (R17). -/
abbrev Word := BitVec 32

/-- A byte of module DRAM, of host memory or of a frame on a wire. -/
abbrev Byte := BitVec 8

/-- A pixel word in the layout of R79: 64 bits. -/
abbrev Word64 := BitVec 64

/-- `width` bits of `w` from bit `lsb` up, as a number. -/
def getBits (w lsb width : Nat) : Nat := w / 2 ^ lsb % 2 ^ width

/-- `w` with the `width` bits from bit `lsb` up replaced by the low bits of `v`. -/
def setBits (w lsb width v : Nat) : Nat :=
  2 ^ lsb * (v % 2 ^ width) + (2 ^ (lsb + width) * (w / 2 ^ (lsb + width)) + w % 2 ^ lsb)

end Sys2Proof
end

