-- ==== Sys2Proof/Syntax.lean ====
section
/-! DEFINITION. The commands of the Ilnar F1024: one constructor for each row of spec/opcode_table.json, in its order.
The first operand `t` of every command is the time of its arrival, in ns since the model's time began (notes/assumptions/2.md).
The other operands are what the row's event brings from outside: a written value, a measured value, received bytes. -/

namespace Sys2Proof

/-- The masters of R358 that write or read MW0. -/
inductive Master where
  | host | hkc0 | hkc1 | hkc2 | hkc3 | guardA | guardB
  deriving DecidableEq, Repr

/-- A read of a register (R17): the master that reads, and the `bytes` bytes from byte `sub` of the register that it asks
for. -/
structure Reader where
  master : Master
  sub    : Nat
  bytes  : Nat
  deriving DecidableEq, Repr

/-- A guard: GUARD_A on the logic die, or GUARD_B, the guard die's island. -/
inductive Guard where
  | a | b
  deriving DecidableEq, Repr

/-- A fault as its source reports it to KEEPER (R467, R474, R475). `critical` is read only for the faults whose class
follows from conditions (STREAM_DOWN, R294; CVU_SELFTEST, R422): 0 CE, 1 CC, 2 FT. -/
structure Report where
  code    : Nat
  source  : Nat
  subject : Nat
  value   : Nat
  limit   : Nat
  aux     : Nat
  cls     : Nat
  deriving DecidableEq, Repr

/-- How a read of host memory ends (R314, HOST_DMA_ERR_INFO.KIND). -/
inductive HostRead (α : Type) where
  | data (a : α)
  | unsupported
  | completerAbort
  | timeout
  | poisoned
  deriving DecidableEq, Repr

/-- What error correction finds in the module region (R51): a single-bit error, which it corrects, or a double-bit error, which
it detects; that one with the ring and index of the descriptor whose access met it, none where another access did. -/
inductive EccError where
  | single
  | double (by_ : Option (Nat × Nat))
  deriving DecidableEq, Repr

/-- What the host sets in the configuration space of the endpoint beside Bus Master Enable (R295): device state D3hot, the
maximum payload and read request in bytes, entry into L1, and Relaxed Ordering. -/
structure PcieConf where
  d3hot   : Bool
  payload : Nat
  request : Nat
  aspmL1  : Bool
  relaxed : Bool
  deriving DecidableEq, Repr

/-- The values that PCI Express gives these settings at a reset (PRESUMED, notes/assumptions/17.md). -/
def PcieConf.cold : PcieConf := ⟨false, 128, 512, false, true⟩

/-- The settings that the endpoint supports (R295). -/
def PcieConf.ok (c : PcieConf) : Bool :=
  [128, 256, 512].contains c.payload && [128, 256, 512, 1024, 2048, 4096].contains c.request

/-- The four power-up stages of R503. -/
inductive Stage where
  | regulator | oscillator | memory | logic
  deriving DecidableEq, Repr

/-- One segment as the survey reads it (R135, R139): pixel, channel, half; forward voltage in mV, leakage code, and
whether the forced voltage reached 4.5 V before the test current reached 9 µA. -/
structure SegRead where
  x     : Nat
  y     : Nat
  ch    : Nat
  half  : Nat
  vf    : Nat
  leak  : Nat
  atCap : Bool
  deriving DecidableEq, Repr

/-- What the survey slot measures (R125, R133, R135): the least headroom of each band and colour (4·band + colour, mV,
none without a sample), rail currents over the window (10 mA), rail voltages (mV), the 256 sector currents (50 µA,
4·sector + colour), the input (10 mV, mA, 100 mW, 100 mW); the segments that do not read normal at their factory voltage;
and the regions whose stored expected value has an uncorrectable error (R228). -/
structure SurveyData where
  head   : List (Option Nat)
  iFrame : List Nat
  vMeas  : List Nat
  secI   : List Nat
  vin    : Nat
  iin    : Nat
  pin    : Nat
  pinAvg : Nat
  segs   : List SegRead
  badSig : List Nat
  deriving DecidableEq, Repr

/-- One slot of the boot flash as the boot ROM finds it (R506 to R510): the result code of HOUSE_BOOT that its checks give
before the configuration's own (1 where all pass, otherwise 2 to 7), GENERATION and FW_VERSION of its manifest, COUNT of a
valid activation record, how its calibration image fails (0 it verifies, 1 by its CRC-32, 2 by its UID, hash or signature),
the 32-bit words of its configuration section, and the emitters whose code in its wear store reads back otherwise than it was
written, each with the bits that differ (R169). -/
structure SlotImage where
  result     : Nat
  generation : Nat
  fwVersion  : Nat
  activation : Option Nat
  calFail    : Nat
  config     : List Nat
  wearFlips  : List (Nat × Nat)
  deriving DecidableEq, Repr

/-- What the calibration image holds: the words of STRIKE_RSTEP, TONE_GOV_GNOM and TONE_LIME_SUB; preset matrices (R158,
12·SPACE + 3·o + i), sector codes (R165, 4·sector + colour), one-segment factors (R163), the wear model (R169), the
calibration words (R162, 4·pixel + channel), factory forward voltages (R140, 8·pixel + 2·channel + half, mV), GB_c (R384). -/
structure CalImage where
  rstep   : List Nat
  gnom    : List Nat
  limeSub : List Nat
  presets : List (Nat × Int)
  sector  : List (Nat × Nat)
  oneseg  : List (Nat × Nat)
  eta     : List (Nat × Nat)
  kappa   : List (Nat × Int)
  cal     : List (Nat × BitVec 32)
  vf0     : List (Nat × Nat)
  gb      : List Rat
  deriving DecidableEq, Repr

/-- What the boot ROM, the check-value units and the firmware bring at the end of a start (R511): the straps, the two
slots, the check-value units whose self-test failed (R422), the calibration image, and whether the zone table reached
GUARD_A and GUARD_B without error (R378). -/
structure BootData where
  bootSel  : Nat
  addrSel  : Nat
  slot0    : SlotImage
  slot1    : SlotImage
  selfTest : List Nat
  cal      : CalImage
  copyA    : Bool
  copyB    : Bool
  deriving DecidableEq, Repr

/-- The commands: the rows of spec/opcode_table.json. -/
inductive Instr where
  /-- POWER_GOOD -/
  | powerGood (t : Nat) (resetLow : Bool) (fuses : List (Nat × Nat)) (corrected : Nat) (corrupt : Bool)
  /-- LOCK_OUT -/
  | lockOut (t : Nat)
  /-- BROWN_OUT -/
  | brownOut (t : Nat) (resetLow : Bool) (fuses : List (Nat × Nat)) (corrected : Nat) (corrupt : Bool)
  /-- RESET_N_ASSERT -/
  | resetAssert (t : Nat)
  /-- RESET_N_RELEASE -/
  | resetRelease (t : Nat)
  /-- PERST_N_CHANGE -/
  | perstChange (t : Nat) (asserted : Bool)
  /-- I2C_WRITE -/
  | i2cWrite (t : Nat) (reg : Nat) (data : List Nat)
  /-- WAKE -/
  | wake (t : Nat)
  /-- WAKE_STAGE_READY -/
  | stageReady (t : Nat) (stage : Stage)
  /-- WAKE_STAGE_TIMEOUT -/
  | stageTimeout (t : Nat) (stage : Stage)
  /-- WAKE_RETRY_DELAY -/
  | retryDelay (t : Nat)
  /-- BOOT_COMPLETE -/
  | bootComplete (t : Nat) (b : BootData)
  /-- PLL_LOCK_LOSS -/
  | pllLock (t : Nat) (island : Nat) (locked : Bool)
  /-- CLOCK_CHECK_WINDOW -/
  | clockCheck (t : Nat) (g : Guard) (deviation : Nat)
  /-- DRAM_ECC_ERROR -/
  | dramEcc (t : Nat) (addr : Nat) (e : EccError)
  /-- REGISTER_WRITE -/
  | regWrite (t : Nat) (m : Master) (off : Nat) (bytes : Nat) (value : Word)
  /-- PAIR_LOWER_READ -/
  | pairRead (t : Nat) (r : Reader) (off : Nat)
  /-- STRIKE_FRAME_NO_READ -/
  | frameNoRead (t : Nat) (r : Reader)
  /-- BEAT_START -/
  | beatStart (t : Nat) (b : Nat)
  /-- ROW_SLOT -/
  | rowSlot (t : Nat) (k : Nat) (wrong1 wrong2 : List (Nat × BitVec 64))
  /-- SURVEY_SLOT -/
  | surveySlot (t : Nat) (d : SurveyData)
  /-- QUIET_INTERVAL -/
  | quietInterval (t : Nat)
  /-- CAPTURE_POINT -/
  | capturePoint (t : Nat)
  /-- STRIKE -/
  | strike (t : Nat)
  /-- TIMING_COMMIT -/
  | timingCommit (t : Nat) (m : Master)
  /-- STRIKE_FRAME_LOAD -/
  | frameLoad (t : Nat) (m : Master) (value : Word)
  /-- STRIKE_LATE_CLEAR -/
  | lateClear (t : Nat) (m : Master) (value : Word)
  /-- STRIKE_ROW_ERR_CLEAR -/
  | rowErrClear (t : Nat) (m : Master) (value : Word)
  /-- STRIKE_TIME_OFFSET -/
  | timeOffset (t : Nat) (m : Master) (value : Word)
  /-- STRIKE_TIME_TRIM -/
  | timeTrim (t : Nat) (m : Master) (value : Word)
  /-- PTP_REFERENCE_TIMEOUT -/
  | ptpTimeout (t : Nat)
  /-- SYNC_IN_EDGE -/
  | syncEdge (t : Nat)
  /-- SYNC_EDGE_MISSING -/
  | syncMissing (t : Nat)
  /-- HOLD_LIMIT_EXPIRY -/
  | holdLimit (t : Nat)
  /-- PEEK_GO -/
  | peekGo (t : Nat) (m : Master) (value : Word)
  /-- QLINK_TRAINING_LOSS -/
  | qlinkLoss (t : Nat) (q : Nat)
  /-- QLINK_TRAINED -/
  | qlinkTrained (t : Nat) (q : Nat)
  /-- DEFECT_JOURNAL_WRITE -/
  | defectJournal (t : Nat)
  /-- DEFECT_INDEX_WRITE -/
  | defectIndex (t : Nat) (m : Master) (value : Word)
  /-- TEMP_SAMPLE -/
  | tempSample (t : Nat) (raw : List (Option Int))
  /-- RAIL_CURRENT_LIMIT -/
  | railLimit (t : Nat) (c : Nat)
  /-- RAIL_OC_PERSIST -/
  | railOc (t : Nat) (c : Nat) (milliamps : Nat)
  /-- RAIL_VOLTAGE_FAULT -/
  | railVolt (t : Nat) (c : Nat) (high : Bool) (millivolts : Nat)
  /-- RAIL_AVERAGE_CHECK -/
  | railAverage (t : Nat) (c i1s i100ms i10ms : Nat)
  /-- RAIL_WAKE_REACHED -/
  | railWake (t : Nat)
  /-- CHARGE_UPDATE -/
  | chargeUpdate (t : Nat)
  /-- WEAR_CHECKPOINT -/
  | wearCheckpoint (t : Nat)
  /-- WEAR_RECOMPUTE -/
  | wearRecompute (t : Nat)
  /-- TONE_COMMIT -/
  | toneCommit (t : Nat) (m : Master)
  /-- BRAID_LAYER_COMMIT -/
  | layerCommitReg (t : Nat) (m : Master) (value : Word)
  /-- BRAID_PROT_INDEX -/
  | protIndex (t : Nat) (m : Master) (value : Word)
  /-- MASK_SAMPLE -/
  | maskSample (t : Nat)
  /-- MASK_PUBLISH -/
  | maskPublish (t : Nat)
  /-- MASK_VERIFY -/
  | maskVerify (t : Nat) (readSum : Nat) (uncorrectable : Bool)
  /-- ZONE_EVAL_CYCLE -/
  | zoneEval (t : Nat)
  /-- MESH_LOAD -/
  | meshLoad (t : Nat) (ring : Nat) (image : HostRead (List Nat))
  /-- MESH_CHECK_DONE -/
  | meshCheck (t : Nat)
  /-- WARP_MESH_SELECT -/
  | meshSelectReg (t : Nat) (m : Master) (value : Word)
  /-- MESH_SELECT -/
  | meshSelect (t : Nat) (ring : Nat)
  /-- WARP_SC_COEF_WRITE -/
  | scCoef (t : Nat) (m : Master) (off : Nat) (value : Word)
  /-- LANE_BLOCK -/
  | laneBlock (t : Nat) (lane : Nat) (sync : Nat) (bytes : List Nat)
  /-- ALIGN -/
  | align (t : Nat) (lane : Nat) (bytes : List Nat) (arrival : Nat)
  /-- MARKER_MISSING -/
  | markerMissing (t : Nat) (lane : Nat)
  /-- LANE_TRAINED -/
  | laneTrained (t : Nat) (lane : Nat) (loss : Nat)
  /-- SOF -/
  | sof (t : Nat) (lane : Nat) (bytes : List Nat)
  /-- STREAM_FRAME_BLOCK -/
  | streamBlock (t : Nat) (lane : Nat) (bytes : List Nat)
  /-- EOF -/
  | eof (t : Nat) (lane : Nat) (bytes : List Nat)
  /-- LANE_POWER_REQUEST -/
  | lanePower (t : Nat) (m : Master) (lane : Nat) (value : Word)
  /-- EYE_SCAN -/
  | eyeScan (t : Nat) (lane width height : Nat)
  /-- EYE_MEASURE_GO -/
  | eyeGo (t : Nat) (m : Master) (value : Word)
  /-- EYE_MEASURE_DONE -/
  | eyeDone (t : Nat) (errors : Nat)
  /-- STREAM_CONFIG -/
  | streamConfig (t : Nat) (m : Master) (stream : Nat) (value : Word)
  /-- STREAM_TIMEOUT -/
  | streamTimeout (t : Nat) (stream : Nat)
  /-- INTAKE_LANE_ERR_CLEAR -/
  | laneErrClear (t : Nat) (m : Master) (lane : Nat) (value : Word)
  /-- INTAKE_STR_CLEAR -/
  | strClear (t : Nat) (m : Master) (stream : Nat) (value : Word)
  /-- HOST_RESET -/
  | hostReset (t : Nat) (linkUp : Bool)
  /-- BUS_MASTER_ENABLE -/
  | busMaster (t : Nat) (bme : Bool) (conf : PcieConf)
  /-- WATCH_POLL -/
  | watchPoll (t : Nat)
  /-- HOST_NUDGE -/
  | hostNudge (t : Nat) (m : Master) (value : Word)
  /-- DOORBELL_LINE_READ -/
  | lineRead (t : Nat) (line : Nat) (r : HostRead (List Nat))
  /-- DESCRIPTOR_FETCH -/
  | descFetch (t : Nat) (ring index : Nat) (r : HostRead (List Nat))
  /-- DESCRIPTOR_ADMIT -/
  | descAdmit (t : Nat) (ring : Nat)
  /-- DESCRIPTOR_COMPLETION -/
  | descCompletion (t : Nat) (ring : Nat)
  /-- RING_ENABLE -/
  | ringEnable (t : Nat) (m : Master) (ring : Nat)
  /-- RING_DISABLE -/
  | ringDisable (t : Nat) (m : Master) (ring : Nat)
  /-- RING_RESET -/
  | ringReset (t : Nat) (m : Master) (ring : Nat)
  /-- RING_RESET_DONE -/
  | ringResetDone (t : Nat) (ring : Nat)
  /-- NOP -/
  | nop (t : Nat) (ring : Nat)
  /-- LAYER_SET -/
  | layerSet (t : Nat) (ring : Nat)
  /-- LAYER_MOVE -/
  | layerMove (t : Nat) (ring : Nat)
  /-- LAYER_COMMIT -/
  | layerCommit (t : Nat) (ring : Nat)
  /-- REG_WRITE -/
  | regWriteDesc (t : Nat) (ring : Nat)
  /-- MODE_REQUEST -/
  | modeRequest (t : Nat) (ring : Nat) (passTestOk : Bool)
  /-- SET_MODE_REQUEST -/
  | setModeRequest (t : Nat) (ring : Nat) (passTestOk : Bool)
  /-- FRAME_WAIT -/
  | frameWait (t : Nat) (ring : Nat)
  /-- SURF_WRITE -/
  | surfWrite (t : Nat) (ring index : Nat) (data : List Nat) (failed : Option (Nat × Nat))
  /-- SURF_READ -/
  | surfRead (t : Nat) (ring index : Nat)
  /-- SURF_FILL -/
  | surfFill (t : Nat) (ring index : Nat)
  /-- SURF_COPY -/
  | surfCopy (t : Nat) (ring index : Nat)
  /-- CAL_BLOCK -/
  | calBlock (t : Nat) (ring : Nat) (block : HostRead (List Nat))
  /-- TEL_CHARGE -/
  | telCharge (t : Nat) (ring index : Nat)
  /-- TEL_DRIFT -/
  | telDrift (t : Nat) (ring index : Nat)
  /-- TEL_CALWORD -/
  | telCalword (t : Nat) (ring index : Nat)
  /-- TEL_DEFECT -/
  | telDefect (t : Nat) (ring index : Nat)
  /-- TEL_SENSORS -/
  | telSensors (t : Nat) (ring index : Nat)
  /-- TEL_HISTORY -/
  | telHistory (t : Nat) (ring index : Nat)
  /-- IRQ_HOLDOFF_EXPIRY -/
  | irqHoldoff (t : Nat) (ring : Nat)
  /-- IRQ_ENABLE_WRITE -/
  | irqEnable (t : Nat) (m : Master) (value : Word)
  /-- MW2_ACCESS -/
  | mw2Access (t : Nat) (write : Bool) (addr : Nat) (data : List Nat) (len : Nat)
  /-- MBOX_TX_PUSH -/
  | mboxTx (t : Nat) (m : Master) (ch : Nat) (value : Word)
  /-- MBOX_RX_READ -/
  | mboxRx (t : Nat) (r : Reader) (ch : Nat)
  /-- MBOX_TORN_TIMEOUT -/
  | mboxTorn (t : Nat) (ch : Nat)
  /-- MBOX_REPLY_TIMEOUT -/
  | mboxReplyTimeout (t : Nat) (ch : Nat)
  /-- PING -/
  | ping (t : Nat) (ch : Nat)
  /-- VERSION -/
  | version (t : Nat) (ch : Nat)
  /-- BAD_MESSAGE -/
  | badMessage (t : Nat) (ch : Nat)
  /-- MBOX_DBELL_SET -/
  | dbellSet (t : Nat) (m : Master) (value : Word)
  /-- MBOX_CHANNEL_RESET -/
  | mboxReset (t : Nat) (m : Master) (ch : Nat) (value : Word)
  /-- LOCK_READ -/
  | lockRead (t : Nat) (lock : Nat) (r : Reader)
  /-- LOCK_RELEASE -/
  | lockRelease (t : Nat) (m : Master) (lock : Nat) (value : Word)
  /-- FW_WATCHDOG_EXPIRY -/
  | fwWatchdog (t : Nat)
  /-- FW_READY -/
  | fwReady (t : Nat)
  /-- XCMP_CYCLE -/
  | xcmpCycle (t : Nat) (g : Guard)
  /-- XCMP_LOST -/
  | xcmpLost (t : Nat) (g : Guard)
  /-- GUARD_DECISION_MESSAGE -/
  | guardDecision (t : Nat) (g : Guard)
  /-- TERMINAL_FILTER -/
  | terminal (t : Nat) (g : Guard) (zonePin : Bool) (energised : Bool)
  /-- DISCREPANCY -/
  | discrepancy (t : Nat) (pair : Nat)
  /-- ENCODER_FRAME -/
  | encoder (t : Nat) (g : Guard) (axis : Nat) (bits : List Bool) (lineHigh : Bool)
  /-- SECTOR_CURRENT_SAMPLE -/
  | sectorCurrent (t : Nat) (ma : List (List Nat))
  /-- PHOTO_SAMPLE -/
  | photoSample (t : Nat) (code : Nat)
  /-- PHOTO_FAULT -/
  | photoFault (t : Nat)
  /-- NET_FRAME_ARRIVAL -/
  | netFrame (t : Nat) (g : Guard) (destOk : Bool) (ethertype : Nat) (tags len : Nat) (fcsOk : Bool) (bytes : List Nat)
  /-- TELEGRAM_CHECK -/
  | telegramCheck (t : Nat) (g : Guard)
  /-- TELEGRAM_SINGLE -/
  | telegramSingle (t : Nat) (g : Guard)
  /-- LINK_TIMEOUT -/
  | linkTimeout (t : Nat) (g : Guard)
  /-- PHY_POLL -/
  | phyPoll (t : Nat) (g : Guard) (answer : Option (Bool × Bool × Bool))
  /-- PHY_RESET_RELEASE -/
  | phyRelease (t : Nat) (g : Guard)
  /-- GUARD_TEST -/
  | guardTest (t : Nat) (g : Guard) (kind : Nat) (passed : Bool)
  /-- CVU_COUNTER_COPY -/
  | cvuCopy (t : Nat)
  /-- CVU_CLEAR -/
  | cvuClear (t : Nat) (m : Master) (value : Word)
  /-- ANODE_CURRENT_SAMPLE -/
  | anodeCurrent (t : Nat) (measuredMa : Nat)
  /-- LIGHT_INPUT_QUALIFIED -/
  | lightInput (t : Nat) (receiver : Nat) (p n : Bool)
  /-- STEP_ARM -/
  | stepArm (t : Nat)
  /-- JOIN_FAIL -/
  | joinFail (t : Nat)
  /-- LIGHT_INVALID -/
  | lightInvalid (t : Nat)
  /-- LIGHT_CONFLICT -/
  | lightConflict (t : Nat)
  /-- TICK_SEND -/
  | tickSend (t : Nat)
  /-- TICK_WORD -/
  | tickWord (t : Nat) (word : Nat) (aborted : Bool)
  /-- TICK_LIVENESS_TIMEOUT -/
  | tickLiveness (t : Nat)
  /-- STATUS_SEND -/
  | statusSend (t : Nat)
  /-- ACK -/
  | ack (t : Nat) (bytes : List Nat)
  /-- CAPS -/
  | caps (t : Nat) (bytes : List Nat)
  /-- STATUS -/
  | status (t : Nat) (bytes : List Nat)
  /-- SCAN -/
  | scan (t : Nat) (bytes : List Nat)
  /-- MIRROR -/
  | mirror (t : Nat) (bytes : List Nat)
  /-- COMMIT -/
  | commit (t : Nat) (bytes : List Nat)
  /-- JOIN_ENTER -/
  | joinEnter (t : Nat) (bytes : List Nat) (passTestOk : Bool)
  /-- SWITCH -/
  | switch (t : Nat) (bytes : List Nat)
  /-- HANDOVER -/
  | handover (t : Nat) (bytes : List Nat)
  /-- SET_CHANGE -/
  | setChange (t : Nat) (bytes : List Nat)
  /-- JOIN_ABORT -/
  | joinAbort (t : Nat) (bytes : List Nat)
  /-- SWING_OFFER -/
  | swingOffer (t : Nat) (bytes : List Nat)
  /-- SWING_ACCEPT -/
  | swingAccept (t : Nat) (bytes : List Nat)
  /-- SWING_DECLINE -/
  | swingDecline (t : Nat) (bytes : List Nat)
  /-- EVENT -/
  | event (t : Nat) (bytes : List Nat)
  /-- SPLICE_RESEND -/
  | spliceResend (t : Nat)
  /-- TIMING -/
  | timing (t : Nat) (bytes : List Nat)
  /-- SPLICE_LINK_CHANGE -/
  | spliceLink (t : Nat)
  /-- LEASE_RENEW -/
  | leaseRenew (t : Nat)
  /-- PARTNER_LOST -/
  | partnerLost (t : Nat)
  /-- LEASE_EXPIRY -/
  | leaseExpiry (t : Nat)
  /-- SWING_DUE -/
  | swingDue (t : Nat)
  /-- JOIN_TIMEOUT -/
  | joinTimeout (t : Nat)
  /-- FAULT_REPORT -/
  | faultReport (t : Nat) (rs : List Report)
  /-- FAULT_JOURNAL_WRITE -/
  | faultJournal (t : Nat)
  /-- ERR_HOLD_EXPIRY -/
  | errHold (t : Nat)
  /-- KEEPER_CLEAR -/
  | keeperClear (t : Nat) (m : Master) (value : Word)
  /-- KEEPER_HIST_INDEX -/
  | histIndex (t : Nat) (m : Master) (value : Word)
  /-- INJECT_GO -/
  | injectGo (t : Nat) (m : Master) (value : Word)
  /-- INJECT_STOP -/
  | injectStop (t : Nat) (m : Master) (value : Word)
  /-- INJECT_HOLD_EXPIRY -/
  | injectExpiry (t : Nat)
  /-- STOP_CHECKPOINT_DONE -/
  | stopCheckpoint (t : Nat)
  /-- ISLAND_STOP_ANSWER -/
  | stopAnswer (t : Nat) (accept : Bool)
  /-- ISLAND_STOP_TIMEOUT -/
  | stopTimeout (t : Nat)
  /-- SLOT_INFO -/
  | slotInfo (t : Nat) (ch : Nat)
  /-- SLOT_WRITE -/
  | slotWrite (t : Nat) (ch : Nat)
  /-- SLOT_VERIFY -/
  | slotVerify (t : Nat) (ch : Nat)
  /-- SLOT_ACTIVATE -/
  | slotActivate (t : Nat) (ch : Nat)
  /-- FLASH_DONE -/
  | flashDone (t : Nat) (flashOk : Bool) (result : Nat)
  /-- GUARD_WATCHDOG_EXPIRY -/
  | guardWatchdog (t : Nat) (g : Guard)
  /-- GUARD_MEMORY_ERROR -/
  | guardMemory (t : Nat) (g : Guard)
  /-- TIMING_BLOCK_MISSING -/
  | timingMissing (t : Nat)
  /-- PCIE_LINK_UP -/
  | pcieUp (t : Nat) (width speed : Nat) (ptm : Bool)
  deriving DecidableEq, Repr

end Sys2Proof
end

