-- ==== Sys2Proof/Decode.lean ====
section
/-! DEFINITION. The word decoder. No row of spec/opcode_table.json gives bits: the commands of the Ilnar F1024 are events
with operands, not words. No word spells a command. -/

namespace Sys2Proof

/-- The command that a word spells: none, for every word. -/
def decodeTableWord (_nbits _w : Nat) : Option Instr := none

end Sys2Proof
end

