-- ==== Sys2Proof/Config.lean ====
section
/-! DEFINITION. What an implementation fixes and the spec leaves open. Every constant of this file is a free value:
it has no body, nothing in Lean can evaluate it, and a statement that mentions it holds whatever it is. -/

namespace Sys2Proof.Config

/-- Free values of 32 bits, one for each number of the free-value counter of State (notes/assumptions/20.md). -/
opaque freeWord : Nat → BitVec 32

/-- The built-in table of curve 1, BT.709 (R156): L24 at the start of a segment, 0 to 4,096, before the tolerance that R156
gives the result (notes/assumptions/25.md). -/
opaque curve709 : Nat → Nat

/-- The built-in table of curve 2, SMPTE ST 2084 (R156): L24 for a PEAK at the start of a segment, before the tolerance
(notes/assumptions/25.md). -/
opaque curvePq : Nat → Nat → Nat

/-- The next state of TONE's 16-bit LFSR (R167; notes/assumptions/27.md). -/
opaque lfsrNext : BitVec 16 → BitVec 16

/-- The frame of a second that a state of the LFSR chooses, before it is taken modulo the frames of the second (R167;
notes/assumptions/27.md). -/
opaque sampleFrame : BitVec 16 → Nat

/-- 20·log10 of a positive ratio, as ANODE computes it for R126 (notes/assumptions/28.md). -/
opaque decibels : Rat → Rat

/-- Which of the two neighbouring 10 mV steps ANODE takes for a set point, in mV, that lies between them: true for the
upper one (R122, R126; notes/assumptions/28.md). -/
opaque stepUp : Rat → Bool

/-- The corner angle of R377, atan(724.08 / F), in 2^-24 degree, of a focal length F in pixels
(notes/assumptions/29.md). -/
opaque cornerAngle : Rat → Int

/-- The azimuth α in degrees of the direction of an array pixel, as the chain of R377 gives it: FLIP_X, FLIP_Y, pan and
tilt in 2^-24 degree, the focal length, x and y (notes/assumptions/29.md). -/
opaque azimuth : Bool → Bool → Int → Int → Rat → Nat → Nat → Rat

/-- The elevation β of that direction (R377; notes/assumptions/29.md). -/
opaque elevation : Bool → Bool → Int → Int → Rat → Nat → Nat → Rat

/-- The angular distance in degrees from a direction (α, β) to a straight edge of the (α, β) plane, given by the α and β
of its two ends (R380; notes/assumptions/29.md). -/
opaque edgeDistance : Rat → Rat → Rat → Rat → Rat → Rat → Rat

/-- h of R380 in degrees: half the angular diagonal of one pixel, of a focal length (notes/assumptions/29.md). -/
opaque halfDiagonal : Rat → Rat

/-- The nominal ratio of R83 raised by 0.1 dB, by range code (R387; notes/assumptions/29.md). -/
opaque ratioHigh : Nat → Rat

/-- Which of an emitter's two segments stands in the lower half of its word of TEL_DRIFT (R330): the spec fixes it per
emitter and names no segment (notes/assumptions/36.md). -/
opaque driftSwap : Nat → Bool

end Sys2Proof.Config
end

