-- ==== Sys2Proof/Machine/Registers.lean ====
section
/-! DEFINITION. The registers of the MW0 window, as the register tables of the spec give them (R14 to R19, R25 to
R27, R546, R547): for every register its offset in MW0, and for every field its bits, its access code, its cold
value, and what a warm start does with it. A field constant is named REGISTER_FIELD (R14); a register that comes in
several copies takes the copy's number as an argument. -/

namespace Sys2Proof.Machine

/-- The access codes of R19. No register table of the spec uses RWS; the code is kept because R19 and R21 define it. -/
inductive Access where
  | ro | rw | w1c | wo | rws | grd
  deriving DecidableEq, Repr

/-- What a start other than a cold one does with a field (R26, R27, R500, R513). cold: the cold value returns.
kept: 'warm: unchanged', kept through a warm reset, STOWED and a restart. stow: kept through STOWED only (its warm
value is 0). config: reads 0 until the configuration is loaded. fuse: loaded from the fuses at a cold start. -/
inductive Keep where
  | cold | kept | stow | config | fuse
  deriving DecidableEq, Repr

/-- One field of one register: the MW0 offset of the register, the field's lowest bit and its width. -/
structure Field where
  off   : Nat
  lsb   : Nat
  width : Nat
  deriving DecidableEq, Repr

/-- One field of a register table: its bits, access code, cold value and what starts do with it. -/
structure FieldDef where
  lsb   : Nat
  width : Nat
  acc   : Access
  cold  : Nat
  keep  : Keep
  deriving DecidableEq, Repr

/-- One register table: the MW0 offset of the first copy, the numbers and strides of its copies (two levels), and
its fields. -/
structure RegDef where
  base    : Nat
  count1  : Nat
  stride1 : Nat
  count2  : Nat
  stride2 : Nat
  fields  : List FieldDef
  deriving DecidableEq, Repr

namespace Reg

/-- STRIKE_RATE, 02_frame_timing. -/
def STRIKE_RATE_OFF : Nat := 0x70000
def STRIKE_RATE_PULLDOWN : Field := ⟨STRIKE_RATE_OFF, 4, 1⟩
def STRIKE_RATE_RATE : Field := ⟨STRIKE_RATE_OFF, 0, 2⟩
/-- STRIKE_SYNC_CTRL, 02_frame_timing. -/
def STRIKE_SYNC_CTRL_OFF : Nat := 0x70004
def STRIKE_SYNC_CTRL_HOLD_LIMIT : Field := ⟨STRIKE_SYNC_CTRL_OFF, 20, 12⟩
def STRIKE_SYNC_CTRL_MULT : Field := ⟨STRIKE_SYNC_CTRL_OFF, 8, 5⟩
def STRIKE_SYNC_CTRL_ACQUIRE : Field := ⟨STRIKE_SYNC_CTRL_OFF, 3, 1⟩
def STRIKE_SYNC_CTRL_EDGE : Field := ⟨STRIKE_SYNC_CTRL_OFF, 2, 1⟩
def STRIKE_SYNC_CTRL_SOURCE : Field := ⟨STRIKE_SYNC_CTRL_OFF, 0, 2⟩
/-- STRIKE_SYNC_PHASE, 02_frame_timing. -/
def STRIKE_SYNC_PHASE_OFF : Nat := 0x70008
def STRIKE_SYNC_PHASE_PHASE_NS : Field := ⟨STRIKE_SYNC_PHASE_OFF, 0, 32⟩
/-- STRIKE_COMMIT, 02_frame_timing. -/
def STRIKE_COMMIT_OFF : Nat := 0x7000C
def STRIKE_COMMIT_GO : Field := ⟨STRIKE_COMMIT_OFF, 0, 1⟩
/-- STRIKE_SYNC_STATUS, 02_frame_timing. -/
def STRIKE_SYNC_STATUS_OFF : Nat := 0x70010
def STRIKE_SYNC_STATUS_LOAD_REJ : Field := ⟨STRIKE_SYNC_STATUS_OFF, 14, 1⟩
def STRIKE_SYNC_STATUS_COMMIT_REJ : Field := ⟨STRIKE_SYNC_STATUS_OFF, 13, 1⟩
def STRIKE_SYNC_STATUS_COMMIT_PENDING : Field := ⟨STRIKE_SYNC_STATUS_OFF, 12, 1⟩
def STRIKE_SYNC_STATUS_REF_RANGE : Field := ⟨STRIKE_SYNC_STATUS_OFF, 9, 1⟩
def STRIKE_SYNC_STATUS_REF_VALID : Field := ⟨STRIKE_SYNC_STATUS_OFF, 8, 1⟩
def STRIKE_SYNC_STATUS_ACTIVE_SOURCE : Field := ⟨STRIKE_SYNC_STATUS_OFF, 4, 2⟩
def STRIKE_SYNC_STATUS_STATE : Field := ⟨STRIKE_SYNC_STATUS_OFF, 0, 3⟩
/-- STRIKE_PHASE_ERR, 02_frame_timing. -/
def STRIKE_PHASE_ERR_OFF : Nat := 0x70014
def STRIKE_PHASE_ERR_ERR_NS : Field := ⟨STRIKE_PHASE_ERR_OFF, 0, 32⟩
/-- STRIKE_PERIOD, 02_frame_timing. -/
def STRIKE_PERIOD_OFF : Nat := 0x70018
def STRIKE_PERIOD_PERIOD : Field := ⟨STRIKE_PERIOD_OFF, 0, 32⟩
/-- STRIKE_FRAME_NO, 02_frame_timing. -/
def STRIKE_FRAME_NO_OFF : Nat := 0x7001C
def STRIKE_FRAME_NO_FRAME_NO : Field := ⟨STRIKE_FRAME_NO_OFF, 0, 32⟩
/-- STRIKE_BEAT, 02_frame_timing. -/
def STRIKE_BEAT_OFF : Nat := 0x70020
def STRIKE_BEAT_IN_STRIKE : Field := ⟨STRIKE_BEAT_OFF, 8, 1⟩
def STRIKE_BEAT_BEAT : Field := ⟨STRIKE_BEAT_OFF, 0, 5⟩
/-- STRIKE_FRAME_LOAD, 02_frame_timing. -/
def STRIKE_FRAME_LOAD_OFF : Nat := 0x70024
def STRIKE_FRAME_LOAD_VALUE : Field := ⟨STRIKE_FRAME_LOAD_OFF, 0, 32⟩
/-- STRIKE_STATUS, 02_frame_timing. -/
def STRIKE_STATUS_OFF : Nat := 0x70028
def STRIKE_STATUS_TIMER_RUN : Field := ⟨STRIKE_STATUS_OFF, 24, 1⟩
def STRIKE_STATUS_DARK_CLAMP : Field := ⟨STRIKE_STATUS_OFF, 20, 1⟩
def STRIKE_STATUS_LATE_RUN : Field := ⟨STRIKE_STATUS_OFF, 16, 3⟩
def STRIKE_STATUS_LATE_COUNT : Field := ⟨STRIKE_STATUS_OFF, 0, 16⟩
/-- STRIKE_LATE_CLEAR, 02_frame_timing. -/
def STRIKE_LATE_CLEAR_OFF : Nat := 0x7002C
def STRIKE_LATE_CLEAR_CLEAR : Field := ⟨STRIKE_LATE_CLEAR_OFF, 0, 1⟩
/-- STRIKE_TIME_LO, 02_frame_timing. -/
def STRIKE_TIME_LO_OFF : Nat := 0x70030
def STRIKE_TIME_LO_TIME : Field := ⟨STRIKE_TIME_LO_OFF, 0, 32⟩
/-- STRIKE_TIME_HI, 02_frame_timing. -/
def STRIKE_TIME_HI_OFF : Nat := 0x70034
def STRIKE_TIME_HI_TIME : Field := ⟨STRIKE_TIME_HI_OFF, 0, 32⟩
/-- STRIKE_TIME_OFFSET, 02_frame_timing. -/
def STRIKE_TIME_OFFSET_OFF : Nat := 0x70038
def STRIKE_TIME_OFFSET_OFFSET_NS : Field := ⟨STRIKE_TIME_OFFSET_OFF, 0, 32⟩
/-- STRIKE_TIME_TRIM, 02_frame_timing. -/
def STRIKE_TIME_TRIM_OFF : Nat := 0x7003C
def STRIKE_TIME_TRIM_TRIM_PPB : Field := ⟨STRIKE_TIME_TRIM_OFF, 0, 32⟩
/-- STRIKE_BEAT_CTRL, 03_emission_array. -/
def STRIKE_BEAT_CTRL_OFF : Nat := 0x70040
def STRIKE_BEAT_CTRL_STAGGER : Field := ⟨STRIKE_BEAT_CTRL_OFF, 0, 1⟩
/-- STRIKE_ROW_ERR, 03_emission_array. -/
def STRIKE_ROW_ERR_OFF : Nat := 0x70044
def STRIKE_ROW_ERR_FAIL_COUNT : Field := ⟨STRIKE_ROW_ERR_OFF, 16, 16⟩
def STRIKE_ROW_ERR_REWRITE_COUNT : Field := ⟨STRIKE_ROW_ERR_OFF, 0, 16⟩
/-- STRIKE_ROW_ERR_CLEAR, 03_emission_array. -/
def STRIKE_ROW_ERR_CLEAR_OFF : Nat := 0x70048
def STRIKE_ROW_ERR_CLEAR_CLEAR : Field := ⟨STRIKE_ROW_ERR_CLEAR_OFF, 0, 1⟩
/-- STRIKE_QLINK_STATUS, 03_emission_array. -/
def STRIKE_QLINK_STATUS_OFF : Nat := 0x7004C
def STRIKE_QLINK_STATUS_LINK_ERR : Field := ⟨STRIKE_QLINK_STATUS_OFF, 16, 4⟩
def STRIKE_QLINK_STATUS_LINK_UP : Field := ⟨STRIKE_QLINK_STATUS_OFF, 0, 4⟩
/-- STRIKE_FUSE_STATUS, 03_emission_array. -/
def STRIKE_FUSE_STATUS_OFF : Nat := 0x70050
def STRIKE_FUSE_STATUS_FUSE_FAIL : Field := ⟨STRIKE_FUSE_STATUS_OFF, 16, 16⟩
def STRIKE_FUSE_STATUS_FUSE_DONE : Field := ⟨STRIKE_FUSE_STATUS_OFF, 0, 16⟩
/-- STRIKE_FUSE_QUEUE, 03_emission_array. -/
def STRIKE_FUSE_QUEUE_OFF : Nat := 0x70054
def STRIKE_FUSE_QUEUE_QUAD_3 : Field := ⟨STRIKE_FUSE_QUEUE_OFF, 24, 8⟩
def STRIKE_FUSE_QUEUE_QUAD_2 : Field := ⟨STRIKE_FUSE_QUEUE_OFF, 16, 8⟩
def STRIKE_FUSE_QUEUE_QUAD_1 : Field := ⟨STRIKE_FUSE_QUEUE_OFF, 8, 8⟩
def STRIKE_FUSE_QUEUE_QUAD_0 : Field := ⟨STRIKE_FUSE_QUEUE_OFF, 0, 8⟩
/-- STRIKE_PEEK_CTRL, 03_emission_array. -/
def STRIKE_PEEK_CTRL_OFF : Nat := 0x70058
def STRIKE_PEEK_CTRL_GO : Field := ⟨STRIKE_PEEK_CTRL_OFF, 31, 1⟩
def STRIKE_PEEK_CTRL_BACK : Field := ⟨STRIKE_PEEK_CTRL_OFF, 30, 1⟩
def STRIKE_PEEK_CTRL_Y : Field := ⟨STRIKE_PEEK_CTRL_OFF, 16, 10⟩
def STRIKE_PEEK_CTRL_X : Field := ⟨STRIKE_PEEK_CTRL_OFF, 0, 10⟩
/-- STRIKE_PEEK_STATUS, 03_emission_array. -/
def STRIKE_PEEK_STATUS_OFF : Nat := 0x7005C
def STRIKE_PEEK_STATUS_DONE : Field := ⟨STRIKE_PEEK_STATUS_OFF, 31, 1⟩
def STRIKE_PEEK_STATUS_BUSY : Field := ⟨STRIKE_PEEK_STATUS_OFF, 30, 1⟩
def STRIKE_PEEK_STATUS_KILL : Field := ⟨STRIKE_PEEK_STATUS_OFF, 16, 4⟩
/-- STRIKE_PEEK_LO, 03_emission_array. -/
def STRIKE_PEEK_LO_OFF : Nat := 0x70060
def STRIKE_PEEK_LO_WORD : Field := ⟨STRIKE_PEEK_LO_OFF, 0, 32⟩
/-- STRIKE_PEEK_HI, 03_emission_array. -/
def STRIKE_PEEK_HI_OFF : Nat := 0x70064
def STRIKE_PEEK_HI_WORD : Field := ⟨STRIKE_PEEK_HI_OFF, 0, 32⟩
/-- STRIKE_PEEK_FRAME, 03_emission_array. -/
def STRIKE_PEEK_FRAME_OFF : Nat := 0x70068
def STRIKE_PEEK_FRAME_FRAME : Field := ⟨STRIKE_PEEK_FRAME_OFF, 0, 32⟩
/-- STRIKE_PATTERN_CTRL, 03_emission_array. -/
def STRIKE_PATTERN_CTRL_OFF : Nat := 0x7006C
def STRIKE_PATTERN_CTRL_ENABLE : Field := ⟨STRIKE_PATTERN_CTRL_OFF, 0, 1⟩
/-- STRIKE_PATTERN_ORIGIN, 03_emission_array. -/
def STRIKE_PATTERN_ORIGIN_OFF : Nat := 0x70070
def STRIKE_PATTERN_ORIGIN_Y0 : Field := ⟨STRIKE_PATTERN_ORIGIN_OFF, 16, 10⟩
def STRIKE_PATTERN_ORIGIN_X0 : Field := ⟨STRIKE_PATTERN_ORIGIN_OFF, 0, 10⟩
/-- STRIKE_PATTERN_END, 03_emission_array. -/
def STRIKE_PATTERN_END_OFF : Nat := 0x70074
def STRIKE_PATTERN_END_Y1 : Field := ⟨STRIKE_PATTERN_END_OFF, 16, 10⟩
def STRIKE_PATTERN_END_X1 : Field := ⟨STRIKE_PATTERN_END_OFF, 0, 10⟩
/-- STRIKE_PATTERN_LO, 03_emission_array. -/
def STRIKE_PATTERN_LO_OFF : Nat := 0x70078
def STRIKE_PATTERN_LO_WORD : Field := ⟨STRIKE_PATTERN_LO_OFF, 0, 32⟩
/-- STRIKE_PATTERN_HI, 03_emission_array. -/
def STRIKE_PATTERN_HI_OFF : Nat := 0x7007C
def STRIKE_PATTERN_HI_WORD : Field := ⟨STRIKE_PATTERN_HI_OFF, 0, 32⟩
/-- STRIKE_RSTEP, 03_emission_array. -/
def STRIKE_RSTEP_OFF (n : Nat) : Nat := 0x70400 + 0x4 * n
def STRIKE_RSTEP_RATIO (n : Nat) : Field := ⟨STRIKE_RSTEP_OFF n, 0, 24⟩
/-- TONE_GREF, 04_drive_anode_survey. -/
def TONE_GREF_OFF (n : Nat) : Nat := 0x60800 + 0x4 * n
def TONE_GREF_SEL (n : Nat) : Field := ⟨TONE_GREF_OFF n, 31, 1⟩
def TONE_GREF_HALF_CODE (n : Nat) : Field := ⟨TONE_GREF_OFF n, 16, 12⟩
def TONE_GREF_FULL_CODE (n : Nat) : Field := ⟨TONE_GREF_OFF n, 0, 12⟩
/-- TONE_SREF, 04_drive_anode_survey. -/
def TONE_SREF_OFF (n : Nat) : Nat := 0x60C00 + 0x4 * n
def TONE_SREF_STRIKE_DARK (n : Nat) : Field := ⟨TONE_SREF_OFF n, 29, 1⟩
def TONE_SREF_DARK (n : Nat) : Field := ⟨TONE_SREF_OFF n, 28, 1⟩
def TONE_SREF_CLAMP (n : Nat) : Field := ⟨TONE_SREF_OFF n, 16, 10⟩
def TONE_SREF_CODE (n : Nat) : Field := ⟨TONE_SREF_OFF n, 0, 10⟩
/-- ANODE_RESERVE, 04_drive_anode_survey. -/
def ANODE_RESERVE_OFF : Nat := 0x80000
def ANODE_RESERVE_LIM : Field := ⟨ANODE_RESERVE_OFF, 24, 8⟩
def ANODE_RESERVE_BLU : Field := ⟨ANODE_RESERVE_OFF, 16, 8⟩
def ANODE_RESERVE_GRN : Field := ⟨ANODE_RESERVE_OFF, 8, 8⟩
def ANODE_RESERVE_RED : Field := ⟨ANODE_RESERVE_OFF, 0, 8⟩
/-- ANODE_VF_SLOPE, 04_drive_anode_survey. -/
def ANODE_VF_SLOPE_OFF : Nat := 0x80004
def ANODE_VF_SLOPE_LIM : Field := ⟨ANODE_VF_SLOPE_OFF, 24, 8⟩
def ANODE_VF_SLOPE_BLU : Field := ⟨ANODE_VF_SLOPE_OFF, 16, 8⟩
def ANODE_VF_SLOPE_GRN : Field := ⟨ANODE_VF_SLOPE_OFF, 8, 8⟩
def ANODE_VF_SLOPE_RED : Field := ⟨ANODE_VF_SLOPE_OFF, 0, 8⟩
/-- ANODE_VWAKE, 04_drive_anode_survey. -/
def ANODE_VWAKE_OFF : Nat := 0x80008
def ANODE_VWAKE_LIM : Field := ⟨ANODE_VWAKE_OFF, 24, 8⟩
def ANODE_VWAKE_BLU : Field := ⟨ANODE_VWAKE_OFF, 16, 8⟩
def ANODE_VWAKE_GRN : Field := ⟨ANODE_VWAKE_OFF, 8, 8⟩
def ANODE_VWAKE_RED : Field := ⟨ANODE_VWAKE_OFF, 0, 8⟩
/-- ANODE_RAIL_V, 04_drive_anode_survey. -/
def ANODE_RAIL_V_OFF (n : Nat) : Nat := 0x80010 + 0x4 * n
def ANODE_RAIL_V_VSET (n : Nat) : Field := ⟨ANODE_RAIL_V_OFF n, 16, 16⟩
def ANODE_RAIL_V_VMEAS (n : Nat) : Field := ⟨ANODE_RAIL_V_OFF n, 0, 16⟩
/-- ANODE_RAIL_I, 04_drive_anode_survey. -/
def ANODE_RAIL_I_OFF (n : Nat) : Nat := 0x80020 + 0x4 * n
def ANODE_RAIL_I_I_100MS (n : Nat) : Field := ⟨ANODE_RAIL_I_OFF n, 16, 16⟩
def ANODE_RAIL_I_I_FRAME (n : Nat) : Field := ⟨ANODE_RAIL_I_OFF n, 0, 16⟩
/-- ANODE_RAIL_STATUS, 04_drive_anode_survey. -/
def ANODE_RAIL_STATUS_OFF : Nat := 0x80030
def ANODE_RAIL_STATUS_HEAD_LOW : Field := ⟨ANODE_RAIL_STATUS_OFF, 12, 4⟩
def ANODE_RAIL_STATUS_HIGH : Field := ⟨ANODE_RAIL_STATUS_OFF, 8, 4⟩
def ANODE_RAIL_STATUS_AT_MAX : Field := ⟨ANODE_RAIL_STATUS_OFF, 4, 4⟩
def ANODE_RAIL_STATUS_RUN : Field := ⟨ANODE_RAIL_STATUS_OFF, 0, 4⟩
/-- ANODE_MEAS_CTRL, 04_drive_anode_survey. -/
def ANODE_MEAS_CTRL_OFF : Nat := 0x80034
def ANODE_MEAS_CTRL_FREEZE : Field := ⟨ANODE_MEAS_CTRL_OFF, 0, 1⟩
/-- ANODE_MEAS_FRAME, 04_drive_anode_survey. -/
def ANODE_MEAS_FRAME_OFF : Nat := 0x80038
def ANODE_MEAS_FRAME_FRAME : Field := ⟨ANODE_MEAS_FRAME_OFF, 0, 32⟩
/-- ANODE_IN_VI, 04_drive_anode_survey. -/
def ANODE_IN_VI_OFF : Nat := 0x80040
def ANODE_IN_VI_IIN : Field := ⟨ANODE_IN_VI_OFF, 16, 16⟩
def ANODE_IN_VI_VIN : Field := ⟨ANODE_IN_VI_OFF, 0, 16⟩
/-- ANODE_IN_P, 04_drive_anode_survey. -/
def ANODE_IN_P_OFF : Nat := 0x80044
def ANODE_IN_P_PIN_AVG : Field := ⟨ANODE_IN_P_OFF, 16, 16⟩
def ANODE_IN_P_PIN : Field := ⟨ANODE_IN_P_OFF, 0, 16⟩
/-- ANODE_HEAD, 04_drive_anode_survey. -/
def ANODE_HEAD_OFF (n : Nat) : Nat := 0x80080 + 0x4 * n
def ANODE_HEAD_LIM (n : Nat) : Field := ⟨ANODE_HEAD_OFF n, 24, 8⟩
def ANODE_HEAD_BLU (n : Nat) : Field := ⟨ANODE_HEAD_OFF n, 16, 8⟩
def ANODE_HEAD_GRN (n : Nat) : Field := ⟨ANODE_HEAD_OFF n, 8, 8⟩
def ANODE_HEAD_RED (n : Nat) : Field := ⟨ANODE_HEAD_OFF n, 0, 8⟩
/-- ANODE_TEMP, 04_drive_anode_survey. -/
def ANODE_TEMP_OFF (n : Nat) : Nat := 0x80100 + 0x4 * n
def ANODE_TEMP_TEMP (n : Nat) : Field := ⟨ANODE_TEMP_OFF n, 0, 16⟩
/-- ANODE_TLIM, 04_drive_anode_survey. -/
def ANODE_TLIM_OFF (n : Nat) : Nat := 0x80200 + 0x4 * n
def ANODE_TLIM_TRIP (n : Nat) : Field := ⟨ANODE_TLIM_OFF n, 16, 8⟩
def ANODE_TLIM_LIMIT (n : Nat) : Field := ⟨ANODE_TLIM_OFF n, 8, 8⟩
def ANODE_TLIM_WARN (n : Nat) : Field := ⟨ANODE_TLIM_OFF n, 0, 8⟩
/-- ANODE_SECI, 04_drive_anode_survey. -/
def ANODE_SECI_OFF (n : Nat) : Nat := 0x81000 + 0x4 * n
def ANODE_SECI_HIGH (n : Nat) : Field := ⟨ANODE_SECI_OFF n, 16, 16⟩
def ANODE_SECI_LOW (n : Nat) : Field := ⟨ANODE_SECI_OFF n, 0, 16⟩
/-- STRIKE_SURVEY_CTRL, 04_drive_anode_survey. -/
def STRIKE_SURVEY_CTRL_OFF : Nat := 0x70080
def STRIKE_SURVEY_CTRL_DIV : Field := ⟨STRIKE_SURVEY_CTRL_OFF, 0, 2⟩
/-- STRIKE_SURVEY_STATUS, 04_drive_anode_survey. -/
def STRIKE_SURVEY_STATUS_OFF : Nat := 0x70084
def STRIKE_SURVEY_STATUS_OVERFLOW : Field := ⟨STRIKE_SURVEY_STATUS_OFF, 16, 1⟩
def STRIKE_SURVEY_STATUS_RUN : Field := ⟨STRIKE_SURVEY_STATUS_OFF, 15, 1⟩
def STRIKE_SURVEY_STATUS_ROW : Field := ⟨STRIKE_SURVEY_STATUS_OFF, 0, 7⟩
/-- STRIKE_SURVEY_COUNTS, 04_drive_anode_survey. -/
def STRIKE_SURVEY_COUNTS_OFF : Nat := 0x70088
def STRIKE_SURVEY_COUNTS_DISCARD : Field := ⟨STRIKE_SURVEY_COUNTS_OFF, 16, 16⟩
def STRIKE_SURVEY_COUNTS_CONFIRM : Field := ⟨STRIKE_SURVEY_COUNTS_OFF, 0, 16⟩
/-- STRIKE_SURVEY_SWEEPS, 04_drive_anode_survey. -/
def STRIKE_SURVEY_SWEEPS_OFF : Nat := 0x7008C
def STRIKE_SURVEY_SWEEPS_SWEEPS : Field := ⟨STRIKE_SURVEY_SWEEPS_OFF, 0, 32⟩
/-- STRIKE_DEFECT_COUNT, 04_drive_anode_survey. -/
def STRIKE_DEFECT_COUNT_OFF : Nat := 0x70090
def STRIKE_DEFECT_COUNT_GEN : Field := ⟨STRIKE_DEFECT_COUNT_OFF, 16, 16⟩
def STRIKE_DEFECT_COUNT_FULL : Field := ⟨STRIKE_DEFECT_COUNT_OFF, 15, 1⟩
def STRIKE_DEFECT_COUNT_ENTRIES : Field := ⟨STRIKE_DEFECT_COUNT_OFF, 0, 15⟩
/-- STRIKE_DEFECT_INDEX, 04_drive_anode_survey. -/
def STRIKE_DEFECT_INDEX_OFF : Nat := 0x70094
def STRIKE_DEFECT_INDEX_READY : Field := ⟨STRIKE_DEFECT_INDEX_OFF, 31, 1⟩
def STRIKE_DEFECT_INDEX_INDEX : Field := ⟨STRIKE_DEFECT_INDEX_OFF, 0, 14⟩
/-- STRIKE_DEFECT_DATA, 04_drive_anode_survey. -/
def STRIKE_DEFECT_DATA_OFF (n : Nat) : Nat := 0x70098 + 0x4 * n
def STRIKE_DEFECT_DATA_WORD (n : Nat) : Field := ⟨STRIKE_DEFECT_DATA_OFF n, 0, 32⟩
/-- TONE_CTRL, 05_tone_pipeline. -/
def TONE_CTRL_OFF : Nat := 0x60000
def TONE_CTRL_DITHER : Field := ⟨TONE_CTRL_OFF, 28, 1⟩
def TONE_CTRL_CONCEAL : Field := ⟨TONE_CTRL_OFF, 24, 4⟩
def TONE_CTRL_LIME_SHARE : Field := ⟨TONE_CTRL_OFF, 16, 8⟩
def TONE_CTRL_LIME_RULE : Field := ⟨TONE_CTRL_OFF, 12, 2⟩
def TONE_CTRL_SPACE : Field := ⟨TONE_CTRL_OFF, 8, 2⟩
def TONE_CTRL_NARROW : Field := ⟨TONE_CTRL_OFF, 4, 1⟩
def TONE_CTRL_CURVE : Field := ⟨TONE_CTRL_OFF, 0, 2⟩
/-- TONE_PQ, 05_tone_pipeline. -/
def TONE_PQ_OFF : Nat := 0x60004
def TONE_PQ_PEAK : Field := ⟨TONE_PQ_OFF, 0, 16⟩
/-- TONE_CONCEAL, 05_tone_pipeline. -/
def TONE_CONCEAL_OFF : Nat := 0x60008
def TONE_CONCEAL_STRENGTH : Field := ⟨TONE_CONCEAL_OFF, 0, 9⟩
/-- TONE_COMMIT, 05_tone_pipeline. -/
def TONE_COMMIT_OFF : Nat := 0x6000C
def TONE_COMMIT_GO : Field := ⟨TONE_COMMIT_OFF, 0, 1⟩
/-- TONE_STATUS, 05_tone_pipeline. -/
def TONE_STATUS_OFF : Nat := 0x60010
def TONE_STATUS_SAT_COUNT : Field := ⟨TONE_STATUS_OFF, 16, 16⟩
def TONE_STATUS_CAL_PENDING : Field := ⟨TONE_STATUS_OFF, 3, 1⟩
def TONE_STATUS_COMMIT_REJ : Field := ⟨TONE_STATUS_OFF, 2, 1⟩
def TONE_STATUS_COMMIT_PENDING : Field := ⟨TONE_STATUS_OFF, 0, 1⟩
/-- TONE_MATRIX, 05_tone_pipeline. -/
def TONE_MATRIX_OFF (n : Nat) : Nat := 0x60020 + 0x4 * n
def TONE_MATRIX_COEF (n : Nat) : Field := ⟨TONE_MATRIX_OFF n, 0, 18⟩
/-- TONE_LIME_SUB, 05_tone_pipeline. -/
def TONE_LIME_SUB_OFF (n : Nat) : Nat := 0x60050 + 0x4 * n
def TONE_LIME_SUB_A (n : Nat) : Field := ⟨TONE_LIME_SUB_OFF n, 0, 16⟩
/-- TONE_GOV_BUDGET, 05_tone_pipeline. -/
def TONE_GOV_BUDGET_OFF : Nat := 0x60100
def TONE_GOV_BUDGET_BUDGET : Field := ⟨TONE_GOV_BUDGET_OFF, 0, 13⟩
/-- TONE_GOV_SHAPE, 05_tone_pipeline. -/
def TONE_GOV_SHAPE_OFF : Nat := 0x60104
def TONE_GOV_SHAPE_DERATE_MIN : Field := ⟨TONE_GOV_SHAPE_OFF, 24, 8⟩
def TONE_GOV_SHAPE_RISE : Field := ⟨TONE_GOV_SHAPE_OFF, 16, 8⟩
def TONE_GOV_SHAPE_KNEE : Field := ⟨TONE_GOV_SHAPE_OFF, 0, 9⟩
/-- TONE_GOV_MODEL, 05_tone_pipeline. -/
def TONE_GOV_MODEL_OFF : Nat := 0x60108
def TONE_GOV_MODEL_PFIX : Field := ⟨TONE_GOV_MODEL_OFF, 16, 16⟩
def TONE_GOV_MODEL_EFF : Field := ⟨TONE_GOV_MODEL_OFF, 0, 10⟩
/-- TONE_GOV_IMAX, 05_tone_pipeline. -/
def TONE_GOV_IMAX_OFF : Nat := 0x6010C
def TONE_GOV_IMAX_IMAX : Field := ⟨TONE_GOV_IMAX_OFF, 0, 16⟩
/-- TONE_GOV_GNOM, 05_tone_pipeline. -/
def TONE_GOV_GNOM_OFF (n : Nat) : Nat := 0x60110 + 0x4 * n
def TONE_GOV_GNOM_G_NOM (n : Nat) : Field := ⟨TONE_GOV_GNOM_OFF n, 0, 12⟩
/-- TONE_GOV_STATUS, 05_tone_pipeline. -/
def TONE_GOV_STATUS_OFF : Nat := 0x60120
def TONE_GOV_STATUS_RAIL_LIM : Field := ⟨TONE_GOV_STATUS_OFF, 28, 4⟩
def TONE_GOV_STATUS_THERMAL : Field := ⟨TONE_GOV_STATUS_OFF, 27, 1⟩
def TONE_GOV_STATUS_UNPAIRED : Field := ⟨TONE_GOV_STATUS_OFF, 26, 1⟩
def TONE_GOV_STATUS_LIMIT : Field := ⟨TONE_GOV_STATUS_OFF, 24, 2⟩
def TONE_GOV_STATUS_S : Field := ⟨TONE_GOV_STATUS_OFF, 0, 17⟩
/-- TONE_GOV_POWER, 05_tone_pipeline. -/
def TONE_GOV_POWER_OFF : Nat := 0x60124
def TONE_GOV_POWER_P_APPLIED : Field := ⟨TONE_GOV_POWER_OFF, 16, 16⟩
def TONE_GOV_POWER_P1 : Field := ⟨TONE_GOV_POWER_OFF, 0, 16⟩
/-- TONE_GOV_I, 05_tone_pipeline. -/
def TONE_GOV_I_OFF (n : Nat) : Nat := 0x60128 + 0x4 * n
def TONE_GOV_I_I1 (n : Nat) : Field := ⟨TONE_GOV_I_OFF n, 0, 16⟩
/-- TONE_GOV_DERATE, 05_tone_pipeline. -/
def TONE_GOV_DERATE_OFF : Nat := 0x60138
def TONE_GOV_DERATE_EFF_USED : Field := ⟨TONE_GOV_DERATE_OFF, 16, 10⟩
def TONE_GOV_DERATE_D : Field := ⟨TONE_GOV_DERATE_OFF, 0, 11⟩
/-- TONE_WEAR_CTRL, 05_tone_pipeline. -/
def TONE_WEAR_CTRL_OFF : Nat := 0x60200
def TONE_WEAR_CTRL_WEAR_MAX : Field := ⟨TONE_WEAR_CTRL_OFF, 0, 12⟩
/-- TONE_WEAR_STATUS, 05_tone_pipeline. -/
def TONE_WEAR_STATUS_OFF : Nat := 0x60204
def TONE_WEAR_STATUS_CAPPED : Field := ⟨TONE_WEAR_STATUS_OFF, 16, 16⟩
def TONE_WEAR_STATUS_CKPT_AGE : Field := ⟨TONE_WEAR_STATUS_OFF, 8, 8⟩
def TONE_WEAR_STATUS_LOST : Field := ⟨TONE_WEAR_STATUS_OFF, 1, 1⟩
def TONE_WEAR_STATUS_RUN : Field := ⟨TONE_WEAR_STATUS_OFF, 0, 1⟩
/-- TONE_CAL_STATUS, 05_tone_pipeline. -/
def TONE_CAL_STATUS_OFF : Nat := 0x60300
def TONE_CAL_STATUS_GEN : Field := ⟨TONE_CAL_STATUS_OFF, 16, 16⟩
def TONE_CAL_STATUS_LAST_TABLE : Field := ⟨TONE_CAL_STATUS_OFF, 8, 4⟩
def TONE_CAL_STATUS_LAST_ERR : Field := ⟨TONE_CAL_STATUS_OFF, 4, 4⟩
def TONE_CAL_STATUS_STAGED : Field := ⟨TONE_CAL_STATUS_OFF, 0, 1⟩
/-- BRAID_LAYER_COMMIT, 06_braid_compositor. -/
def BRAID_LAYER_COMMIT_OFF : Nat := 0x40000
def BRAID_LAYER_COMMIT_LAYERS : Field := ⟨BRAID_LAYER_COMMIT_OFF, 0, 15⟩
/-- BRAID_STATUS, 06_braid_compositor. -/
def BRAID_STATUS_OFF : Nat := 0x40004
def BRAID_STATUS_REJ_LAYER : Field := ⟨BRAID_STATUS_OFF, 16, 4⟩
def BRAID_STATUS_REJ_CODE : Field := ⟨BRAID_STATUS_OFF, 8, 4⟩
def BRAID_STATUS_BW_OVER : Field := ⟨BRAID_STATUS_OFF, 2, 1⟩
def BRAID_STATUS_COMMIT_REJ : Field := ⟨BRAID_STATUS_OFF, 1, 1⟩
def BRAID_STATUS_COMMIT_PENDING : Field := ⟨BRAID_STATUS_OFF, 0, 1⟩
/-- BRAID_BW_ADMIT, 06_braid_compositor. -/
def BRAID_BW_ADMIT_OFF : Nat := 0x40008
def BRAID_BW_ADMIT_LAYERS : Field := ⟨BRAID_BW_ADMIT_OFF, 16, 16⟩
def BRAID_BW_ADMIT_TOTAL : Field := ⟨BRAID_BW_ADMIT_OFF, 0, 16⟩
/-- BRAID_BW_MEAS, 06_braid_compositor. -/
def BRAID_BW_MEAS_OFF : Nat := 0x4000C
def BRAID_BW_MEAS_LAYERS : Field := ⟨BRAID_BW_MEAS_OFF, 0, 16⟩
/-- BRAID_PROT_STATUS, 06_braid_compositor. -/
def BRAID_PROT_STATUS_OFF : Nat := 0x40010
def BRAID_PROT_STATUS_VALID : Field := ⟨BRAID_PROT_STATUS_OFF, 31, 1⟩
def BRAID_PROT_STATUS_STALE : Field := ⟨BRAID_PROT_STATUS_OFF, 30, 1⟩
def BRAID_PROT_STATUS_BLOCKED_ALL : Field := ⟨BRAID_PROT_STATUS_OFF, 29, 1⟩
def BRAID_PROT_STATUS_PUBLISHED : Field := ⟨BRAID_PROT_STATUS_OFF, 28, 1⟩
def BRAID_PROT_STATUS_IN_USE : Field := ⟨BRAID_PROT_STATUS_OFF, 24, 1⟩
def BRAID_PROT_STATUS_AGE : Field := ⟨BRAID_PROT_STATUS_OFF, 0, 8⟩
/-- BRAID_PROT_TARGET, 06_braid_compositor. -/
def BRAID_PROT_TARGET_OFF : Nat := 0x40014
def BRAID_PROT_TARGET_TARGET : Field := ⟨BRAID_PROT_TARGET_OFF, 0, 32⟩
/-- BRAID_PROT_COUNTS, 06_braid_compositor. -/
def BRAID_PROT_COUNTS_OFF : Nat := 0x40018
def BRAID_PROT_COUNTS_VERIFY_FAIL : Field := ⟨BRAID_PROT_COUNTS_OFF, 16, 16⟩
def BRAID_PROT_COUNTS_STALE_FRAMES : Field := ⟨BRAID_PROT_COUNTS_OFF, 0, 16⟩
/-- BRAID_PROT_INDEX, 06_braid_compositor. -/
def BRAID_PROT_INDEX_OFF : Nat := 0x4001C
def BRAID_PROT_INDEX_READY : Field := ⟨BRAID_PROT_INDEX_OFF, 31, 1⟩
def BRAID_PROT_INDEX_INDEX : Field := ⟨BRAID_PROT_INDEX_OFF, 0, 17⟩
/-- BRAID_PROT_DATA, 06_braid_compositor. -/
def BRAID_PROT_DATA_OFF : Nat := 0x40020
def BRAID_PROT_DATA_CODES : Field := ⟨BRAID_PROT_DATA_OFF, 0, 32⟩
/-- BRAID_LAYER_SRC, 06_braid_compositor. -/
def BRAID_LAYER_SRC_OFF (n : Nat) : Nat := 0x40100 + 0x40 * n
def BRAID_LAYER_SRC_ENABLE (n : Nat) : Field := ⟨BRAID_LAYER_SRC_OFF n, 31, 1⟩
def BRAID_LAYER_SRC_FORMAT (n : Nat) : Field := ⟨BRAID_LAYER_SRC_OFF n, 24, 4⟩
def BRAID_LAYER_SRC_STREAM (n : Nat) : Field := ⟨BRAID_LAYER_SRC_OFF n, 16, 3⟩
def BRAID_LAYER_SRC_SCALER (n : Nat) : Field := ⟨BRAID_LAYER_SRC_OFF n, 12, 2⟩
def BRAID_LAYER_SRC_TYPE (n : Nat) : Field := ⟨BRAID_LAYER_SRC_OFF n, 8, 2⟩
def BRAID_LAYER_SRC_POLICY (n : Nat) : Field := ⟨BRAID_LAYER_SRC_OFF n, 4, 2⟩
def BRAID_LAYER_SRC_BLEND (n : Nat) : Field := ⟨BRAID_LAYER_SRC_OFF n, 0, 2⟩
/-- BRAID_LAYER_BASE_LO, 06_braid_compositor. -/
def BRAID_LAYER_BASE_LO_OFF (n : Nat) : Nat := 0x40104 + 0x40 * n
def BRAID_LAYER_BASE_LO_ADDR (n : Nat) : Field := ⟨BRAID_LAYER_BASE_LO_OFF n, 8, 24⟩
/-- BRAID_LAYER_BASE_HI, 06_braid_compositor. -/
def BRAID_LAYER_BASE_HI_OFF (n : Nat) : Nat := 0x40108 + 0x40 * n
def BRAID_LAYER_BASE_HI_ADDR (n : Nat) : Field := ⟨BRAID_LAYER_BASE_HI_OFF n, 0, 1⟩
/-- BRAID_LAYER_STRIDE, 06_braid_compositor. -/
def BRAID_LAYER_STRIDE_OFF (n : Nat) : Nat := 0x4010C + 0x40 * n
def BRAID_LAYER_STRIDE_STRIDE (n : Nat) : Field := ⟨BRAID_LAYER_STRIDE_OFF n, 0, 20⟩
/-- BRAID_LAYER_SRC_SIZE, 06_braid_compositor. -/
def BRAID_LAYER_SRC_SIZE_OFF (n : Nat) : Nat := 0x40110 + 0x40 * n
def BRAID_LAYER_SRC_SIZE_H (n : Nat) : Field := ⟨BRAID_LAYER_SRC_SIZE_OFF n, 16, 14⟩
def BRAID_LAYER_SRC_SIZE_W (n : Nat) : Field := ⟨BRAID_LAYER_SRC_SIZE_OFF n, 0, 14⟩
/-- BRAID_LAYER_CROP_POS, 06_braid_compositor. -/
def BRAID_LAYER_CROP_POS_OFF (n : Nat) : Nat := 0x40114 + 0x40 * n
def BRAID_LAYER_CROP_POS_CY (n : Nat) : Field := ⟨BRAID_LAYER_CROP_POS_OFF n, 16, 14⟩
def BRAID_LAYER_CROP_POS_CX (n : Nat) : Field := ⟨BRAID_LAYER_CROP_POS_OFF n, 0, 14⟩
/-- BRAID_LAYER_CROP_SIZE, 06_braid_compositor. -/
def BRAID_LAYER_CROP_SIZE_OFF (n : Nat) : Nat := 0x40118 + 0x40 * n
def BRAID_LAYER_CROP_SIZE_CH (n : Nat) : Field := ⟨BRAID_LAYER_CROP_SIZE_OFF n, 16, 14⟩
def BRAID_LAYER_CROP_SIZE_CW (n : Nat) : Field := ⟨BRAID_LAYER_CROP_SIZE_OFF n, 0, 14⟩
/-- BRAID_LAYER_DST, 06_braid_compositor. -/
def BRAID_LAYER_DST_OFF (n : Nat) : Nat := 0x4011C + 0x40 * n
def BRAID_LAYER_DST_DY (n : Nat) : Field := ⟨BRAID_LAYER_DST_OFF n, 16, 16⟩
def BRAID_LAYER_DST_DX (n : Nat) : Field := ⟨BRAID_LAYER_DST_OFF n, 0, 16⟩
/-- BRAID_LAYER_OUT_SIZE, 06_braid_compositor. -/
def BRAID_LAYER_OUT_SIZE_OFF (n : Nat) : Nat := 0x40120 + 0x40 * n
def BRAID_LAYER_OUT_SIZE_OH (n : Nat) : Field := ⟨BRAID_LAYER_OUT_SIZE_OFF n, 16, 14⟩
def BRAID_LAYER_OUT_SIZE_OW (n : Nat) : Field := ⟨BRAID_LAYER_OUT_SIZE_OFF n, 0, 14⟩
/-- BRAID_LAYER_ALPHA, 06_braid_compositor. -/
def BRAID_LAYER_ALPHA_OFF (n : Nat) : Nat := 0x40124 + 0x40 * n
def BRAID_LAYER_ALPHA_REPEAT_MAX (n : Nat) : Field := ⟨BRAID_LAYER_ALPHA_OFF n, 24, 8⟩
def BRAID_LAYER_ALPHA_ALPHA (n : Nat) : Field := ⟨BRAID_LAYER_ALPHA_OFF n, 0, 16⟩
/-- BRAID_LAYER_STATUS, 06_braid_compositor. -/
def BRAID_LAYER_STATUS_OFF (n : Nat) : Nat := 0x40128 + 0x40 * n
def BRAID_LAYER_STATUS_REPEAT_RUN (n : Nat) : Field := ⟨BRAID_LAYER_STATUS_OFF n, 24, 8⟩
def BRAID_LAYER_STATUS_CLIPPED (n : Nat) : Field := ⟨BRAID_LAYER_STATUS_OFF n, 4, 1⟩
def BRAID_LAYER_STATUS_CORRUPT (n : Nat) : Field := ⟨BRAID_LAYER_STATUS_OFF n, 3, 1⟩
def BRAID_LAYER_STATUS_HELD (n : Nat) : Field := ⟨BRAID_LAYER_STATUS_OFF n, 2, 1⟩
def BRAID_LAYER_STATUS_EMPTY (n : Nat) : Field := ⟨BRAID_LAYER_STATUS_OFF n, 1, 1⟩
def BRAID_LAYER_STATUS_NOT_READY (n : Nat) : Field := ⟨BRAID_LAYER_STATUS_OFF n, 0, 1⟩
/-- BRAID_LAYER_BYTES, 06_braid_compositor. -/
def BRAID_LAYER_BYTES_OFF (n : Nat) : Nat := 0x4012C + 0x40 * n
def BRAID_LAYER_BYTES_ADMIT (n : Nat) : Field := ⟨BRAID_LAYER_BYTES_OFF n, 0, 32⟩
/-- BRAID_LAYER_MEAS, 06_braid_compositor. -/
def BRAID_LAYER_MEAS_OFF (n : Nat) : Nat := 0x40130 + 0x40 * n
def BRAID_LAYER_MEAS_READ (n : Nat) : Field := ⟨BRAID_LAYER_MEAS_OFF n, 0, 32⟩
/-- GUARD_B_SIG_FRAME, 06_braid_compositor. -/
def GUARD_B_SIG_FRAME_OFF : Nat := 0xA3F00
def GUARD_B_SIG_FRAME_FRAME : Field := ⟨GUARD_B_SIG_FRAME_OFF, 0, 32⟩
/-- GUARD_B_SIG_COUNTS, 06_braid_compositor. -/
def GUARD_B_SIG_COUNTS_OFF : Nat := 0xA3F04
def GUARD_B_SIG_COUNTS_MISMATCH_FRAMES : Field := ⟨GUARD_B_SIG_COUNTS_OFF, 16, 16⟩
def GUARD_B_SIG_COUNTS_UNCHECKED_FRAMES : Field := ⟨GUARD_B_SIG_COUNTS_OFF, 0, 16⟩
/-- GUARD_B_SIG_BANDS, 06_braid_compositor. -/
def GUARD_B_SIG_BANDS_OFF : Nat := 0xA3F08
def GUARD_B_SIG_BANDS_OPEN : Field := ⟨GUARD_B_SIG_BANDS_OFF, 0, 16⟩
/-- GUARD_B_REGION_RECT, 06_braid_compositor. -/
def GUARD_B_REGION_RECT_OFF (n : Nat) : Nat := 0xA4000 + 0x10 * n
def GUARD_B_REGION_RECT_MODE (n : Nat) : Field := ⟨GUARD_B_REGION_RECT_OFF n, 30, 2⟩
def GUARD_B_REGION_RECT_REACT (n : Nat) : Field := ⟨GUARD_B_REGION_RECT_OFF n, 29, 1⟩
def GUARD_B_REGION_RECT_MIRROR (n : Nat) : Field := ⟨GUARD_B_REGION_RECT_OFF n, 28, 1⟩
def GUARD_B_REGION_RECT_TY0 (n : Nat) : Field := ⟨GUARD_B_REGION_RECT_OFF n, 22, 6⟩
def GUARD_B_REGION_RECT_TX0 (n : Nat) : Field := ⟨GUARD_B_REGION_RECT_OFF n, 16, 6⟩
def GUARD_B_REGION_RECT_TH (n : Nat) : Field := ⟨GUARD_B_REGION_RECT_OFF n, 8, 7⟩
def GUARD_B_REGION_RECT_TW (n : Nat) : Field := ⟨GUARD_B_REGION_RECT_OFF n, 0, 7⟩
/-- GUARD_B_REGION_EXPECT, 06_braid_compositor. -/
def GUARD_B_REGION_EXPECT_OFF (n : Nat) : Nat := 0xA4004 + 0x10 * n
def GUARD_B_REGION_EXPECT_VALUE (n : Nat) : Field := ⟨GUARD_B_REGION_EXPECT_OFF n, 0, 32⟩
/-- GUARD_B_REGION_LAST, 06_braid_compositor. -/
def GUARD_B_REGION_LAST_OFF (n : Nat) : Nat := 0xA4008 + 0x10 * n
def GUARD_B_REGION_LAST_SIG (n : Nat) : Field := ⟨GUARD_B_REGION_LAST_OFF n, 0, 32⟩
/-- GUARD_B_REGION_COUNT, 06_braid_compositor. -/
def GUARD_B_REGION_COUNT_OFF (n : Nat) : Nat := 0xA400C + 0x10 * n
def GUARD_B_REGION_COUNT_MISMATCH (n : Nat) : Field := ⟨GUARD_B_REGION_COUNT_OFF n, 16, 16⟩
def GUARD_B_REGION_COUNT_RESULT (n : Nat) : Field := ⟨GUARD_B_REGION_COUNT_OFF n, 0, 2⟩
/-- WARP_MESH_SELECT, 07_warp_scalers. -/
def WARP_MESH_SELECT_OFF : Nat := 0x50000
def WARP_MESH_SELECT_BANK : Field := ⟨WARP_MESH_SELECT_OFF, 0, 2⟩
/-- WARP_MESH_STATUS, 07_warp_scalers. -/
def WARP_MESH_STATUS_OFF : Nat := 0x50004
def WARP_MESH_STATUS_SEL_REJ : Field := ⟨WARP_MESH_STATUS_OFF, 31, 1⟩
def WARP_MESH_STATUS_UNPAIRED : Field := ⟨WARP_MESH_STATUS_OFF, 30, 1⟩
def WARP_MESH_STATUS_PEND_BANK : Field := ⟨WARP_MESH_STATUS_OFF, 24, 2⟩
def WARP_MESH_STATUS_PENDING : Field := ⟨WARP_MESH_STATUS_OFF, 23, 1⟩
def WARP_MESH_STATUS_LOAD_ERR : Field := ⟨WARP_MESH_STATUS_OFF, 16, 4⟩
def WARP_MESH_STATUS_LOAD_BANK : Field := ⟨WARP_MESH_STATUS_OFF, 12, 2⟩
def WARP_MESH_STATUS_LOADING : Field := ⟨WARP_MESH_STATUS_OFF, 11, 1⟩
def WARP_MESH_STATUS_VALID : Field := ⟨WARP_MESH_STATUS_OFF, 8, 2⟩
def WARP_MESH_STATUS_IN_USE : Field := ⟨WARP_MESH_STATUS_OFF, 0, 2⟩
/-- WARP_MESH_TARGET, 07_warp_scalers. -/
def WARP_MESH_TARGET_OFF : Nat := 0x50008
def WARP_MESH_TARGET_FRAME : Field := ⟨WARP_MESH_TARGET_OFF, 0, 32⟩
/-- WARP_LOAD_WHERE, 07_warp_scalers. -/
def WARP_LOAD_WHERE_OFF : Nat := 0x5000C
def WARP_LOAD_WHERE_WHERE : Field := ⟨WARP_LOAD_WHERE_OFF, 0, 16⟩
/-- WARP_BANK_INFO, 07_warp_scalers. -/
def WARP_BANK_INFO_OFF (n : Nat) : Nat := 0x50010 + 0x4 * n
def WARP_BANK_INFO_SPLIT (n : Nat) : Field := ⟨WARP_BANK_INFO_OFF n, 21, 11⟩
def WARP_BANK_INFO_ORDER (n : Nat) : Field := ⟨WARP_BANK_INFO_OFF n, 20, 1⟩
def WARP_BANK_INFO_TAG (n : Nat) : Field := ⟨WARP_BANK_INFO_OFF n, 0, 16⟩
/-- WARP_BANK_SUM, 07_warp_scalers. -/
def WARP_BANK_SUM_OFF (n : Nat) : Nat := 0x50018 + 0x4 * n
def WARP_BANK_SUM_SUM (n : Nat) : Field := ⟨WARP_BANK_SUM_OFF n, 0, 32⟩
/-- WARP_FOOT_STATUS, 07_warp_scalers. -/
def WARP_FOOT_STATUS_OFF : Nat := 0x50020
def WARP_FOOT_STATUS_FRAMES : Field := ⟨WARP_FOOT_STATUS_OFF, 16, 16⟩
def WARP_FOOT_STATUS_TILE : Field := ⟨WARP_FOOT_STATUS_OFF, 0, 12⟩
/-- WARP_SC_CTRL, 07_warp_scalers. -/
def WARP_SC_CTRL_OFF (n : Nat) : Nat := 0x50100 + 0x40 * n
def WARP_SC_CTRL_VFILT (n : Nat) : Field := ⟨WARP_SC_CTRL_OFF n, 4, 2⟩
def WARP_SC_CTRL_HFILT (n : Nat) : Field := ⟨WARP_SC_CTRL_OFF n, 0, 2⟩
/-- WARP_SC_STATUS, 07_warp_scalers. -/
def WARP_SC_STATUS_OFF (n : Nat) : Nat := 0x50104 + 0x40 * n
def WARP_SC_STATUS_BOUND (n : Nat) : Field := ⟨WARP_SC_STATUS_OFF n, 31, 1⟩
def WARP_SC_STATUS_LAYER (n : Nat) : Field := ⟨WARP_SC_STATUS_OFF n, 24, 4⟩
def WARP_SC_STATUS_COEF_REJ (n : Nat) : Field := ⟨WARP_SC_STATUS_OFF n, 18, 1⟩
def WARP_SC_STATUS_RATIO_OVER (n : Nat) : Field := ⟨WARP_SC_STATUS_OFF n, 17, 1⟩
def WARP_SC_STATUS_CLIP (n : Nat) : Field := ⟨WARP_SC_STATUS_OFF n, 16, 1⟩
def WARP_SC_STATUS_OW (n : Nat) : Field := ⟨WARP_SC_STATUS_OFF n, 0, 14⟩
/-- WARP_SC_HCOEF, 07_warp_scalers. -/
def WARP_SC_HCOEF_OFF (n m : Nat) : Nat := 0x51000 + 0x800 * n + 0x4 * m
def WARP_SC_HCOEF_TAP_ODD (n m : Nat) : Field := ⟨WARP_SC_HCOEF_OFF n m, 16, 16⟩
def WARP_SC_HCOEF_TAP_EVEN (n m : Nat) : Field := ⟨WARP_SC_HCOEF_OFF n m, 0, 16⟩
/-- WARP_SC_VCOEF, 07_warp_scalers. -/
def WARP_SC_VCOEF_OFF (n m : Nat) : Nat := 0x51400 + 0x800 * n + 0x4 * m
def WARP_SC_VCOEF_TAP_ODD (n m : Nat) : Field := ⟨WARP_SC_VCOEF_OFF n m, 16, 16⟩
def WARP_SC_VCOEF_TAP_EVEN (n m : Nat) : Field := ⟨WARP_SC_VCOEF_OFF n m, 0, 16⟩
/-- INTAKE_CTRL, 08_hawser_lanes. -/
def INTAKE_CTRL_OFF : Nat := 0x30000
def INTAKE_CTRL_REF_LOSS : Field := ⟨INTAKE_CTRL_OFF, 16, 8⟩
def INTAKE_CTRL_CHAN_FIXED : Field := ⟨INTAKE_CTRL_OFF, 8, 8⟩
def INTAKE_CTRL_REMAP : Field := ⟨INTAKE_CTRL_OFF, 0, 1⟩
/-- INTAKE_STATUS, 08_hawser_lanes. -/
def INTAKE_STATUS_OFF : Nat := 0x30004
def INTAKE_STATUS_REJ_CODE : Field := ⟨INTAKE_STATUS_OFF, 24, 4⟩
def INTAKE_STATUS_REJ_STREAM : Field := ⟨INTAKE_STATUS_OFF, 20, 3⟩
def INTAKE_STATUS_CFG_REJ : Field := ⟨INTAKE_STATUS_OFF, 16, 1⟩
def INTAKE_STATUS_STREAM_UP : Field := ⟨INTAKE_STATUS_OFF, 8, 8⟩
def INTAKE_STATUS_LANE_UP : Field := ⟨INTAKE_STATUS_OFF, 0, 8⟩
/-- INTAKE_EYE_CTRL, 08_hawser_lanes. -/
def INTAKE_EYE_CTRL_OFF : Nat := 0x30080
def INTAKE_EYE_CTRL_GO : Field := ⟨INTAKE_EYE_CTRL_OFF, 31, 1⟩
def INTAKE_EYE_CTRL_LANE : Field := ⟨INTAKE_EYE_CTRL_OFF, 24, 4⟩
def INTAKE_EYE_CTRL_PHASE : Field := ⟨INTAKE_EYE_CTRL_OFF, 16, 6⟩
def INTAKE_EYE_CTRL_VOFF : Field := ⟨INTAKE_EYE_CTRL_OFF, 8, 8⟩
def INTAKE_EYE_CTRL_DWELL : Field := ⟨INTAKE_EYE_CTRL_OFF, 0, 4⟩
/-- INTAKE_EYE_STATUS, 08_hawser_lanes. -/
def INTAKE_EYE_STATUS_OFF : Nat := 0x30084
def INTAKE_EYE_STATUS_DONE : Field := ⟨INTAKE_EYE_STATUS_OFF, 31, 1⟩
def INTAKE_EYE_STATUS_BUSY : Field := ⟨INTAKE_EYE_STATUS_OFF, 30, 1⟩
def INTAKE_EYE_STATUS_INVALID : Field := ⟨INTAKE_EYE_STATUS_OFF, 29, 1⟩
/-- INTAKE_EYE_ERR, 08_hawser_lanes. -/
def INTAKE_EYE_ERR_OFF : Nat := 0x30088
def INTAKE_EYE_ERR_ERR : Field := ⟨INTAKE_EYE_ERR_OFF, 0, 32⟩
/-- INTAKE_LANE_PWR, 08_hawser_lanes. -/
def INTAKE_LANE_PWR_OFF (n : Nat) : Nat := 0x30100 + 0x40 * n
def INTAKE_LANE_PWR_STATE (n : Nat) : Field := ⟨INTAKE_LANE_PWR_OFF n, 8, 2⟩
def INTAKE_LANE_PWR_REQ (n : Nat) : Field := ⟨INTAKE_LANE_PWR_OFF n, 0, 2⟩
/-- INTAKE_LANE_STATUS, 08_hawser_lanes. -/
def INTAKE_LANE_STATUS_OFF (n : Nat) : Nat := 0x30104 + 0x40 * n
def INTAKE_LANE_STATUS_SKEW (n : Nat) : Field := ⟨INTAKE_LANE_STATUS_OFF n, 24, 8⟩
def INTAKE_LANE_STATUS_EYE_LOW (n : Nat) : Field := ⟨INTAKE_LANE_STATUS_OFF n, 19, 1⟩
def INTAKE_LANE_STATUS_DESKEW_ERR (n : Nat) : Field := ⟨INTAKE_LANE_STATUS_OFF n, 18, 1⟩
def INTAKE_LANE_STATUS_ORDER_ERR (n : Nat) : Field := ⟨INTAKE_LANE_STATUS_OFF n, 17, 1⟩
def INTAKE_LANE_STATUS_DOWN_SEEN (n : Nat) : Field := ⟨INTAKE_LANE_STATUS_OFF n, 16, 1⟩
def INTAKE_LANE_STATUS_LOGICAL (n : Nat) : Field := ⟨INTAKE_LANE_STATUS_OFF n, 8, 4⟩
def INTAKE_LANE_STATUS_LINK (n : Nat) : Field := ⟨INTAKE_LANE_STATUS_OFF n, 0, 3⟩
/-- SPLICE_LANE_STATUS, 08_hawser_lanes. -/
def SPLICE_LANE_STATUS_OFF (n : Nat) : Nat := 0xB0104 + 0x40 * n
def SPLICE_LANE_STATUS_SKEW (n : Nat) : Field := ⟨SPLICE_LANE_STATUS_OFF n, 24, 8⟩
def SPLICE_LANE_STATUS_EYE_LOW (n : Nat) : Field := ⟨SPLICE_LANE_STATUS_OFF n, 19, 1⟩
def SPLICE_LANE_STATUS_DESKEW_ERR (n : Nat) : Field := ⟨SPLICE_LANE_STATUS_OFF n, 18, 1⟩
def SPLICE_LANE_STATUS_ORDER_ERR (n : Nat) : Field := ⟨SPLICE_LANE_STATUS_OFF n, 17, 1⟩
def SPLICE_LANE_STATUS_DOWN_SEEN (n : Nat) : Field := ⟨SPLICE_LANE_STATUS_OFF n, 16, 1⟩
def SPLICE_LANE_STATUS_LOGICAL (n : Nat) : Field := ⟨SPLICE_LANE_STATUS_OFF n, 8, 4⟩
def SPLICE_LANE_STATUS_LINK (n : Nat) : Field := ⟨SPLICE_LANE_STATUS_OFF n, 0, 3⟩
/-- INTAKE_LANE_CHAN, 08_hawser_lanes. -/
def INTAKE_LANE_CHAN_OFF (n : Nat) : Nat := 0x30108 + 0x40 * n
def INTAKE_LANE_CHAN_TRAINED (n : Nat) : Field := ⟨INTAKE_LANE_CHAN_OFF n, 31, 1⟩
def INTAKE_LANE_CHAN_LENGTH (n : Nat) : Field := ⟨INTAKE_LANE_CHAN_OFF n, 16, 12⟩
def INTAKE_LANE_CHAN_LOSS (n : Nat) : Field := ⟨INTAKE_LANE_CHAN_OFF n, 0, 12⟩
/-- SPLICE_LANE_CHAN, 08_hawser_lanes. -/
def SPLICE_LANE_CHAN_OFF (n : Nat) : Nat := 0xB0108 + 0x40 * n
def SPLICE_LANE_CHAN_TRAINED (n : Nat) : Field := ⟨SPLICE_LANE_CHAN_OFF n, 31, 1⟩
def SPLICE_LANE_CHAN_LENGTH (n : Nat) : Field := ⟨SPLICE_LANE_CHAN_OFF n, 16, 12⟩
def SPLICE_LANE_CHAN_LOSS (n : Nat) : Field := ⟨SPLICE_LANE_CHAN_OFF n, 0, 12⟩
/-- INTAKE_LANE_EYE, 08_hawser_lanes. -/
def INTAKE_LANE_EYE_OFF (n : Nat) : Nat := 0x3010C + 0x40 * n
def INTAKE_LANE_EYE_HEIGHT (n : Nat) : Field := ⟨INTAKE_LANE_EYE_OFF n, 8, 8⟩
def INTAKE_LANE_EYE_WIDTH (n : Nat) : Field := ⟨INTAKE_LANE_EYE_OFF n, 0, 8⟩
/-- SPLICE_LANE_EYE, 08_hawser_lanes. -/
def SPLICE_LANE_EYE_OFF (n : Nat) : Nat := 0xB010C + 0x40 * n
def SPLICE_LANE_EYE_HEIGHT (n : Nat) : Field := ⟨SPLICE_LANE_EYE_OFF n, 8, 8⟩
def SPLICE_LANE_EYE_WIDTH (n : Nat) : Field := ⟨SPLICE_LANE_EYE_OFF n, 0, 8⟩
/-- INTAKE_LANE_ERR, 08_hawser_lanes. -/
def INTAKE_LANE_ERR_OFF (n : Nat) : Nat := 0x30110 + 0x40 * n
def INTAKE_LANE_ERR_SYNC_ERR (n : Nat) : Field := ⟨INTAKE_LANE_ERR_OFF n, 16, 16⟩
def INTAKE_LANE_ERR_BIP_ERR (n : Nat) : Field := ⟨INTAKE_LANE_ERR_OFF n, 0, 16⟩
/-- SPLICE_LANE_ERR, 08_hawser_lanes. -/
def SPLICE_LANE_ERR_OFF (n : Nat) : Nat := 0xB0110 + 0x40 * n
def SPLICE_LANE_ERR_SYNC_ERR (n : Nat) : Field := ⟨SPLICE_LANE_ERR_OFF n, 16, 16⟩
def SPLICE_LANE_ERR_BIP_ERR (n : Nat) : Field := ⟨SPLICE_LANE_ERR_OFF n, 0, 16⟩
/-- INTAKE_LANE_ERR_CLEAR, 08_hawser_lanes. -/
def INTAKE_LANE_ERR_CLEAR_OFF (n : Nat) : Nat := 0x30114 + 0x40 * n
def INTAKE_LANE_ERR_CLEAR_CLEAR (n : Nat) : Field := ⟨INTAKE_LANE_ERR_CLEAR_OFF n, 0, 1⟩
/-- INTAKE_STR_CFG, 08_hawser_lanes. -/
def INTAKE_STR_CFG_OFF (n : Nat) : Nat := 0x30400 + 0x40 * n
def INTAKE_STR_CFG_ENABLE (n : Nat) : Field := ⟨INTAKE_STR_CFG_OFF n, 31, 1⟩
def INTAKE_STR_CFG_DAMAGED (n : Nat) : Field := ⟨INTAKE_STR_CFG_OFF n, 30, 1⟩
def INTAKE_STR_CFG_FORMAT (n : Nat) : Field := ⟨INTAKE_STR_CFG_OFF n, 24, 4⟩
def INTAKE_STR_CFG_RATE_MAX (n : Nat) : Field := ⟨INTAKE_STR_CFG_OFF n, 16, 8⟩
def INTAKE_STR_CFG_LANES (n : Nat) : Field := ⟨INTAKE_STR_CFG_OFF n, 0, 8⟩
/-- INTAKE_STR_SIZE, 08_hawser_lanes. -/
def INTAKE_STR_SIZE_OFF (n : Nat) : Nat := 0x30404 + 0x40 * n
def INTAKE_STR_SIZE_H (n : Nat) : Field := ⟨INTAKE_STR_SIZE_OFF n, 16, 14⟩
def INTAKE_STR_SIZE_W (n : Nat) : Field := ⟨INTAKE_STR_SIZE_OFF n, 0, 14⟩
/-- INTAKE_STR_TIMEOUT, 08_hawser_lanes. -/
def INTAKE_STR_TIMEOUT_OFF (n : Nat) : Nat := 0x30408 + 0x40 * n
def INTAKE_STR_TIMEOUT_MS (n : Nat) : Field := ⟨INTAKE_STR_TIMEOUT_OFF n, 0, 10⟩
/-- INTAKE_STR_STATUS, 08_hawser_lanes. -/
def INTAKE_STR_STATUS_OFF (n : Nat) : Nat := 0x3040C + 0x40 * n
def INTAKE_STR_STATUS_UP (n : Nat) : Field := ⟨INTAKE_STR_STATUS_OFF n, 31, 1⟩
def INTAKE_STR_STATUS_DOWN_CAUSE (n : Nat) : Field := ⟨INTAKE_STR_STATUS_OFF n, 28, 3⟩
def INTAKE_STR_STATUS_LAST_DISCARD (n : Nat) : Field := ⟨INTAKE_STR_STATUS_OFF n, 24, 4⟩
def INTAKE_STR_STATUS_LAST_MAP (n : Nat) : Field := ⟨INTAKE_STR_STATUS_OFF n, 16, 8⟩
def INTAKE_STR_STATUS_LAST_SEQ (n : Nat) : Field := ⟨INTAKE_STR_STATUS_OFF n, 0, 16⟩
/-- INTAKE_STR_MARGIN, 08_hawser_lanes. -/
def INTAKE_STR_MARGIN_OFF (n : Nat) : Nat := 0x30410 + 0x40 * n
def INTAKE_STR_MARGIN_MIN (n : Nat) : Field := ⟨INTAKE_STR_MARGIN_OFF n, 16, 16⟩
def INTAKE_STR_MARGIN_LAST (n : Nat) : Field := ⟨INTAKE_STR_MARGIN_OFF n, 0, 16⟩
/-- INTAKE_STR_FRAMES, 08_hawser_lanes. -/
def INTAKE_STR_FRAMES_OFF (n : Nat) : Nat := 0x30414 + 0x40 * n
def INTAKE_STR_FRAMES_DISCARDED (n : Nat) : Field := ⟨INTAKE_STR_FRAMES_OFF n, 16, 16⟩
def INTAKE_STR_FRAMES_COMPLETED (n : Nat) : Field := ⟨INTAKE_STR_FRAMES_OFF n, 0, 16⟩
/-- INTAKE_STR_SKIPS, 08_hawser_lanes. -/
def INTAKE_STR_SKIPS_OFF (n : Nat) : Nat := 0x30418 + 0x40 * n
def INTAKE_STR_SKIPS_NEAR (n : Nat) : Field := ⟨INTAKE_STR_SKIPS_OFF n, 16, 16⟩
def INTAKE_STR_SKIPS_SUPERSEDED (n : Nat) : Field := ⟨INTAKE_STR_SKIPS_OFF n, 0, 16⟩
/-- INTAKE_STR_CLEAR, 08_hawser_lanes. -/
def INTAKE_STR_CLEAR_OFF (n : Nat) : Nat := 0x3041C + 0x40 * n
def INTAKE_STR_CLEAR_CLEAR (n : Nat) : Field := ⟨INTAKE_STR_CLEAR_OFF n, 0, 1⟩
/-- HOST_LINK, 09_host_rings. -/
def HOST_LINK_OFF : Nat := 0x20000
def HOST_LINK_UP : Field := ⟨HOST_LINK_OFF, 31, 1⟩
def HOST_LINK_BME : Field := ⟨HOST_LINK_OFF, 17, 1⟩
def HOST_LINK_PTM : Field := ⟨HOST_LINK_OFF, 16, 1⟩
def HOST_LINK_WIDTH : Field := ⟨HOST_LINK_OFF, 8, 3⟩
def HOST_LINK_SPEED : Field := ⟨HOST_LINK_OFF, 0, 4⟩
/-- HOST_DBELL_LO, 09_host_rings. -/
def HOST_DBELL_LO_OFF : Nat := 0x20004
def HOST_DBELL_LO_ADDR : Field := ⟨HOST_DBELL_LO_OFF, 12, 20⟩
def HOST_DBELL_LO_VALID : Field := ⟨HOST_DBELL_LO_OFF, 0, 1⟩
/-- HOST_DBELL_HI, 09_host_rings. -/
def HOST_DBELL_HI_OFF : Nat := 0x20008
def HOST_DBELL_HI_ADDR : Field := ⟨HOST_DBELL_HI_OFF, 0, 32⟩
/-- HOST_NUDGE, 09_host_rings. -/
def HOST_NUDGE_OFF : Nat := 0x2000C
def HOST_NUDGE_GROUPS : Field := ⟨HOST_NUDGE_OFF, 0, 8⟩
/-- HOST_WATCH, 09_host_rings. -/
def HOST_WATCH_OFF : Nat := 0x20010
def HOST_WATCH_IDLE : Field := ⟨HOST_WATCH_OFF, 24, 8⟩
def HOST_WATCH_SLOW : Field := ⟨HOST_WATCH_OFF, 8, 16⟩
def HOST_WATCH_FAST : Field := ⟨HOST_WATCH_OFF, 0, 8⟩
/-- HOST_WATCH_STATUS, 09_host_rings. -/
def HOST_WATCH_STATUS_OFF : Nat := 0x20014
def HOST_WATCH_STATUS_READ_FAIL : Field := ⟨HOST_WATCH_STATUS_OFF, 16, 16⟩
def HOST_WATCH_STATUS_FAST : Field := ⟨HOST_WATCH_STATUS_OFF, 8, 1⟩
def HOST_WATCH_STATUS_ACTIVE : Field := ⟨HOST_WATCH_STATUS_OFF, 0, 8⟩
/-- HOST_RING_STATUS, 09_host_rings. -/
def HOST_RING_STATUS_OFF : Nat := 0x20018
def HOST_RING_STATUS_HALTED : Field := ⟨HOST_RING_STATUS_OFF, 16, 7⟩
def HOST_RING_STATUS_BUSY : Field := ⟨HOST_RING_STATUS_OFF, 0, 1⟩
/-- HOST_RING_HALT, 09_host_rings. -/
def HOST_RING_HALT_OFF (n : Nat) : Nat := 0x2001C + 0x4 * n
def HOST_RING_HALT_HALT (n : Nat) : Field := ⟨HOST_RING_HALT_OFF n, 0, 32⟩
/-- HOST_BW_POOL, 09_host_rings. -/
def HOST_BW_POOL_OFF : Nat := 0x20024
def HOST_BW_POOL_SUM : Field := ⟨HOST_BW_POOL_OFF, 16, 16⟩
def HOST_BW_POOL_POOL : Field := ⟨HOST_BW_POOL_OFF, 0, 16⟩
/-- HOST_MW2_QUOTA, 09_host_rings. -/
def HOST_MW2_QUOTA_OFF : Nat := 0x20028
def HOST_MW2_QUOTA_BW : Field := ⟨HOST_MW2_QUOTA_OFF, 0, 16⟩
/-- HOST_IRQ_CAUSE, 09_host_rings. -/
def HOST_IRQ_CAUSE_OFF : Nat := 0x2002C
def HOST_IRQ_CAUSE_CAUSE : Field := ⟨HOST_IRQ_CAUSE_OFF, 0, 8⟩
/-- HOST_IRQ_EN, 09_host_rings. -/
def HOST_IRQ_EN_OFF : Nat := 0x20030
def HOST_IRQ_EN_EN : Field := ⟨HOST_IRQ_EN_OFF, 0, 8⟩
/-- HOST_FRAME_IRQ, 09_host_rings. -/
def HOST_FRAME_IRQ_OFF : Nat := 0x20034
def HOST_FRAME_IRQ_DIV : Field := ⟨HOST_FRAME_IRQ_OFF, 0, 8⟩
/-- HOST_DMA_ERR_LO, 09_host_rings. -/
def HOST_DMA_ERR_LO_OFF : Nat := 0x20038
def HOST_DMA_ERR_LO_ADDR : Field := ⟨HOST_DMA_ERR_LO_OFF, 0, 32⟩
/-- HOST_DMA_ERR_HI, 09_host_rings. -/
def HOST_DMA_ERR_HI_OFF : Nat := 0x2003C
def HOST_DMA_ERR_HI_ADDR : Field := ⟨HOST_DMA_ERR_HI_OFF, 0, 32⟩
/-- HOST_DMA_ERR_INFO, 09_host_rings. -/
def HOST_DMA_ERR_INFO_OFF : Nat := 0x20040
def HOST_DMA_ERR_INFO_COUNT : Field := ⟨HOST_DMA_ERR_INFO_OFF, 16, 16⟩
def HOST_DMA_ERR_INFO_KIND : Field := ⟨HOST_DMA_ERR_INFO_OFF, 8, 3⟩
def HOST_DMA_ERR_INFO_DBELL : Field := ⟨HOST_DMA_ERR_INFO_OFF, 7, 1⟩
def HOST_DMA_ERR_INFO_RING : Field := ⟨HOST_DMA_ERR_INFO_OFF, 0, 6⟩
/-- RING_BASE_LO, 09_host_rings. -/
def RING_BASE_LO_OFF (n : Nat) : Nat := 0x21000 + 0x40 * n
def RING_BASE_LO_ADDR (n : Nat) : Field := ⟨RING_BASE_LO_OFF n, 12, 20⟩
/-- RING_BASE_HI, 09_host_rings. -/
def RING_BASE_HI_OFF (n : Nat) : Nat := 0x21004 + 0x40 * n
def RING_BASE_HI_ADDR (n : Nat) : Field := ⟨RING_BASE_HI_OFF n, 0, 32⟩
/-- RING_CFG, 09_host_rings. -/
def RING_CFG_OFF (n : Nat) : Nat := 0x21008 + 0x40 * n
def RING_CFG_HOLDOFF (n : Nat) : Field := ⟨RING_CFG_OFF n, 16, 8⟩
def RING_CFG_LOG2SIZE (n : Nat) : Field := ⟨RING_CFG_OFF n, 8, 5⟩
def RING_CFG_CLASS (n : Nat) : Field := ⟨RING_CFG_OFF n, 0, 3⟩
/-- RING_QUOTA, 09_host_rings. -/
def RING_QUOTA_OFF (n : Nat) : Nat := 0x2100C + 0x40 * n
def RING_QUOTA_BW (n : Nat) : Field := ⟨RING_QUOTA_OFF n, 16, 16⟩
def RING_QUOTA_INFLIGHT (n : Nat) : Field := ⟨RING_QUOTA_OFF n, 0, 9⟩
/-- RING_EVMASK, 09_host_rings. -/
def RING_EVMASK_OFF (n : Nat) : Nat := 0x21010 + 0x40 * n
def RING_EVMASK_TYPES (n : Nat) : Field := ⟨RING_EVMASK_OFF n, 0, 7⟩
/-- RING_CTRL, 09_host_rings. -/
def RING_CTRL_OFF (n : Nat) : Nat := 0x21014 + 0x40 * n
def RING_CTRL_RESET (n : Nat) : Field := ⟨RING_CTRL_OFF n, 1, 1⟩
def RING_CTRL_ENABLE (n : Nat) : Field := ⟨RING_CTRL_OFF n, 0, 1⟩
/-- RING_STATUS, 09_host_rings. -/
def RING_STATUS_OFF (n : Nat) : Nat := 0x21018 + 0x40 * n
def RING_STATUS_PHASE (n : Nat) : Field := ⟨RING_STATUS_OFF n, 31, 1⟩
def RING_STATUS_IN_FLIGHT (n : Nat) : Field := ⟨RING_STATUS_OFF n, 16, 9⟩
def RING_STATUS_HALT_ERR (n : Nat) : Field := ⟨RING_STATUS_OFF n, 8, 4⟩
def RING_STATUS_CFG_ERR (n : Nat) : Field := ⟨RING_STATUS_OFF n, 4, 4⟩
def RING_STATUS_STATE (n : Nat) : Field := ⟨RING_STATUS_OFF n, 0, 3⟩
/-- RING_HEAD, 09_host_rings. -/
def RING_HEAD_OFF (n : Nat) : Nat := 0x2101C + 0x40 * n
def RING_HEAD_HEAD (n : Nat) : Field := ⟨RING_HEAD_OFF n, 0, 32⟩
/-- RING_INDEX, 09_host_rings. -/
def RING_INDEX_OFF (n : Nat) : Nat := 0x21020 + 0x40 * n
def RING_INDEX_INDEX (n : Nat) : Field := ⟨RING_INDEX_OFF n, 0, 32⟩
/-- RING_BW_MEAS, 09_host_rings. -/
def RING_BW_MEAS_OFF (n : Nat) : Nat := 0x21024 + 0x40 * n
def RING_BW_MEAS_USE (n : Nat) : Field := ⟨RING_BW_MEAS_OFF n, 0, 16⟩
/-- RING_DROPPED, 09_host_rings. -/
def RING_DROPPED_OFF (n : Nat) : Nat := 0x21028 + 0x40 * n
def RING_DROPPED_ERRORS (n : Nat) : Field := ⟨RING_DROPPED_OFF n, 16, 16⟩
def RING_DROPPED_EVENTS (n : Nat) : Field := ⟨RING_DROPPED_OFF n, 0, 16⟩
/-- MBOX_TX, 10_mailboxes_locks. -/
def MBOX_TX_OFF (n : Nat) : Nat := 0xC0000 + 0x1000 * n
def MBOX_TX_WORD (n : Nat) : Field := ⟨MBOX_TX_OFF n, 0, 32⟩
/-- MBOX_TX_STATUS, 10_mailboxes_locks. -/
def MBOX_TX_STATUS_OFF (n : Nat) : Nat := 0xC0004 + 0x1000 * n
def MBOX_TX_STATUS_TORN (n : Nat) : Field := ⟨MBOX_TX_STATUS_OFF n, 31, 1⟩
def MBOX_TX_STATUS_DROP (n : Nat) : Field := ⟨MBOX_TX_STATUS_OFF n, 30, 1⟩
def MBOX_TX_STATUS_PARTIAL (n : Nat) : Field := ⟨MBOX_TX_STATUS_OFF n, 17, 1⟩
def MBOX_TX_STATUS_MSGS (n : Nat) : Field := ⟨MBOX_TX_STATUS_OFF n, 8, 4⟩
def MBOX_TX_STATUS_FULL (n : Nat) : Field := ⟨MBOX_TX_STATUS_OFF n, 4, 1⟩
def MBOX_TX_STATUS_COUNT (n : Nat) : Field := ⟨MBOX_TX_STATUS_OFF n, 0, 4⟩
/-- MBOX_RX, 10_mailboxes_locks. -/
def MBOX_RX_OFF (n : Nat) : Nat := 0xC0010 + 0x1000 * n
def MBOX_RX_WORD (n : Nat) : Field := ⟨MBOX_RX_OFF n, 0, 32⟩
/-- MBOX_RX_STATUS, 10_mailboxes_locks. -/
def MBOX_RX_STATUS_OFF (n : Nat) : Nat := 0xC0014 + 0x1000 * n
def MBOX_RX_STATUS_UNDER (n : Nat) : Field := ⟨MBOX_RX_STATUS_OFF n, 31, 1⟩
def MBOX_RX_STATUS_LOST (n : Nat) : Field := ⟨MBOX_RX_STATUS_OFF n, 16, 8⟩
def MBOX_RX_STATUS_READY (n : Nat) : Field := ⟨MBOX_RX_STATUS_OFF n, 15, 1⟩
def MBOX_RX_STATUS_MSGS (n : Nat) : Field := ⟨MBOX_RX_STATUS_OFF n, 8, 4⟩
def MBOX_RX_STATUS_FULL (n : Nat) : Field := ⟨MBOX_RX_STATUS_OFF n, 4, 1⟩
def MBOX_RX_STATUS_COUNT (n : Nat) : Field := ⟨MBOX_RX_STATUS_OFF n, 0, 4⟩
/-- MBOX_CH_CTRL, 10_mailboxes_locks. -/
def MBOX_CH_CTRL_OFF (n : Nat) : Nat := 0xC001C + 0x1000 * n
def MBOX_CH_CTRL_RESET (n : Nat) : Field := ⟨MBOX_CH_CTRL_OFF n, 0, 1⟩
/-- MBOX_STATUS, 10_mailboxes_locks. -/
def MBOX_STATUS_OFF : Nat := 0xC8000
def MBOX_STATUS_MODE : Field := ⟨MBOX_STATUS_OFF, 31, 1⟩
def MBOX_STATUS_RECOVERY : Field := ⟨MBOX_STATUS_OFF, 30, 1⟩
def MBOX_STATUS_FW_READY : Field := ⟨MBOX_STATUS_OFF, 29, 1⟩
def MBOX_STATUS_TX_PEND : Field := ⟨MBOX_STATUS_OFF, 8, 8⟩
def MBOX_STATUS_RX_PEND : Field := ⟨MBOX_STATUS_OFF, 0, 8⟩
/-- MBOX_DBELL, 10_mailboxes_locks. -/
def MBOX_DBELL_OFF : Nat := 0xC8004
def MBOX_DBELL_TO_FW_SIG : Field := ⟨MBOX_DBELL_OFF, 24, 8⟩
def MBOX_DBELL_TO_HOST_SIG : Field := ⟨MBOX_DBELL_OFF, 16, 8⟩
def MBOX_DBELL_TO_HOST_MSG : Field := ⟨MBOX_DBELL_OFF, 8, 8⟩
def MBOX_DBELL_TO_FW_MSG : Field := ⟨MBOX_DBELL_OFF, 0, 8⟩
/-- MBOX_DBELL_SET, 10_mailboxes_locks. -/
def MBOX_DBELL_SET_OFF : Nat := 0xC8008
def MBOX_DBELL_SET_SET : Field := ⟨MBOX_DBELL_SET_OFF, 24, 8⟩
/-- MBOX_DBELL_MASK, 10_mailboxes_locks. -/
def MBOX_DBELL_MASK_OFF : Nat := 0xC800C
def MBOX_DBELL_MASK_FW_SIG : Field := ⟨MBOX_DBELL_MASK_OFF, 24, 8⟩
def MBOX_DBELL_MASK_HOST : Field := ⟨MBOX_DBELL_MASK_OFF, 8, 16⟩
def MBOX_DBELL_MASK_FW_MSG : Field := ⟨MBOX_DBELL_MASK_OFF, 0, 8⟩
/-- MBOX_ERR, 10_mailboxes_locks. -/
def MBOX_ERR_OFF : Nat := 0xC8010
def MBOX_ERR_TIMEOUTS : Field := ⟨MBOX_ERR_OFF, 16, 16⟩
def MBOX_ERR_DISCARDS : Field := ⟨MBOX_ERR_OFF, 0, 16⟩
/-- LOCK, 10_mailboxes_locks. -/
def LOCK_OFF (n : Nat) : Nat := 0xD0000 + 0x4 * n
def LOCK_BUSY (n : Nat) : Field := ⟨LOCK_OFF n, 31, 1⟩
def LOCK_OWNER (n : Nat) : Field := ⟨LOCK_OFF n, 24, 4⟩
def LOCK_COUNT (n : Nat) : Field := ⟨LOCK_OFF n, 8, 16⟩
def LOCK_RELEASE (n : Nat) : Field := ⟨LOCK_OFF n, 0, 1⟩
/-- LOCK_PEEK, 10_mailboxes_locks. -/
def LOCK_PEEK_OFF (n : Nat) : Nat := 0xD0040 + 0x4 * n
def LOCK_PEEK_HELD (n : Nat) : Field := ⟨LOCK_PEEK_OFF n, 31, 1⟩
def LOCK_PEEK_OWNER (n : Nat) : Field := ⟨LOCK_PEEK_OFF n, 24, 4⟩
def LOCK_PEEK_COUNT (n : Nat) : Field := ⟨LOCK_PEEK_OFF n, 8, 16⟩
/-- LOCK_STATUS, 10_mailboxes_locks. -/
def LOCK_STATUS_OFF : Nat := 0xD0080
def LOCK_STATUS_HOST_HELD : Field := ⟨LOCK_STATUS_OFF, 16, 16⟩
def LOCK_STATUS_HELD : Field := ⟨LOCK_STATUS_OFF, 0, 16⟩
/-- LOCK_ERR, 10_mailboxes_locks. -/
def LOCK_ERR_OFF : Nat := 0xD0084
def LOCK_ERR_FORCED : Field := ⟨LOCK_ERR_OFF, 16, 16⟩
def LOCK_ERR_MISRELEASE : Field := ⟨LOCK_ERR_OFF, 0, 16⟩
/-- GUARD_A_STATUS, 11_safety_functions. -/
def GUARD_A_STATUS_OFF : Nat := 0x90000
def GUARD_A_STATUS_SAFE : Field := ⟨GUARD_A_STATUS_OFF, 31, 1⟩
def GUARD_A_STATUS_STOP : Field := ⟨GUARD_A_STATUS_OFF, 30, 1⟩
def GUARD_A_STATUS_LINK : Field := ⟨GUARD_A_STATUS_OFF, 28, 2⟩
def GUARD_A_STATUS_ZONE_DEMAND : Field := ⟨GUARD_A_STATUS_OFF, 27, 1⟩
def GUARD_A_STATUS_XCMP_OK : Field := ⟨GUARD_A_STATUS_OFF, 26, 1⟩
def GUARD_A_STATUS_ENC_OK : Field := ⟨GUARD_A_STATUS_OFF, 25, 1⟩
def GUARD_A_STATUS_SHARE : Field := ⟨GUARD_A_STATUS_OFF, 24, 1⟩
def GUARD_A_STATUS_EN_A : Field := ⟨GUARD_A_STATUS_OFF, 20, 4⟩
def GUARD_A_STATUS_CAUSE : Field := ⟨GUARD_A_STATUS_OFF, 8, 8⟩
def GUARD_A_STATUS_MASK_VALID : Field := ⟨GUARD_A_STATUS_OFF, 0, 1⟩
/-- GUARD_A_INPUTS, 11_safety_functions. -/
def GUARD_A_INPUTS_OFF : Nat := 0x90004
def GUARD_A_INPUTS_STOP_A_RAW : Field := ⟨GUARD_A_INPUTS_OFF, 31, 1⟩
def GUARD_A_INPUTS_STOP_A : Field := ⟨GUARD_A_INPUTS_OFF, 30, 1⟩
def GUARD_A_INPUTS_ZONE_A_RAW : Field := ⟨GUARD_A_INPUTS_OFF, 29, 1⟩
def GUARD_A_INPUTS_ZONE_A : Field := ⟨GUARD_A_INPUTS_OFF, 28, 1⟩
def GUARD_A_INPUTS_STOP_B : Field := ⟨GUARD_A_INPUTS_OFF, 27, 1⟩
def GUARD_A_INPUTS_ZONE_B : Field := ⟨GUARD_A_INPUTS_OFF, 26, 1⟩
def GUARD_A_INPUTS_LIGHT_VALID : Field := ⟨GUARD_A_INPUTS_OFF, 25, 1⟩
def GUARD_A_INPUTS_LIGHT_DARK : Field := ⟨GUARD_A_INPUTS_OFF, 24, 1⟩
def GUARD_A_INPUTS_DISC_LATCH : Field := ⟨GUARD_A_INPUTS_OFF, 16, 2⟩
def GUARD_A_INPUTS_DISC_LAST : Field := ⟨GUARD_A_INPUTS_OFF, 0, 16⟩
/-- GUARD_A_POS, 11_safety_functions. -/
def GUARD_A_POS_OFF (n : Nat) : Nat := 0x90010 + 0x4 * n
def GUARD_A_POS_VALID (n : Nat) : Field := ⟨GUARD_A_POS_OFF n, 31, 1⟩
def GUARD_A_POS_WARN (n : Nat) : Field := ⟨GUARD_A_POS_OFF n, 30, 1⟩
def GUARD_A_POS_RAW (n : Nat) : Field := ⟨GUARD_A_POS_OFF n, 0, 24⟩
/-- GUARD_B_POS, 11_safety_functions. -/
def GUARD_B_POS_OFF (n : Nat) : Nat := 0xA0010 + 0x4 * n
def GUARD_B_POS_VALID (n : Nat) : Field := ⟨GUARD_B_POS_OFF n, 31, 1⟩
def GUARD_B_POS_WARN (n : Nat) : Field := ⟨GUARD_B_POS_OFF n, 30, 1⟩
def GUARD_B_POS_RAW (n : Nat) : Field := ⟨GUARD_B_POS_OFF n, 0, 24⟩
/-- GUARD_A_ENC_ERR, 11_safety_functions. -/
def GUARD_A_ENC_ERR_OFF : Nat := 0x9001C
def GUARD_A_ENC_ERR_CRC_ERR : Field := ⟨GUARD_A_ENC_ERR_OFF, 16, 16⟩
def GUARD_A_ENC_ERR_INVALID : Field := ⟨GUARD_A_ENC_ERR_OFF, 0, 16⟩
/-- GUARD_B_ENC_ERR, 11_safety_functions. -/
def GUARD_B_ENC_ERR_OFF : Nat := 0xA001C
def GUARD_B_ENC_ERR_CRC_ERR : Field := ⟨GUARD_B_ENC_ERR_OFF, 16, 16⟩
def GUARD_B_ENC_ERR_INVALID : Field := ⟨GUARD_B_ENC_ERR_OFF, 0, 16⟩
/-- GUARD_A_ZONE_HASH, 11_safety_functions. -/
def GUARD_A_ZONE_HASH_OFF : Nat := 0x90020
def GUARD_A_ZONE_HASH_HASH : Field := ⟨GUARD_A_ZONE_HASH_OFF, 0, 32⟩
/-- GUARD_B_ZONE_HASH, 11_safety_functions. -/
def GUARD_B_ZONE_HASH_OFF : Nat := 0xA0020
def GUARD_B_ZONE_HASH_HASH : Field := ⟨GUARD_B_ZONE_HASH_OFF, 0, 32⟩
/-- GUARD_A_ZONE_ACTIVE, 11_safety_functions. -/
def GUARD_A_ZONE_ACTIVE_OFF : Nat := 0x90024
def GUARD_A_ZONE_ACTIVE_ACTIVE : Field := ⟨GUARD_A_ZONE_ACTIVE_OFF, 0, 32⟩
/-- GUARD_A_MASK_FRAME, 11_safety_functions. -/
def GUARD_A_MASK_FRAME_OFF : Nat := 0x90028
def GUARD_A_MASK_FRAME_TARGET : Field := ⟨GUARD_A_MASK_FRAME_OFF, 0, 32⟩
/-- GUARD_A_MASK_DRIFT, 11_safety_functions. -/
def GUARD_A_MASK_DRIFT_OFF : Nat := 0x9002C
def GUARD_A_MASK_DRIFT_DRIFT : Field := ⟨GUARD_A_MASK_DRIFT_OFF, 0, 16⟩
/-- GUARD_A_LINK_AGE, 11_safety_functions. -/
def GUARD_A_LINK_AGE_OFF : Nat := 0x90030
def GUARD_A_LINK_AGE_NET_B : Field := ⟨GUARD_A_LINK_AGE_OFF, 16, 16⟩
def GUARD_A_LINK_AGE_NET_A : Field := ⟨GUARD_A_LINK_AGE_OFF, 0, 16⟩
/-- GUARD_A_XCMP, 11_safety_functions. -/
def GUARD_A_XCMP_OFF : Nat := 0x90034
def GUARD_A_XCMP_RECORDS : Field := ⟨GUARD_A_XCMP_OFF, 16, 16⟩
def GUARD_A_XCMP_ITEM : Field := ⟨GUARD_A_XCMP_OFF, 8, 8⟩
/-- GUARD_A_CAP, 11_safety_functions. -/
def GUARD_A_CAP_OFF (n : Nat) : Nat := 0x90040 + 0x4 * n
def GUARD_A_CAP_ZONE (n : Nat) : Field := ⟨GUARD_A_CAP_OFF n, 31, 1⟩
def GUARD_A_CAP_CLAMPED (n : Nat) : Field := ⟨GUARD_A_CAP_OFF n, 30, 1⟩
def GUARD_A_CAP_DARK (n : Nat) : Field := ⟨GUARD_A_CAP_OFF n, 29, 1⟩
def GUARD_A_CAP_CAP (n : Nat) : Field := ⟨GUARD_A_CAP_OFF n, 16, 10⟩
/-- GUARD_A_TILEMAP, 11_safety_functions. -/
def GUARD_A_TILEMAP_OFF (n : Nat) : Nat := 0x90200 + 0x4 * n
def GUARD_A_TILEMAP_MARKED (n : Nat) : Field := ⟨GUARD_A_TILEMAP_OFF n, 0, 32⟩
/-- GUARD_A_CFG_IN, 11_safety_functions. -/
def GUARD_A_CFG_IN_OFF : Nat := 0x90400
def GUARD_A_CFG_IN_T_DISC : Field := ⟨GUARD_A_CFG_IN_OFF, 16, 16⟩
def GUARD_A_CFG_IN_FILT : Field := ⟨GUARD_A_CFG_IN_OFF, 0, 8⟩
/-- GUARD_A_CFG_LINK, 11_safety_functions. -/
def GUARD_A_CFG_LINK_OFF : Nat := 0x90404
def GUARD_A_CFG_LINK_MODE : Field := ⟨GUARD_A_CFG_LINK_OFF, 31, 1⟩
def GUARD_A_CFG_LINK_LEVEL : Field := ⟨GUARD_A_CFG_LINK_OFF, 16, 10⟩
def GUARD_A_CFG_LINK_TIMEOUT : Field := ⟨GUARD_A_CFG_LINK_OFF, 0, 7⟩
/-- GUARD_B_STATUS, 11_safety_functions. -/
def GUARD_B_STATUS_OFF : Nat := 0xA0000
def GUARD_B_STATUS_FLAGS : Field := ⟨GUARD_B_STATUS_OFF, 24, 8⟩
def GUARD_B_STATUS_EN_B : Field := ⟨GUARD_B_STATUS_OFF, 20, 4⟩
def GUARD_B_STATUS_CAUSE : Field := ⟨GUARD_B_STATUS_OFF, 8, 8⟩
/-- GUARD_B_INPUTS, 11_safety_functions. -/
def GUARD_B_INPUTS_OFF : Nat := 0xA0004
def GUARD_B_INPUTS_TERM : Field := ⟨GUARD_B_INPUTS_OFF, 28, 4⟩
def GUARD_B_INPUTS_LIGHT_VALID : Field := ⟨GUARD_B_INPUTS_OFF, 25, 1⟩
def GUARD_B_INPUTS_LIGHT_DARK : Field := ⟨GUARD_B_INPUTS_OFF, 24, 1⟩
/-- GUARD_B_BANDS_RG, 11_safety_functions. -/
def GUARD_B_BANDS_RG_OFF : Nat := 0xA0024
def GUARD_B_BANDS_RG_HIGH : Field := ⟨GUARD_B_BANDS_RG_OFF, 16, 16⟩
def GUARD_B_BANDS_RG_LOW : Field := ⟨GUARD_B_BANDS_RG_OFF, 0, 16⟩
/-- GUARD_B_BANDS_BL, 11_safety_functions. -/
def GUARD_B_BANDS_BL_OFF : Nat := 0xA0028
def GUARD_B_BANDS_BL_HIGH : Field := ⟨GUARD_B_BANDS_BL_OFF, 16, 16⟩
def GUARD_B_BANDS_BL_LOW : Field := ⟨GUARD_B_BANDS_BL_OFF, 0, 16⟩
/-- GUARD_B_PHOTO, 11_safety_functions. -/
def GUARD_B_PHOTO_OFF : Nat := 0xA002C
def GUARD_B_PHOTO_FITTED : Field := ⟨GUARD_B_PHOTO_OFF, 31, 1⟩
def GUARD_B_PHOTO_FAULT : Field := ⟨GUARD_B_PHOTO_OFF, 30, 1⟩
def GUARD_B_PHOTO_MAX : Field := ⟨GUARD_B_PHOTO_OFF, 16, 12⟩
def GUARD_B_PHOTO_VALUE : Field := ⟨GUARD_B_PHOTO_OFF, 0, 12⟩
/-- GUARD_B_OVER, 11_safety_functions. -/
def GUARD_B_OVER_OFF : Nat := 0xA0030
def GUARD_B_OVER_COLOUR : Field := ⟨GUARD_B_OVER_OFF, 30, 2⟩
def GUARD_B_OVER_SECTOR : Field := ⟨GUARD_B_OVER_OFF, 24, 6⟩
def GUARD_B_OVER_N_TRIP : Field := ⟨GUARD_B_OVER_OFF, 16, 8⟩
def GUARD_B_OVER_MARGIN : Field := ⟨GUARD_B_OVER_OFF, 8, 8⟩
/-- GUARD_B_OVER_MEAS, 11_safety_functions. -/
def GUARD_B_OVER_MEAS_OFF : Nat := 0xA0034
def GUARD_B_OVER_MEAS_MA : Field := ⟨GUARD_B_OVER_MEAS_OFF, 0, 16⟩
/-- GUARD_B_OVER_CEIL, 11_safety_functions. -/
def GUARD_B_OVER_CEIL_OFF : Nat := 0xA0038
def GUARD_B_OVER_CEIL_MA : Field := ⟨GUARD_B_OVER_CEIL_OFF, 0, 16⟩
/-- GUARD_B_TAP, 11_safety_functions. -/
def GUARD_B_TAP_OFF : Nat := 0xA003C
def GUARD_B_TAP_FAIL_FRAMES : Field := ⟨GUARD_B_TAP_OFF, 16, 16⟩
def GUARD_B_TAP_TILE : Field := ⟨GUARD_B_TAP_OFF, 0, 12⟩
/-- GUARD_B_CEIL, 11_safety_functions. -/
def GUARD_B_CEIL_OFF (n : Nat) : Nat := 0xA0100 + 0x4 * n
def GUARD_B_CEIL_HIGH (n : Nat) : Field := ⟨GUARD_B_CEIL_OFF n, 16, 16⟩
def GUARD_B_CEIL_LOW (n : Nat) : Field := ⟨GUARD_B_CEIL_OFF n, 0, 16⟩
/-- CVU_UNIT_CFG, 12_bowline_check_values. -/
def CVU_UNIT_CFG_OFF (n : Nat) : Nat := 0xE0000 + 0x20 * n
def CVU_UNIT_CFG_POLY (n : Nat) : Field := ⟨CVU_UNIT_CFG_OFF n, 30, 2⟩
def CVU_UNIT_CFG_MODE (n : Nat) : Field := ⟨CVU_UNIT_CFG_OFF n, 28, 2⟩
def CVU_UNIT_CFG_ISLAND (n : Nat) : Field := ⟨CVU_UNIT_CFG_OFF n, 16, 4⟩
def CVU_UNIT_CFG_SELFTEST_OK (n : Nat) : Field := ⟨CVU_UNIT_CFG_OFF n, 0, 1⟩
/-- CVU_UNIT_PASS, 12_bowline_check_values. -/
def CVU_UNIT_PASS_OFF (n : Nat) : Nat := 0xE0004 + 0x20 * n
def CVU_UNIT_PASS_COUNT (n : Nat) : Field := ⟨CVU_UNIT_PASS_OFF n, 0, 32⟩
/-- CVU_UNIT_FAIL, 12_bowline_check_values. -/
def CVU_UNIT_FAIL_OFF (n : Nat) : Nat := 0xE0008 + 0x20 * n
def CVU_UNIT_FAIL_RUN (n : Nat) : Field := ⟨CVU_UNIT_FAIL_OFF n, 16, 16⟩
def CVU_UNIT_FAIL_COUNT (n : Nat) : Field := ⟨CVU_UNIT_FAIL_OFF n, 0, 16⟩
/-- CVU_UNIT_LAST, 12_bowline_check_values. -/
def CVU_UNIT_LAST_OFF (n : Nat) : Nat := 0xE000C + 0x20 * n
def CVU_UNIT_LAST_VALUE (n : Nat) : Field := ⟨CVU_UNIT_LAST_OFF n, 0, 32⟩
/-- CVU_UNIT_FAILVAL, 12_bowline_check_values. -/
def CVU_UNIT_FAILVAL_OFF (n : Nat) : Nat := 0xE0010 + 0x20 * n
def CVU_UNIT_FAILVAL_VALUE (n : Nat) : Field := ⟨CVU_UNIT_FAILVAL_OFF n, 0, 32⟩
/-- CVU_UNIT_FAILFRAME, 12_bowline_check_values. -/
def CVU_UNIT_FAILFRAME_OFF (n : Nat) : Nat := 0xE0014 + 0x20 * n
def CVU_UNIT_FAILFRAME_FRAME (n : Nat) : Field := ⟨CVU_UNIT_FAILFRAME_OFF n, 0, 32⟩
/-- CVU_STATUS, 12_bowline_check_values. -/
def CVU_STATUS_OFF : Nat := 0xE0200
def CVU_STATUS_FAIL : Field := ⟨CVU_STATUS_OFF, 0, 12⟩
/-- CVU_CLEAR, 12_bowline_check_values. -/
def CVU_CLEAR_OFF : Nat := 0xE0204
def CVU_CLEAR_CLEAR : Field := ⟨CVU_CLEAR_OFF, 0, 12⟩
/-- GUARD_NET_CFG, 12_bowline_check_values. -/
def GUARD_NET_CFG_OFF (n : Nat) : Nat := 0x90500 + 0x10000 * n
def GUARD_NET_CFG_SOURCE_ID (n : Nat) : Field := ⟨GUARD_NET_CFG_OFF n, 16, 16⟩
def GUARD_NET_CFG_GROUP (n : Nat) : Field := ⟨GUARD_NET_CFG_OFF n, 8, 8⟩
def GUARD_NET_CFG_PHY_ADDR (n : Nat) : Field := ⟨GUARD_NET_CFG_OFF n, 0, 5⟩
/-- GUARD_NET_TIMING, 12_bowline_check_values. -/
def GUARD_NET_TIMING_OFF (n : Nat) : Nat := 0x90504 + 0x10000 * n
def GUARD_NET_TIMING_TS_TOL (n : Nat) : Field := ⟨GUARD_NET_TIMING_OFF n, 16, 16⟩
def GUARD_NET_TIMING_PERIOD (n : Nat) : Field := ⟨GUARD_NET_TIMING_OFF n, 0, 16⟩
/-- GUARD_NET_TYPE, 12_bowline_check_values. -/
def GUARD_NET_TYPE_OFF (n : Nat) : Nat := 0x90508 + 0x10000 * n
def GUARD_NET_TYPE_ETHERTYPE (n : Nat) : Field := ⟨GUARD_NET_TYPE_OFF n, 0, 16⟩
/-- GUARD_NET_GMAC, 12_bowline_check_values. -/
def GUARD_NET_GMAC_OFF (n m : Nat) : Nat := 0x9050C + 0x10000 * n + 0x4 * m
def GUARD_NET_GMAC_ADDR (n m : Nat) : Field := ⟨GUARD_NET_GMAC_OFF n m, 0, 32⟩
/-- GUARD_NET_STATUS, 12_bowline_check_values. -/
def GUARD_NET_STATUS_OFF (n : Nat) : Nat := 0x90514 + 0x10000 * n
def GUARD_NET_STATUS_PHY_LINK (n : Nat) : Field := ⟨GUARD_NET_STATUS_OFF n, 31, 1⟩
def GUARD_NET_STATUS_SPEED100 (n : Nat) : Field := ⟨GUARD_NET_STATUS_OFF n, 30, 1⟩
def GUARD_NET_STATUS_FULL_DUPLEX (n : Nat) : Field := ⟨GUARD_NET_STATUS_OFF n, 29, 1⟩
def GUARD_NET_STATUS_FRESH (n : Nat) : Field := ⟨GUARD_NET_STATUS_OFF n, 28, 1⟩
def GUARD_NET_STATUS_PHY_FAULT (n : Nat) : Field := ⟨GUARD_NET_STATUS_OFF n, 27, 1⟩
def GUARD_NET_STATUS_LAST_DISCARD (n : Nat) : Field := ⟨GUARD_NET_STATUS_OFF n, 16, 3⟩
/-- GUARD_NET_SEQ, 12_bowline_check_values. -/
def GUARD_NET_SEQ_OFF (n : Nat) : Nat := 0x90518 + 0x10000 * n
def GUARD_NET_SEQ_SEQ (n : Nat) : Field := ⟨GUARD_NET_SEQ_OFF n, 0, 32⟩
/-- GUARD_NET_DEMAND, 12_bowline_check_values. -/
def GUARD_NET_DEMAND_OFF (n : Nat) : Nat := 0x9051C + 0x10000 * n
def GUARD_NET_DEMAND_DEMAND (n : Nat) : Field := ⟨GUARD_NET_DEMAND_OFF n, 0, 8⟩
/-- GUARD_NET_ZONES, 12_bowline_check_values. -/
def GUARD_NET_ZONES_OFF (n : Nat) : Nat := 0x90520 + 0x10000 * n
def GUARD_NET_ZONES_ZONES (n : Nat) : Field := ⟨GUARD_NET_ZONES_OFF n, 0, 32⟩
/-- GUARD_NET_VALID, 12_bowline_check_values. -/
def GUARD_NET_VALID_OFF (n : Nat) : Nat := 0x90524 + 0x10000 * n
def GUARD_NET_VALID_COUNT (n : Nat) : Field := ⟨GUARD_NET_VALID_OFF n, 0, 32⟩
/-- GUARD_NET_DISC, 12_bowline_check_values. -/
def GUARD_NET_DISC_OFF (n m : Nat) : Nat := 0x90528 + 0x10000 * n + 0x4 * m
def GUARD_NET_DISC_HIGH (n m : Nat) : Field := ⟨GUARD_NET_DISC_OFF n m, 16, 16⟩
def GUARD_NET_DISC_LOW (n m : Nat) : Field := ⟨GUARD_NET_DISC_OFF n m, 0, 16⟩
/-- GUARD_NET_OTHER, 12_bowline_check_values. -/
def GUARD_NET_OTHER_OFF (n : Nat) : Nat := 0x90534 + 0x10000 * n
def GUARD_NET_OTHER_FOREIGN (n : Nat) : Field := ⟨GUARD_NET_OTHER_OFF n, 16, 16⟩
def GUARD_NET_OTHER_FCS_ERR (n : Nat) : Field := ⟨GUARD_NET_OTHER_OFF n, 0, 16⟩
/-- GUARD_NET_COMPARE, 12_bowline_check_values. -/
def GUARD_NET_COMPARE_OFF (n : Nat) : Nat := 0x90538 + 0x10000 * n
def GUARD_NET_COMPARE_DIFFER (n : Nat) : Field := ⟨GUARD_NET_COMPARE_OFF n, 16, 16⟩
def GUARD_NET_COMPARE_SINGLE (n : Nat) : Field := ⟨GUARD_NET_COMPARE_OFF n, 0, 16⟩
/-- GUARD_NET_RESET, 12_bowline_check_values. -/
def GUARD_NET_RESET_OFF (n : Nat) : Nat := 0x9053C + 0x10000 * n
def GUARD_NET_RESET_SEQ (n : Nat) : Field := ⟨GUARD_NET_RESET_OFF n, 0, 32⟩
/-- SPLICE_CFG, 13_twin_operation. -/
def SPLICE_CFG_OFF : Nat := 0xB0000
def SPLICE_CFG_TWIN_EN : Field := ⟨SPLICE_CFG_OFF, 31, 1⟩
/-- SPLICE_STATUS, 13_twin_operation. -/
def SPLICE_STATUS_OFF : Nat := 0xB0004
def SPLICE_STATUS_PAIR : Field := ⟨SPLICE_STATUS_OFF, 29, 3⟩
def SPLICE_STATUS_ROLE : Field := ⟨SPLICE_STATUS_OFF, 27, 2⟩
def SPLICE_STATUS_LINK_UP : Field := ⟨SPLICE_STATUS_OFF, 26, 1⟩
def SPLICE_STATUS_TICK_ALIVE : Field := ⟨SPLICE_STATUS_OFF, 25, 1⟩
def SPLICE_STATUS_SPLICE_ALIVE : Field := ⟨SPLICE_STATUS_OFF, 24, 1⟩
def SPLICE_STATUS_LEASE_VALID : Field := ⟨SPLICE_STATUS_OFF, 23, 1⟩
def SPLICE_STATUS_ARMED : Field := ⟨SPLICE_STATUS_OFF, 22, 1⟩
def SPLICE_STATUS_JOIN : Field := ⟨SPLICE_STATUS_OFF, 21, 1⟩
def SPLICE_STATUS_STEPPED : Field := ⟨SPLICE_STATUS_OFF, 20, 1⟩
def SPLICE_STATUS_LIGHT_IN : Field := ⟨SPLICE_STATUS_OFF, 18, 2⟩
def SPLICE_STATUS_LIGHT_OUT : Field := ⟨SPLICE_STATUS_OFF, 17, 1⟩
def SPLICE_STATUS_RESYNC : Field := ⟨SPLICE_STATUS_OFF, 16, 1⟩
def SPLICE_STATUS_PARTNER_STATE : Field := ⟨SPLICE_STATUS_OFF, 12, 4⟩
def SPLICE_STATUS_REASON : Field := ⟨SPLICE_STATUS_OFF, 8, 4⟩
/-- SPLICE_EPOCH, 13_twin_operation. -/
def SPLICE_EPOCH_OFF : Nat := 0xB0008
def SPLICE_EPOCH_EPOCH : Field := ⟨SPLICE_EPOCH_OFF, 0, 32⟩
/-- SPLICE_PEER_EPOCH, 13_twin_operation. -/
def SPLICE_PEER_EPOCH_OFF : Nat := 0xB000C
def SPLICE_PEER_EPOCH_EPOCH : Field := ⟨SPLICE_PEER_EPOCH_OFF, 0, 32⟩
/-- SPLICE_HOST_EPOCH, 13_twin_operation. -/
def SPLICE_HOST_EPOCH_OFF : Nat := 0xB0010
def SPLICE_HOST_EPOCH_EPOCH : Field := ⟨SPLICE_HOST_EPOCH_OFF, 0, 32⟩
/-- SPLICE_AGE, 13_twin_operation. -/
def SPLICE_AGE_OFF : Nat := 0xB0014
def SPLICE_AGE_SPLICE : Field := ⟨SPLICE_AGE_OFF, 16, 16⟩
def SPLICE_AGE_TICK : Field := ⟨SPLICE_AGE_OFF, 0, 16⟩
/-- SPLICE_LEASE, 13_twin_operation. -/
def SPLICE_LEASE_OFF : Nat := 0xB0018
def SPLICE_LEASE_AGE : Field := ⟨SPLICE_LEASE_OFF, 16, 16⟩
def SPLICE_LEASE_SWING_DUE : Field := ⟨SPLICE_LEASE_OFF, 0, 16⟩
/-- SPLICE_SET_SEQ, 13_twin_operation. -/
def SPLICE_SET_SEQ_OFF : Nat := 0xB001C
def SPLICE_SET_SEQ_NEXT : Field := ⟨SPLICE_SET_SEQ_OFF, 0, 32⟩
/-- SPLICE_COUNTS, 13_twin_operation. -/
def SPLICE_COUNTS_OFF : Nat := 0xB0020
def SPLICE_COUNTS_STEPS : Field := ⟨SPLICE_COUNTS_OFF, 24, 8⟩
def SPLICE_COUNTS_TAKEOVERS : Field := ⟨SPLICE_COUNTS_OFF, 16, 8⟩
def SPLICE_COUNTS_DEMOTIONS : Field := ⟨SPLICE_COUNTS_OFF, 8, 8⟩
def SPLICE_COUNTS_SWINGS : Field := ⟨SPLICE_COUNTS_OFF, 0, 8⟩
/-- SPLICE_PEER_ID_LO, 13_twin_operation. -/
def SPLICE_PEER_ID_LO_OFF : Nat := 0xB0024
def SPLICE_PEER_ID_LO_UID : Field := ⟨SPLICE_PEER_ID_LO_OFF, 0, 32⟩
/-- SPLICE_PEER_ID_HI, 13_twin_operation. -/
def SPLICE_PEER_ID_HI_OFF : Nat := 0xB0028
def SPLICE_PEER_ID_HI_UID : Field := ⟨SPLICE_PEER_ID_HI_OFF, 0, 32⟩
/-- SPLICE_PEER_INFO, 13_twin_operation. -/
def SPLICE_PEER_INFO_OFF : Nat := 0xB002C
def SPLICE_PEER_INFO_FW : Field := ⟨SPLICE_PEER_INFO_OFF, 8, 24⟩
def SPLICE_PEER_INFO_PROTO : Field := ⟨SPLICE_PEER_INFO_OFF, 4, 4⟩
def SPLICE_PEER_INFO_ORDER : Field := ⟨SPLICE_PEER_INFO_OFF, 0, 4⟩
/-- SPLICE_EXPECT_ID_LO, 13_twin_operation. -/
def SPLICE_EXPECT_ID_LO_OFF : Nat := 0xB0030
def SPLICE_EXPECT_ID_LO_UID : Field := ⟨SPLICE_EXPECT_ID_LO_OFF, 0, 32⟩
/-- SPLICE_EXPECT_ID_HI, 13_twin_operation. -/
def SPLICE_EXPECT_ID_HI_OFF : Nat := 0xB0034
def SPLICE_EXPECT_ID_HI_UID : Field := ⟨SPLICE_EXPECT_ID_HI_OFF, 0, 32⟩
/-- SPLICE_EXPECT_ZONE, 13_twin_operation. -/
def SPLICE_EXPECT_ZONE_OFF : Nat := 0xB0038
def SPLICE_EXPECT_ZONE_HASH : Field := ⟨SPLICE_EXPECT_ZONE_OFF, 0, 32⟩
/-- SPLICE_MIRROR, 13_twin_operation. -/
def SPLICE_MIRROR_OFF : Nat := 0xB003C
def SPLICE_MIRROR_DIFF_FRAMES : Field := ⟨SPLICE_MIRROR_OFF, 16, 16⟩
def SPLICE_MIRROR_LATE_COMMITS : Field := ⟨SPLICE_MIRROR_OFF, 0, 16⟩
/-- SPLICE_MIRROR_FRAME, 13_twin_operation. -/
def SPLICE_MIRROR_FRAME_OFF : Nat := 0xB0040
def SPLICE_MIRROR_FRAME_FRAME : Field := ⟨SPLICE_MIRROR_FRAME_OFF, 0, 32⟩
/-- SPLICE_TICK_ERR, 13_twin_operation. -/
def SPLICE_TICK_ERR_OFF : Nat := 0xB0044
def SPLICE_TICK_ERR_CHECK : Field := ⟨SPLICE_TICK_ERR_OFF, 16, 16⟩
def SPLICE_TICK_ERR_ABORTED : Field := ⟨SPLICE_TICK_ERR_OFF, 0, 16⟩
/-- SPLICE_LINK_DELAY, 13_twin_operation. -/
def SPLICE_LINK_DELAY_OFF : Nat := 0xB0048
def SPLICE_LINK_DELAY_NS : Field := ⟨SPLICE_LINK_DELAY_OFF, 0, 16⟩
/-- SPLICE_LANE_CLEAR, 13_twin_operation. -/
def SPLICE_LANE_CLEAR_OFF : Nat := 0xB004C
def SPLICE_LANE_CLEAR_CLEAR : Field := ⟨SPLICE_LANE_CLEAR_OFF, 0, 2⟩
/-- SPLICE_PEER_HEAD, 13_twin_operation. -/
def SPLICE_PEER_HEAD_OFF (n : Nat) : Nat := 0xB0400 + 0x4 * n
def SPLICE_PEER_HEAD_HEAD (n : Nat) : Field := ⟨SPLICE_PEER_HEAD_OFF n, 0, 32⟩
/-- KEEPER_STATUS, 14_fault_handling. -/
def KEEPER_STATUS_OFF : Nat := 0x10000
def KEEPER_STATUS_FATAL : Field := ⟨KEEPER_STATUS_OFF, 31, 1⟩
def KEEPER_STATUS_ERR : Field := ⟨KEEPER_STATUS_OFF, 30, 1⟩
def KEEPER_STATUS_ERR_SRC : Field := ⟨KEEPER_STATUS_OFF, 26, 4⟩
def KEEPER_STATUS_OPEN_COUNT : Field := ⟨KEEPER_STATUS_OFF, 16, 6⟩
def KEEPER_STATUS_FATAL_CODE : Field := ⟨KEEPER_STATUS_OFF, 0, 16⟩
/-- KEEPER_COUNTS, 14_fault_handling. -/
def KEEPER_COUNTS_OFF : Nat := 0x10004
def KEEPER_COUNTS_CE : Field := ⟨KEEPER_COUNTS_OFF, 16, 16⟩
def KEEPER_COUNTS_CC : Field := ⟨KEEPER_COUNTS_OFF, 8, 8⟩
def KEEPER_COUNTS_FT : Field := ⟨KEEPER_COUNTS_OFF, 0, 8⟩
/-- KEEPER_LOST, 14_fault_handling. -/
def KEEPER_LOST_OFF : Nat := 0x10008
def KEEPER_LOST_COUNT : Field := ⟨KEEPER_LOST_OFF, 16, 16⟩
def KEEPER_LOST_CLASS : Field := ⟨KEEPER_LOST_OFF, 0, 3⟩
/-- KEEPER_SEQ, 14_fault_handling. -/
def KEEPER_SEQ_OFF : Nat := 0x1000C
def KEEPER_SEQ_NEXT : Field := ⟨KEEPER_SEQ_OFF, 0, 32⟩
/-- KEEPER_IRQ_MASK, 14_fault_handling. -/
def KEEPER_IRQ_MASK_OFF : Nat := 0x10010
def KEEPER_IRQ_MASK_CLASS : Field := ⟨KEEPER_IRQ_MASK_OFF, 0, 3⟩
/-- KEEPER_CLEAR, 14_fault_handling. -/
def KEEPER_CLEAR_OFF : Nat := 0x10014
def KEEPER_CLEAR_ALL : Field := ⟨KEEPER_CLEAR_OFF, 31, 1⟩
def KEEPER_CLEAR_BIT : Field := ⟨KEEPER_CLEAR_OFF, 0, 6⟩
/-- KEEPER_CLEAR_STATUS, 14_fault_handling. -/
def KEEPER_CLEAR_STATUS_OFF : Nat := 0x10018
def KEEPER_CLEAR_STATUS_DONE : Field := ⟨KEEPER_CLEAR_STATUS_OFF, 31, 1⟩
def KEEPER_CLEAR_STATUS_REFUSED : Field := ⟨KEEPER_CLEAR_STATUS_OFF, 30, 1⟩
def KEEPER_CLEAR_STATUS_BIT : Field := ⟨KEEPER_CLEAR_STATUS_OFF, 0, 6⟩
/-- KEEPER_OPEN_LO, 14_fault_handling. -/
def KEEPER_OPEN_LO_OFF : Nat := 0x1001C
def KEEPER_OPEN_LO_OPEN : Field := ⟨KEEPER_OPEN_LO_OFF, 0, 32⟩
/-- KEEPER_OPEN_HI, 14_fault_handling. -/
def KEEPER_OPEN_HI_OFF : Nat := 0x10020
def KEEPER_OPEN_HI_OPEN : Field := ⟨KEEPER_OPEN_HI_OFF, 0, 8⟩
/-- KEEPER_HIST_INDEX, 14_fault_handling. -/
def KEEPER_HIST_INDEX_OFF : Nat := 0x10024
def KEEPER_HIST_INDEX_READY : Field := ⟨KEEPER_HIST_INDEX_OFF, 31, 1⟩
def KEEPER_HIST_INDEX_SLOT : Field := ⟨KEEPER_HIST_INDEX_OFF, 0, 5⟩
/-- KEEPER_HIST_DATA, 14_fault_handling. -/
def KEEPER_HIST_DATA_OFF (n : Nat) : Nat := 0x10028 + 0x4 * n
def KEEPER_HIST_DATA_WORD (n : Nat) : Field := ⟨KEEPER_HIST_DATA_OFF n, 0, 32⟩
/-- KEEPER_PREV_FATAL, 14_fault_handling. -/
def KEEPER_PREV_FATAL_OFF : Nat := 0x10048
def KEEPER_PREV_FATAL_VALID : Field := ⟨KEEPER_PREV_FATAL_OFF, 31, 1⟩
def KEEPER_PREV_FATAL_CODE : Field := ⟨KEEPER_PREV_FATAL_OFF, 0, 16⟩
/-- KEEPER_PREV_HOURS, 14_fault_handling. -/
def KEEPER_PREV_HOURS_OFF : Nat := 0x1004C
def KEEPER_PREV_HOURS_HOURS : Field := ⟨KEEPER_PREV_HOURS_OFF, 0, 20⟩
/-- KEEPER_INJ_CTRL, 14_fault_handling. -/
def KEEPER_INJ_CTRL_OFF : Nat := 0x10100
def KEEPER_INJ_CTRL_GO : Field := ⟨KEEPER_INJ_CTRL_OFF, 31, 1⟩
def KEEPER_INJ_CTRL_STOP : Field := ⟨KEEPER_INJ_CTRL_OFF, 30, 1⟩
def KEEPER_INJ_CTRL_REACT : Field := ⟨KEEPER_INJ_CTRL_OFF, 29, 1⟩
def KEEPER_INJ_CTRL_CODE : Field := ⟨KEEPER_INJ_CTRL_OFF, 0, 16⟩
/-- KEEPER_INJ_SUBJECT, 14_fault_handling. -/
def KEEPER_INJ_SUBJECT_OFF : Nat := 0x10104
def KEEPER_INJ_SUBJECT_SUBJECT : Field := ⟨KEEPER_INJ_SUBJECT_OFF, 0, 32⟩
/-- KEEPER_INJ_HOLD, 14_fault_handling. -/
def KEEPER_INJ_HOLD_OFF : Nat := 0x10108
def KEEPER_INJ_HOLD_US : Field := ⟨KEEPER_INJ_HOLD_OFF, 0, 24⟩
/-- KEEPER_INJ_STATUS, 14_fault_handling. -/
def KEEPER_INJ_STATUS_OFF : Nat := 0x1010C
def KEEPER_INJ_STATUS_ACTIVE : Field := ⟨KEEPER_INJ_STATUS_OFF, 31, 1⟩
def KEEPER_INJ_STATUS_SUSPENDED : Field := ⟨KEEPER_INJ_STATUS_OFF, 30, 1⟩
def KEEPER_INJ_STATUS_OWNER : Field := ⟨KEEPER_INJ_STATUS_OFF, 24, 4⟩
def KEEPER_INJ_STATUS_REJ_CODE : Field := ⟨KEEPER_INJ_STATUS_OFF, 16, 4⟩
def KEEPER_INJ_STATUS_DENIED : Field := ⟨KEEPER_INJ_STATUS_OFF, 8, 8⟩
def KEEPER_INJ_STATUS_GUARD_TESTS : Field := ⟨KEEPER_INJ_STATUS_OFF, 0, 8⟩
/-- HOUSE_STATE, 15_power_modes_boot. -/
def HOUSE_STATE_OFF : Nat := 0x00000
def HOUSE_STATE_TARGET : Field := ⟨HOUSE_STATE_OFF, 24, 4⟩
def HOUSE_STATE_CHANGING : Field := ⟨HOUSE_STATE_OFF, 23, 1⟩
def HOUSE_STATE_CAUSE : Field := ⟨HOUSE_STATE_OFF, 8, 8⟩
def HOUSE_STATE_PREV : Field := ⟨HOUSE_STATE_OFF, 4, 4⟩
def HOUSE_STATE_STATE : Field := ⟨HOUSE_STATE_OFF, 0, 4⟩
/-- HOUSE_START, 15_power_modes_boot. -/
def HOUSE_START_OFF : Nat := 0x00004
def HOUSE_START_HELD : Field := ⟨HOUSE_START_OFF, 31, 1⟩
def HOUSE_START_KIND : Field := ⟨HOUSE_START_OFF, 24, 4⟩
def HOUSE_START_SOURCE : Field := ⟨HOUSE_START_OFF, 20, 4⟩
def HOUSE_START_ATTEMPTS : Field := ⟨HOUSE_START_OFF, 16, 4⟩
def HOUSE_START_FAIL_STAGE : Field := ⟨HOUSE_START_OFF, 12, 4⟩
/-- HOUSE_BOOT, 15_power_modes_boot. -/
def HOUSE_BOOT_OFF : Nat := 0x00008
def HOUSE_BOOT_SLOT : Field := ⟨HOUSE_BOOT_OFF, 30, 2⟩
def HOUSE_BOOT_CAL_SLOT : Field := ⟨HOUSE_BOOT_OFF, 28, 2⟩
def HOUSE_BOOT_BOOT_SEL : Field := ⟨HOUSE_BOOT_OFF, 26, 2⟩
def HOUSE_BOOT_ADDR_SEL : Field := ⟨HOUSE_BOOT_OFF, 24, 2⟩
def HOUSE_BOOT_SLOT1_RESULT : Field := ⟨HOUSE_BOOT_OFF, 20, 4⟩
def HOUSE_BOOT_SLOT0_RESULT : Field := ⟨HOUSE_BOOT_OFF, 16, 4⟩
def HOUSE_BOOT_HALT : Field := ⟨HOUSE_BOOT_OFF, 15, 1⟩
/-- HOUSE_CFG_CHECK, 15_power_modes_boot. -/
def HOUSE_CFG_CHECK_OFF : Nat := 0x0000C
def HOUSE_CFG_CHECK_WHERE : Field := ⟨HOUSE_CFG_CHECK_OFF, 16, 16⟩
def HOUSE_CFG_CHECK_CODE : Field := ⟨HOUSE_CFG_CHECK_OFF, 0, 4⟩
/-- HOUSE_STOP, 15_power_modes_boot. -/
def HOUSE_STOP_OFF : Nat := 0x00010
def HOUSE_STOP_REFUSED : Field := ⟨HOUSE_STOP_OFF, 31, 1⟩
def HOUSE_STOP_ISLAND : Field := ⟨HOUSE_STOP_OFF, 24, 4⟩
def HOUSE_STOP_COUNT : Field := ⟨HOUSE_STOP_OFF, 0, 16⟩
/-- HOUSE_OVERLAY, 15_power_modes_boot. -/
def HOUSE_OVERLAY_OFF : Nat := 0x00014
def HOUSE_OVERLAY_MODE : Field := ⟨HOUSE_OVERLAY_OFF, 28, 4⟩
def HOUSE_OVERLAY_WRITTEN : Field := ⟨HOUSE_OVERLAY_OFF, 16, 9⟩
def HOUSE_OVERLAY_SKIPPED : Field := ⟨HOUSE_OVERLAY_OFF, 0, 9⟩
/-- HOUSE_HOURS, 15_power_modes_boot. -/
def HOUSE_HOURS_OFF : Nat := 0x00018
def HOUSE_HOURS_HOURS : Field := ⟨HOUSE_HOURS_OFF, 0, 20⟩
/-- HOUSE_FW, 15_power_modes_boot. -/
def HOUSE_FW_OFF : Nat := 0x0001C
def HOUSE_FW_VERSION : Field := ⟨HOUSE_FW_OFF, 0, 24⟩
/-- FUSE_STATUS, 15_power_modes_boot. -/
def FUSE_STATUS_OFF : Nat := 0xF0000
def FUSE_STATUS_LOADED : Field := ⟨FUSE_STATUS_OFF, 31, 1⟩
def FUSE_STATUS_CORRUPT : Field := ⟨FUSE_STATUS_OFF, 30, 1⟩
def FUSE_STATUS_CORRECTED : Field := ⟨FUSE_STATUS_OFF, 0, 16⟩
/-- FUSE_UID_LO, 15_power_modes_boot. -/
def FUSE_UID_LO_OFF : Nat := 0xF0004
def FUSE_UID_LO_UID : Field := ⟨FUSE_UID_LO_OFF, 0, 32⟩
/-- FUSE_UID_HI, 15_power_modes_boot. -/
def FUSE_UID_HI_OFF : Nat := 0xF0008
def FUSE_UID_HI_UID : Field := ⟨FUSE_UID_HI_OFF, 0, 32⟩
/-- FUSE_ORDER, 15_power_modes_boot. -/
def FUSE_ORDER_OFF : Nat := 0xF000C
def FUSE_ORDER_ORDER : Field := ⟨FUSE_ORDER_OFF, 0, 1⟩
/-- FUSE_KEYHASH, 15_power_modes_boot. -/
def FUSE_KEYHASH_OFF (n : Nat) : Nat := 0xF0010 + 0x4 * n
def FUSE_KEYHASH_HASH (n : Nat) : Field := ⟨FUSE_KEYHASH_OFF n, 0, 32⟩
/-- FUSE_MAC, 15_power_modes_boot. -/
def FUSE_MAC_OFF (n : Nat) : Nat := 0xF0030 + 0x4 * n
def FUSE_MAC_ADDR (n : Nat) : Field := ⟨FUSE_MAC_OFF n, 0, 32⟩
/-- MSIX_ADDR_LO, 09_host_rings. -/
def MSIX_ADDR_LO_OFF (n : Nat) : Nat := 0x28000 + 0x10 * n
def MSIX_ADDR_LO_ADDR (n : Nat) : Field := ⟨MSIX_ADDR_LO_OFF n, 0, 32⟩
/-- MSIX_ADDR_HI, 09_host_rings. -/
def MSIX_ADDR_HI_OFF (n : Nat) : Nat := 0x28004 + 0x10 * n
def MSIX_ADDR_HI_ADDR (n : Nat) : Field := ⟨MSIX_ADDR_HI_OFF n, 0, 32⟩
/-- MSIX_DATA, 09_host_rings. -/
def MSIX_DATA_OFF (n : Nat) : Nat := 0x28008 + 0x10 * n
def MSIX_DATA_DATA (n : Nat) : Field := ⟨MSIX_DATA_OFF n, 0, 32⟩
/-- MSIX_CTRL, 09_host_rings. -/
def MSIX_CTRL_OFF (n : Nat) : Nat := 0x2800C + 0x10 * n
def MSIX_CTRL_MASK (n : Nat) : Field := ⟨MSIX_CTRL_OFF n, 0, 1⟩
/-- MSIX_PBA, 09_host_rings. -/
def MSIX_PBA_OFF (n : Nat) : Nat := 0x29000 + 0x4 * n
def MSIX_PBA_PEND (n : Nat) : Field := ⟨MSIX_PBA_OFF n, 0, 32⟩

end Reg

/-- Register tables of chapter 02_frame_timing. -/
def regTable02_0 : List RegDef := [
  /- STRIKE_RATE -/ ⟨0x70000, 1, 4, 1, 4,
    [⟨4, 1, .rw, 0, .config⟩, ⟨0, 2, .rw, 0, .config⟩]⟩,
  /- STRIKE_SYNC_CTRL -/ ⟨0x70004, 1, 4, 1, 4,
    [⟨20, 12, .rw, 0, .config⟩, ⟨8, 5, .rw, 0, .config⟩, ⟨3, 1, .rw, 0, .config⟩, ⟨2, 1, .rw, 0, .config⟩, ⟨0, 2, .rw, 0, .config⟩]⟩,
  /- STRIKE_SYNC_PHASE -/ ⟨0x70008, 1, 4, 1, 4,
    [⟨0, 32, .rw, 0, .config⟩]⟩,
  /- STRIKE_COMMIT -/ ⟨0x7000C, 1, 4, 1, 4,
    [⟨0, 1, .wo, 0, .cold⟩]⟩,
  /- STRIKE_SYNC_STATUS -/ ⟨0x70010, 1, 4, 1, 4,
    [⟨14, 1, .w1c, 0, .cold⟩, ⟨13, 1, .w1c, 0, .cold⟩, ⟨12, 1, .ro, 0, .cold⟩, ⟨9, 1, .ro, 0, .cold⟩, ⟨8, 1, .ro, 0, .cold⟩, ⟨4, 2, .ro, 0, .cold⟩, ⟨0, 3, .ro, 0, .cold⟩]⟩,
  /- STRIKE_PHASE_ERR -/ ⟨0x70014, 1, 4, 1, 4,
    [⟨0, 32, .ro, 0, .cold⟩]⟩,
  /- STRIKE_PERIOD -/ ⟨0x70018, 1, 4, 1, 4,
    [⟨0, 32, .ro, 0, .cold⟩]⟩,
  /- STRIKE_FRAME_NO -/ ⟨0x7001C, 1, 4, 1, 4,
    [⟨0, 32, .ro, 0, .cold⟩]⟩,
  /- STRIKE_BEAT -/ ⟨0x70020, 1, 4, 1, 4,
    [⟨8, 1, .ro, 0, .cold⟩, ⟨0, 5, .ro, 0, .cold⟩]⟩,
  /- STRIKE_FRAME_LOAD -/ ⟨0x70024, 1, 4, 1, 4,
    [⟨0, 32, .wo, 0, .cold⟩]⟩,
  /- STRIKE_STATUS -/ ⟨0x70028, 1, 4, 1, 4,
    [⟨24, 1, .ro, 0, .cold⟩, ⟨20, 1, .ro, 0, .cold⟩, ⟨16, 3, .ro, 0, .cold⟩, ⟨0, 16, .ro, 0, .cold⟩]⟩,
  /- STRIKE_LATE_CLEAR -/ ⟨0x7002C, 1, 4, 1, 4,
    [⟨0, 1, .wo, 0, .cold⟩]⟩,
  /- STRIKE_TIME_LO -/ ⟨0x70030, 1, 4, 1, 4,
    [⟨0, 32, .ro, 0, .cold⟩]⟩,
  /- STRIKE_TIME_HI -/ ⟨0x70034, 1, 4, 1, 4,
    [⟨0, 32, .ro, 0, .cold⟩]⟩,
  /- STRIKE_TIME_OFFSET -/ ⟨0x70038, 1, 4, 1, 4,
    [⟨0, 32, .wo, 0, .cold⟩]⟩,
  /- STRIKE_TIME_TRIM -/ ⟨0x7003C, 1, 4, 1, 4,
    [⟨0, 32, .rw, 0, .cold⟩]⟩]

/-- Register tables of chapter 03_emission_array. -/
def regTable03_0 : List RegDef := [
  /- STRIKE_BEAT_CTRL -/ ⟨0x70040, 1, 4, 1, 4,
    [⟨0, 1, .rw, 0, .config⟩]⟩,
  /- STRIKE_ROW_ERR -/ ⟨0x70044, 1, 4, 1, 4,
    [⟨16, 16, .ro, 0, .cold⟩, ⟨0, 16, .ro, 0, .cold⟩]⟩,
  /- STRIKE_ROW_ERR_CLEAR -/ ⟨0x70048, 1, 4, 1, 4,
    [⟨0, 1, .wo, 0, .cold⟩]⟩,
  /- STRIKE_QLINK_STATUS -/ ⟨0x7004C, 1, 4, 1, 4,
    [⟨16, 4, .w1c, 0, .cold⟩, ⟨0, 4, .ro, 0, .cold⟩]⟩,
  /- STRIKE_FUSE_STATUS -/ ⟨0x70050, 1, 4, 1, 4,
    [⟨16, 16, .ro, 0, .kept⟩, ⟨0, 16, .ro, 0, .kept⟩]⟩,
  /- STRIKE_FUSE_QUEUE -/ ⟨0x70054, 1, 4, 1, 4,
    [⟨24, 8, .ro, 0, .cold⟩, ⟨16, 8, .ro, 0, .cold⟩, ⟨8, 8, .ro, 0, .cold⟩, ⟨0, 8, .ro, 0, .cold⟩]⟩,
  /- STRIKE_PEEK_CTRL -/ ⟨0x70058, 1, 4, 1, 4,
    [⟨31, 1, .wo, 0, .cold⟩, ⟨30, 1, .rw, 0, .cold⟩, ⟨16, 10, .rw, 0, .cold⟩, ⟨0, 10, .rw, 0, .cold⟩]⟩,
  /- STRIKE_PEEK_STATUS -/ ⟨0x7005C, 1, 4, 1, 4,
    [⟨31, 1, .ro, 0, .cold⟩, ⟨30, 1, .ro, 0, .cold⟩, ⟨16, 4, .ro, 0, .cold⟩]⟩,
  /- STRIKE_PEEK_LO -/ ⟨0x70060, 1, 4, 1, 4,
    [⟨0, 32, .ro, 0, .cold⟩]⟩,
  /- STRIKE_PEEK_HI -/ ⟨0x70064, 1, 4, 1, 4,
    [⟨0, 32, .ro, 0, .cold⟩]⟩,
  /- STRIKE_PEEK_FRAME -/ ⟨0x70068, 1, 4, 1, 4,
    [⟨0, 32, .ro, 0, .cold⟩]⟩,
  /- STRIKE_PATTERN_CTRL -/ ⟨0x7006C, 1, 4, 1, 4,
    [⟨0, 1, .rw, 0, .cold⟩]⟩,
  /- STRIKE_PATTERN_ORIGIN -/ ⟨0x70070, 1, 4, 1, 4,
    [⟨16, 10, .rw, 0, .cold⟩, ⟨0, 10, .rw, 0, .cold⟩]⟩,
  /- STRIKE_PATTERN_END -/ ⟨0x70074, 1, 4, 1, 4,
    [⟨16, 10, .rw, 0, .cold⟩, ⟨0, 10, .rw, 0, .cold⟩]⟩,
  /- STRIKE_PATTERN_LO -/ ⟨0x70078, 1, 4, 1, 4,
    [⟨0, 32, .rw, 0, .cold⟩]⟩,
  /- STRIKE_PATTERN_HI -/ ⟨0x7007C, 1, 4, 1, 4,
    [⟨0, 32, .rw, 0, .cold⟩]⟩,
  /- STRIKE_RSTEP -/ ⟨0x70400, 256, 4, 1, 4,
    [⟨0, 24, .ro, 0, .config⟩]⟩]

/-- Register tables of chapter 04_drive_anode_survey. -/
def regTable04_0 : List RegDef := [
  /- TONE_GREF -/ ⟨0x60800, 4, 4, 1, 4,
    [⟨31, 1, .ro, 1, .cold⟩, ⟨16, 12, .ro, 0, .cold⟩, ⟨0, 12, .ro, 0, .cold⟩]⟩,
  /- TONE_SREF -/ ⟨0x60C00, 256, 4, 1, 4,
    [⟨29, 1, .ro, 0, .cold⟩, ⟨28, 1, .grd, 0, .cold⟩, ⟨16, 10, .grd, 0x3ff, .cold⟩, ⟨0, 10, .ro, 0, .cold⟩]⟩,
  /- ANODE_RESERVE -/ ⟨0x80000, 1, 4, 1, 4,
    [⟨24, 8, .rw, 0, .config⟩, ⟨16, 8, .rw, 0, .config⟩, ⟨8, 8, .rw, 0, .config⟩, ⟨0, 8, .rw, 0, .config⟩]⟩,
  /- ANODE_VF_SLOPE -/ ⟨0x80004, 1, 4, 1, 4,
    [⟨24, 8, .rw, 0, .config⟩, ⟨16, 8, .rw, 0, .config⟩, ⟨8, 8, .rw, 0, .config⟩, ⟨0, 8, .rw, 0, .config⟩]⟩,
  /- ANODE_VWAKE -/ ⟨0x80008, 1, 4, 1, 4,
    [⟨24, 8, .rw, 0, .config⟩, ⟨16, 8, .rw, 0, .config⟩, ⟨8, 8, .rw, 0, .config⟩, ⟨0, 8, .rw, 0, .config⟩]⟩,
  /- ANODE_RAIL_V -/ ⟨0x80010, 4, 4, 1, 4,
    [⟨16, 16, .ro, 0, .cold⟩, ⟨0, 16, .ro, 0, .cold⟩]⟩,
  /- ANODE_RAIL_I -/ ⟨0x80020, 4, 4, 1, 4,
    [⟨16, 16, .ro, 0, .cold⟩, ⟨0, 16, .ro, 0, .cold⟩]⟩,
  /- ANODE_RAIL_STATUS -/ ⟨0x80030, 1, 4, 1, 4,
    [⟨12, 4, .w1c, 0, .cold⟩, ⟨8, 4, .w1c, 0, .cold⟩, ⟨4, 4, .ro, 0, .cold⟩, ⟨0, 4, .ro, 0, .cold⟩]⟩,
  /- ANODE_MEAS_CTRL -/ ⟨0x80034, 1, 4, 1, 4,
    [⟨0, 1, .rw, 0, .cold⟩]⟩,
  /- ANODE_MEAS_FRAME -/ ⟨0x80038, 1, 4, 1, 4,
    [⟨0, 32, .ro, 0, .cold⟩]⟩,
  /- ANODE_IN_VI -/ ⟨0x80040, 1, 4, 1, 4,
    [⟨16, 16, .ro, 0, .cold⟩, ⟨0, 16, .ro, 0, .cold⟩]⟩,
  /- ANODE_IN_P -/ ⟨0x80044, 1, 4, 1, 4,
    [⟨16, 16, .ro, 0, .cold⟩, ⟨0, 16, .ro, 0, .cold⟩]⟩,
  /- ANODE_HEAD -/ ⟨0x80080, 16, 4, 1, 4,
    [⟨24, 8, .ro, 0xff, .cold⟩, ⟨16, 8, .ro, 0xff, .cold⟩, ⟨8, 8, .ro, 0xff, .cold⟩, ⟨0, 8, .ro, 0xff, .cold⟩]⟩,
  /- ANODE_TEMP -/ ⟨0x80100, 45, 4, 1, 4,
    [⟨0, 16, .ro, 0x8000, .cold⟩]⟩,
  /- ANODE_TLIM -/ ⟨0x80200, 4, 4, 1, 4,
    [⟨16, 8, .rw, 0, .config⟩, ⟨8, 8, .rw, 0, .config⟩, ⟨0, 8, .rw, 0, .config⟩]⟩,
  /- ANODE_SECI -/ ⟨0x81000, 128, 4, 1, 4,
    [⟨16, 16, .ro, 0, .cold⟩, ⟨0, 16, .ro, 0, .cold⟩]⟩,
  /- STRIKE_SURVEY_CTRL -/ ⟨0x70080, 1, 4, 1, 4,
    [⟨0, 2, .rw, 0, .config⟩]⟩,
  /- STRIKE_SURVEY_STATUS -/ ⟨0x70084, 1, 4, 1, 4,
    [⟨16, 1, .w1c, 0, .cold⟩, ⟨15, 1, .ro, 0, .cold⟩, ⟨0, 7, .ro, 0, .cold⟩]⟩,
  /- STRIKE_SURVEY_COUNTS -/ ⟨0x70088, 1, 4, 1, 4,
    [⟨16, 16, .ro, 0, .cold⟩, ⟨0, 16, .ro, 0, .cold⟩]⟩,
  /- STRIKE_SURVEY_SWEEPS -/ ⟨0x7008C, 1, 4, 1, 4,
    [⟨0, 32, .ro, 0, .cold⟩]⟩,
  /- STRIKE_DEFECT_COUNT -/ ⟨0x70090, 1, 4, 1, 4,
    [⟨16, 16, .ro, 0, .cold⟩, ⟨15, 1, .ro, 0, .cold⟩, ⟨0, 15, .ro, 0, .cold⟩]⟩,
  /- STRIKE_DEFECT_INDEX -/ ⟨0x70094, 1, 4, 1, 4,
    [⟨31, 1, .ro, 0, .cold⟩, ⟨0, 14, .rw, 0, .cold⟩]⟩,
  /- STRIKE_DEFECT_DATA -/ ⟨0x70098, 4, 4, 1, 4,
    [⟨0, 32, .ro, 0, .cold⟩]⟩]

/-- Register tables of chapter 05_tone_pipeline. -/
def regTable05_0 : List RegDef := [
  /- TONE_CTRL -/ ⟨0x60000, 1, 4, 1, 4,
    [⟨28, 1, .rw, 0, .config⟩, ⟨24, 4, .rw, 0, .config⟩, ⟨16, 8, .rw, 0, .config⟩, ⟨12, 2, .rw, 0, .config⟩, ⟨8, 2, .rw, 0, .config⟩, ⟨4, 1, .rw, 0, .config⟩, ⟨0, 2, .rw, 0, .config⟩]⟩,
  /- TONE_PQ -/ ⟨0x60004, 1, 4, 1, 4,
    [⟨0, 16, .rw, 0, .config⟩]⟩,
  /- TONE_CONCEAL -/ ⟨0x60008, 1, 4, 1, 4,
    [⟨0, 9, .rw, 0, .config⟩]⟩,
  /- TONE_COMMIT -/ ⟨0x6000C, 1, 4, 1, 4,
    [⟨0, 1, .wo, 0, .cold⟩]⟩,
  /- TONE_STATUS -/ ⟨0x60010, 1, 4, 1, 4,
    [⟨16, 16, .ro, 0, .cold⟩, ⟨3, 1, .ro, 0, .cold⟩, ⟨2, 1, .w1c, 0, .cold⟩, ⟨0, 1, .ro, 0, .cold⟩]⟩,
  /- TONE_MATRIX -/ ⟨0x60020, 12, 4, 1, 4,
    [⟨0, 18, .rw, 0, .cold⟩]⟩,
  /- TONE_LIME_SUB -/ ⟨0x60050, 3, 4, 1, 4,
    [⟨0, 16, .ro, 0, .config⟩]⟩,
  /- TONE_GOV_BUDGET -/ ⟨0x60100, 1, 4, 1, 4,
    [⟨0, 13, .rw, 0, .config⟩]⟩,
  /- TONE_GOV_SHAPE -/ ⟨0x60104, 1, 4, 1, 4,
    [⟨24, 8, .rw, 0, .config⟩, ⟨16, 8, .rw, 0, .config⟩, ⟨0, 9, .rw, 0, .config⟩]⟩,
  /- TONE_GOV_MODEL -/ ⟨0x60108, 1, 4, 1, 4,
    [⟨16, 16, .rw, 0, .config⟩, ⟨0, 10, .rw, 0, .config⟩]⟩,
  /- TONE_GOV_IMAX -/ ⟨0x6010C, 1, 4, 1, 4,
    [⟨0, 16, .rw, 0, .config⟩]⟩,
  /- TONE_GOV_GNOM -/ ⟨0x60110, 4, 4, 1, 4,
    [⟨0, 12, .ro, 0, .config⟩]⟩,
  /- TONE_GOV_STATUS -/ ⟨0x60120, 1, 4, 1, 4,
    [⟨28, 4, .ro, 0, .cold⟩, ⟨27, 1, .ro, 0, .cold⟩, ⟨26, 1, .w1c, 0, .cold⟩, ⟨24, 2, .ro, 0, .cold⟩, ⟨0, 17, .ro, 0, .cold⟩]⟩,
  /- TONE_GOV_POWER -/ ⟨0x60124, 1, 4, 1, 4,
    [⟨16, 16, .ro, 0, .cold⟩, ⟨0, 16, .ro, 0, .cold⟩]⟩,
  /- TONE_GOV_I -/ ⟨0x60128, 4, 4, 1, 4,
    [⟨0, 16, .ro, 0, .cold⟩]⟩,
  /- TONE_GOV_DERATE -/ ⟨0x60138, 1, 4, 1, 4,
    [⟨16, 10, .ro, 0, .config⟩, ⟨0, 11, .ro, 0x400, .cold⟩]⟩,
  /- TONE_WEAR_CTRL -/ ⟨0x60200, 1, 4, 1, 4,
    [⟨0, 12, .rw, 0, .config⟩]⟩,
  /- TONE_WEAR_STATUS -/ ⟨0x60204, 1, 4, 1, 4,
    [⟨16, 16, .ro, 0, .cold⟩, ⟨8, 8, .ro, 0, .cold⟩, ⟨1, 1, .w1c, 0, .cold⟩, ⟨0, 1, .ro, 0, .cold⟩]⟩,
  /- TONE_CAL_STATUS -/ ⟨0x60300, 1, 4, 1, 4,
    [⟨16, 16, .ro, 0, .cold⟩, ⟨8, 4, .ro, 0, .cold⟩, ⟨4, 4, .ro, 0, .cold⟩, ⟨0, 1, .ro, 0, .cold⟩]⟩]

/-- Register tables of chapter 06_braid_compositor. -/
def regTable06_0 : List RegDef := [
  /- BRAID_LAYER_COMMIT -/ ⟨0x40000, 1, 4, 1, 4,
    [⟨0, 15, .wo, 0, .cold⟩]⟩,
  /- BRAID_STATUS -/ ⟨0x40004, 1, 4, 1, 4,
    [⟨16, 4, .ro, 0, .cold⟩, ⟨8, 4, .ro, 0, .cold⟩, ⟨2, 1, .w1c, 0, .cold⟩, ⟨1, 1, .w1c, 0, .cold⟩, ⟨0, 1, .ro, 0, .cold⟩]⟩,
  /- BRAID_BW_ADMIT -/ ⟨0x40008, 1, 4, 1, 4,
    [⟨16, 16, .ro, 0, .cold⟩, ⟨0, 16, .ro, 0, .cold⟩]⟩,
  /- BRAID_BW_MEAS -/ ⟨0x4000C, 1, 4, 1, 4,
    [⟨0, 16, .ro, 0, .cold⟩]⟩,
  /- BRAID_PROT_STATUS -/ ⟨0x40010, 1, 4, 1, 4,
    [⟨31, 1, .ro, 0, .cold⟩, ⟨30, 1, .ro, 0, .cold⟩, ⟨29, 1, .ro, 0, .cold⟩, ⟨28, 1, .ro, 0, .cold⟩, ⟨24, 1, .ro, 0, .cold⟩, ⟨0, 8, .ro, 0, .cold⟩]⟩,
  /- BRAID_PROT_TARGET -/ ⟨0x40014, 1, 4, 1, 4,
    [⟨0, 32, .ro, 0, .cold⟩]⟩,
  /- BRAID_PROT_COUNTS -/ ⟨0x40018, 1, 4, 1, 4,
    [⟨16, 16, .ro, 0, .cold⟩, ⟨0, 16, .ro, 0, .cold⟩]⟩,
  /- BRAID_PROT_INDEX -/ ⟨0x4001C, 1, 4, 1, 4,
    [⟨31, 1, .ro, 0, .cold⟩, ⟨0, 17, .rw, 0, .cold⟩]⟩,
  /- BRAID_PROT_DATA -/ ⟨0x40020, 1, 4, 1, 4,
    [⟨0, 32, .ro, 0, .cold⟩]⟩,
  /- BRAID_LAYER_SRC -/ ⟨0x40100, 15, 64, 1, 4,
    [⟨31, 1, .rw, 0, .cold⟩, ⟨24, 4, .rw, 0, .cold⟩, ⟨16, 3, .rw, 0, .cold⟩, ⟨12, 2, .rw, 0, .cold⟩, ⟨8, 2, .rw, 0, .cold⟩, ⟨4, 2, .rw, 0, .cold⟩, ⟨0, 2, .rw, 0, .cold⟩]⟩,
  /- BRAID_LAYER_BASE_LO -/ ⟨0x40104, 15, 64, 1, 4,
    [⟨8, 24, .rw, 0, .cold⟩]⟩,
  /- BRAID_LAYER_BASE_HI -/ ⟨0x40108, 15, 64, 1, 4,
    [⟨0, 1, .rw, 0, .cold⟩]⟩,
  /- BRAID_LAYER_STRIDE -/ ⟨0x4010C, 15, 64, 1, 4,
    [⟨0, 20, .rw, 0, .cold⟩]⟩,
  /- BRAID_LAYER_SRC_SIZE -/ ⟨0x40110, 15, 64, 1, 4,
    [⟨16, 14, .rw, 0, .cold⟩, ⟨0, 14, .rw, 0, .cold⟩]⟩,
  /- BRAID_LAYER_CROP_POS -/ ⟨0x40114, 15, 64, 1, 4,
    [⟨16, 14, .rw, 0, .cold⟩, ⟨0, 14, .rw, 0, .cold⟩]⟩,
  /- BRAID_LAYER_CROP_SIZE -/ ⟨0x40118, 15, 64, 1, 4,
    [⟨16, 14, .rw, 0, .cold⟩, ⟨0, 14, .rw, 0, .cold⟩]⟩,
  /- BRAID_LAYER_DST -/ ⟨0x4011C, 15, 64, 1, 4,
    [⟨16, 16, .rw, 0, .cold⟩, ⟨0, 16, .rw, 0, .cold⟩]⟩,
  /- BRAID_LAYER_OUT_SIZE -/ ⟨0x40120, 15, 64, 1, 4,
    [⟨16, 14, .rw, 0, .cold⟩, ⟨0, 14, .rw, 0, .cold⟩]⟩,
  /- BRAID_LAYER_ALPHA -/ ⟨0x40124, 15, 64, 1, 4,
    [⟨24, 8, .rw, 0, .cold⟩, ⟨0, 16, .rw, 0xffff, .cold⟩]⟩,
  /- BRAID_LAYER_STATUS -/ ⟨0x40128, 15, 64, 1, 4,
    [⟨24, 8, .ro, 0, .cold⟩, ⟨4, 1, .w1c, 0, .cold⟩, ⟨3, 1, .w1c, 0, .cold⟩, ⟨2, 1, .ro, 0, .cold⟩, ⟨1, 1, .ro, 0, .cold⟩, ⟨0, 1, .ro, 0, .cold⟩]⟩,
  /- BRAID_LAYER_BYTES -/ ⟨0x4012C, 15, 64, 1, 4,
    [⟨0, 32, .ro, 0, .cold⟩]⟩,
  /- BRAID_LAYER_MEAS -/ ⟨0x40130, 15, 64, 1, 4,
    [⟨0, 32, .ro, 0, .cold⟩]⟩,
  /- GUARD_B_SIG_FRAME -/ ⟨0xA3F00, 1, 4, 1, 4,
    [⟨0, 32, .ro, 0, .cold⟩]⟩,
  /- GUARD_B_SIG_COUNTS -/ ⟨0xA3F04, 1, 4, 1, 4,
    [⟨16, 16, .ro, 0, .cold⟩, ⟨0, 16, .ro, 0, .cold⟩]⟩,
  /- GUARD_B_SIG_BANDS -/ ⟨0xA3F08, 1, 4, 1, 4,
    [⟨0, 16, .ro, 0, .cold⟩]⟩,
  /- GUARD_B_REGION_RECT -/ ⟨0xA4000, 256, 16, 1, 4,
    [⟨30, 2, .ro, 0, .config⟩, ⟨29, 1, .ro, 0, .config⟩, ⟨28, 1, .ro, 0, .config⟩, ⟨22, 6, .ro, 0, .config⟩, ⟨16, 6, .ro, 0, .config⟩, ⟨8, 7, .ro, 0, .config⟩, ⟨0, 7, .ro, 0, .config⟩]⟩,
  /- GUARD_B_REGION_EXPECT -/ ⟨0xA4004, 256, 16, 1, 4,
    [⟨0, 32, .ro, 0, .config⟩]⟩,
  /- GUARD_B_REGION_LAST -/ ⟨0xA4008, 256, 16, 1, 4,
    [⟨0, 32, .ro, 0, .cold⟩]⟩,
  /- GUARD_B_REGION_COUNT -/ ⟨0xA400C, 256, 16, 1, 4,
    [⟨16, 16, .ro, 0, .kept⟩, ⟨0, 2, .ro, 3, .cold⟩]⟩]

/-- Register tables of chapter 07_warp_scalers. -/
def regTable07_0 : List RegDef := [
  /- WARP_MESH_SELECT -/ ⟨0x50000, 1, 4, 1, 4,
    [⟨0, 2, .rw, 0, .config⟩]⟩,
  /- WARP_MESH_STATUS -/ ⟨0x50004, 1, 4, 1, 4,
    [⟨31, 1, .w1c, 0, .cold⟩, ⟨30, 1, .w1c, 0, .cold⟩, ⟨24, 2, .ro, 0, .cold⟩, ⟨23, 1, .ro, 0, .cold⟩, ⟨16, 4, .ro, 0, .cold⟩, ⟨12, 2, .ro, 0, .cold⟩, ⟨11, 1, .ro, 0, .cold⟩, ⟨8, 2, .ro, 0, .config⟩, ⟨0, 2, .ro, 0, .config⟩]⟩,
  /- WARP_MESH_TARGET -/ ⟨0x50008, 1, 4, 1, 4,
    [⟨0, 32, .ro, 0, .cold⟩]⟩,
  /- WARP_LOAD_WHERE -/ ⟨0x5000C, 1, 4, 1, 4,
    [⟨0, 16, .ro, 0, .cold⟩]⟩,
  /- WARP_BANK_INFO -/ ⟨0x50010, 2, 4, 1, 4,
    [⟨21, 11, .ro, 0, .cold⟩, ⟨20, 1, .ro, 0, .cold⟩, ⟨0, 16, .ro, 0, .cold⟩]⟩,
  /- WARP_BANK_SUM -/ ⟨0x50018, 2, 4, 1, 4,
    [⟨0, 32, .ro, 0, .cold⟩]⟩,
  /- WARP_FOOT_STATUS -/ ⟨0x50020, 1, 4, 1, 4,
    [⟨16, 16, .ro, 0, .cold⟩, ⟨0, 12, .ro, 0, .cold⟩]⟩,
  /- WARP_SC_CTRL -/ ⟨0x50100, 2, 64, 1, 4,
    [⟨4, 2, .rw, 2, .cold⟩, ⟨0, 2, .rw, 2, .cold⟩]⟩,
  /- WARP_SC_STATUS -/ ⟨0x50104, 2, 64, 1, 4,
    [⟨31, 1, .ro, 0, .cold⟩, ⟨24, 4, .ro, 0, .cold⟩, ⟨18, 1, .w1c, 0, .cold⟩, ⟨17, 1, .ro, 0, .cold⟩, ⟨16, 1, .ro, 0, .cold⟩, ⟨0, 14, .ro, 0, .cold⟩]⟩,
  /- WARP_SC_HCOEF -/ ⟨0x51000, 2, 2048, 256, 4,
    [⟨16, 16, .rw, 0, .cold⟩, ⟨0, 16, .rw, 0, .cold⟩]⟩,
  /- WARP_SC_VCOEF -/ ⟨0x51400, 2, 2048, 128, 4,
    [⟨16, 16, .rw, 0, .cold⟩, ⟨0, 16, .rw, 0, .cold⟩]⟩]

/-- Register tables of chapter 08_hawser_lanes. -/
def regTable08_0 : List RegDef := [
  /- INTAKE_CTRL -/ ⟨0x30000, 1, 4, 1, 4,
    [⟨16, 8, .rw, 0, .config⟩, ⟨8, 8, .rw, 0, .config⟩, ⟨0, 1, .rw, 0, .config⟩]⟩,
  /- INTAKE_STATUS -/ ⟨0x30004, 1, 4, 1, 4,
    [⟨24, 4, .ro, 0, .cold⟩, ⟨20, 3, .ro, 0, .cold⟩, ⟨16, 1, .w1c, 0, .cold⟩, ⟨8, 8, .ro, 0, .cold⟩, ⟨0, 8, .ro, 0, .cold⟩]⟩,
  /- INTAKE_EYE_CTRL -/ ⟨0x30080, 1, 4, 1, 4,
    [⟨31, 1, .wo, 0, .cold⟩, ⟨24, 4, .rw, 0, .cold⟩, ⟨16, 6, .rw, 0, .cold⟩, ⟨8, 8, .rw, 0, .cold⟩, ⟨0, 4, .rw, 0, .cold⟩]⟩,
  /- INTAKE_EYE_STATUS -/ ⟨0x30084, 1, 4, 1, 4,
    [⟨31, 1, .ro, 0, .cold⟩, ⟨30, 1, .ro, 0, .cold⟩, ⟨29, 1, .ro, 0, .cold⟩]⟩,
  /- INTAKE_EYE_ERR -/ ⟨0x30088, 1, 4, 1, 4,
    [⟨0, 32, .ro, 0, .cold⟩]⟩,
  /- INTAKE_LANE_PWR -/ ⟨0x30100, 8, 64, 1, 4,
    [⟨8, 2, .ro, 2, .cold⟩, ⟨0, 2, .rw, 0, .config⟩]⟩,
  /- INTAKE_LANE_STATUS -/ ⟨0x30104, 8, 64, 1, 4,
    [⟨24, 8, .ro, 0, .cold⟩, ⟨19, 1, .w1c, 0, .cold⟩, ⟨18, 1, .w1c, 0, .cold⟩, ⟨17, 1, .w1c, 0, .cold⟩, ⟨16, 1, .w1c, 0, .cold⟩, ⟨8, 4, .ro, 0xf, .cold⟩, ⟨0, 3, .ro, 0, .cold⟩]⟩,
  /- SPLICE_LANE_STATUS -/ ⟨0xB0104, 2, 64, 1, 4,
    [⟨24, 8, .ro, 0, .cold⟩, ⟨19, 1, .w1c, 0, .cold⟩, ⟨18, 1, .w1c, 0, .cold⟩, ⟨17, 1, .w1c, 0, .cold⟩, ⟨16, 1, .w1c, 0, .cold⟩, ⟨8, 4, .ro, 0xf, .cold⟩, ⟨0, 3, .ro, 0, .cold⟩]⟩,
  /- INTAKE_LANE_CHAN -/ ⟨0x30108, 8, 64, 1, 4,
    [⟨31, 1, .ro, 0, .cold⟩, ⟨16, 12, .ro, 0, .cold⟩, ⟨0, 12, .ro, 0, .cold⟩]⟩,
  /- SPLICE_LANE_CHAN -/ ⟨0xB0108, 2, 64, 1, 4,
    [⟨31, 1, .ro, 0, .cold⟩, ⟨16, 12, .ro, 0, .cold⟩, ⟨0, 12, .ro, 0, .cold⟩]⟩,
  /- INTAKE_LANE_EYE -/ ⟨0x3010C, 8, 64, 1, 4,
    [⟨8, 8, .ro, 0, .cold⟩, ⟨0, 8, .ro, 0, .cold⟩]⟩,
  /- SPLICE_LANE_EYE -/ ⟨0xB010C, 2, 64, 1, 4,
    [⟨8, 8, .ro, 0, .cold⟩, ⟨0, 8, .ro, 0, .cold⟩]⟩,
  /- INTAKE_LANE_ERR -/ ⟨0x30110, 8, 64, 1, 4,
    [⟨16, 16, .ro, 0, .cold⟩, ⟨0, 16, .ro, 0, .cold⟩]⟩,
  /- SPLICE_LANE_ERR -/ ⟨0xB0110, 2, 64, 1, 4,
    [⟨16, 16, .ro, 0, .cold⟩, ⟨0, 16, .ro, 0, .cold⟩]⟩,
  /- INTAKE_LANE_ERR_CLEAR -/ ⟨0x30114, 8, 64, 1, 4,
    [⟨0, 1, .wo, 0, .cold⟩]⟩,
  /- INTAKE_STR_CFG -/ ⟨0x30400, 8, 64, 1, 4,
    [⟨31, 1, .rw, 0, .cold⟩, ⟨30, 1, .rw, 0, .cold⟩, ⟨24, 4, .rw, 0, .cold⟩, ⟨16, 8, .rw, 0, .cold⟩, ⟨0, 8, .rw, 0, .cold⟩]⟩,
  /- INTAKE_STR_SIZE -/ ⟨0x30404, 8, 64, 1, 4,
    [⟨16, 14, .rw, 0, .cold⟩, ⟨0, 14, .rw, 0, .cold⟩]⟩,
  /- INTAKE_STR_TIMEOUT -/ ⟨0x30408, 8, 64, 1, 4,
    [⟨0, 10, .rw, 0x64, .cold⟩]⟩,
  /- INTAKE_STR_STATUS -/ ⟨0x3040C, 8, 64, 1, 4,
    [⟨31, 1, .ro, 0, .cold⟩, ⟨28, 3, .ro, 1, .cold⟩, ⟨24, 4, .ro, 0, .cold⟩, ⟨16, 8, .ro, 0, .cold⟩, ⟨0, 16, .ro, 0, .cold⟩]⟩,
  /- INTAKE_STR_MARGIN -/ ⟨0x30410, 8, 64, 1, 4,
    [⟨16, 16, .ro, 0xffff, .cold⟩, ⟨0, 16, .ro, 0, .cold⟩]⟩,
  /- INTAKE_STR_FRAMES -/ ⟨0x30414, 8, 64, 1, 4,
    [⟨16, 16, .ro, 0, .cold⟩, ⟨0, 16, .ro, 0, .cold⟩]⟩,
  /- INTAKE_STR_SKIPS -/ ⟨0x30418, 8, 64, 1, 4,
    [⟨16, 16, .ro, 0, .cold⟩, ⟨0, 16, .ro, 0, .cold⟩]⟩,
  /- INTAKE_STR_CLEAR -/ ⟨0x3041C, 8, 64, 1, 4,
    [⟨0, 1, .wo, 0, .cold⟩]⟩]

/-- Register tables of chapter 09_host_rings. -/
def regTable09_0 : List RegDef := [
  /- HOST_LINK -/ ⟨0x20000, 1, 4, 1, 4,
    [⟨31, 1, .ro, 0, .cold⟩, ⟨17, 1, .ro, 0, .cold⟩, ⟨16, 1, .ro, 0, .cold⟩, ⟨8, 3, .ro, 0, .cold⟩, ⟨0, 4, .ro, 0, .cold⟩]⟩,
  /- HOST_DBELL_LO -/ ⟨0x20004, 1, 4, 1, 4,
    [⟨12, 20, .rw, 0, .cold⟩, ⟨0, 1, .rw, 0, .cold⟩]⟩,
  /- HOST_DBELL_HI -/ ⟨0x20008, 1, 4, 1, 4,
    [⟨0, 32, .rw, 0, .cold⟩]⟩,
  /- HOST_NUDGE -/ ⟨0x2000C, 1, 4, 1, 4,
    [⟨0, 8, .wo, 0, .cold⟩]⟩,
  /- HOST_WATCH -/ ⟨0x20010, 1, 4, 1, 4,
    [⟨24, 8, .rw, 0, .config⟩, ⟨8, 16, .rw, 0, .config⟩, ⟨0, 8, .rw, 0, .config⟩]⟩,
  /- HOST_WATCH_STATUS -/ ⟨0x20014, 1, 4, 1, 4,
    [⟨16, 16, .ro, 0, .cold⟩, ⟨8, 1, .ro, 0, .cold⟩, ⟨0, 8, .ro, 0, .cold⟩]⟩,
  /- HOST_RING_STATUS -/ ⟨0x20018, 1, 4, 1, 4,
    [⟨16, 7, .ro, 0, .cold⟩, ⟨0, 1, .ro, 0, .cold⟩]⟩,
  /- HOST_RING_HALT -/ ⟨0x2001C, 2, 4, 1, 4,
    [⟨0, 32, .ro, 0, .cold⟩]⟩,
  /- HOST_BW_POOL -/ ⟨0x20024, 1, 4, 1, 4,
    [⟨16, 16, .ro, 0, .cold⟩, ⟨0, 16, .ro, 0, .cold⟩]⟩,
  /- HOST_MW2_QUOTA -/ ⟨0x20028, 1, 4, 1, 4,
    [⟨0, 16, .rw, 0, .config⟩]⟩,
  /- HOST_IRQ_CAUSE -/ ⟨0x2002C, 1, 4, 1, 4,
    [⟨0, 8, .w1c, 0, .cold⟩]⟩,
  /- HOST_IRQ_EN -/ ⟨0x20030, 1, 4, 1, 4,
    [⟨0, 8, .rw, 0, .cold⟩]⟩,
  /- HOST_FRAME_IRQ -/ ⟨0x20034, 1, 4, 1, 4,
    [⟨0, 8, .rw, 0, .cold⟩]⟩,
  /- HOST_DMA_ERR_LO -/ ⟨0x20038, 1, 4, 1, 4,
    [⟨0, 32, .ro, 0, .cold⟩]⟩,
  /- HOST_DMA_ERR_HI -/ ⟨0x2003C, 1, 4, 1, 4,
    [⟨0, 32, .ro, 0, .cold⟩]⟩,
  /- HOST_DMA_ERR_INFO -/ ⟨0x20040, 1, 4, 1, 4,
    [⟨16, 16, .ro, 0, .cold⟩, ⟨8, 3, .ro, 0, .cold⟩, ⟨7, 1, .ro, 0, .cold⟩, ⟨0, 6, .ro, 0, .cold⟩]⟩,
  /- RING_BASE_LO -/ ⟨0x21000, 64, 64, 1, 4,
    [⟨12, 20, .rw, 0, .cold⟩]⟩,
  /- RING_BASE_HI -/ ⟨0x21004, 64, 64, 1, 4,
    [⟨0, 32, .rw, 0, .cold⟩]⟩,
  /- RING_CFG -/ ⟨0x21008, 64, 64, 1, 4,
    [⟨16, 8, .rw, 0, .cold⟩, ⟨8, 5, .rw, 0, .cold⟩, ⟨0, 3, .rw, 0, .cold⟩]⟩,
  /- RING_QUOTA -/ ⟨0x2100C, 64, 64, 1, 4,
    [⟨16, 16, .rw, 0, .cold⟩, ⟨0, 9, .rw, 1, .cold⟩]⟩,
  /- RING_EVMASK -/ ⟨0x21010, 64, 64, 1, 4,
    [⟨0, 7, .rw, 0, .cold⟩]⟩,
  /- RING_CTRL -/ ⟨0x21014, 64, 64, 1, 4,
    [⟨1, 1, .wo, 0, .cold⟩, ⟨0, 1, .rw, 0, .cold⟩]⟩,
  /- RING_STATUS -/ ⟨0x21018, 64, 64, 1, 4,
    [⟨31, 1, .ro, 0, .cold⟩, ⟨16, 9, .ro, 0, .cold⟩, ⟨8, 4, .ro, 0, .cold⟩, ⟨4, 4, .ro, 0, .cold⟩, ⟨0, 3, .ro, 0, .cold⟩]⟩,
  /- RING_HEAD -/ ⟨0x2101C, 64, 64, 1, 4,
    [⟨0, 32, .ro, 0, .cold⟩]⟩,
  /- RING_INDEX -/ ⟨0x21020, 64, 64, 1, 4,
    [⟨0, 32, .ro, 0, .cold⟩]⟩,
  /- RING_BW_MEAS -/ ⟨0x21024, 64, 64, 1, 4,
    [⟨0, 16, .ro, 0, .cold⟩]⟩,
  /- RING_DROPPED -/ ⟨0x21028, 64, 64, 1, 4,
    [⟨16, 16, .ro, 0, .cold⟩, ⟨0, 16, .ro, 0, .cold⟩]⟩,
  /- MSIX_ADDR_LO -/ ⟨0x28000, 72, 16, 1, 4,
    [⟨0, 32, .rw, 0, .cold⟩]⟩,
  /- MSIX_ADDR_HI -/ ⟨0x28004, 72, 16, 1, 4,
    [⟨0, 32, .rw, 0, .cold⟩]⟩,
  /- MSIX_DATA -/ ⟨0x28008, 72, 16, 1, 4,
    [⟨0, 32, .rw, 0, .cold⟩]⟩]

/-- Register tables of chapter 09_host_rings. -/
def regTable09_1 : List RegDef := [
  /- MSIX_CTRL -/ ⟨0x2800C, 72, 16, 1, 4,
    [⟨0, 1, .rw, 1, .cold⟩]⟩,
  /- MSIX_PBA -/ ⟨0x29000, 4, 4, 1, 4,
    [⟨0, 32, .ro, 0, .cold⟩]⟩]

/-- Register tables of chapter 10_mailboxes_locks. -/
def regTable10_0 : List RegDef := [
  /- MBOX_TX -/ ⟨0xC0000, 8, 4096, 1, 4,
    [⟨0, 32, .wo, 0, .cold⟩]⟩,
  /- MBOX_TX_STATUS -/ ⟨0xC0004, 8, 4096, 1, 4,
    [⟨31, 1, .w1c, 0, .cold⟩, ⟨30, 1, .w1c, 0, .cold⟩, ⟨17, 1, .ro, 0, .cold⟩, ⟨8, 4, .ro, 0, .cold⟩, ⟨4, 1, .ro, 0, .cold⟩, ⟨0, 4, .ro, 0, .cold⟩]⟩,
  /- MBOX_RX -/ ⟨0xC0010, 8, 4096, 1, 4,
    [⟨0, 32, .ro, 0, .cold⟩]⟩,
  /- MBOX_RX_STATUS -/ ⟨0xC0014, 8, 4096, 1, 4,
    [⟨31, 1, .w1c, 0, .cold⟩, ⟨16, 8, .ro, 0, .stow⟩, ⟨15, 1, .ro, 0, .cold⟩, ⟨8, 4, .ro, 0, .cold⟩, ⟨4, 1, .ro, 0, .cold⟩, ⟨0, 4, .ro, 0, .cold⟩]⟩,
  /- MBOX_CH_CTRL -/ ⟨0xC001C, 8, 4096, 1, 4,
    [⟨0, 1, .wo, 0, .cold⟩]⟩,
  /- MBOX_STATUS -/ ⟨0xC8000, 1, 4, 1, 4,
    [⟨31, 1, .ro, 1, .cold⟩, ⟨30, 1, .ro, 0, .cold⟩, ⟨29, 1, .ro, 0, .cold⟩, ⟨8, 8, .ro, 0, .cold⟩, ⟨0, 8, .ro, 0, .cold⟩]⟩,
  /- MBOX_DBELL -/ ⟨0xC8004, 1, 4, 1, 4,
    [⟨24, 8, .ro, 0, .cold⟩, ⟨16, 8, .w1c, 0, .cold⟩, ⟨8, 8, .w1c, 0, .cold⟩, ⟨0, 8, .ro, 0, .cold⟩]⟩,
  /- MBOX_DBELL_SET -/ ⟨0xC8008, 1, 4, 1, 4,
    [⟨24, 8, .wo, 0, .cold⟩]⟩,
  /- MBOX_DBELL_MASK -/ ⟨0xC800C, 1, 4, 1, 4,
    [⟨24, 8, .ro, 0, .config⟩, ⟨8, 16, .rw, 0, .cold⟩, ⟨0, 8, .ro, 0, .config⟩]⟩,
  /- MBOX_ERR -/ ⟨0xC8010, 1, 4, 1, 4,
    [⟨16, 16, .ro, 0, .cold⟩, ⟨0, 16, .ro, 0, .cold⟩]⟩,
  /- LOCK -/ ⟨0xD0000, 16, 4, 1, 4,
    [⟨31, 1, .ro, 0, .cold⟩, ⟨24, 4, .ro, 0xf, .cold⟩, ⟨8, 16, .ro, 0, .kept⟩, ⟨0, 1, .wo, 0, .cold⟩]⟩,
  /- LOCK_PEEK -/ ⟨0xD0040, 16, 4, 1, 4,
    [⟨31, 1, .ro, 0, .cold⟩, ⟨24, 4, .ro, 0xf, .cold⟩, ⟨8, 16, .ro, 0, .kept⟩]⟩,
  /- LOCK_STATUS -/ ⟨0xD0080, 1, 4, 1, 4,
    [⟨16, 16, .ro, 0, .cold⟩, ⟨0, 16, .ro, 0, .cold⟩]⟩,
  /- LOCK_ERR -/ ⟨0xD0084, 1, 4, 1, 4,
    [⟨16, 16, .ro, 0, .cold⟩, ⟨0, 16, .ro, 0, .cold⟩]⟩]

/-- Register tables of chapter 11_safety_functions. -/
def regTable11_0 : List RegDef := [
  /- GUARD_A_STATUS -/ ⟨0x90000, 1, 4, 1, 4,
    [⟨31, 1, .ro, 0, .cold⟩, ⟨30, 1, .ro, 0, .cold⟩, ⟨28, 2, .ro, 0, .cold⟩, ⟨27, 1, .ro, 0, .cold⟩, ⟨26, 1, .ro, 0, .cold⟩, ⟨25, 1, .ro, 0, .cold⟩, ⟨24, 1, .ro, 0, .cold⟩, ⟨20, 4, .ro, 0, .cold⟩, ⟨8, 8, .ro, 0, .cold⟩, ⟨0, 1, .ro, 0, .cold⟩]⟩,
  /- GUARD_A_INPUTS -/ ⟨0x90004, 1, 4, 1, 4,
    [⟨31, 1, .ro, 0, .cold⟩, ⟨30, 1, .ro, 0, .cold⟩, ⟨29, 1, .ro, 0, .cold⟩, ⟨28, 1, .ro, 0, .cold⟩, ⟨27, 1, .ro, 0, .cold⟩, ⟨26, 1, .ro, 0, .cold⟩, ⟨25, 1, .ro, 0, .cold⟩, ⟨24, 1, .ro, 0, .cold⟩, ⟨16, 2, .ro, 0, .cold⟩, ⟨0, 16, .ro, 0, .cold⟩]⟩,
  /- GUARD_A_POS -/ ⟨0x90010, 3, 4, 1, 4,
    [⟨31, 1, .ro, 0, .cold⟩, ⟨30, 1, .ro, 0, .cold⟩, ⟨0, 24, .ro, 0, .cold⟩]⟩,
  /- GUARD_B_POS -/ ⟨0xA0010, 3, 4, 1, 4,
    [⟨31, 1, .ro, 0, .cold⟩, ⟨30, 1, .ro, 0, .cold⟩, ⟨0, 24, .ro, 0, .cold⟩]⟩,
  /- GUARD_A_ENC_ERR -/ ⟨0x9001C, 1, 4, 1, 4,
    [⟨16, 16, .ro, 0, .cold⟩, ⟨0, 16, .ro, 0, .cold⟩]⟩,
  /- GUARD_B_ENC_ERR -/ ⟨0xA001C, 1, 4, 1, 4,
    [⟨16, 16, .ro, 0, .cold⟩, ⟨0, 16, .ro, 0, .cold⟩]⟩,
  /- GUARD_A_ZONE_HASH -/ ⟨0x90020, 1, 4, 1, 4,
    [⟨0, 32, .ro, 0, .config⟩]⟩,
  /- GUARD_B_ZONE_HASH -/ ⟨0xA0020, 1, 4, 1, 4,
    [⟨0, 32, .ro, 0, .config⟩]⟩,
  /- GUARD_A_ZONE_ACTIVE -/ ⟨0x90024, 1, 4, 1, 4,
    [⟨0, 32, .ro, 0, .cold⟩]⟩,
  /- GUARD_A_MASK_FRAME -/ ⟨0x90028, 1, 4, 1, 4,
    [⟨0, 32, .ro, 0, .cold⟩]⟩,
  /- GUARD_A_MASK_DRIFT -/ ⟨0x9002C, 1, 4, 1, 4,
    [⟨0, 16, .ro, 0, .cold⟩]⟩,
  /- GUARD_A_LINK_AGE -/ ⟨0x90030, 1, 4, 1, 4,
    [⟨16, 16, .ro, 0xffff, .cold⟩, ⟨0, 16, .ro, 0xffff, .cold⟩]⟩,
  /- GUARD_A_XCMP -/ ⟨0x90034, 1, 4, 1, 4,
    [⟨16, 16, .ro, 0, .cold⟩, ⟨8, 8, .ro, 0, .cold⟩]⟩,
  /- GUARD_A_CAP -/ ⟨0x90040, 64, 4, 1, 4,
    [⟨31, 1, .ro, 0, .cold⟩, ⟨30, 1, .ro, 0, .cold⟩, ⟨29, 1, .ro, 0, .cold⟩, ⟨16, 10, .ro, 0x3ff, .cold⟩]⟩,
  /- GUARD_A_TILEMAP -/ ⟨0x90200, 128, 4, 1, 4,
    [⟨0, 32, .ro, 0, .cold⟩]⟩,
  /- GUARD_A_CFG_IN -/ ⟨0x90400, 1, 4, 1, 4,
    [⟨16, 16, .ro, 0, .config⟩, ⟨0, 8, .ro, 0, .config⟩]⟩,
  /- GUARD_A_CFG_LINK -/ ⟨0x90404, 1, 4, 1, 4,
    [⟨31, 1, .ro, 0, .config⟩, ⟨16, 10, .ro, 0, .config⟩, ⟨0, 7, .ro, 0, .config⟩]⟩,
  /- GUARD_B_STATUS -/ ⟨0xA0000, 1, 4, 1, 4,
    [⟨24, 8, .ro, 0, .cold⟩, ⟨20, 4, .ro, 0, .cold⟩, ⟨8, 8, .ro, 0, .cold⟩]⟩,
  /- GUARD_B_INPUTS -/ ⟨0xA0004, 1, 4, 1, 4,
    [⟨28, 4, .ro, 0, .cold⟩, ⟨25, 1, .ro, 0, .cold⟩, ⟨24, 1, .ro, 0, .cold⟩]⟩,
  /- GUARD_B_BANDS_RG -/ ⟨0xA0024, 1, 4, 1, 4,
    [⟨16, 16, .ro, 0, .cold⟩, ⟨0, 16, .ro, 0, .cold⟩]⟩,
  /- GUARD_B_BANDS_BL -/ ⟨0xA0028, 1, 4, 1, 4,
    [⟨16, 16, .ro, 0, .cold⟩, ⟨0, 16, .ro, 0, .cold⟩]⟩,
  /- GUARD_B_PHOTO -/ ⟨0xA002C, 1, 4, 1, 4,
    [⟨31, 1, .ro, 0, .config⟩, ⟨30, 1, .ro, 0, .cold⟩, ⟨16, 12, .ro, 0, .config⟩, ⟨0, 12, .ro, 0, .cold⟩]⟩,
  /- GUARD_B_OVER -/ ⟨0xA0030, 1, 4, 1, 4,
    [⟨30, 2, .ro, 0, .cold⟩, ⟨24, 6, .ro, 0, .cold⟩, ⟨16, 8, .ro, 0, .config⟩, ⟨8, 8, .ro, 0, .config⟩]⟩,
  /- GUARD_B_OVER_MEAS -/ ⟨0xA0034, 1, 4, 1, 4,
    [⟨0, 16, .ro, 0, .cold⟩]⟩,
  /- GUARD_B_OVER_CEIL -/ ⟨0xA0038, 1, 4, 1, 4,
    [⟨0, 16, .ro, 0, .cold⟩]⟩,
  /- GUARD_B_TAP -/ ⟨0xA003C, 1, 4, 1, 4,
    [⟨16, 16, .ro, 0, .cold⟩, ⟨0, 12, .ro, 0, .cold⟩]⟩,
  /- GUARD_B_CEIL -/ ⟨0xA0100, 128, 4, 1, 4,
    [⟨16, 16, .ro, 0, .cold⟩, ⟨0, 16, .ro, 0, .cold⟩]⟩]

/-- Register tables of chapter 12_bowline_check_values. -/
def regTable12_0 : List RegDef := [
  /- CVU_UNIT_CFG -/ ⟨0xE0000, 12, 32, 1, 4,
    [⟨30, 2, .ro, 0, .cold⟩, ⟨28, 2, .ro, 0, .cold⟩, ⟨16, 4, .ro, 0, .cold⟩, ⟨0, 1, .ro, 0, .cold⟩]⟩,
  /- CVU_UNIT_PASS -/ ⟨0xE0004, 12, 32, 1, 4,
    [⟨0, 32, .ro, 0, .cold⟩]⟩,
  /- CVU_UNIT_FAIL -/ ⟨0xE0008, 12, 32, 1, 4,
    [⟨16, 16, .ro, 0, .cold⟩, ⟨0, 16, .ro, 0, .cold⟩]⟩,
  /- CVU_UNIT_LAST -/ ⟨0xE000C, 12, 32, 1, 4,
    [⟨0, 32, .ro, 0, .cold⟩]⟩,
  /- CVU_UNIT_FAILVAL -/ ⟨0xE0010, 12, 32, 1, 4,
    [⟨0, 32, .ro, 0, .cold⟩]⟩,
  /- CVU_UNIT_FAILFRAME -/ ⟨0xE0014, 12, 32, 1, 4,
    [⟨0, 32, .ro, 0, .cold⟩]⟩,
  /- CVU_STATUS -/ ⟨0xE0200, 1, 4, 1, 4,
    [⟨0, 12, .w1c, 0, .cold⟩]⟩,
  /- CVU_CLEAR -/ ⟨0xE0204, 1, 4, 1, 4,
    [⟨0, 12, .wo, 0, .cold⟩]⟩,
  /- GUARD_NET_CFG -/ ⟨0x90500, 2, 65536, 1, 4,
    [⟨16, 16, .ro, 0, .config⟩, ⟨8, 8, .ro, 0, .config⟩, ⟨0, 5, .ro, 0, .config⟩]⟩,
  /- GUARD_NET_TIMING -/ ⟨0x90504, 2, 65536, 1, 4,
    [⟨16, 16, .ro, 0, .config⟩, ⟨0, 16, .ro, 0, .config⟩]⟩,
  /- GUARD_NET_TYPE -/ ⟨0x90508, 2, 65536, 1, 4,
    [⟨0, 16, .ro, 0, .config⟩]⟩,
  /- GUARD_NET_GMAC -/ ⟨0x9050C, 2, 65536, 2, 4,
    [⟨0, 32, .ro, 0, .config⟩]⟩,
  /- GUARD_NET_STATUS -/ ⟨0x90514, 2, 65536, 1, 4,
    [⟨31, 1, .ro, 0, .cold⟩, ⟨30, 1, .ro, 0, .cold⟩, ⟨29, 1, .ro, 0, .cold⟩, ⟨28, 1, .ro, 0, .cold⟩, ⟨27, 1, .ro, 0, .cold⟩, ⟨16, 3, .ro, 0, .cold⟩]⟩,
  /- GUARD_NET_SEQ -/ ⟨0x90518, 2, 65536, 1, 4,
    [⟨0, 32, .ro, 0, .cold⟩]⟩,
  /- GUARD_NET_DEMAND -/ ⟨0x9051C, 2, 65536, 1, 4,
    [⟨0, 8, .ro, 0, .cold⟩]⟩,
  /- GUARD_NET_ZONES -/ ⟨0x90520, 2, 65536, 1, 4,
    [⟨0, 32, .ro, 0, .cold⟩]⟩,
  /- GUARD_NET_VALID -/ ⟨0x90524, 2, 65536, 1, 4,
    [⟨0, 32, .ro, 0, .cold⟩]⟩,
  /- GUARD_NET_DISC -/ ⟨0x90528, 2, 65536, 3, 4,
    [⟨16, 16, .ro, 0, .cold⟩, ⟨0, 16, .ro, 0, .cold⟩]⟩,
  /- GUARD_NET_OTHER -/ ⟨0x90534, 2, 65536, 1, 4,
    [⟨16, 16, .ro, 0, .cold⟩, ⟨0, 16, .ro, 0, .cold⟩]⟩,
  /- GUARD_NET_COMPARE -/ ⟨0x90538, 2, 65536, 1, 4,
    [⟨16, 16, .ro, 0, .cold⟩, ⟨0, 16, .ro, 0, .cold⟩]⟩,
  /- GUARD_NET_RESET -/ ⟨0x9053C, 2, 65536, 1, 4,
    [⟨0, 32, .ro, 0, .cold⟩]⟩]

/-- Register tables of chapter 13_twin_operation. -/
def regTable13_0 : List RegDef := [
  /- SPLICE_CFG -/ ⟨0xB0000, 1, 4, 1, 4,
    [⟨31, 1, .ro, 0, .config⟩]⟩,
  /- SPLICE_STATUS -/ ⟨0xB0004, 1, 4, 1, 4,
    [⟨29, 3, .ro, 0, .cold⟩, ⟨27, 2, .ro, 0, .cold⟩, ⟨26, 1, .ro, 0, .cold⟩, ⟨25, 1, .ro, 0, .cold⟩, ⟨24, 1, .ro, 0, .cold⟩, ⟨23, 1, .ro, 0, .cold⟩, ⟨22, 1, .ro, 0, .cold⟩, ⟨21, 1, .ro, 0, .cold⟩, ⟨20, 1, .ro, 0, .cold⟩, ⟨18, 2, .ro, 1, .cold⟩, ⟨17, 1, .ro, 0, .cold⟩, ⟨16, 1, .ro, 0, .cold⟩, ⟨12, 4, .ro, 0, .cold⟩, ⟨8, 4, .ro, 0, .cold⟩]⟩,
  /- SPLICE_EPOCH -/ ⟨0xB0008, 1, 4, 1, 4,
    [⟨0, 32, .ro, 0, .kept⟩]⟩,
  /- SPLICE_PEER_EPOCH -/ ⟨0xB000C, 1, 4, 1, 4,
    [⟨0, 32, .ro, 0, .cold⟩]⟩,
  /- SPLICE_HOST_EPOCH -/ ⟨0xB0010, 1, 4, 1, 4,
    [⟨0, 32, .rw, 0, .cold⟩]⟩,
  /- SPLICE_AGE -/ ⟨0xB0014, 1, 4, 1, 4,
    [⟨16, 16, .ro, 0xffff, .cold⟩, ⟨0, 16, .ro, 0xffff, .cold⟩]⟩,
  /- SPLICE_LEASE -/ ⟨0xB0018, 1, 4, 1, 4,
    [⟨16, 16, .ro, 0xffff, .cold⟩, ⟨0, 16, .ro, 0, .cold⟩]⟩,
  /- SPLICE_SET_SEQ -/ ⟨0xB001C, 1, 4, 1, 4,
    [⟨0, 32, .ro, 0, .cold⟩]⟩,
  /- SPLICE_COUNTS -/ ⟨0xB0020, 1, 4, 1, 4,
    [⟨24, 8, .ro, 0, .cold⟩, ⟨16, 8, .ro, 0, .cold⟩, ⟨8, 8, .ro, 0, .cold⟩, ⟨0, 8, .ro, 0, .cold⟩]⟩,
  /- SPLICE_PEER_ID_LO -/ ⟨0xB0024, 1, 4, 1, 4,
    [⟨0, 32, .ro, 0, .cold⟩]⟩,
  /- SPLICE_PEER_ID_HI -/ ⟨0xB0028, 1, 4, 1, 4,
    [⟨0, 32, .ro, 0, .cold⟩]⟩,
  /- SPLICE_PEER_INFO -/ ⟨0xB002C, 1, 4, 1, 4,
    [⟨8, 24, .ro, 0, .cold⟩, ⟨4, 4, .ro, 0, .cold⟩, ⟨0, 4, .ro, 0, .cold⟩]⟩,
  /- SPLICE_EXPECT_ID_LO -/ ⟨0xB0030, 1, 4, 1, 4,
    [⟨0, 32, .ro, 0, .config⟩]⟩,
  /- SPLICE_EXPECT_ID_HI -/ ⟨0xB0034, 1, 4, 1, 4,
    [⟨0, 32, .ro, 0, .config⟩]⟩,
  /- SPLICE_EXPECT_ZONE -/ ⟨0xB0038, 1, 4, 1, 4,
    [⟨0, 32, .ro, 0, .config⟩]⟩,
  /- SPLICE_MIRROR -/ ⟨0xB003C, 1, 4, 1, 4,
    [⟨16, 16, .ro, 0, .cold⟩, ⟨0, 16, .ro, 0, .cold⟩]⟩,
  /- SPLICE_MIRROR_FRAME -/ ⟨0xB0040, 1, 4, 1, 4,
    [⟨0, 32, .ro, 0, .cold⟩]⟩,
  /- SPLICE_TICK_ERR -/ ⟨0xB0044, 1, 4, 1, 4,
    [⟨16, 16, .ro, 0, .cold⟩, ⟨0, 16, .ro, 0, .cold⟩]⟩,
  /- SPLICE_LINK_DELAY -/ ⟨0xB0048, 1, 4, 1, 4,
    [⟨0, 16, .ro, 0, .cold⟩]⟩,
  /- SPLICE_LANE_CLEAR -/ ⟨0xB004C, 1, 4, 1, 4,
    [⟨0, 2, .wo, 0, .cold⟩]⟩,
  /- SPLICE_PEER_HEAD -/ ⟨0xB0400, 64, 4, 1, 4,
    [⟨0, 32, .ro, 0, .cold⟩]⟩]

/-- Register tables of chapter 14_fault_handling. -/
def regTable14_0 : List RegDef := [
  /- KEEPER_STATUS -/ ⟨0x10000, 1, 4, 1, 4,
    [⟨31, 1, .ro, 0, .cold⟩, ⟨30, 1, .ro, 1, .cold⟩, ⟨26, 4, .ro, 2, .cold⟩, ⟨16, 6, .ro, 0, .kept⟩, ⟨0, 16, .ro, 0, .cold⟩]⟩,
  /- KEEPER_COUNTS -/ ⟨0x10004, 1, 4, 1, 4,
    [⟨16, 16, .ro, 0, .kept⟩, ⟨8, 8, .ro, 0, .kept⟩, ⟨0, 8, .ro, 0, .kept⟩]⟩,
  /- KEEPER_LOST -/ ⟨0x10008, 1, 4, 1, 4,
    [⟨16, 16, .ro, 0, .kept⟩, ⟨0, 3, .w1c, 0, .kept⟩]⟩,
  /- KEEPER_SEQ -/ ⟨0x1000C, 1, 4, 1, 4,
    [⟨0, 32, .ro, 0, .kept⟩]⟩,
  /- KEEPER_IRQ_MASK -/ ⟨0x10010, 1, 4, 1, 4,
    [⟨0, 3, .rw, 6, .cold⟩]⟩,
  /- KEEPER_CLEAR -/ ⟨0x10014, 1, 4, 1, 4,
    [⟨31, 1, .wo, 0, .cold⟩, ⟨0, 6, .wo, 0, .cold⟩]⟩,
  /- KEEPER_CLEAR_STATUS -/ ⟨0x10018, 1, 4, 1, 4,
    [⟨31, 1, .ro, 0, .cold⟩, ⟨30, 1, .ro, 0, .cold⟩, ⟨0, 6, .ro, 0, .cold⟩]⟩,
  /- KEEPER_OPEN_LO -/ ⟨0x1001C, 1, 4, 1, 4,
    [⟨0, 32, .ro, 0, .kept⟩]⟩,
  /- KEEPER_OPEN_HI -/ ⟨0x10020, 1, 4, 1, 4,
    [⟨0, 8, .ro, 0, .kept⟩]⟩,
  /- KEEPER_HIST_INDEX -/ ⟨0x10024, 1, 4, 1, 4,
    [⟨31, 1, .ro, 0, .cold⟩, ⟨0, 5, .rw, 0, .cold⟩]⟩,
  /- KEEPER_HIST_DATA -/ ⟨0x10028, 8, 4, 1, 4,
    [⟨0, 32, .ro, 0, .cold⟩]⟩,
  /- KEEPER_PREV_FATAL -/ ⟨0x10048, 1, 4, 1, 4,
    [⟨31, 1, .ro, 0, .cold⟩, ⟨0, 16, .ro, 0, .cold⟩]⟩,
  /- KEEPER_PREV_HOURS -/ ⟨0x1004C, 1, 4, 1, 4,
    [⟨0, 20, .ro, 0, .cold⟩]⟩,
  /- KEEPER_INJ_CTRL -/ ⟨0x10100, 1, 4, 1, 4,
    [⟨31, 1, .wo, 0, .cold⟩, ⟨30, 1, .wo, 0, .cold⟩, ⟨29, 1, .rw, 0, .cold⟩, ⟨0, 16, .rw, 0, .cold⟩]⟩,
  /- KEEPER_INJ_SUBJECT -/ ⟨0x10104, 1, 4, 1, 4,
    [⟨0, 32, .rw, 0, .cold⟩]⟩,
  /- KEEPER_INJ_HOLD -/ ⟨0x10108, 1, 4, 1, 4,
    [⟨0, 24, .rw, 0, .cold⟩]⟩,
  /- KEEPER_INJ_STATUS -/ ⟨0x1010C, 1, 4, 1, 4,
    [⟨31, 1, .ro, 0, .cold⟩, ⟨30, 1, .ro, 0, .cold⟩, ⟨24, 4, .ro, 0xf, .cold⟩, ⟨16, 4, .ro, 0, .cold⟩, ⟨8, 8, .ro, 0, .cold⟩, ⟨0, 8, .ro, 0, .cold⟩]⟩]

/-- Register tables of chapter 15_power_modes_boot. -/
def regTable15_0 : List RegDef := [
  /- HOUSE_STATE -/ ⟨0x00000, 1, 4, 1, 4,
    [⟨24, 4, .ro, 0, .cold⟩, ⟨23, 1, .ro, 0, .cold⟩, ⟨8, 8, .ro, 0, .cold⟩, ⟨4, 4, .ro, 0, .cold⟩, ⟨0, 4, .ro, 8, .cold⟩]⟩,
  /- HOUSE_START -/ ⟨0x00004, 1, 4, 1, 4,
    [⟨31, 1, .ro, 0, .cold⟩, ⟨24, 4, .ro, 0, .cold⟩, ⟨20, 4, .ro, 3, .cold⟩, ⟨16, 4, .ro, 1, .cold⟩, ⟨12, 4, .ro, 0, .cold⟩]⟩,
  /- HOUSE_BOOT -/ ⟨0x00008, 1, 4, 1, 4,
    [⟨30, 2, .ro, 3, .cold⟩, ⟨28, 2, .ro, 3, .cold⟩, ⟨26, 2, .ro, 0, .cold⟩, ⟨24, 2, .ro, 0, .cold⟩, ⟨20, 4, .ro, 0, .cold⟩, ⟨16, 4, .ro, 0, .cold⟩, ⟨15, 1, .ro, 0, .cold⟩]⟩,
  /- HOUSE_CFG_CHECK -/ ⟨0x0000C, 1, 4, 1, 4,
    [⟨16, 16, .ro, 0, .cold⟩, ⟨0, 4, .ro, 0, .cold⟩]⟩,
  /- HOUSE_STOP -/ ⟨0x00010, 1, 4, 1, 4,
    [⟨31, 1, .ro, 0, .cold⟩, ⟨24, 4, .ro, 0, .cold⟩, ⟨0, 16, .ro, 0, .kept⟩]⟩,
  /- HOUSE_OVERLAY -/ ⟨0x00014, 1, 4, 1, 4,
    [⟨28, 4, .ro, 0, .cold⟩, ⟨16, 9, .ro, 0, .cold⟩, ⟨0, 9, .ro, 0, .cold⟩]⟩,
  /- HOUSE_HOURS -/ ⟨0x00018, 1, 4, 1, 4,
    [⟨0, 20, .ro, 0, .config⟩]⟩,
  /- HOUSE_FW -/ ⟨0x0001C, 1, 4, 1, 4,
    [⟨0, 24, .ro, 0, .config⟩]⟩,
  /- FUSE_STATUS -/ ⟨0xF0000, 1, 4, 1, 4,
    [⟨31, 1, .ro, 0, .cold⟩, ⟨30, 1, .ro, 0, .cold⟩, ⟨0, 16, .ro, 0, .cold⟩]⟩,
  /- FUSE_UID_LO -/ ⟨0xF0004, 1, 4, 1, 4,
    [⟨0, 32, .ro, 0, .fuse⟩]⟩,
  /- FUSE_UID_HI -/ ⟨0xF0008, 1, 4, 1, 4,
    [⟨0, 32, .ro, 0, .fuse⟩]⟩,
  /- FUSE_ORDER -/ ⟨0xF000C, 1, 4, 1, 4,
    [⟨0, 1, .ro, 0, .fuse⟩]⟩,
  /- FUSE_KEYHASH -/ ⟨0xF0010, 8, 4, 1, 4,
    [⟨0, 32, .ro, 0, .fuse⟩]⟩,
  /- FUSE_MAC -/ ⟨0xF0030, 4, 4, 1, 4,
    [⟨0, 32, .ro, 0, .fuse⟩]⟩]

/-- The registers of MW0 (R546). -/
def regTable : List RegDef :=
  regTable02_0 ++ regTable03_0 ++ regTable04_0 ++ regTable05_0 ++ regTable06_0 ++ regTable07_0 ++ regTable08_0 ++ regTable09_0 ++ regTable09_1 ++ regTable10_0 ++ regTable11_0 ++ regTable12_0 ++ regTable13_0 ++ regTable14_0 ++ regTable15_0

/-- The register copy at an MW0 offset belongs to this table (R9's index formulas run backwards). -/
def RegDef.holds (r : RegDef) (off : Nat) : Bool :=
  r.base ≤ off &&
  (let d := off - r.base
   let e := d % r.stride1
   d / r.stride1 < r.count1 && e % r.stride2 == 0 && e / r.stride2 < r.count2)

/-- The register table at an MW0 offset, if a register stands there (R18, R546). -/
def regAt (off : Nat) : Option RegDef :=
  if off < 0x100000 then regTable.find? (fun r => r.holds off) else none

/-- The fields of the register at an offset; none where no register stands. -/
def fieldsAt (off : Nat) : List FieldDef :=
  match regAt off with
  | some r => r.fields
  | none   => []

/-- POLY, MODE and ISLAND of each check-value unit, bound permanently by R48. -/
def cvuCfgCold (n : Nat) : Nat :=
  let row : Nat × Nat × Nat := match n with
    | 0 => (0, 1, 7) | 1 => (0, 1, 11) | 2 => (0, 0, 8) | 3 => (0, 1, 8) | 4 => (0, 2, 11) | 5 => (1, 2, 10)
    | 6 => (1, 2, 4) | 7 => (2, 1, 0) | 8 => (0, 2, 7) | 9 => (0, 2, 11) | 10 => (3, 1, 7) | _ => (3, 1, 11)
  row.1 * 2 ^ 30 + row.2.1 * 2 ^ 28 + row.2.2 * 2 ^ 16

/-- The value of a register after a cold start (R25): each field at its cold value, reserved bits 0 (R23), "config"
and "fuse" fields 0 until they load (R27). -/
def coldReg (off : Nat) : BitVec 32 :=
  let base := (fieldsAt off).foldl (fun a f => a + f.cold * 2 ^ f.lsb) 0
  let extra := if 0xE0000 ≤ off && off < 0xE0180 && (off - 0xE0000) % 0x20 == 0 then cvuCfgCold ((off - 0xE0000) / 0x20) else 0
  BitVec.ofNat 32 (base + extra)

end Sys2Proof.Machine
end

