-- ==== Sys2Proof/Machine/State.lean ====
section
/-! DEFINITION. The state of the Ilnar F1024 as the spec gives it, as plain data: the registers of MW0 in one sparse file,
module DRAM, and for each island what it holds beside its registers; the queue of waiting commands; State.reset. -/

namespace Sys2Proof.Machine

/-- The operating states of R325 and R490. Off is the state without input power, which R325 gives no number. -/
inductive Mode where
  | off | stowed | dark | show | solo | calibrate | service | boot | safe | fatal
  deriving DecidableEq, Repr

/-- The number of R325. Off has none; the model gives it 15, one of the reserved values. -/
def Mode.num : Mode → Nat
  | .stowed => 0 | .dark => 1 | .show => 2 | .solo => 3 | .calibrate => 4 | .service => 5
  | .boot => 8 | .safe => 9 | .fatal => 10 | .off => 15

/-- What an outside party sees of the module: interrupts, memory requests to the host, read data, words on the links. -/
inductive Output where
  /-- An MSI-X message of a vector (R337). -/
  | msix (vector : Nat)
  /-- 32-bit words written into host memory from an address up (R308, R330, R333). -/
  | hostWords (addr : Nat) (words : List Nat)
  /-- Surface bytes written into host memory (R328), and whether with Relaxed Ordering (R295). -/
  | hostBytes (addr : Nat) (bytes : List Nat) (relaxed : Bool)
  /-- A read request to host memory (R303, R305). -/
  | hostRead (addr len : Nat)
  /-- The data of a register read (R17). -/
  | readData (value : Nat)
  /-- The data of a read through MW2 (R297); none where the read is refused (R50). -/
  | mw2Data (bytes : List Nat)
  /-- A SPLICE frame sent (R436), its CRC included. -/
  | splice (bytes : List Nat)
  /-- A TIMING block sent on both SPLICE lanes (R439). -/
  | timing (block : List Nat)
  /-- A TICK word sent (R433). -/
  | tick (word : Nat)
  /-- A cross-comparison record or a light-removal message on the guard link (R364, R366): the sender and its words. -/
  | guardLink (sender : Nat) (words : List Nat)
  deriving DecidableEq, Repr

/-! ### Accesses to MW0 (chapters 0 and 1) -/

/-- An access to MW0 that waits because the PLL of its island has lost lock (R32): a write of a value, or a read of `bytes`
bytes from byte `sub` of the register up. -/
structure Waiting where
  master : Master
  off    : Nat
  value  : Option Nat
  sub    : Nat
  bytes  : Nat
  deriving DecidableEq, Repr

/-- The accesses to MW0. `wrote` and `marks` let a command see what shared its island cycle: the writes of the newest cycles
(offset, master, time; R38), and the W1C bits that their events set in them (offset, bit, time; R20). -/
structure Accesses where
  waiting : List Waiting
  wrote   : List (Nat × Master × Nat)
  marks   : List (Nat × Nat × Nat)
  deriving DecidableEq, Repr

/-! ### Power, modes and start (chapter 15) -/

/-- The level of the ERR pair that the module drives (R480): off, fault (0/1) or healthy (1/0). -/
inductive ErrPin where
  | off | fault | healthy
  deriving DecidableEq, Repr

/-- A change of mode in progress (R494, R495, R459): its target and cause, the ring that awaits its completion, and the
earliest time of the frame boundary at which it takes effect. -/
structure Change where
  target     : Mode
  cause      : Nat
  waiter     : Option (Nat × Nat)
  notBefore  : Nat
  /-- The frame boundary of a set-wide change: FRAME_NO F of R459. -/
  atFrame    : Option Nat
  /-- STOWED follows once DARK is reached (R490). -/
  thenStowed : Bool
  /-- The overlay that is still to be applied (R464, R494, R495); `notBefore` counts from its application. -/
  overlay    : Option Nat
  deriving DecidableEq, Repr

/-- The stop sequence of R498: the ring of its request, the cause of the MODE event that ends it, whether the checkpoint of
step 1 is written so that the islands are asked, and the number of islands that have accepted. -/
structure StopSeq where
  waiter  : Option (Nat × Nat)
  cause   : Nat
  asking  : Bool
  stopped : Nat
  deriving DecidableEq, Repr

/-- One slot of the boot flash as the start and the services of R514 see it (R506, R507, R510): GENERATION and FW_VERSION
of its manifest, whether it has passed SLOT_VERIFY since its last write, the COUNT of its valid activation record, and the
bytes that SLOT_WRITE programmed. -/
structure Slot where
  generation : Nat
  fwVersion  : Nat
  verified   : Bool
  activation : Option Nat
  bytes      : List (Nat × BitVec 8)
  deriving DecidableEq, Repr

/-- A flash operation in progress (R515): the channel and CODE of its request, its slot, and for SLOT_WRITE the offset, the
surface-pool address and the length. -/
structure FlashOp where
  channel : Nat
  code    : Nat
  slot    : Nat
  off     : Nat
  addr    : Nat
  len     : Nat
  deriving DecidableEq, Repr

/-- An overlay of R496: the state number of its mode and its pairs of MW0 offset and value. -/
structure Overlay where
  mode    : Nat
  entries : List (Nat × Nat)
  deriving DecidableEq, Repr

/-- HOUSE: power, wake, boot, mode changes, the ERR and LIGHT pins. -/
structure House where
  mode         : Mode
  /-- The stage that the wake sequence waits for (R503); none when no wake sequence runs. -/
  waking       : Option Nat
  /-- The 10 ms wait of R504 runs. -/
  retryWait    : Bool
  /-- A wake event held during the stop sequence (R493): its SOURCE. -/
  heldWake     : Option Nat
  /-- The brown-out mark of the regulator's latch (R489). -/
  brownMark    : Bool
  /-- RESET_N was low at power good, so that the start after its release is a cold one (R505). -/
  coldPending  : Bool
  /-- RESET_N is at its low level (R505). -/
  resetLow     : Bool
  /-- PERST_N is asserted (R527). -/
  perstLow     : Bool
  /-- The register pointer of the management port (R502). -/
  i2cPtr       : Nat
  bootSel      : Nat
  addrSel      : Nat
  change       : Option Change
  /-- The overlay of a mode that was entered without a change in progress: it is still to be applied (R497). -/
  overlayDue   : Option Nat
  stop         : Option StopSeq
  errPin       : ErrPin
  errSince     : Nat
  /-- The level held in STOWED (R480). -/
  errHeld      : Bool
  wakeFail     : Bool
  /-- LIGHT out reads emitting (R425). -/
  lightOut     : Bool
  /-- Islands (numbers of R325) whose PLL is unlocked (R32, R468). -/
  pllUnlocked  : List Nat
  slots        : List (Nat × Slot)
  flashOp      : Option FlashOp
  overlays     : List Overlay
  /-- The last start has loaded the configuration (R511); the time outside STOWED and Off up to `upSince`, ns, and the
  time from which more is counted (HOUSE_HOURS). -/
  loaded       : Bool
  hoursNs      : Nat
  upSince      : Nat
  /-- The registers that the base configuration gives, by MW0 offset, as the last start loaded them (R27, R511). -/
  config       : List (Nat × Nat)
  deriving DecidableEq, Repr

/-! ### KEEPER (chapter 14) -/

/-- A history record, before it is laid out in the eight words of R474. -/
structure HistRec where
  code       : Nat
  source     : Nat
  cls        : Nat
  real       : Bool
  injected   : Bool
  afterFatal : Bool
  frame      : Nat
  state      : Nat
  beat       : Nat
  seq        : Nat
  subject    : Nat
  value      : Nat
  limit      : Nat
  aux        : Nat
  deriving DecidableEq, Repr

/-- An active injection (R483): its fault, whether downstream reacts, its owner, and the time its HOLD ends. -/
structure Injection where
  code    : Nat
  subject : Nat
  react   : Bool
  owner   : Nat
  endsAt  : Nat
  deriving DecidableEq, Repr

/-- KEEPER beside its registers: the queue of 32 slots, newest first; when the record being written began and ends;
the records written since FATAL; the injection. -/
structure Keeper where
  hist       : List HistRec
  busySince  : Nat
  busyUntil  : Nat
  fatalCount : Nat
  inj        : Option Injection
  /-- A guard test runs without LOCK_10, so the host injection is suspended (R486). -/
  suspended  : Bool
  /-- The entry of the fault journal, in both slots (R479, R506): the CODE that entered FATAL, the operating hours, and the
  records of the queue. -/
  journal    : Option (Nat × Nat × List HistRec)
  /-- A KEEPER_CLEAR that waits for a guard's next cross-comparison cycle (R471): the open bits still to be decided, and
  those refused. -/
  clearing   : Option (List Nat × List Nat)
  deriving DecidableEq, Repr

/-! ### HOST island (chapter 9) -/

/-- A descriptor that has been fetched, or is in flight: its index and its sixteen words (R307). In flight, `bw` is the
BW at its admission (R317), `gen` the generation counter at admission (R331), `done` the STATUS, DETAIL and RESULT once
its work has ended, `used` the DRAM bytes it has moved. -/
structure Desc where
  index   : Nat
  words   : List Nat
  bw      : Nat
  gen     : Nat
  started : Bool
  done    : Option (Nat × Nat × Nat)
  used    : Nat
  deriving DecidableEq, Repr

/-- A ring beside its registers (R300 to R318, R335, R338). -/
structure Ring where
  fetched  : List Desc
  inflight : List Desc
  /-- Slots whose fetch has been issued and not returned. -/
  fetching : List Nat
  /-- Index of the next slot to fetch. -/
  nextIdx  : Nat
  /-- DRAM bytes moved in a step of 10 µs (R316): the step's number and the bytes, newest first. -/
  use      : List (Nat × Nat)
  /-- Bytes by which the bucket of R317 is below its 65,536. -/
  debt     : Rat
  /-- Time of the last message of the vector, and whether a cause waits for the end of the holdoff (R338). -/
  lastMsg  : Option Nat
  msgWaits : Bool
  /-- Records dropped since the last OVERFLOW record (R335). -/
  dropped  : Nat
  deriving DecidableEq, Repr

/-- The HOST island beside its registers: the rings, the module event SEQ, requests stalled while Bus Master Enable is
0 (R299), the failed attempts of each doorbell line read, the watcher's idle rounds, and the MW2 bucket (R319). -/
structure HostIsl where
  rings     : List (Nat × Ring)
  eventSeq  : Nat
  stalled   : List Output
  lineFails : List (Nat × Nat)
  idleRounds : Nat
  /-- Lines with a read outstanding, once for each such read (R303, R304). -/
  linesOut  : List Nat
  /-- The configuration space as the host has set it (R295). -/
  conf      : PcieConf
  /-- Bytes by which the bucket of MW2 (R319) is below its 65,536. -/
  mw2Debt   : Rat
  /-- MW2 requests that wait in the endpoint, oldest first (R319): write, address of the next burst, the bytes still to write
  or those already read, and the bytes still to move. -/
  mw2Wait   : List (Bool × Nat × List Nat × Nat)
  /-- Frame boundaries since the last FRAME cause (R337). -/
  frameRun  : Nat
  deriving DecidableEq, Repr

/-! ### INTAKE: lanes and streams (chapter 8) -/

/-- A lane beside its registers: Hawser lanes 0 to 7, SPLICE lanes 8 and 9. -/
structure Lane where
  /-- Block lock (R267); consecutive valid sync headers, at most 64; the last 64 headers, true where invalid. -/
  locked   : Bool
  good     : Nat
  window   : List Bool
  /-- Descrambler state of R265: the last 58 bits received, newest in bit 0. -/
  scr      : Nat
  /-- Exclusive-or of the payload bytes since the last ALIGN block, and whether there has been one since block lock (R268). -/
  bip      : Nat
  bipOn    : Bool
  /-- Blocks since the last valid ALIGN block (R269). -/
  since    : Option Nat
  /-- LANE of the last valid ALIGN block, its MCOUNT and the time of its arrival. -/
  marker   : Option (Nat × Nat × Nat)
  /-- A request for IDLE is held (R277). -/
  idleHeld : Bool
  /-- Consecutive scans below the limits of R279. -/
  lowEyes  : Nat
  /-- Equaliser values are stored (R271, R276). -/
  stored   : Bool
  /-- The loss of the adapted equaliser, 0.1 dB (R273). -/
  loss     : Nat
  deriving DecidableEq, Repr

/-- A stream frame in progress (R281 to R286). -/
structure StreamFrame where
  sofAt  : Nat
  map    : Nat
  header : List Nat
  /-- Blocks of the frame so far, the SOF among them. -/
  blocks : Nat
  buf    : Nat
  deriving DecidableEq, Repr

/-- A stream beside its registers (R285 to R293). -/
structure Stream where
  frame    : Option StreamFrame
  /-- Buffer of the newest complete frame, the arrival of its EOF, whether a capture point has taken it. -/
  newest   : Option Nat
  newestAt : Nat
  used     : Bool
  /-- Buffer that the last capture point took. -/
  taken    : Option Nat
  /-- Arrival of the SOF of the last completed frame. -/
  lastSof  : Option Nat
  /-- Frames completed, and whether the last frame was discarded. -/
  done     : Nat
  run      : Bool
  /-- The three buffers one after the other, 6,291,456 bytes each. -/
  bytes    : List Host.Cell
  deriving DecidableEq, Repr

/-- INTAKE beside its registers. -/
structure Intake where
  lanes   : List (Nat × Lane)
  streams : List (Nat × Stream)
  /-- INTAKE has accepted a stop request (R498). -/
  stopped : Bool
  /-- The lane of the point measurement that runs (R280). -/
  eyeLane : Nat
  deriving DecidableEq, Repr

/-! ### BRAID and WARP (chapters 6 and 7) -/

/-- A stream frame as BRAID reads it (R205, R288, R290): the stream and the buffer that hold it, and the stream's FORMAT, W
and H as they stood when a capture point took it. -/
structure Picture where
  stream : Nat
  buf    : Nat
  format : Nat
  width  : Nat
  height : Nat
  deriving DecidableEq, Repr

/-- A content layer beside its registers (R192 to R207). Settings are the ten words of the layer's window. -/
structure Layer where
  /-- Settings in force. -/
  cfg    : List Nat
  /-- Settings in force at the last ready capture point (R205, HOLD). -/
  ready  : List Nat
  /-- Completed frames of the stream when the source was last committed (R204). -/
  base   : Nat
  /-- The stream frame last shown (R205). -/
  buf    : Option Picture
  /-- What the layer contributes to the scan (R203): its settings, and the stream frame, none for a surface; none where the
  layer contributes nothing. -/
  plan   : Option (List Nat × Option Picture)
  /-- Consecutive capture points not ready, and whether LAYER_STALE has been recorded for them (R206). -/
  run    : Nat
  stale  : Bool
  /-- B_L in bytes (R231). -/
  admitBytes  : Nat
  /-- SCALER_CLIP or SCALER_RATIO has been recorded for the present run (R262). -/
  clipRun : Bool
  ratioRun : Bool
  deriving DecidableEq, Repr

/-- A commit that waits for its capture point (R197, R199, R207). -/
structure LayerCommit where
  mask    : Nat
  cfgs    : List (Nat × List Nat)
  filters : List (Nat × Nat)
  goAt    : Nat
  frame   : Option Nat
  waits   : Nat
  /-- The COMMAND ring whose completion the 50 µs still wait for (R322). -/
  ringOf  : Option Nat
  deriving DecidableEq, Repr

/-- A move that waits for its capture point (R200): the layer, DST, OUT_SIZE and ALPHA. -/
structure LayerMove where
  layer : Nat
  dst   : Nat
  out   : Nat
  alpha : Nat
  goAt  : Nat
  frame : Option Nat
  waits : Nat
  /-- The COMMAND ring whose completion the 50 µs still wait for (R322). -/
  ringOf : Option Nat
  deriving DecidableEq, Repr

/-- A position sample: pan and tilt angles and the corner angle of zoom, in 2^-24 degree (R377). -/
structure Position where
  pan    : Int
  tilt   : Int
  corner : Int
  focal  : Rat
  deriving DecidableEq, Repr

/-- A mask as GUARD_A derives it (R383 to R386): the frame it targets, the share factor, active zones and position of
its sample, the canvas codes below 15 and the tiles marked. -/
structure Mask where
  target : Nat
  sigma2 : Nat
  zones  : List Nat
  pos    : Position
  codes  : List (Nat × Nat)
  tiles  : List Nat
  deriving DecidableEq, Repr

/-- A published buffer of the protected-layer store (R219, R220). -/
structure Published where
  mask     : Mask
  sum      : Nat
  at_      : Nat
  verified : Bool
  deriving DecidableEq, Repr

/-- BRAID beside its registers. -/
structure Braid where
  layers  : List (Nat × Layer)
  commit  : Option LayerCommit
  moves   : List LayerMove
  /-- The mask in use, and the buffer published and not yet in use. -/
  prot    : Option Mask
  waiting : Option Published
  /-- Mask age 5 or more at the last capture point (R220). -/
  staleRun : Bool
  /-- Output frame of the last capture point. -/
  frame   : Nat
  /-- Layers with a corrupt block in the frame being scanned (R215). -/
  corrupt : List Nat
  deriving DecidableEq, Repr

/-- A mesh load in progress (R247): the bank, the words of the image, and the ring and index of its descriptor. -/
structure MeshLoad where
  bank  : Nat
  words : List Nat
  ring  : Nat
  index : Nat
  deriving DecidableEq, Repr

/-- A composed canvas row in a window or in the seam store of WARP (R245): the row, and its points from left to right, each
with its mask code beside it. -/
structure CanvasRow where
  row : Nat
  pts : List (List Nat × Nat)
  deriving DecidableEq, Repr

/-- A line of a scaler's line buffer (R255): the row of the layer's crop, the output column of its first pixel, and its
pixels, R, G and B premultiplied and α. -/
structure ScLine where
  row   : Nat
  first : Nat
  px    : List (List Nat)
  deriving DecidableEq, Repr

/-- The composition of the frame being scanned (R245, R255). Rows of the two streams are counted with ORDER applied. -/
structure Compose where
  /-- The rows that streams UP and LO compose next. -/
  upNext : Nat
  loNext : Nat
  /-- The windows of UP and LO, at most 128 rows each, newest first. -/
  up     : List CanvasRow
  lo     : List CanvasRow
  /-- The seam store: LO's rows SPLIT to SPLIT + 63. -/
  seam   : List CanvasRow
  /-- The two line buffers of each scaler, newest line first, at most 8 lines each: UP's of SC_n at 2·n, LO's at 2·n + 1. -/
  lines  : List (Nat × List ScLine)
  /-- The array rows that have left WARP, with k_eff beside every pixel (R251), and the count of row pairs among them. -/
  rows   : List (Nat × List (List Nat × Nat))
  pairs  : Nat
  deriving DecidableEq, Repr

/-- WARP beside its registers. -/
structure Warp where
  /-- Node words of BANK_0 and BANK_1 (R237), signed; empty where never loaded. -/
  bank0   : List Int
  bank1   : List Int
  /-- u0 of BANK_0 and BANK_1 (R245): the least canvas row that the upper half samples. -/
  first0  : Nat
  first1  : Nat
  /-- The composition of the frame being scanned. -/
  comp    : Compose
  load    : Option MeshLoad
  /-- A selection's capture points still to come (R249), and the time of its write. -/
  selAt   : Nat
  /-- Footprint faults (R253): a run goes on; sectors with a fault in the frame being scanned. -/
  footRun : Bool
  footNow : List Nat
  /-- HFILT and VFILT in force, by scaler (R260). -/
  filters : List (Nat × Nat)
  deriving DecidableEq, Repr

/-! ### TONE (chapter 5) -/

/-- A wear store in the boot flash (R168): the operating hours, a count of checkpoints, the 16-bit codes of the counts where
they are not 0, and the CRC-32. -/
structure WearStore where
  hours : Nat
  order : Nat
  codes : List (Nat × Nat)
  crc   : Nat
  deriving DecidableEq, Repr

/-- TONE beside its registers. -/
structure Tone where
  /-- The staged registers in force (R152), by offset, where they are not 0. -/
  force    : List (Nat × Nat)
  /-- A commit that waits: its values, the time of GO, and the frame APPLY in a twin set. -/
  pending  : Option (List (Nat × Nat) × Nat × Option Nat)
  /-- Calibration words (R162) by 4·pixel + channel, where they differ from GAIN 1.0, OFFSET 0, WEAR 1.0, NORMAL. -/
  cal      : List (Nat × BitVec 32)
  /-- Delivered-charge counts (R167). -/
  charge   : List (Nat × Nat)
  /-- The sampling of R167: the LFSR, the frames still to pass before the one it has chosen (none once that is sampled), and
  the charges of the sample, by emitter, in counts. -/
  lfsr     : BitVec 16
  sampleIn : Option Nat
  sample   : List (Nat × Rat)
  /-- Sector codes of the calibration image (R165), where they are not 1,023. -/
  sector   : List (Nat × Nat)
  /-- User curve points, where they differ from the straight line (R157). -/
  curve    : List (Nat × Nat)
  /-- One-segment factors, where they are not 1.0 (R163). -/
  oneseg   : List (Nat × Nat)
  /-- Wear model (R170): points where they are not 1.0, and kappa. -/
  eta      : List (Nat × Nat)
  kappa    : List (Nat × Int)
  /-- Preset matrices (R158): 12·SPACE + 3·o + i. -/
  presets  : List (Nat × Int)
  /-- Staged entries of calibration blocks (R188), newest first: table, index, word. -/
  staged   : List (Nat × Nat × Nat)
  /-- A calibration commit that waits: the time from which its 50 µs run, once its completion is written. -/
  calGo    : Option (Option Nat)
  /-- Sums of the frame being coded, by colour (R174): (1,023 + 3·CODE) × RATIO × d. -/
  sums     : List Nat
  /-- Greatest (1,023 + 3·CODE) × RATIO among channels with non-zero duty, by colour (R184). -/
  peaks    : List Nat
  /-- Channels limited in the frame being coded (R173). -/
  sat      : Nat
  /-- Governor (R175): S of the last frame, none before the first; the pair to be loaded; its own s_app. -/
  sPrev    : Option Rat
  nextFull : List Nat
  sOwn     : Nat
  /-- The partner's s_app, with its FRAME_NO (R178). -/
  partnerS : Option (Nat × Nat)
  /-- p_new of the frame coded and of the frame in force, in amperes × 10^-6 (R126, R184). -/
  pNew     : List Rat
  pOld     : List Rat
  /-- Compared frames in a row above the prediction (R179), and the last change that keeps a frame from being compared. -/
  overRun  : Nat
  changeAt : Nat
  /-- The lowered working efficiency of R179, held until a cold start. -/
  effLow   : Option Rat
  /-- Wear stores of the two slots (R168), when the last checkpoint was written, and the count of checkpoints. -/
  store0   : Option WearStore
  store1   : Option WearStore
  ckptAt   : Nat
  ckpts    : Nat
  /-- Updates of the counts, one per second (R167), and wear steps (R170): parts of the generation counters of R331. -/
  updates  : Nat
  wearSteps : Nat
  deriving DecidableEq, Repr

/-! ### ANODE (chapter 4) -/

/-- ANODE beside its registers. -/
structure Anode where
  /-- Bucks stopped by a fault (R131, R132): colours. -/
  stopped  : List Nat
  /-- Every rail has reached its wake voltage since the entry (R123). -/
  wakeDone : Bool
  /-- Frames in a row with headroom below 0.20 V, by 4·band + colour (R130). -/
  lowRun   : List (Nat × Nat)
  /-- Bands and colours, 4·band + colour, that may have a headroom sample in the present window (R125). -/
  window   : List Nat
  /-- Windows in a row with a mismatch, by colour (R131). -/
  diffRun  : List (Nat × Nat)
  /-- Rails whose average over 100 ms lies above 40 A (R131). -/
  high     : List Nat
  /-- Readings in a row at or above a threshold, and thresholds crossed, by 4·group + threshold (R147). -/
  tempRun  : List (Nat × Nat)
  tempSet  : List Nat
  /-- Sensors that have failed (R148). -/
  badSensor : List Nat
  /-- Bucks whose phase current limit acts (R131): colours. -/
  limiting : List Nat
  /-- The thresholds of ANODE_TLIM as the configuration gave them (R147). -/
  tlimCold : List Nat
  deriving DecidableEq, Repr

/-! ### STRIKE: frame timer (chapter 2) and emission array (chapter 3) -/

/-- The timing values of STRIKE_RATE, STRIKE_SYNC_CTRL and STRIKE_SYNC_PHASE that a commit applies together (R74). -/
structure Timing where
  rate      : Nat
  pulldown  : Bool
  source    : Nat
  edge      : Bool
  jump      : Bool
  mult      : Nat
  holdLimit : Nat
  phaseNs   : Nat
  deriving DecidableEq, Repr

/-- The frame timer beside its registers. -/
structure Timer where
  /-- The timing values in force. -/
  timing     : Timing
  /-- A commit that waits: its values, the time of its GO, and the frame FB(APPLY) when it is mirrored (R75, R456). -/
  pending    : Option (Timing × Nat × Option Nat)
  /-- A STRIKE_FRAME_LOAD that waits: its value and the time of its write (R77). -/
  load       : Option (Nat × Nat)
  /-- FRAME_NO is loaded from the leader or the grid at the next boundary (R70). -/
  reload     : Option Nat
  /-- Time of the last frame boundary. -/
  boundaryAt : Nat
  /-- Time of the last capture point, and the FRAME_NO at it. -/
  captureAt  : Nat
  /-- Captured SYNC_IN edges since the last missing edge or loss of validity, newest first, at most 16 (R63). -/
  edges      : List Nat
  /-- The SYNC_IN, PTP and PARTNER references are valid (R63, R64, R65). -/
  syncValid  : Bool
  ptpValid   : Bool
  peerValid  : Bool
  /-- Consecutive reference events with a phase error below 1.0 µs (R68). -/
  goodRun    : Nat
  /-- Periods between the last reference events, 1/16 ns per frame, newest first, at most 16 (R68). -/
  periods    : List Nat
  /-- Phase still to be corrected, signed, ns (R66). -/
  phaseErr   : Int
  /-- The period that the timer runs the present frame with, 1/16 ns (R57, R66). -/
  planned    : Nat
  /-- The next correction may be made in a single frame (R66); a phase has been measured since the last one. -/
  jumpNext   : Bool
  phaseNew   : Bool
  /-- The period of the source that is followed, or the one held, 1/16 ns; 0 for the nominal period (R63, R66, R68). -/
  base       : Nat
  /-- Number and time of the last TIMING block that was a reference event (R439). -/
  refAt      : Option (Nat × Nat)
  /-- Module time (R64): whether it counts, its value in ns and the time at which it had that value. -/
  clock      : Bool
  timeVal    : Int
  timeAt     : Nat
  /-- Last write to the PTP steering registers (R64). -/
  ptpAt      : Option Nat
  /-- When HOLDOVER was entered. -/
  holdSince  : Nat
  /-- Row slots of the present frame that have run (R59), and whether every row of it was received (R43). -/
  rowsRun    : Nat
  rowsOk     : Bool
  /-- The frame being scanned took its words wholly from the pixel path (R102), and so did the one struck last. -/
  pixelPath  : Bool
  struckPath : Bool
  /-- STAGGER in force (R91). -/
  stagger    : Bool
  /-- The survey slot or the quiet interval of the present frame has started (R59). -/
  phase      : Nat
  deriving DecidableEq, Repr

/-- The measurement pattern of R103. -/
structure Pattern where
  enable : Bool
  x0 : Nat
  y0 : Nat
  x1 : Nat
  y1 : Nat
  word : Nat
  deriving DecidableEq, Repr

/-- A segment in a fuse queue, or waiting for room in one (R106): its pixel, channel and half, the fuse-outs already
tried, and whether the next survey verifies it. -/
structure FuseJob where
  x : Nat
  y : Nat
  ch : Nat
  half : Nat
  tries : Nat
  verify : Bool
  deriving DecidableEq, Repr

/-- A defect map entry (R142). -/
structure Defect where
  x     : Nat
  y     : Nat
  ch    : Nat
  cond  : Nat
  cause : Nat
  tries : Nat
  first : Nat
  last  : Nat
  hours : Nat
  deriving DecidableEq, Repr

/-- A re-measure request of R136: a segment, and the class (2 open, 3 shorted) to confirm. -/
structure Confirm where
  x : Nat
  y : Nat
  ch : Nat
  half : Nat
  cls : Nat
  deriving DecidableEq, Repr

/-- The emission array: the front and back words of the pixels whose word is not 0 (R79), the kill latches (R106) and
the fuse queues (R106), each entry with its quadrant; the survey (R134 to R140) and the defect map (R141). -/
structure EmArray where
  back    : List (Nat × BitVec 64)
  front   : List (Nat × BitVec 64)
  /-- The words that reached the STRIKE tap in the frame being scanned (R47, R226). -/
  tap     : List (Nat × BitVec 64)
  /-- Kill latches that are set, by 4·pixel + channel. -/
  kill    : List Nat
  /-- Fuse queues of the quadrants, oldest first; confirmed shorts that wait for room stand behind the 64th. -/
  fuse    : List (Nat × List FuseJob)
  /-- Segments found open or blown since the start, by 8·pixel + 2·channel + half. -/
  segOpen : List Nat
  /-- Time of the last write to a pattern register, whether it waits, and the pattern in force (R103). -/
  patternAt : Nat
  patternDirty : Bool
  pattern : Pattern
  /-- A capture of R113: the number of boundaries still to pass. -/
  peekWait : Nat
  /-- Surveyed frames since the frame timer started, and frames since it started (R134). -/
  surveyed : Nat
  frames  : Nat
  confirm : List Confirm
  /-- Drift records (R140) and factory forward voltages, by 8·pixel + 2·channel + half. -/
  drift   : List (Nat × BitVec 16)
  factoryVf : List (Nat × Nat)
  /-- The defect map in order, and the journal of both slots (R143). -/
  defects : List Defect
  journal : List Defect
  /-- Quadrants whose link has lost training since the last survey slot (R96). -/
  retrain : List Nat
  deriving DecidableEq, Repr

/-! ### Mailboxes and locks (chapter 10) -/

/-- One mailbox channel (R341 to R347): complete host messages not yet read by firmware, oldest first; the words of an
incomplete host message and when its header came; complete firmware messages, the head one without the words already
read; firmware messages that wait for room and when the wait began. -/
structure Mbox where
  tx       : List (List Nat)
  txPart   : List Nat
  txSince  : Nat
  rx       : List (List Nat)
  rxWait   : List (List Nat × Nat)
  /-- The host has sent at least one message since the last start or reset of the channel (R350). -/
  spoken   : Bool
  /-- Host messages that firmware has read before a wait and not yet answered, oldest first (R347). -/
  got      : List (List Nat)
  deriving DecidableEq, Repr

/-- Mailboxes, doorbell bits and locks beside their registers. -/
structure Hk where
  mbox     : List (Nat × Mbox)
  /-- Wake events sent to HKC_1 (R351), counted. -/
  wakes    : Nat
  /-- HKC_1's domain is powered (R351). -/
  hkc1On   : Bool
  /-- Notifications of module firmware by an unmasked doorbell bit (R354), counted. -/
  bells    : Nat
  /-- Reset notices sent to module firmware (R356), counted by channel. -/
  resets   : List (Nat × Nat)
  /-- Holders of the locks, by lock; a lock that is not listed is free (R357). -/
  holder   : List (Nat × Master)
  deriving DecidableEq, Repr

/-! ### GUARD_A and GUARD_B (chapters 11 and 12) -/

/-- Why a pass switch is held open (R388): the REACT of a region, the tap check, the light-removing reactions. -/
inductive Hold where
  | react (region : Nat)
  | tap
  | safe
  | fatal
  | xcmp
  deriving DecidableEq, Repr

/-- Why GUARD_A gates a sector and colour dark (R120, R121, R221, R253, R368, R383, R393, R466); `register` is its own write
of TONE_SREF. -/
inductive Gate where
  | stop | stale | footprint | clamp | fatal | register
  deriving DecidableEq, Repr

/-- An axis record of R378. -/
structure Axis where
  bits   : Nat
  gray   : Bool
  offset : Nat
  scale  : Int
  deriving DecidableEq, Repr

/-- A zone record of R379. -/
structure Zone where
  act    : Nat
  enable : Bool
  wset   : Nat
  limit  : Nat
  verts  : List (Int × Int)
  deriving DecidableEq, Repr

/-- The zone table of R378, as a guard holds it once its copy has passed its check. -/
structure ZoneTable where
  flipX   : Bool
  flipY   : Bool
  posTol  : Nat
  margin  : Nat
  wPan    : Nat
  wTilt   : Nat
  wZoom   : Nat
  axes    : List Axis
  focal   : List (Nat × Nat)
  weights : List (List Nat)
  zones   : List Zone
  deriving DecidableEq, Repr

/-- A valid telegram copy as its guard keeps it (R406 to R412): bytes 0 to 27 and the time of its arrival, ns. -/
structure Copy where
  bytes : List Nat
  at_   : Nat
  deriving DecidableEq, Repr

/-- One safety network at its guard (R402, R403, R406 to R413). -/
structure Net where
  buffer    : List (List Nat × Nat)
  last      : Option Copy
  /-- A run of code-2 discards goes on (R413). -/
  crcRun    : Bool
  /-- Polls the PHY has failed to answer (R402), and its reset line. -/
  phyMiss   : Nat
  phyReset  : Bool
  /-- LINK_ONE has been recorded for the present staleness (R393). -/
  staleSeen : Bool
  /-- The last reset edge (R412): its SEQ and time. -/
  edge      : Option (Nat × Nat)
  /-- SEQ of the last copy compared or counted SINGLE (R410). -/
  compared  : Option Nat
  deriving DecidableEq, Repr

/-- The guards beside their registers. -/
structure Guards where
  holds      : List (Hold × Nat × Nat)
  gates      : List (Gate × Nat)
  /-- The zone table of each guard, where its copy has passed its check (R378). -/
  zoneA      : Option ZoneTable
  zoneB      : Option ZoneTable
  /-- Share factor of GUARD_A and of GUARD_B, times two (R381). -/
  sigmaA     : Nat
  sigmaB     : Nat
  /-- Changes of a channel that the other channel of its pair has not yet followed (R372), and when they were made, by
  4·pair (0 STOP, 1 ZONE) + 2·channel + level (1 run). -/
  discSince  : List (Nat × Nat)
  /-- Latched pairs whose channels have since held the demand level together (R373), and when the first released. -/
  discBoth   : List Nat
  discFirst  : List (Nat × Nat)
  /-- Consecutive invalid frames of an encoder, 3·set + axis, and its last valid raw position (R375). -/
  encBad     : List (Nat × Nat)
  encRaw     : List (Nat × Nat)
  /-- Consecutive records with an axis difference above POS_TOL (R376). -/
  encDiff    : List (Nat × Nat)
  /-- Consecutive records with a difference in an item of R366 that only time explains, by 16·guard + item. -/
  itemRun    : List (Nat × Nat)
  /-- Last record each guard received (R367). -/
  recAtA     : Nat
  recAtB     : Nat
  /-- Consecutive exceeding samples, 4·sector + colour (R390), and of PHOTO (R391). -/
  overRun    : List (Nat × Nat)
  photoRun   : Nat
  netA       : Net
  netB       : Net
  /-- STOP and ZONES as combined by R411. -/
  tgStop     : Bool
  tgZones    : Nat
  /-- The cycles counted toward the end of RESTRICT (R393): number, SEQ and time of the last. -/
  recover    : Nat
  recoverSeq : Option Nat
  recoverAt  : Nat
  /-- Consecutive records that met R396, and a reset demand recognised (R412). -/
  restartRun : Nat
  resetSeen  : Bool
  differRun  : Bool
  /-- The mask being derived, and the mask in use with the one scanned for the next frame (R383). -/
  deriving_  : Option Mask
  inUse      : Option Mask
  next       : Option Mask
  /-- GUARD_B's tap check: bands with a failing tile in the frame being scanned (R387). -/
  tapBands   : List Nat
  /-- Set B's position and the active zones at the start of the scan (R387), and the ceilings then (R389), mA. -/
  scanPos    : Option Position
  scanZones  : List Nat
  ceilings   : List Rat
  /-- Gain bounds GB_c of the calibration image (R384). -/
  gb         : List Rat
  /-- Regions whose stored expected value has an uncorrectable error (R228), and the partner's values of a frame (R227). -/
  sigBad     : List Nat
  peerSigs   : Option (Nat × List (Nat × Nat))
  /-- The region registers as the results of the frame found them, to which a suppressed strike returns them (R229). -/
  sigOld     : List (Nat × Nat)
  tapRun     : Bool
  /-- Failed tests, 64·guard + kind, that no later run has passed (R471, R486); guards whose clock check finds a deviation
  (R33); guards whose watchdog has expired (R469). -/
  failedTest : List Nat
  clockBad   : List Nat
  watchdog   : List Nat
  /-- The registers of the check-value units on the guard die, by MW0 offset, before their copy (R421). -/
  units      : List (Nat × BitVec 32)
  /-- The enables are to be asserted once the conditions of R102 and R123 hold: set on an entry, cleared by any removal. -/
  enableDue  : Bool
  deriving DecidableEq, Repr

/-! ### The twin (chapter 13) -/

/-- A heartbeat of the partner (R434, R437): its state, LIT, JOIN, READY, ARMED and the time it completed. -/
structure Heartbeat where
  state : Nat
  lit   : Bool
  join  : Bool
  ready : Bool
  armed : Bool
  at_   : Nat
  deriving DecidableEq, Repr

/-- Until when a frame without ACK is resent (R554): while SPLICE is up, until a frame boundary, or until a time. -/
inductive Deadline where
  | whileUp
  | frame (n : Nat)
  | time (t : Nat)
  deriving DecidableEq, Repr

/-- A SPLICE frame sent with ACK_REQ that has no ACK yet (R554). `until_` is the last time at which it is resent. -/
structure TxFrame where
  type    : Nat
  seq     : Nat
  bytes   : List Nat
  sentAt  : Nat
  until_  : Deadline
  deriving DecidableEq, Repr

/-- A token swing in progress (R447): NEW_EPOCH, F, and whether this twin has accepted or been accepted. -/
structure Swing where
  newEpoch : Nat
  frame    : Nat
  agreed   : Bool
  deriving DecidableEq, Repr

/-- A join that the leader runs (R459): the ring and index of its request, its start, which twins join, the frame F of
its JOIN_ENTER with that message's SEQ and ACK, and likewise F_s of its SWITCH once sent. -/
structure Join where
  waiter      : Option (Nat × Nat)
  since       : Nat
  own         : Bool
  peer        : Bool
  frame       : Nat
  enterSeq    : Nat
  enterAcked  : Bool
  switch      : Option Nat
  switchSeq   : Nat
  switchAcked : Bool
  deriving DecidableEq, Repr

/-- A planned hand-over or a set-wide change that this twin has announced (R459, R553): its frame F, none while the token
swing before it runs; its target; the ring and index of its request; the SEQ of its message and whether its ACK has
arrived; whether it is a set-wide change. -/
structure Handover where
  frame  : Option Nat
  target : Mode
  waiter : Option (Nat × Nat)
  acked  : Bool
  seq    : Nat
  setWide : Bool
  deriving DecidableEq, Repr

/-- The partner's CAPS (R440). -/
structure Caps where
  uid      : Nat
  order    : Nat
  protoMaj : Nat
  protoMin : Nat
  fw       : Nat
  epoch    : Nat
  role     : Nat
  state    : Nat
  timing   : List Nat
  zoneHash : Nat
  deriving DecidableEq, Repr

/-- The twin logic beside its registers. -/
structure Twin where
  tickAt      : Option Nat
  spliceAt    : Option Nat
  beatTick    : Option Heartbeat
  beatStatus  : Option Heartbeat
  /-- Lanes that the partner's latest STATUS reports ALIGNED, and when it came (R435). -/
  peerLanes   : Nat
  peerLanesAt : Option Nat
  txSeq       : Nat
  unacked     : List TxFrame
  /-- SEQs acted on, newest first (R554). -/
  acted       : List Nat
  caps        : Option Caps
  /-- Lease (R445): last renewal sent or received, and the acknowledgements owed on the two paths. -/
  renewAt     : Option Nat
  ackStatus   : Bool
  ackTick     : Bool
  renewSeenAt : Option Nat
  swing       : Option Swing
  swingDueAt  : Option Nat
  joining     : Option Join
  joinSince   : Option Nat
  joinEndAt   : Option Nat
  handover    : Option Handover
  /-- Frame F_s at whose boundary JOIN clears (R459). -/
  switchAt    : Option Nat
  /-- Qualified LIGHT reading since (R427), the last valid one, and LIGHT_INVALID already recorded (R431). -/
  lightSince  : Nat
  lightValidAt : Nat
  lightNoted  : Bool
  conflictSince : Option Nat
  stepAt      : Option Nat
  /-- Low averages in a row (R426). -/
  lowRun      : Nat
  darkMade    : Bool
  /-- Mirror segments of the record being assembled: frame, offset, bytes (R453). -/
  segs        : List (Nat × Nat × List Nat)
  segTotal    : Nat
  diffRun     : Nat
  /-- The output frame at whose capture point a resynchronisation commits (R455), once its record is taken. -/
  resyncAt    : Option Nat
  lastSetSeq  : Nat
  tickCount   : Nat
  tickBad     : List Nat
  /-- The TICK words have stopped: their field register is not refreshed (R433). -/
  tickStopped : Bool
  /-- Wake words still to be sent, and wake words received in a row (R439, R501). -/
  wakeTicks   : Nat
  wakeSeen    : Nat
  /-- FRAME_NO of the last qualifying TIMING block (R439). -/
  lastTiming  : Option Nat
  /-- A run of SPLICE frames that fail CVU_03 goes on (R420). -/
  crcRun      : Bool
  /-- The level pair of ANODE's receiver, P in bit 1 and N in bit 0; the partner's role as last heard. -/
  lightRaw    : Nat
  peerRole    : Nat
  deriving DecidableEq, Repr

/-- Why a step stops with a fault. No rule of the spec ends the module: the only stop is a command of the queue that
names nothing the module has. -/
inductive Fault where
  /-- An operand names a copy that does not exist (a lane above 7, a ring above 63, a lock above 15, a channel above 7):
  no such event can arrive. Raised by no meaning at present; safe: the model stops where the hardware has no event. -/
  | noSuchUnit
  deriving DecidableEq, Repr

/-- Why a step is refused. -/
inductive Refusal where
  /-- The meaning of the command has not been written. Raised by Dispatch only; safe: the model stops. -/
  | notModelled (mnemonic : String)
  deriving DecidableEq, Repr

/-- The whole state. -/
structure State where
  /-- The time of the newest command taken, ns. -/
  now     : Nat
  /-- The commands that wait, first in, first out. -/
  pending : List Instr
  /-- The model's own counter of free values used (notes/assumptions/20.md). -/
  freeCtr : Nat
  /-- The registers of MW0 that differ from their cold value, by MW0 offset, offsets rising. -/
  regs    : List (Nat × BitVec 32)
  /-- The bytes of module DRAM that are not 0, by address, addresses rising. -/
  dram    : List Host.Cell
  /-- What the outside has seen, newest first. -/
  out     : List Output
  /-- Upper halves latched by reads of the lower register of a pair (R24, R78): reader, offset, value. -/
  shadows : List (Master × Nat × Nat)
  access  : Accesses
  house   : House
  keeper  : Keeper
  host    : HostIsl
  hk      : Hk
  intake  : Intake
  braid   : Braid
  warp    : Warp
  tone    : Tone
  anode   : Anode
  timer   : Timer
  array   : EmArray
  guards  : Guards
  twin    : Twin
  deriving DecidableEq, Repr

def State.reset : State where
  now := 0
  pending := []
  freeCtr := 0
  regs := []
  dram := []
  out := []
  shadows := []
  access := { waiting := [], wrote := [], marks := [] }
  house := { mode := .off, waking := none, retryWait := false, heldWake := none, brownMark := false, coldPending := false,
             resetLow := false, perstLow := false, i2cPtr := 0, bootSel := 0, addrSel := 0, change := none, overlayDue := none, stop := none,
             errPin := .off, errSince := 0, errHeld := false, wakeFail := false, lightOut := false, pllUnlocked := [],
             slots := [], flashOp := none, overlays := [], loaded := false, hoursNs := 0, upSince := 0, config := [] }
  keeper := { hist := [], busySince := 0, busyUntil := 0, fatalCount := 0, inj := none, suspended := false, journal := none, clearing := none }
  host := { rings := [], eventSeq := 0, stalled := [], lineFails := [], idleRounds := 0, linesOut := [], conf := .cold,
            mw2Debt := 0, mw2Wait := [], frameRun := 0 }
  hk := { mbox := [], wakes := 0, hkc1On := false, bells := 0, resets := [], holder := [] }
  timer := { timing := ⟨0, false, 0, false, false, 0, 0, 0⟩, pending := none, load := none, reload := none,
             boundaryAt := 0, captureAt := 0, edges := [], syncValid := false, ptpValid := false,
             peerValid := false, planned := 0, goodRun := 0, periods := [], phaseErr := 0,
             jumpNext := false, phaseNew := false, base := 0, refAt := none, clock := false, timeVal := 0, timeAt := 0, ptpAt := none, holdSince := 0, rowsRun := 0, rowsOk := true,
             pixelPath := false, struckPath := false, stagger := false, phase := 0 }
  intake := { lanes := [], streams := [], stopped := false, eyeLane := 0 }
  braid := { layers := [], commit := none, moves := [], prot := none, waiting := none, staleRun := false,
             frame := 0, corrupt := [] }
  warp := { bank0 := [], bank1 := [], first0 := 0, first1 := 0, comp := ⟨0, 0, [], [], [], [], [], 0⟩, load := none, selAt := 0, footRun := false, footNow := [], filters := [] }
  tone := { force := [], pending := none, cal := [], charge := [], sector := [], curve := [], oneseg := [], eta := [],
            kappa := [], presets := [], staged := [], calGo := none, sums := [], peaks := [], sat := 0, sPrev := none,
            nextFull := [], sOwn := 0, partnerS := none, pNew := [], pOld := [], overRun := 0, changeAt := 0, effLow := none,
            store0 := none, store1 := none, ckptAt := 0, ckpts := 0, updates := 0, wearSteps := 0, lfsr := 0, sampleIn := none, sample := [] }
  anode := { stopped := [], wakeDone := false, lowRun := [], window := [], diffRun := [], high := [], tempRun := [], tempSet := [],
             badSensor := [], limiting := [], tlimCold := [] }
  array := { back := [], front := [], tap := [], kill := [], fuse := [], segOpen := [], patternAt := 0, patternDirty := false,
             pattern := ⟨false, 0, 0, 0, 0, 0⟩, peekWait := 0, surveyed := 0, frames := 0, confirm := [], drift := [],
             factoryVf := [], defects := [], journal := [], retrain := [] }
  guards :=
    let net : Net := ⟨[], none, false, 0, true, false, none, none⟩
    { holds := [], gates := [], zoneA := none, zoneB := none, sigmaA := 2, sigmaB := 2, discSince := [], discBoth := [],
      discFirst := [], encBad := [], encRaw := [], encDiff := [], itemRun := [], recAtA := 0, recAtB := 0, overRun := [],
      photoRun := 0, netA := net, netB := net, tgStop := false, tgZones := 0, recover := 0, recoverSeq := none,
      recoverAt := 0, restartRun := 0, resetSeen := false, differRun := false, deriving_ := none, inUse := none,
      next := none, tapBands := [], scanPos := none, scanZones := [], ceilings := [], gb := [], sigBad := [], sigOld := [],
      peerSigs := none, tapRun := false, failedTest := [], clockBad := [], watchdog := [], units := [], enableDue := false }
  twin := { tickAt := none, spliceAt := none, beatTick := none, beatStatus := none, peerLanes := 0, peerLanesAt := none,
            txSeq := 0, unacked := [], acted := [], caps := none, renewAt := none, ackStatus := false, ackTick := false,
            renewSeenAt := none, swing := none, swingDueAt := none, joining := none, joinSince := none, joinEndAt := none,
            handover := none, switchAt := none, lightSince := 0, lightValidAt := 0, lightNoted := false,
            conflictSince := none, stepAt := none, lowRun := 0, darkMade := false, segs := [], segTotal := 0, diffRun := 0,
            resyncAt := none, lastSetSeq := 0, tickCount := 0, tickBad := [], tickStopped := false,
            wakeTicks := 0, wakeSeen := 0, lastTiming := none, crcRun := false, lightRaw := 1, peerRole := 0 }

end Sys2Proof.Machine
end

