-- ==== Sys2Proof/Machine/Ops.lean ====
section
/-! DEFINITION. The named operations over the register file, module DRAM and the other sparse tables, and over the
outputs. Every table is a list with rising keys that holds no entry equal to what an unlisted key reads as, so equal
contents are equal lists. -/

namespace Sys2Proof.Machine

/-! ### Sparse tables -/

/-- The value at a key; an unlisted key reads its default. -/
def sget {α : Type} (dflt : Nat → α) (m : List (Nat × α)) (k : Nat) : α :=
  match m with
  | [] => dflt k
  | (j, v) :: r => if j = k then v else sget dflt r k

/-- The table without an entry at a key. -/
def serase {α : Type} (m : List (Nat × α)) (k : Nat) : List (Nat × α) := m.filter (fun e => e.1 != k)

/-- The table with an entry at a key. -/
def sinsert {α : Type} (m : List (Nat × α)) (k : Nat) (v : α) : List (Nat × α) :=
  match m with
  | [] => [(k, v)]
  | (j, w) :: r => if j = k then (k, v) :: r else if k < j then (k, v) :: (j, w) :: r else (j, w) :: sinsert r k v

/-- Writing a value: an entry where it differs from the default, none where it equals it. -/
def sput {α : Type} [DecidableEq α] (dflt : Nat → α) (m : List (Nat × α)) (k : Nat) (v : α) : List (Nat × α) :=
  match m with
  | [] => if v = dflt k then [] else [(k, v)]
  | e :: r => if v = dflt k then serase (e :: r) k else sinsert (e :: r) k v

/-- The canonical form: keys rising and no entry equal to the default. -/
def Canon {α : Type} [DecidableEq α] (dflt : Nat → α) (m : List (Nat × α)) : Prop :=
  m.Pairwise (fun a b => a.1 < b.1) ∧ ∀ e ∈ m, e.2 ≠ dflt e.1

/-! ### Registers -/

/-- The value of the register at an MW0 offset. -/
def rread (regs : List (Nat × BitVec 32)) (off : Nat) : BitVec 32 := sget coldReg regs off

/-- The register file with the register at an offset set. -/
def rwrite (regs : List (Nat × BitVec 32)) (off : Nat) (v : BitVec 32) : List (Nat × BitVec 32) :=
  sput coldReg regs off v

/-- A field of a register, as a number. -/
def fget (regs : List (Nat × BitVec 32)) (f : Field) : Nat := getBits (rread regs f.off).toNat f.lsb f.width

/-- The register file with one field set to the low bits of a number. -/
def fset (regs : List (Nat × BitVec 32)) (f : Field) (v : Nat) : List (Nat × BitVec 32) :=
  rwrite regs f.off (BitVec.ofNat 32 (setBits (rread regs f.off).toNat f.lsb f.width v))

/-- A register as it reads. -/
def State.reg (s : State) (off : Nat) : Nat := (rread s.regs off).toNat

/-- A field as it reads. -/
def State.get (s : State) (f : Field) : Nat := fget s.regs f

/-- A one-bit field as it reads. -/
def State.flag (s : State) (f : Field) : Bool := fget s.regs f == 1

/-- The state with one field set. -/
def State.set (s : State) (f : Field) (v : Nat) : State := { s with regs := fset s.regs f v }

/-- The state with a one-bit field set. -/
def State.setFlag (s : State) (f : Field) (b : Bool) : State := s.set f (if b then 1 else 0)

/-- The state with a whole register set. -/
def State.setReg (s : State) (off : Nat) (v : Nat) : State := { s with regs := rwrite s.regs off (BitVec.ofNat 32 v) }

/-- The clock of an island in 0.1 MHz (R31), by the block of MW0 that it owns. -/
def blockClock (block : Nat) : Nat :=
  match block with
  | 2 | 7 => 5000
  | 3 | 11 => 4028
  | 4 | 5 | 6 => 8000
  | 9 | 10 => 2000
  | _ => 1000

/-- Two times lie in one cycle of the island that owns the register at an offset. -/
def sameCycle (off a b : Nat) : Bool :=
  a * blockClock (off / 65536) / 10000 == b * blockClock (off / 65536) / 10000

/-- The event of a W1C status bit has come (R20): its cycle is kept, so that a write of 1 in that cycle leaves the bit. -/
def State.marked (s : State) (f : Field) : State :=
  { s with access := { s.access with
    marks := (f.off, f.lsb, s.now) :: s.access.marks.filter (fun e => decide (s.now ≤ e.2.2 + 10)) } }

/-- A W1C status bit is set by its event (R19, R20). -/
def State.latch (s : State) (f : Field) : State := (s.set f 1).marked f

/-- A signed number in the two's complement of a field's width. -/
def twos (width : Nat) (i : Int) : Nat := (i % (2 ^ width : Nat)).toNat

/-- A field's bits as a signed number. -/
def signedBits (width v : Nat) : Int := if v < 2 ^ (width - 1) then v else (v : Int) - (2 ^ width : Nat)

/-- A counter that saturates at the largest number of its field rises by `n`. -/
def State.bumpBy (s : State) (f : Field) (n : Nat) : State :=
  s.set f (min (s.get f + n) (2 ^ f.width - 1))

/-- A saturating counter rises by 1. -/
def State.bump (s : State) (f : Field) : State := s.bumpBy f 1

/-- A counter that wraps rises by 1. -/
def State.count (s : State) (f : Field) : State := s.set f ((s.get f + 1) % 2 ^ f.width)

/-! ### Module DRAM (R49) -/

/-- What a byte of module DRAM that nothing has written reads as: 0 (notes/assumptions/5.md). -/
def dramCold : Nat → BitVec 8 := fun _ => 0

/-- First address of the module region (R49). -/
def modRegion : Nat := 0x1E0000000

/-- The size of module DRAM: 8 GiB (R49). -/
def dramSize : Nat := 0x200000000

/-- A byte of module DRAM. -/
def Mem.read (m : List Host.Cell) (a : Nat) : BitVec 8 := sget dramCold m a

/-- Module DRAM with one byte written. -/
def Mem.write (m : List Host.Cell) (a : Nat) (b : BitVec 8) : List Host.Cell := sput dramCold m a b

/-- Consecutive bytes written from an address up. -/
def Mem.writes (m : List Host.Cell) (a : Nat) : List Nat → List Host.Cell
  | [] => m
  | b :: r => Mem.writes (Mem.write m a (BitVec.ofNat 8 b)) (a + 1) r

/-- Consecutive bytes read from an address up. -/
def Mem.reads (m : List Host.Cell) (a n : Nat) : List Nat := (List.range n).map (fun i => (Mem.read m (a + i)).toNat)

/-- Memory in canonical form. -/
abbrev Mem.wf (m : List Host.Cell) : Prop := Canon dramCold m

/-- A little-endian number from bytes (R16). -/
def leBytes : List Nat → Nat
  | [] => 0
  | b :: r => b % 256 + 256 * leBytes r

/-- The `n` low bytes of a number, little-endian (R16). -/
def toBytes (n v : Nat) : List Nat := (List.range n).map (fun i => v / 256 ^ i % 256)

/-- Bytes `a` to `a + n - 1` of a byte list as a little-endian number; missing bytes read 0. -/
def field (bytes : List Nat) (a n : Nat) : Nat := leBytes ((bytes.drop a).take n)

/-- A byte list as 32-bit words, little-endian. -/
def wordsOf (bytes : List Nat) : List Nat := (List.range (bytes.length / 4)).map (fun i => field bytes (4 * i) 4)

/-- 32-bit words as bytes, little-endian. -/
def bytesOf (words : List Nat) : List Nat := words.flatMap (toBytes 4)

/-- A little-endian 32-bit word of module DRAM. -/
def Mem.word (m : List Host.Cell) (a : Nat) : Nat := leBytes (Mem.reads m a 4)

/-! ### Time and outputs -/

/-- Time passes to that of a command; it never runs backwards (notes/assumptions/2.md). -/
def State.at_ (s : State) (t : Nat) : State := { s with now := max s.now t }

/-- The age of a time stamp in 0.1 ms units, saturating at 16 bits; all ones where there is none. -/
def State.age16 (s : State) (a : Option Nat) : Nat :=
  match a with
  | none => 0xFFFF
  | some x => min ((s.now - x) / 100000) 0xFFFF

/-- HOUSE_HOURS: operating hours outside STOWED and Off; 0 until a start has loaded them. -/
def State.hours (s : State) : Nat :=
  if s.house.loaded then min ((s.house.hoursNs + (s.now - s.house.upSince)) / 3600000000000) 0xFFFFF else 0

/-- Something the outside sees. -/
def State.emit (s : State) (o : Output) : State := { s with out := o :: s.out }

/-- Bus Master Enable is 1 and the device is in D0 (R299). -/
def State.mayMaster (s : State) : Bool := s.flag Reg.HOST_LINK_BME && !s.host.conf.d3hot

/-- A request to the host or a message: it leaves at once, or waits while Bus Master Enable is 0 (R299). -/
def State.toHost (s : State) (o : Output) : State :=
  if s.mayMaster then s.emit o else { s with host := { s.host with stalled := o :: s.host.stalled } }

/-- An MSI-X message of a vector (R337): a masked vector sets its pending bit instead. -/
def State.msix (s : State) (v : Nat) : State :=
  if s.flag (Reg.MSIX_CTRL_MASK v) then
    s.set ⟨Reg.MSIX_PBA_OFF (v / 32), v % 32, 1⟩ 1
  else s.toHost (.msix v)

/-- The cause of vector 64 + k rises (R339): a message goes out when the bit becomes set while it is enabled. -/
def State.raise (s : State) (k : Nat) : State :=
  let cause : Field := ⟨Reg.HOST_IRQ_CAUSE_OFF, k, 1⟩
  let en : Field := ⟨Reg.HOST_IRQ_EN_OFF, k, 1⟩
  if s.flag cause then s.marked cause
  else
    let s := s.latch cause
    if s.flag en then s.msix (64 + k) else s

/-- FRAME_NO as STRIKE holds it. -/
def State.frameNo (s : State) : Nat := s.get Reg.STRIKE_FRAME_NO_FRAME_NO

/-- The beat number as STRIKE holds it. -/
def State.beat (s : State) : Nat := s.get Reg.STRIKE_BEAT_BEAT

/-- The 32-bit difference of two FRAME_NO values, as a signed number (R71). -/
def frameDiff (a b : Nat) : Int := signedBits 32 (((2 ^ 32 + a) - b % 2 ^ 32) % 2 ^ 32)

/-- A frame number later by n. -/
def frameAdd (a n : Nat) : Nat := (a + n) % 2 ^ 32

/-- The module is a twin (R424). -/
def State.twinEn (s : State) : Bool := s.flag Reg.SPLICE_CFG_TWIN_EN

/-- ROLE: 0 none, 1 leader, 2 follower. -/
def State.role (s : State) : Nat := s.get Reg.SPLICE_STATUS_ROLE

/-- The module acts as a follower for the host's commands: it follows, or the driver has fenced it (R449). -/
def State.follows (s : State) : Bool :=
  s.role == 2 || (s.twinEn && s.get Reg.SPLICE_EPOCH_EPOCH < s.get Reg.SPLICE_HOST_EPOCH_EPOCH)

/-- The frame timer runs (R69). -/
def State.timerRuns (s : State) : Bool := s.flag Reg.STRIKE_STATUS_TIMER_RUN

/-- The states in which a guard evaluates its inputs and the frame timer runs (R69, R365). -/
def Mode.running : Mode → Bool
  | .dark | .show | .solo | .calibrate | .service | .safe => true
  | _ => false

/-- The islands in the order of the stop sequence (R498), by their numbers of R325. -/
def stopOrder : List Nat := [0, 3, 2, 4, 5, 6, 8, 11, 7, 9, 1]

/-- The stop sequence has stopped an island, which takes no new work (R498). -/
def State.islandStopped (s : State) (island : Nat) : Bool :=
  match s.house.stop with
  | some q => (stopOrder.take q.stopped).contains island
  | none => false

/-- SHOW, SOLO and CALIBRATE. -/
def Mode.emitting : Mode → Bool
  | .show | .solo | .calibrate => true
  | _ => false

end Sys2Proof.Machine

namespace Sys2Proof

/-- OWNER of a master (R358). -/
def Master.owner : Master → Nat
  | .host => 0 | .hkc0 => 1 | .hkc1 => 2 | .hkc2 => 3 | .hkc3 => 4 | .guardA => 5 | .guardB => 6

/-- The rank of a master among writes of one cycle (R38, R359): the higher stands. -/
def Master.rank : Master → Nat
  | .host => 0 | .hkc3 => 1 | .hkc2 => 2 | .hkc1 => 3 | .hkc0 => 4 | .guardB => 5 | .guardA => 6

/-- A housekeeping core: module firmware. -/
def Master.isFw : Master → Bool
  | .hkc0 | .hkc1 | .hkc2 | .hkc3 => true
  | _ => false

/-- A guard. -/
def Master.isGuard : Master → Bool
  | .guardA | .guardB => true
  | _ => false

end Sys2Proof

namespace Sys2Proof.Machine

/-- A fresh free value of 32 bits; the counter moves on (notes/assumptions/20.md). -/
def State.free (s : State) : Nat × State :=
  ((Config.freeWord s.freeCtr).toNat, { s with freeCtr := s.freeCtr + 1 })

/-! ### Cyclic redundancy checks (R414) -/

/-- Eight steps of a reflected CRC. -/
def crcStep (rp : Nat) (crc : Nat) : Nat → Nat
  | 0 => crc
  | k + 1 => crcStep rp (if crc % 2 = 1 then (crc / 2) ^^^ rp else crc / 2) k

/-- A reflected 32-bit CRC over bytes (R414). -/
def crcReflected (rp : Nat) (data : List Nat) : Nat :=
  (data.foldl (fun crc b => crcStep rp (crc ^^^ (b % 256)) 8) 0xFFFFFFFF) ^^^ 0xFFFFFFFF

/-- CRC-32C (R414). -/
def crc32c (data : List Nat) : Nat := crcReflected 0x82F63B78 data

/-- CRC-32 (R414). -/
def crc32 (data : List Nat) : Nat := crcReflected 0xEDB88320 data

/-- Eight steps of CRC-16. -/
def crc16Step (crc : Nat) : Nat → Nat
  | 0 => crc
  | k + 1 => crc16Step (if crc / 0x8000 % 2 = 1 then ((crc * 2) ^^^ 0x1021) % 0x10000 else crc * 2 % 0x10000) k

/-- CRC-16 over bytes (R414). -/
def crc16 (data : List Nat) : Nat :=
  data.foldl (fun crc b => crc16Step (crc ^^^ (b % 256 * 256)) 8) 0xFFFF

/-- CRC-8 over bits in the order they are sent (R414). -/
def crc8 (bits : List Bool) : Nat :=
  (bits.foldl (fun crc b =>
    let fb := (crc / 128 % 2 == 1) != b
    let c := crc * 2 % 256
    if fb then c ^^^ 0x2F else c) 0xFF) ^^^ 0xFF

/-- The units on the guard die (R48): their registers reach the CVU block only with the copy of R421. -/
def onGuardDie (n : Nat) : Bool := n == 1 || n == 4 || n == 9 || n == 11

/-- The registers of a unit after some of its fields were set, by a function of its register file. -/
def State.cvuSet (s : State) (n : Nat) (f : List (Nat × BitVec 32) → List (Nat × BitVec 32)) : State :=
  if onGuardDie n then { s with guards := { s.guards with units := f s.guards.units } } else { s with regs := f s.regs }

/-- A check-value unit passes a check, or appends a value (R417 to R419). -/
def State.cvuPass (s : State) (n value : Nat) : State :=
  s.cvuSet n (fun r =>
    let r := fset r (Reg.CVU_UNIT_PASS_COUNT n) ((fget r (Reg.CVU_UNIT_PASS_COUNT n) + 1) % 2 ^ 32)
    fset (fset r (Reg.CVU_UNIT_FAIL_RUN n) 0) (Reg.CVU_UNIT_LAST_VALUE n) value)

/-- A check-value unit fails a check: `value` computed, `expected` received (R418, R419). -/
def State.cvuFail (s : State) (n value expected : Nat) : State :=
  let s := if onGuardDie n then s else s.marked ⟨Reg.CVU_STATUS_OFF, n, 1⟩
  s.cvuSet n (fun r =>
    let r := fset r (Reg.CVU_UNIT_FAIL_COUNT n) (min (fget r (Reg.CVU_UNIT_FAIL_COUNT n) + 1) 0xFFFF)
    let r := fset r (Reg.CVU_UNIT_FAIL_RUN n) (min (fget r (Reg.CVU_UNIT_FAIL_RUN n) + 1) 0xFFFF)
    let r := fset (fset r (Reg.CVU_UNIT_LAST_VALUE n) value) (Reg.CVU_UNIT_FAILVAL_VALUE n) expected
    let r := fset r (Reg.CVU_UNIT_FAILFRAME_FRAME n) s.frameNo
    fset r ⟨Reg.CVU_STATUS_OFF, n, 1⟩ 1)

/-- The guard-die units' counters reach the CVU block (R421); a failure since the last copy sets the status bit. -/
def State.cvuCopy (s : State) : State :=
  let s := [1, 4, 9, 11].foldl (fun (s : State) n =>
    [0, 4, 8, 12, 16, 20].foldl (fun (s : State) k =>
      let off := Reg.CVU_UNIT_CFG_OFF n + k
      if k == 0 then s else { s with regs := rwrite s.regs off (rread s.guards.units off) }) s) s
  let bits := fget s.guards.units ⟨Reg.CVU_STATUS_OFF, 0, 12⟩
  let s := [1, 4, 9, 11].foldl (fun (s : State) n =>
    if bits / 2 ^ n % 2 == 1 then s.latch ⟨Reg.CVU_STATUS_OFF, n, 1⟩ else s) s
  { s with guards := { s.guards with units := rwrite s.guards.units Reg.CVU_STATUS_OFF 0 } }

end Sys2Proof.Machine
end

