-- ==== Sys2Proof/Machine/Curves.lean ====
section
/-! DEFINITION. The built-in transfer curves of stage 1 (R155, R156, R218): the exact value of a curve between two rationals,
the tolerance about it, and the table's value within that tolerance. -/

namespace Sys2Proof.Machine

/-! ### Powers with a rational exponent -/

/-- The largest r + x with (r + x)^q at most `a`, for x below 2 to the fuel. -/
def natRoot (q a : Nat) : Nat → Nat → Nat
  | 0, r => r
  | k + 1, r => natRoot q a k (if (r + 2 ^ k) ^ q ≤ a then r + 2 ^ k else r)

/-- x^(p/q) for 0 ≤ x < 2, rounded down to 64 fractional bits. -/
def powLow (x : Rat) (p q : Nat) : Rat :=
  ((natRoot q (x.num.toNat ^ p * 2 ^ (64 * q) / x.den ^ p) 80 0 : Nat) : Rat) / ((2 ^ 64 : Nat) : Rat)

/-- The number at 64 fractional bits above one. -/
def nudged (x : Rat) : Rat := x + 1 / ((2 ^ 64 : Nat) : Rat)

/-! ### The exact curves (R155) -/

/-- 2^20: L24 of full scale. -/
def l24One : Nat := 1048576

/-- N of a component n' (R154). -/
def fraction (n : Nat) : Rat := (n : Rat) / 65535

/-- Curve 1 of a component: two rationals that the exact L lies between. -/
def exact709 (n : Nat) : Rat × Rat :=
  let x := fraction n
  if x < 81 / 1000 then (l24One * x * 10 / 45, l24One * x * 10 / 45)
  else
    let y := powLow ((x + 99 / 1000) / (1099 / 1000)) 20 9
    (l24One * y, l24One * nudged y)

/-- (max(t − c1, 0) / (c2 − c3·t))^(1/m1) × 10,000 of curve 2 at t = N^(1/m2), rounded down. -/
def pqLight (t : Rat) : Rat :=
  10000 * powLow (max (t - 3424 / 4096) 0 / (2413 / 128 - 2392 / 128 * t)) 8192 1305

/-- Y of curve 2 of a component, cd/m²: two rationals that it lies between. -/
def exactPq (n : Nat) : Rat × Rat :=
  let t := powLow (fraction n) 32 2523
  (pqLight t, nudged (pqLight (min 1 (nudged t))))

/-! ### Tolerance and table (R156) -/

/-- The least and the greatest L24 that R156 allows for an exact value between two rationals: within 1 or 0.05 % of it,
whichever is larger, and at most full scale. -/
def curveBounds (e : Rat × Rat) : Nat × Nat :=
  ((Rat.ceil (e.1 - max 1 (e.1 / 2000))).toNat, min l24One (Rat.floor (e.2 + max 1 (e.2 / 2000))).toNat)

/-- Linear interpolation in a table of 4,096 segments (R156), rounded as R151 states. -/
def interpolate (table : Nat → Nat) (n : Nat) : Nat :=
  let a : Int := table (n / 16)
  let b : Int := table (n / 16 + 1)
  (a + ((b - a) * (n % 16 : Nat) + 8) / 16).toNat

/-- A built-in curve at one component: what the table gives, within the tolerance. -/
def tabled (table : Nat → Nat) (bounds : Nat → Nat × Nat) (n : Nat) : Nat :=
  max (bounds n).1 (min (bounds n).2 (interpolate table n))

/-- The built-in curve: no smaller component below `top` gets a larger output fraction than a larger one (R218). -/
def builtIn (table : Nat → Nat) (bounds : Nat → Nat × Nat) (top n : Nat) : Nat :=
  (List.range top).foldl (fun v m => if n < m then min v (n * tabled table bounds m / m + 1) else v) (tabled table bounds n)

/-- Curve 1 (R155, R156; notes/assumptions/25.md). -/
def curve709 (n : Nat) : Nat := builtIn Config.curve709 (fun m => curveBounds (exact709 m)) 65536 n

/-- The least component of curve 2 whose exact luminance reaches PEAK. -/
def pqTop (peak : Nat) : Nat :=
  ((List.range 65536).find? (fun m => decide ((peak : Rat) ≤ (exactPq m).2))).getD 65536

/-- Curve 2 for a PEAK (R155, R156): PEAK and brighter input give full scale. -/
def curvePq (peak n : Nat) : Nat :=
  let top := pqTop peak
  if top ≤ n then l24One
  else builtIn (Config.curvePq peak)
    (fun m => let e := exactPq m; curveBounds (l24One * e.1 / (peak : Rat), l24One * e.2 / (peak : Rat))) top n

end Sys2Proof.Machine
end

