-- ==== Sys2Proof/Machine/Report.lean ====
section
/-! DEFINITION. The operations that many commands share: ring messages and event records (chapter 9), mailbox messages
(chapter 10), SPLICE frames and TWIN events (chapter 13), fault reports (chapter 14), the removal of light, SAFE, FATAL
and the changes of state (chapters 11, 14 and 15). -/

namespace Sys2Proof

/-- CHANNELS of a guard: bit 0 GUARD_A, bit 1 GUARD_B. -/
def Guard.chan : Guard → Nat
  | .a => 1
  | .b => 2

end Sys2Proof

namespace Sys2Proof.Machine

open Reg

/-! ### Rings -/

/-- A ring as it stands in OFF (R312). -/
def Ring.off : Ring := ⟨[], [], [], 0, [], 0, none, false, 0⟩

/-- A ring that goes to OFF: what it used of DRAM in the last 1.0 ms, its bucket, and the spacing of its messages go on (R316,
R317, R338). -/
def Ring.stopped (r : Ring) : Ring :=
  { Ring.off with use := r.use, debt := r.debt, lastMsg := r.lastMsg, msgWaits := r.msgWaits }

/-- A ring. -/
def State.ring (s : State) (n : Nat) : Ring := sget (fun _ => Ring.off) s.host.rings n

/-- The state with one ring changed. -/
def State.setRing (s : State) (n : Nat) (r : Ring) : State :=
  { s with host := { s.host with rings := sput (fun _ => Ring.off) s.host.rings n r } }

/-- Base address of a ring in host memory (R301). -/
def State.ringBase (s : State) (n : Nat) : Nat :=
  2 ^ 32 * s.get (RING_BASE_HI_ADDR n) + 4096 * s.get (RING_BASE_LO_ADDR n)

/-- Slots of a ring (R301). -/
def State.ringSize (s : State) (n : Nat) : Nat := 2 ^ s.get (RING_CFG_LOG2SIZE n)

/-- Completion phase of the pass of an index (R309). -/
def State.phaseOf (s : State) (n i : Nat) : Nat := if i / s.ringSize n % 2 = 0 then 1 else 0

/-- Address of the slot of an index (R301). -/
def State.slotAddr (s : State) (n i : Nat) : Nat := s.ringBase n + 64 * (i % s.ringSize n)

/-- The ring's vector is due (R338): sent at once, or at the end of the holdoff. -/
def State.ringMsg (s : State) (n : Nat) : State :=
  let r := s.ring n
  let h := s.get (RING_CFG_HOLDOFF n) * 1000
  let free := match r.lastMsg with
    | none => true
    | some t => h == 0 || t + h ≤ s.now
  if free then (s.setRing n { r with lastMsg := some s.now, msgWaits := false }).msix n
  else s.setRing n { r with msgWaits := true }

/-- The ring's STATE (R312). -/
def State.ringState (s : State) (n : Nat) : Nat := s.get (RING_STATUS_STATE n)

/-- HOST_RING_STATUS and HOST_RING_HALT follow the rings' states (R312). -/
def State.ringSummary (s : State) : State :=
  let all := List.range 64
  let halted := all.filter (fun n => s.ringState n == 3)
  let busy := all.any (fun n => s.ringState n == 2 || s.ringState n == 4)
  let s := (s.setFlag HOST_RING_STATUS_BUSY busy).set HOST_RING_STATUS_HALTED halted.length
  let live := fun g => (List.range 8).any (fun k => let st := s.ringState (8 * g + k); 1 ≤ st && st ≤ 3)
  let s := s.set HOST_WATCH_STATUS_ACTIVE (((List.range 8).filter live).foldl (fun a g => a + 2 ^ g) 0)
  let mask := fun lo => (halted.filter (fun n => lo ≤ n && n < lo + 32)).foldl (fun a n => a + 2 ^ (n - lo)) 0
  (s.set (HOST_RING_HALT_HALT 0) (mask 0)).set (HOST_RING_HALT_HALT 1) (mask 32)

/-- A ring takes a state (R312). -/
def State.setRingState (s : State) (n st : Nat) : State := (s.set (RING_STATUS_STATE n) st).ringSummary

/-! ### Events (R333 to R335) -/

/-- An event before it is written: TYPE, CODE, SOURCE, the flags of word 0, SET_SEQ and the DATA words. -/
structure Event where
  type     : Nat
  code     : Nat
  source   : Nat
  real     : Bool
  injected : Bool
  setLevel : Bool
  setSeq   : Nat
  data     : List Nat
  deriving DecidableEq, Repr

/-- One bit as a number. -/
def bit (b : Bool) : Nat := if b then 1 else 0

/-- Words 0 to 14 of an event record (R333). -/
def Event.words (e : Event) (frame beat seq epoch : Nat) : List Nat :=
  [2 ^ 24 * e.type + 2 ^ 18 * bit e.real + 2 ^ 17 * bit e.injected + 2 ^ 16 * bit e.setLevel + e.code % 2 ^ 16, frame,
   e.source * 2 ^ 8 + beat, seq, e.setSeq, epoch] ++ (List.range 9).map (fun i => e.data.getD i 0)

/-- A record is written into the next slot of an EVENT ring, its last word with PHASE in a later write, and the ring's
vector is due (R333, R338). -/
def State.writeRecord (s : State) (n : Nat) (words : List Nat) : State :=
  let w := s.get (RING_HEAD_HEAD n)
  let s := (s.toHost (.hostWords (s.slotAddr n w) words)).toHost
    (.hostWords (s.slotAddr n w + 60) [2 ^ 31 * s.phaseOf n w])
  let s := s.set (RING_HEAD_HEAD n) (w + 1)
  (s.set (RING_STATUS_PHASE n) (s.phaseOf n (w + 1))).ringMsg n

/-- An EVENT ring has a free slot (R306). -/
def State.eventRoom (s : State) (n : Nat) : Bool :=
  (2 ^ 32 + s.get (RING_HEAD_HEAD n) - s.get (RING_INDEX_INDEX n)) % 2 ^ 32 < s.ringSize n

/-- A record due to one EVENT ring is written, or dropped when the ring is full (R335). -/
def State.deliver (s : State) (words : List Nat) (n : Nat) : State :=
  if s.eventRoom n && (s.ring n).dropped == 0 then s.writeRecord n words
  else
    let r := s.ring n
    (s.setRing n { r with dropped := r.dropped + 1 }).bump (RING_DROPPED_EVENTS n)

/-- The EVENT rings in RUN that subscribe to a type (R334). -/
def State.subscribers (s : State) (type : Nat) : List Nat :=
  (List.range 64).filter (fun n => s.ringState n == 1 && s.get (RING_CFG_CLASS n) == 4
    && s.get (RING_EVMASK_TYPES n) / 2 ^ (type - 1) % 2 == 1)

/-- The epoch of an event: 0 outside a twin set (R333). -/
def State.eventEpoch (s : State) : Nat := if s.twinEn then s.get SPLICE_EPOCH_EPOCH else 0

/-- An event is generated: it takes the next module event SEQ and goes to every subscribed EVENT ring (R333, R334). -/
def State.event (s : State) (e : Event) : State :=
  let words := e.words s.frameNo s.beat s.host.eventSeq s.eventEpoch
  let s := { s with host := { s.host with eventSeq := (s.host.eventSeq + 1) % 2 ^ 32 } }
  (s.subscribers e.type).foldl (fun s n => s.deliver words n) s

/-- The OVERFLOW record of a ring whose slot has become free (R335): an event of its own, to that ring alone. -/
def State.overflow (s : State) (n : Nat) : State :=
  let r := s.ring n
  if r.dropped == 0 || !s.eventRoom n then s
  else
    let e : Event := ⟨0x0F, 0, 1, false, false, false, 0, [r.dropped]⟩
    let words := e.words s.frameNo s.beat s.host.eventSeq s.eventEpoch
    let s := { s with host := { s.host with eventSeq := (s.host.eventSeq + 1) % 2 ^ 32 } }
    (s.setRing n { r with dropped := 0 }).writeRecord n words

/-- The work of a descriptor ends with a status, a detail and a result (R308, R320). Its completion follows in index
order, with DESCRIPTOR_COMPLETION. -/
def State.finish (s : State) (ring index status detail result : Nat) : State :=
  let r := s.ring ring
  s.setRing ring { r with inflight := r.inflight.map (fun d =>
    if d.index == index && d.done == none then { d with done := some (status, detail, result) } else d) }

/-- The descriptor that awaits the end of a mode change gets its status (R325). -/
def State.answer (s : State) (w : Option (Nat × Nat)) (status detail : Nat) : State :=
  match w with
  | none => s
  | some (ring, index) => s.finish ring index status detail 0

/-! ### SPLICE frames and TWIN events (R436, R457, R461) -/

/-- SPLICE is up (R435). -/
def State.spliceUp (s : State) : Bool := s.flag SPLICE_STATUS_LINK_UP

/-- A SPLICE frame as bytes: the header of R436, the payload, the padding to a multiple of 8, and the CRC-32C. -/
def spliceFrame (type flags seq epoch frame ackSeq : Nat) (payload : List Nat) : List Nat :=
  let body := [type, flags, 0, 0] ++ toBytes 4 seq ++ toBytes 4 epoch ++ toBytes 4 frame ++ toBytes 4 payload.length
    ++ toBytes 4 ackSeq ++ payload
  let body := body ++ List.replicate ((8 - (body.length + 4) % 8) % 8) 0
  body ++ toBytes 4 (crc32c body)

/-- A new frame is sent: CVU_02 appends its check value (R417). A frame with ACK_REQ is kept for resending (R554); a
newer CAPS replaces one that has no ACK yet. While CVU_02 has failed its self-test its stream stays disabled (R422). -/
def State.sendSplice (s : State) (type : Nat) (keep : Option Deadline) (ackSeq : Nat) (payload : List Nat) : State :=
  if !s.flag (CVU_UNIT_CFG_SELFTEST_OK 2) then s else
  let f := spliceFrame type (bit keep.isSome) s.twin.txSeq (s.get SPLICE_EPOCH_EPOCH) s.frameNo ackSeq payload
  let kept := match keep with
    | none => s.twin.unacked
    | some d => s.twin.unacked.filter (fun u => !(type == 1 && u.type == 1)) ++ [⟨type, s.twin.txSeq, f, s.now, d⟩]
  let s := { s with twin := { s.twin with txSeq := (s.twin.txSeq + 1) % 2 ^ 32, unacked := kept } }
  (s.emit (.splice f)).cvuPass 2 (field f (f.length - 4) 4)

/-- A set-level event (R457): the leader gives it the next SET_SEQ, writes it and sends it; a follower hands it to the
leader with SET_SEQ 0 while SPLICE is up, and writes nothing itself. A module without a role writes its own record. -/
def State.setEvent (s : State) (e : Event) : State :=
  let payload := fun (q : Nat) => toBytes 4 q
    ++ toBytes 4 (2 ^ 24 * e.type + 2 ^ 18 * bit e.real + 2 ^ 17 * bit e.injected + (2 ^ 16 + e.code % 2 ^ 16))
    ++ bytesOf ((List.range 9).map (fun i => e.data.getD i 0))
  if s.role == 1 then
    let q := s.get SPLICE_SET_SEQ_NEXT
    let s := s.set SPLICE_SET_SEQ_NEXT (q + 1)
    let s := { s with twin := { s.twin with lastSetSeq := q } }
    let s := s.event { e with setLevel := true, setSeq := q }
    if s.spliceUp then s.sendSplice 8 (some .whileUp) 0 (payload q) else s
  else if s.role == 2 then
    if s.spliceUp then s.sendSplice 8 (some .whileUp) 0 (payload 0) else s
  else s.event e

/-- A TWIN event (R461), with vector 66 (R337): word 6 the epoch, word 7 the partner's state and role, word 8. -/
def State.twinEvent (s : State) (code : Nat) (setLevel : Bool) (w8 : Nat) : State :=
  let e : Event := ⟨4, code, 8, false, false, false, 0,
    [s.get SPLICE_EPOCH_EPOCH, s.get SPLICE_STATUS_PARTNER_STATE + s.twin.peerRole % 4 * 16, w8]⟩
  (if setLevel then s.setEvent e else s.event e).raise 2

/-- PAIR takes a value (R443). -/
def State.setPair (s : State) (p : Nat) : State :=
  if s.get SPLICE_STATUS_PAIR == p then s else (s.set SPLICE_STATUS_PAIR p).raise 2

/-! ### Mailboxes (R341 to R356) -/

/-- An empty channel. -/
def Mbox.empty : Mbox := ⟨[], [], 0, [], [], false, []⟩

/-- A channel. -/
def State.mbox (s : State) (n : Nat) : Mbox := sget (fun _ => Mbox.empty) s.hk.mbox n

/-- The words in a TX queue. -/
def Mbox.txCount (m : Mbox) : Nat := m.tx.flatten.length + m.txPart.length

/-- The words in an RX queue. -/
def Mbox.rxCount (m : Mbox) : Nat := m.rx.flatten.length

/-- A channel changes; its status fields follow (MBOX_n_TX_STATUS, MBOX_n_RX_STATUS, MBOX_STATUS). -/
def State.setMbox (s : State) (n : Nat) (m : Mbox) : State :=
  let s := { s with hk := { s.hk with mbox := sput (fun _ => Mbox.empty) s.hk.mbox n m } }
  let s := (s.set (MBOX_TX_STATUS_COUNT n) m.txCount).setFlag (MBOX_TX_STATUS_FULL n) (m.txCount == 8)
  let s := (s.set (MBOX_TX_STATUS_MSGS n) m.tx.length).setFlag (MBOX_TX_STATUS_PARTIAL n) (m.txPart != [])
  let s := (s.set (MBOX_RX_STATUS_COUNT n) m.rxCount).setFlag (MBOX_RX_STATUS_FULL n) (m.rxCount == 8)
  let s := (s.set (MBOX_RX_STATUS_MSGS n) m.rx.length).setFlag (MBOX_RX_STATUS_READY n) (m.rx != [])
  (s.setFlag ⟨MBOX_STATUS_OFF, 8 + n, 1⟩ (m.tx != [])).setFlag ⟨MBOX_STATUS_OFF, n, 1⟩ (m.rx != [])

/-- A doorbell bit is set; while its mask is 1 it notifies its receiver (R354): MAILBOX for the host, whose bits are 8 to
23, and module firmware for the others. -/
def State.bell (s : State) (b : Nat) : State :=
  let s := s.latch ⟨MBOX_DBELL_OFF, b, 1⟩
  if !s.flag ⟨MBOX_DBELL_MASK_OFF, b, 1⟩ then s
  else if 8 ≤ b && b < 24 then s.raise 3
  else { s with hk := { s.hk with bells := s.hk.bells + 1 } }

/-- A wake event to HKC_1, which powers up its domain (R351). -/
def State.wakeHkc1 (s : State) : State := { s with hk := { s.hk with wakes := s.hk.wakes + 1, hkc1On := true } }

/-- The host is notified of a complete firmware message on a channel (R351). -/
def State.notifyHost (s : State) (n : Nat) : State :=
  if s.flag MBOX_STATUS_MODE then s.bell (8 + n) else s.raise 3

/-- Firmware is notified of a complete host message on a channel (R351). -/
def State.notifyFw (s : State) (n : Nat) : State :=
  if s.flag MBOX_STATUS_MODE then s.bell n else s.wakeHkc1

/-- Firmware reads every complete message of every channel (R347). -/
def State.fwReadAll (s : State) : State :=
  (List.range 8).foldl (fun (s : State) n =>
    let m := s.mbox n
    if m.tx == [] then s else s.setMbox n { m with tx := [], got := m.got ++ m.tx }) s

/-- Firmware sends a message on a channel (R346, R347): where the RX queue has no room it reads every complete message of
every channel and then waits. -/
def State.fwSend (s : State) (n : Nat) (msg : List Nat) : State :=
  let m := s.mbox n
  if m.rxWait == [] && m.rxCount + msg.length ≤ 8 then (s.setMbox n { m with rx := m.rx ++ [msg] }).notifyHost n
  else
    let s := s.fwReadAll
    let m := s.mbox n
    s.setMbox n { m with rxWait := m.rxWait ++ [(msg, s.now)] }

/-- An unsolicited notice on every channel on which the host has spoken (R350, R516). -/
def State.notice (s : State) (code : Nat) (data : List Nat) : State :=
  if !s.flag MBOX_STATUS_FW_READY then s
  else ((List.range 8).filter (fun n => (s.mbox n).spoken)).foldl
    (fun s n => s.fwSend n ((2 ^ 16 * code + data.length) :: data)) s

/-- MBOX_STATUS.MODE follows the state and the recovery (R351); a change notifies pending messages again (R353). -/
def State.mboxMode (s : State) : State :=
  let want : Bool := match s.house.mode with
    | .dark | .show | .solo | .calibrate | .safe => s.flag MBOX_STATUS_RECOVERY
    | _ => true
  if s.flag MBOX_STATUS_MODE == want then s
  else
    let s := s.setFlag MBOX_STATUS_MODE want
    let tx := (List.range 8).filter (fun n => (s.mbox n).tx != [])
    let rx := (List.range 8).filter (fun n => (s.mbox n).rx != [])
    if want then rx.foldl (fun s n => s.bell (8 + n)) (tx.foldl (fun s n => s.bell n) s)
    else
      let s := if tx != [] then s.wakeHkc1 else s
      if rx != [] then s.raise 3 else s

/-! ### The ERR pair (R45, R480, R481) -/

/-- Some open bit is set. -/
def State.anyOpen (s : State) : Bool := s.get KEEPER_OPEN_LO_OPEN != 0 || s.get KEEPER_OPEN_HI_OPEN != 0

/-- An open bit of KEEPER. -/
def openBit (b : Nat) : Field := if b < 32 then ⟨KEEPER_OPEN_LO_OFF, b, 1⟩ else ⟨KEEPER_OPEN_HI_OFF, b - 32, 1⟩

/-- The contributors that force fault: bit 0 KEEPER, 1 HOUSE, 2 GUARD_A, 3 GUARD_B (R480). -/
def State.errSources (s : State) : Nat :=
  let fatal := s.flag KEEPER_STATUS_FATAL
  let house := fatal || s.flag HOUSE_START_HELD || s.house.mode == .boot
    || (s.house.mode == .stowed && (s.house.errHeld || s.house.wakeFail)) || s.house.pllUnlocked.contains 9
  let guard := s.house.mode == .safe || s.guards.holds.any (fun h => h.1 == .xcmp)
  bit (s.anyOpen || fatal) + 2 * bit house + 4 * bit guard + 8 * bit guard

/-- The ERR pair follows its contributors: to fault at once, to healthy no sooner than 10 ms after it went to fault. -/
def State.driveErr (s : State) : State :=
  let src := s.errSources
  let s := s.set KEEPER_STATUS_ERR_SRC src
  let opens := ((List.range 40).filter (fun b => s.flag (openBit b))).length
  let s := s.set KEEPER_STATUS_OPEN_COUNT opens
  let h := s.house
  let pin : ErrPin × Nat :=
    if h.mode == .off then (.off, h.errSince)
    else if src != 0 then (.fault, if h.errPin == .fault then h.errSince else s.now)
    else if h.errPin == .healthy then (.healthy, h.errSince)
    else if h.errPin == .off || 10000000 + h.errSince ≤ s.now then (.healthy, h.errSince)
    else (.fault, h.errSince)
  ({ s with house := { h with errPin := pin.1, errSince := pin.2 } }).setFlag KEEPER_STATUS_ERR (pin.1 != ErrPin.healthy)

/-! ### Light -/

/-- LIGHT out follows R425: emitting in SHOW and SOLO until a dark decision, and dark while HOUSE forces the ERR pair to fault
(RESET_N held, or KEEPER's PLL unlocked, R468, R480). -/
def State.driveLight (s : State) : State :=
  let lit := (s.house.mode == .show || s.house.mode == .solo) && !s.twin.darkMade && !s.flag HOUSE_START_HELD
    && !s.house.pllUnlocked.contains 9
  ({ s with house := { s.house with lightOut := lit } }).setFlag SPLICE_STATUS_LIGHT_OUT lit

/-- GUARD_A deasserts ARRAY_EN_A at every quadrant. -/
def State.disableA (s : State) : State := s.set GUARD_A_STATUS_EN_A 0

/-- GUARD_B deasserts ARRAY_EN_B at every quadrant. -/
def State.disableB (s : State) : State := s.set GUARD_B_STATUS_EN_B 0

/-- Both guards deassert their enables. -/
def State.disable (s : State) : State :=
  let s := s.disableA.disableB
  { s with guards := { s.guards with enableDue := false } }

/-- The switch bit of a band and colour (GUARD_B_BANDS_RG, GUARD_B_BANDS_BL). -/
def bandBit (band colour : Nat) : Field :=
  ⟨if colour < 2 then GUARD_B_BANDS_RG_OFF else GUARD_B_BANDS_BL_OFF, 16 * (colour % 2) + band, 1⟩

/-- Something changed that R179 leaves a frame uncompared for. -/
def State.touch (s : State) : State := { s with tone := { s.tone with changeAt := s.now } }

/-- GUARD_B holds a band open in one colour for a reason; the switch opens (R388), and the band's headroom window holds no
sample of it (R125). -/
def State.hold (s : State) (why : Hold) (band colour : Nat) : State :=
  let e := (why, band, colour)
  let s := { s with guards := { s.guards with
    holds := if s.guards.holds.contains e then s.guards.holds else e :: s.guards.holds } }
  let s : State := { s with anode := { s.anode with window := s.anode.window.filter (· != 4 * band + colour) } }
  (if s.flag (bandBit band colour) then s.touch else s).set (bandBit band colour) 0

/-- Every band and colour is held open for a reason. -/
def State.holdAll (s : State) (why : Hold) : State :=
  (List.range 64).foldl (fun s i => s.hold why (i / 4) (i % 4)) s

/-- The holds for a reason are released; the switches close only at a strike (R388). -/
def State.unhold (s : State) (p : Hold → Bool) : State :=
  { s with guards := { s.guards with holds := s.guards.holds.filter (fun h => !p h.1) } }

/-- GUARD_A gates a sector and colour dark for a reason (R120, R121): index 4·sector + colour. -/
def State.gate (s : State) (why : Gate) (i : Nat) : State :=
  let e := (why, i)
  let s := { s with guards := { s.guards with
    gates := if s.guards.gates.contains e then s.guards.gates else e :: s.guards.gates } }
  (if s.flag (TONE_SREF_DARK i) then s else s.touch).set (TONE_SREF_DARK i) 1

/-- Every sector and colour is gated dark for a reason. -/
def State.gateAll (s : State) (why : Gate) : State := (List.range 256).foldl (fun s i => s.gate why i) s

/-- The gates for a reason are released; a gate ends at the next strike that transfers (R99, R121). -/
def State.ungate (s : State) (p : Gate × Nat → Bool) : State :=
  { s with guards := { s.guards with gates := s.guards.gates.filter (fun g => !p g) } }

/-- TONE's rail-limit input follows AT_MAX and the rails above 40 A (R130, R131, R177). -/
def State.showRailLim (s : State) : State :=
  (List.range 4).foldl (fun s c => s.setFlag ⟨TONE_GOV_STATUS_OFF, 28 + c, 1⟩
    (s.flag ⟨ANODE_RAIL_STATUS_OFF, 4 + c, 1⟩ || s.anode.high.contains c)) s

/-- The bucks stop (R123): no set point is at its maximum any more (R130). -/
def State.stopBucks (s : State) : State :=
  ((List.range 4).foldl (fun s c => s.set (ANODE_RAIL_V_VSET c) 0)
    ((s.set ANODE_RAIL_STATUS_RUN 0).set ANODE_RAIL_STATUS_AT_MAX 0)).showRailLim

/-! ### Changes of state (R490 to R493) -/

/-- A mode change or a stop sequence is in progress (R493): a change, a join, a hand-over, or the stop sequence. -/
def State.changing (s : State) : Bool :=
  s.house.change.isSome || s.house.stop.isSome || s.twin.joining.isSome || s.twin.handover.isSome

/-- CHANGING and TARGET follow the change in progress. -/
def State.showChange (s : State) : State :=
  let s := s.setFlag HOUSE_STATE_CHANGING s.changing
  match s.house.change, s.twin.handover, s.twin.joining with
  | some c, _, _ => s.set HOUSE_STATE_TARGET c.target.num
  | none, some h, _ => s.set HOUSE_STATE_TARGET h.target.num
  | none, none, some _ => s.set HOUSE_STATE_TARGET 2
  | none, none, none => s.set HOUSE_STATE_TARGET 0

/-- The change in progress is taken, or ends. -/
def State.setChange (s : State) (c : Option Change) : State :=
  ({ s with house := { s.house with change := c } }).showChange

/-- The share factor of a guard, times two (R381), as its status reports it. -/
def State.setShare (s : State) (g : Guard) (sigma : Nat) : State :=
  match g with
  | .a => ({ s with guards := { s.guards with sigmaA := sigma } }).set GUARD_A_STATUS_SHARE (sigma - 1)
  | .b => ({ s with guards := { s.guards with sigmaB := sigma } }).set ⟨GUARD_B_STATUS_OFF, 24, 1⟩ (sigma - 1)

/-- What an entry into a state sets in the twin logic (R425, R428, R429, R432, R459): an emitting state forgets the dark
decision; SHOW starts unarmed and unstepped; SOLO and CALIBRATE reached without a step count their time from here; any
state but SHOW ends the JOIN phase. SEL is HALF in SHOW and FULL in every other state (R118). -/
def State.enterTwin (s : State) (m : Mode) : State :=
  let s := (List.range 4).foldl (fun (s : State) c => s.setFlag (TONE_GREF_SEL c) (m != .show)) s
  let tw := s.twin
  let tw := if m.emitting then { tw with darkMade := false, lowRun := 0 } else tw
  match m with
  | .show =>
    let s := { s with twin := { tw with stepAt := none, conflictSince := none } }
    (s.set SPLICE_STATUS_STEPPED 0).set SPLICE_STATUS_ARMED 0
  | .solo | .calibrate =>
    let s := { s with twin := { tw with
      stepAt := (match tw.stepAt with | some x => some x | none => some s.now), joinSince := none } }
    (s.set SPLICE_STATUS_JOIN 0).set SPLICE_STATUS_ARMED 0
  | _ =>
    let s := { s with twin := { tw with stepAt := none, conflictSince := none, joinSince := none, switchAt := none } }
    (s.set SPLICE_STATUS_JOIN 0).set SPLICE_STATUS_ARMED 0

/-- The module enters a state (R490, R492): HOUSE_STATE, the MODE event, vector 71, the STATE notice, the mailboxes'
mode, the ERR pair and LIGHT out; in SHOW, SOLO and CALIBRATE the governor's next frame is its first (R175), and the protected layer blocks every point (R222).
A change made for the set is a set-level event of the leader (R457). -/
def State.enter (s : State) (m : Mode) (cause safety : Nat) : State :=
  let prev := s.house.mode
  let s := { s with
    house := { s.house with mode := m, overlayDue := none }
    tone := { s.tone with sPrev := if m.emitting then none else s.tone.sPrev } }
  let s := if m.emitting then s.set BRAID_PROT_STATUS_BLOCKED_ALL 1 else s
  let s := ((s.set HOUSE_STATE_STATE m.num).set HOUSE_STATE_PREV prev.num).set HOUSE_STATE_CAUSE cause
  let s := s.enterTwin m
  let s := s.setShare .a (if m == .show then 1 else 2)
  let s := s.setShare .b (if m == .show then 1 else 2)
  let e : Event := ⟨5, m.num, 10, false, false, false, 0, [prev.num, cause, safety]⟩
  let s := if cause == 1 && s.role != 0 then s.setEvent e else s.event e
  let s := s.raise 7
  let s := s.notice 0xC002 [m.num, cause]
  s.mboxMode.driveErr.driveLight

/-- The module's own change abandons a requested one (R493): its request is refused with a detail. -/
def State.abandon (s : State) (status detail : Nat) : State :=
  let s := match s.house.change with
    | none => s
    | some c => s.answer c.waiter status detail
  let s := match s.house.stop with
    | none => s
    | some q => s.answer q.waiter status detail
  let s := match s.twin.joining with
    | none => s
    | some j => s.answer j.waiter status detail
  let s := match s.twin.handover with
    | none => s
    | some h => s.answer h.waiter status detail
  ({ s with house := { s.house with change := none, stop := none, heldWake := none }
            intake := { s.intake with stopped := false }
            twin := { s.twin with joining := none, handover := none } }).showChange

/-- A SAFETY event (R397), with vector 65 (R337). -/
def State.safetyEvent (s : State) (g : Guard) (code chan colour subject value limit cause : Nat) : State :=
  let src := match g with | .a => 7 | .b => 11
  (s.event ⟨3, code, src, false, false, false, 0,
    [2 ^ 24 * chan + 2 ^ 16 * colour + subject % 2 ^ 16, value, limit, cause]⟩).raise 1

/-- A guard reports SAFE and its cause. -/
def State.setSafe (s : State) (g : Guard) (safe : Bool) (cause : Nat) : State :=
  match g with
  | .a => (s.setFlag GUARD_A_STATUS_SAFE safe).set GUARD_A_STATUS_CAUSE cause
  | .b => (s.setFlag ⟨GUARD_B_STATUS_OFF, 31, 1⟩ safe).set GUARD_B_STATUS_CAUSE cause

/-- SAFE and its cause as both guards report them. -/
def State.setCause (s : State) (safe : Bool) (cause : Nat) : State := (s.setSafe .a safe cause).setSafe .b safe cause

/-- A guard removes light through its own paths (R363, R368): GUARD_A gates every sector and colour dark and deasserts
ARRAY_EN_A; GUARD_B opens every pass switch and deasserts ARRAY_EN_B. -/
def State.ownPaths (s : State) (g : Guard) : State :=
  let s : State := { s with guards := { s.guards with enableDue := false } }
  match g with
  | .a => (s.gateAll .stop).disableA
  | .b => (s.holdAll .safe).disableB

/-- Island number of a guard (R325). -/
def guardIsland : Guard → Nat
  | .a => 7
  | .b => 11

/-! ### Fault reports (R463 to R486) -/

/-- The module-level reaction of a fault (R467). LINK_LOST reacts as LINK_MODE sets. -/
inductive Reaction where
  | nothing
  | dark
  | safe (cause : Nat)
  | fatal
  | link
  deriving DecidableEq, Repr

/-- A row of the fault list (R467): CODE, class (0 CE, 1 CC, 2 FT), open bit, kind of subject (R475), reaction. A class
of 3 follows from conditions (R294, R422). -/
structure FaultRow where
  code  : Nat
  cls   : Nat
  bit   : Option Nat
  kind  : Nat
  react : Reaction
  deriving DecidableEq, Repr

/-- The fault list, islands 0x00 to 0x05 (R467). -/
def faultList1 : List FaultRow := [
  ⟨0x0001, 0, none, 4, .nothing⟩, ⟨0x0002, 0, none, 4, .nothing⟩, ⟨0x0003, 0, none, 4, .nothing⟩,
  ⟨0x0004, 0, none, 4, .nothing⟩, ⟨0x0005, 0, none, 5, .nothing⟩, ⟨0x0006, 3, some 0, 5, .nothing⟩,
  ⟨0x0101, 0, none, 0, .nothing⟩, ⟨0x0201, 0, none, 6, .nothing⟩, ⟨0x0202, 1, some 1, 6, .nothing⟩,
  ⟨0x0203, 1, some 2, 0, .nothing⟩, ⟨0x0204, 1, some 3, 0, .nothing⟩, ⟨0x0205, 0, none, 0, .nothing⟩,
  ⟨0x0301, 1, some 4, 3, .nothing⟩, ⟨0x0302, 1, some 5, 0, .nothing⟩, ⟨0x0303, 1, some 6, 6, .nothing⟩,
  ⟨0x0304, 1, some 7, 6, .nothing⟩, ⟨0x0401, 1, some 8, 0, .nothing⟩, ⟨0x0402, 0, none, 1, .nothing⟩,
  ⟨0x0403, 0, none, 0, .nothing⟩, ⟨0x0404, 0, none, 0, .nothing⟩, ⟨0x0501, 0, none, 1, .nothing⟩,
  ⟨0x0502, 0, none, 1, .nothing⟩, ⟨0x0503, 1, some 9, 1, .nothing⟩, ⟨0x0504, 1, some 10, 1, .nothing⟩,
  ⟨0x0505, 0, none, 2, .nothing⟩, ⟨0x0506, 0, none, 0, .nothing⟩, ⟨0x0507, 1, some 11, 0, .nothing⟩,
  ⟨0x0508, 0, none, 16, .nothing⟩, ⟨0x0509, 0, none, 0, .nothing⟩, ⟨0x050A, 0, none, 0, .nothing⟩,
  ⟨0x050B, 0, none, 0, .nothing⟩]

/-- The fault list, islands 0x06 and 0x07 (R467). -/
def faultList2 : List FaultRow := [
  ⟨0x0601, 1, some 12, 8, .dark⟩, ⟨0x0602, 0, none, 8, .nothing⟩, ⟨0x0603, 1, some 13, 8, .dark⟩,
  ⟨0x0604, 1, some 14, 8, .dark⟩, ⟨0x0605, 1, some 15, 8, .dark⟩, ⟨0x0606, 1, some 16, 8, .dark⟩,
  ⟨0x0607, 0, none, 8, .nothing⟩, ⟨0x0608, 0, none, 9, .nothing⟩, ⟨0x0609, 0, none, 10, .nothing⟩,
  ⟨0x060A, 0, none, 10, .nothing⟩, ⟨0x060B, 1, some 17, 10, .dark⟩, ⟨0x060C, 0, none, 10, .nothing⟩,
  ⟨0x060D, 0, none, 0, .nothing⟩, ⟨0x0701, 2, none, 14, .fatal⟩, ⟨0x0702, 2, none, 14, .fatal⟩,
  ⟨0x0703, 1, some 18, 11, .safe 7⟩, ⟨0x0704, 1, some 19, 11, .safe 8⟩, ⟨0x0705, 1, some 20, 12, .nothing⟩,
  ⟨0x0706, 1, some 21, 14, .nothing⟩, ⟨0x0707, 1, some 22, 0, .link⟩, ⟨0x0708, 0, none, 13, .nothing⟩,
  ⟨0x0709, 1, some 23, 0, .dark⟩, ⟨0x070A, 1, some 24, 14, .safe 9⟩, ⟨0x070B, 1, some 25, 14, .safe 11⟩,
  ⟨0x070C, 0, none, 13, .nothing⟩, ⟨0x070D, 0, none, 0, .nothing⟩, ⟨0x070E, 0, none, 13, .nothing⟩]

/-- The fault list, islands 0x08 to 0x0B (R467). -/
def faultList3 : List FaultRow := [
  ⟨0x0801, 0, none, 0, .nothing⟩, ⟨0x0802, 1, some 26, 0, .dark⟩, ⟨0x0803, 0, none, 0, .nothing⟩,
  ⟨0x0804, 1, some 27, 0, .nothing⟩, ⟨0x0805, 0, none, 0, .nothing⟩, ⟨0x0806, 0, none, 0, .nothing⟩,
  ⟨0x0807, 0, none, 0, .nothing⟩, ⟨0x0808, 0, none, 0, .nothing⟩, ⟨0x0809, 0, none, 0, .nothing⟩,
  ⟨0x080A, 0, none, 15, .nothing⟩, ⟨0x0901, 0, none, 19, .nothing⟩, ⟨0x0902, 1, some 28, 19, .dark⟩,
  ⟨0x0903, 1, some 29, 14, .dark⟩, ⟨0x0904, 3, some 30, 15, .nothing⟩, ⟨0x0905, 0, none, 0, .nothing⟩,
  ⟨0x0A01, 0, none, 17, .nothing⟩, ⟨0x0A02, 0, none, 18, .nothing⟩, ⟨0x0A03, 0, none, 0, .nothing⟩,
  ⟨0x0A04, 0, none, 0, .nothing⟩, ⟨0x0A05, 1, some 31, 0, .nothing⟩, ⟨0x0A06, 1, some 32, 0, .nothing⟩,
  ⟨0x0A07, 0, none, 0, .nothing⟩, ⟨0x0A08, 2, none, 0, .fatal⟩, ⟨0x0A09, 1, some 33, 14, .nothing⟩,
  ⟨0x0A0A, 2, none, 14, .fatal⟩, ⟨0x0B01, 1, some 34, 2, .safe 3⟩, ⟨0x0B02, 1, some 35, 0, .safe 4⟩,
  ⟨0x0B03, 1, some 36, 0, .safe 10⟩, ⟨0x0B04, 1, some 37, 3, .nothing⟩, ⟨0x0B05, 1, some 38, 7, .nothing⟩,
  ⟨0x0B06, 1, some 39, 7, .nothing⟩, ⟨0x0B07, 0, none, 7, .nothing⟩]

/-- The fault list (R467). -/
def faultList : List FaultRow := faultList1 ++ faultList2 ++ faultList3

/-- The row of a fault code. -/
def faultRow (code : Nat) : Option FaultRow := faultList.find? (fun r => r.code == code)

/-- A SUBJECT word (R475): a kind and an index. -/
def subj (kind index : Nat) : Nat := 2 ^ 24 * kind + index

/-- The eight words of a record (R474). -/
def HistRec.words (h : HistRec) : List Nat :=
  [2 ^ 16 * h.code + 2 ^ 12 * h.source + h.cls * 2 ^ 10 + bit h.real * 2 ^ 9 + bit h.injected * 2 ^ 8
     + bit h.afterFatal * 2 ^ 7, h.frame, 2 ^ 12 * h.state + h.beat, h.seq, h.subject, h.value, h.limit, h.aux]

/-- A report is not recorded (R476, R478): COUNT and CLASS of KEEPER_LOST, and vector 64 for an enabled class. -/
def State.lose (s : State) (cls : Nat) : State :=
  let s := (s.bump KEEPER_LOST_COUNT).latch ⟨KEEPER_LOST_OFF, cls, 1⟩
  if s.flag ⟨KEEPER_IRQ_MASK_OFF, cls, 1⟩ then s.raise 0 else s

/-- A record enters the history queue, the FAULT event follows, and vector 64 for an enabled class (R474, R482, R334). -/
def State.record (s : State) (r : Report) (cls : Nat) (real injected : Bool) : State :=
  let after := s.flag KEEPER_STATUS_FATAL
  let h : HistRec := ⟨r.code, r.source, cls, real, injected, after, s.frameNo, s.house.mode.num, s.beat,
    s.get KEEPER_SEQ_NEXT, r.subject, r.value, r.limit, r.aux⟩
  let k := s.keeper
  let s := { s with keeper := { k with
    hist := (h :: k.hist).take 32
    fatalCount := if after then k.fatalCount + 1 else k.fatalCount
    busySince := if k.busyUntil ≤ s.now then s.now else k.busySince
    busyUntil := (max k.busyUntil s.now) + 80 } }
  let s := s.set KEEPER_SEQ_NEXT (h.seq + 1)
  let s := s.event ⟨1, r.code, r.source, real, injected, false, 0, h.words⟩
  if s.flag ⟨KEEPER_IRQ_MASK_OFF, cls, 1⟩ then s.raise 0 else s

end Sys2Proof.Machine

namespace Sys2Proof

open Machine Machine.Reg

/-- The class of a report: that of the fault list, or the one its conditions give (R467). -/
def Report.class_ (r : Report) : Nat :=
  match faultRow r.code with
  | some f => if f.cls == 3 then r.cls else f.cls
  | none => r.cls

/-- The reaction of a report. A failed self-test of a guard unit is FATAL (R422). -/
def Report.reaction (r : Report) : Reaction :=
  match faultRow r.code with
  | some f => if r.code == 0x0904 && r.cls == 2 then .fatal else f.react
  | none => .nothing

end Sys2Proof

namespace Sys2Proof.Machine

open Reg

/-- KEEPER takes a report (R470, R473 to R482, R485): the class counter, the open bit, the record or its loss. An injected
report with REACT 0 has a record, an event and its count only (R484). `strict` makes a record that is still being written a
ground for loss also when it began at the same moment. -/
def State.collect (s : State) (r : Report) (real injected react strict : Bool) : State :=
  let cls := r.class_
  let full := real || react
  let s := s.bump (match cls with | 0 => KEEPER_COUNTS_CE | 1 => KEEPER_COUNTS_CC | _ => KEEPER_COUNTS_FT)
  let s := match faultRow r.code with
    | some f => (match f.bit with
      | some b => if full && cls == 1 then s.set (openBit b) 1 else s
      | none => s)
    | none => s
  let busy := s.now < s.keeper.busyUntil && (strict || s.keeper.busySince < s.now)
  let lost := busy || s.house.pllUnlocked.contains 9 || (s.flag KEEPER_STATUS_FATAL && 31 ≤ s.keeper.fatalCount)
  if lost then s.lose cls else s.record r cls real injected

/-- An injection is active on the same CODE and SUBJECT (R485). -/
def State.injecting (s : State) (r : Report) : Bool :=
  match s.keeper.inj with
  | some i => i.code == r.code && i.subject == r.subject
  | none => false

/-- A real fault whose reaction is nothing (R467) is reported. -/
def State.note (s : State) (r : Report) : State := (s.collect r true (s.injecting r) false false).driveErr

/-- Such a fault with a code, a source and a subject only. -/
def State.noteFault (s : State) (code source subject : Nat) : State := s.note ⟨code, source, subject, 0, 0, 0, 0⟩

end Sys2Proof.Machine
end

