-- ==== Sys2Proof/Machine/Lanes.lean ====
section
/-! DEFINITION. The link states of the Hawser and SPLICE lanes and the state of the streams (R271, R285, R286, R293), as far
as the entry into FATAL needs them. -/

namespace Sys2Proof.Machine

open Reg

/-! ### Lanes -/

/-- A lane in OFF that has never run. -/
def Lane.cold : Lane := ⟨false, 0, [], 0, 0, false, none, none, false, 0, false, 0⟩

/-- A lane. -/
def State.lane (s : State) (n : Nat) : Lane := sget (fun _ => Lane.cold) s.intake.lanes n

/-- The state with one lane changed. -/
def State.setLane (s : State) (n : Nat) (l : Lane) : State :=
  { s with intake := { s.intake with lanes := sput (fun _ => Lane.cold) s.intake.lanes n l } }

/-- A stream that has never run. -/
def Stream.cold : Stream := ⟨none, none, 0, false, none, none, 0, false, []⟩

/-- A stream. -/
def State.stream (s : State) (m : Nat) : Stream := sget (fun _ => Stream.cold) s.intake.streams m

/-- The state with one stream changed. -/
def State.setStream (s : State) (m : Nat) (r : Stream) : State :=
  { s with intake := { s.intake with streams := sput (fun _ => Stream.cold) s.intake.streams m r } }

/-- A field of a lane's window: lanes 0 to 7 in INTAKE, lanes 8 and 9 in SPLICE. -/
def laneField (n win lsb width : Nat) : Field :=
  ⟨(if n < 8 then 0x30100 + 0x40 * n else 0xB0100 + 0x40 * (n - 8)) + win, lsb, width⟩

/-- LINK of a lane (R271): 0 OFF, 1 TRAIN, 2 BLOCK, 3 MARKED, 4 ALIGNED. -/
def laneLink (n : Nat) : Field := laneField n 4 0 3

/-- LOGICAL of a lane. -/
def laneLogical (n : Nat) : Field := laneField n 4 8 4

/-- Power state of a lane: 0 ACTIVE, 1 IDLE, 2 DEEP (R276, R278). Firmware holds the SPLICE lanes of a twin in ACTIVE while
the frame timer runs, and in DEEP otherwise (R424). -/
def State.lanePow (s : State) (n : Nat) : Nat :=
  if n < 8 then s.get (INTAKE_LANE_PWR_STATE n) else if s.twinEn && s.house.mode.running then 0 else 2

/-- The island of a lane: INTAKE, or SPLICE. -/
def laneIsland (n : Nat) : Nat := if n < 8 then 0 else 8

/-- SUBJECT of a lane (R475): its logical number, 0xF where none is accepted. -/
def State.laneSubj (s : State) (n : Nat) : Nat := subj 4 (s.get (laneLogical n))

/-- The enabled stream whose group holds a logical lane (R274). -/
def State.streamOf (s : State) (logical : Nat) : Option Nat :=
  (List.range 8).find? (fun m => s.flag (INTAKE_STR_CFG_ENABLE m) && s.get (INTAKE_STR_CFG_LANES m) / 2 ^ logical % 2 == 1
    && logical < 8)

/-- LANE_UP follows the lanes. -/
def State.showLane (s : State) (n : Nat) : State :=
  if n < 8 then s.setFlag ⟨INTAKE_STATUS_OFF, n, 1⟩ (3 ≤ s.get (laneLink n)) else s

/-- Word `i` of a layer's settings. -/
def layerWord (cfg : List Nat) (i : Nat) : Nat := cfg.getD i 0

/-- SRC.ENABLE of a layer's settings. -/
def layerOn (cfg : List Nat) : Bool := getBits (layerWord cfg 0) 31 1 == 1

/-- SRC.TYPE of a layer's settings: 0 NONE, 1 STREAM, 2 SURFACE. -/
def layerType (cfg : List Nat) : Nat := getBits (layerWord cfg 0) 8 2

/-- SRC.STREAM of a layer's settings. -/
def layerStream (cfg : List Nat) : Nat := getBits (layerWord cfg 0) 16 3

/-- A committed, enabled layer uses a stream (R294). -/
def State.streamUsed (s : State) (m : Nat) : Bool :=
  s.braid.layers.any (fun e => layerOn e.2.cfg && layerType e.2.cfg == 1 && layerStream e.2.cfg == m)

/-- A stream goes DOWN with a cause (R293, R294), once while it is UP or when it has just been disabled. -/
def State.streamDown (s : State) (m cause : Nat) : State :=
  let wasUp := s.flag (INTAKE_STR_STATUS_UP m)
  let s := (s.set (INTAKE_STR_STATUS_UP m) 0).set (INTAKE_STR_STATUS_DOWN_CAUSE m) cause
  let s := s.set ⟨INTAKE_STATUS_OFF, 8 + m, 1⟩ 0
  if !wasUp then s
  else
    let s := s.event ⟨6, m, 0, false, false, false, 0, [2 ^ 28 * cause]⟩
    s.note ⟨0x0006, 0, subj 5 m, 0, 0, 0, if s.streamUsed m then 1 else 0⟩

/-- A frame of a stream is discarded with a code (R286); FRAME_DISCARD once per run. -/
def State.discard (s : State) (m code : Nat) : State :=
  let r := s.stream m
  let s := s.setStream m { r with frame := none, run := true }
  let s := (s.bump (INTAKE_STR_FRAMES_DISCARDED m)).set (INTAKE_STR_STATUS_LAST_DISCARD m) code
  if r.run then s else s.note ⟨0x0005, 0, subj 5 m, code, 0, 0, 0⟩

/-- The frames whose lane map holds a logical lane are discarded with code 4, and the streams whose last lane map holds
it go down under cause 3 (R286, R293). -/
def State.laneLeaves (s : State) (logical : Nat) : State :=
  match s.streamOf logical with
  | none => s
  | some m =>
    let s := match (s.stream m).frame with
      | some f => if f.map / 2 ^ logical % 2 == 1 then s.discard m 4 else s
      | none => s
    if s.flag (INTAKE_STR_STATUS_UP m) && s.get (INTAKE_STR_STATUS_LAST_MAP m) / 2 ^ logical % 2 == 1
    then s.streamDown m 3 else s

/-- A point measurement on a lane ends at once with INVALID (R280). -/
def State.eyeCut (s : State) (n : Nat) : State :=
  if s.flag INTAKE_EYE_STATUS_BUSY && s.intake.eyeLane == n then
    ((s.set INTAKE_EYE_STATUS_DONE 1).set INTAKE_EYE_STATUS_BUSY 0).set INTAKE_EYE_STATUS_INVALID 1
  else s

/-- A lane falls to a lower link state; a lane that was MARKED or ALIGNED sets DOWN_SEEN, and reports LANE_DOWN where
`note` says so (R271). Below BLOCK no point measurement goes on (R280). -/
def State.laneFalls (s : State) (n link : Nat) (note : Bool) : State :=
  let was := s.get (laneLink n)
  let logical := s.get (laneLogical n)
  let sub := s.laneSubj n
  let s := (s.set (laneLink n) link).showLane n
  let s := if link < 2 then s.eyeCut n else s
  if was < 3 then s
  else
    let s := if was == 4 && link < 4 then s.laneLeaves logical else s
    if link == 3 then s
    else
      let s := (s.latch (laneField n 4 16 1)).set (laneLogical n) 15
      let s := s.set (laneField n 4 24 8) 0
      if note then s.noteFault 0x0001 (laneIsland n) sub else s

/-- A lane goes OFF: its markers and locks are lost (R271). -/
def State.laneOff (s : State) (n : Nat) : State :=
  let s := s.laneFalls n 0 false
  let l := s.lane n
  s.setLane n { Lane.cold with stored := l.stored, loss := l.loss }

/-- A lane starts to train (R271). -/
def State.laneTrain (s : State) (n : Nat) : State :=
  if s.get (laneLink n) == 0 then s.set (laneLink n) 1 else s

/-- Every lane goes OFF: BOOT, STOWED and FATAL (R271). -/
def State.lanesOff (s : State) : State := (List.range 10).foldl (fun s n => s.laneOff n) s

end Sys2Proof.Machine
end

