-- ==== Sys2Proof/Machine/React.lean ====
section
/-! DEFINITION. The reactions of the module to a fault: DARK, SAFE, FATAL (R463 to R468, R493), the report of a fault with its
reaction, and the forced release of locks (R361). -/

namespace Sys2Proof.Machine

open Reg

/-- Entry into SAFE by the decision of a guard (R364, R395, R493): its own paths at once; the other guard follows its
message. In SAFE the first cause stands, but for the STOP pair's latch over causes 1 and 2. -/
def State.enterSafe (s : State) (g : Guard) (cause : Nat) : State :=
  match s.house.mode with
  | .dark | .show | .solo | .calibrate | .service =>
    let s := s.abandon 0x0E 0x89
    let s := ((s.ownPaths g).setSafe g true cause).stopBucks
    let s := (s.emit (.guardLink (guardIsland g) [cause])).enter .safe 8 cause
    let s := { s with guards := { s.guards with restartRun := 0 } }
    s.safetyEvent g 0x0A (g.chan) 0xFF 0 0 0 cause
  | .safe =>
    let now := s.get GUARD_A_STATUS_CAUSE
    if cause == 6 && (now == 1 || now == 2) then s.setCause true 6 else s
  | _ => s

/-- Pairing ends when the module enters BOOT, STOWED or FATAL (R443); the role and the epoch are kept in HOUSE. -/
def State.unpair (s : State) : State := s.setPair 0

/-- Entry into FATAL (R466). The lanes go OFF (R271); the frame timer stops at the next boundary. -/
def State.enterFatal (s : State) (code : Nat) : State :=
  if s.flag KEEPER_STATUS_FATAL || s.house.mode == .off then s
  else
    let s := (s.set KEEPER_STATUS_FATAL 1).set KEEPER_STATUS_FATAL_CODE code
    let s := { s with keeper := { s.keeper with fatalCount := 0 } }
    let s := s.abandon 0x08 10
    let s := ((s.disable.holdAll .fatal).gateAll .fatal).stopBucks
    (s.enter .fatal 10 0).unpair.lanesOff

/-- The DARK reaction (R464): both guards deassert their enables; in SOLO and CALIBRATE firmware starts the exit
sequence toward DARK, whose overlay is applied first. -/
def State.reactDark (s : State) : State :=
  let s := s.disable
  match s.house.mode with
  | .solo | .calibrate =>
    let own := match s.house.change with
      | some c => c.cause == 6 || c.cause == 7
      | none => false
    if own then s
    else (s.abandon 0x0E 0x8A).setChange (some ⟨.dark, 6, none, 0, none, false, some 1⟩)
  | _ => s

/-- The module-level reaction of a fault (R463 to R466). -/
def State.react (s : State) (code source : Nat) : Reaction → State
  | .nothing => s
  | .dark => s.reactDark
  | .safe c => s.enterSafe (if source == 7 then .a else .b) c
  | .fatal => s.enterFatal code
  | .link => if s.flag GUARD_A_CFG_LINK_MODE then s else s.enterSafe .a 5

/-- KEEPER accepts a report: it takes it, and the module reacts where the report is real or its injection says so (R463 to
R466, R484). -/
def State.accept (s : State) (r : Report) (real injected react strict : Bool) : State :=
  let s := s.collect r real injected react strict
  (if real || react then s.react r.code r.source r.reaction else s).driveErr

/-- A real fault is reported. -/
def State.report (s : State) (r : Report) : State := s.accept r true (s.injecting r) false false

/-- A real fault with a code, a source and a subject only. -/
def State.fault (s : State) (code source subject : Nat) : State := s.report ⟨code, source, subject, 0, 0, 0, 0⟩

/-- A real fault with VALUE and LIMIT. -/
def State.faultVal (s : State) (code source subject value limit : Nat) : State :=
  s.report ⟨code, source, subject, value, limit, 0, 0⟩

/-- SELF_DARK (R394): the enables go, the module leaves for DARK at once, and KEEPER records it. -/
def State.selfDark (s : State) : State :=
  let s := s.disable.stopBucks
  let s := s.abandon 0x0E 0x8A
  let s := s.enter .dark 5 0
  let s : State := { s with house := { s.house with overlayDue := some 1 } }
  s.fault 0x0709 7 0

/-- The active injection ends (R483). -/
def State.endInjection (s : State) : State :=
  ({ s with keeper := { s.keeper with inj := none } }).set KEEPER_INJ_STATUS_ACTIVE 0

/-- A lock becomes free (R357). The release of LOCK_10 ends the injection (R483). -/
def State.freeLock (s : State) (n : Nat) : State :=
  let s := { s with hk := { s.hk with holder := s.hk.holder.filter (fun h => h.1 != n) } }
  let s := (s.set (LOCK_PEEK_HELD n) 0).set (LOCK_PEEK_OWNER n) 15
  let s := (s.set ⟨LOCK_STATUS_OFF, n, 1⟩ 0).set ⟨LOCK_STATUS_OFF, 16 + n, 1⟩ 0
  let s := (s.set (LOCK_BUSY n) 0).set (LOCK_OWNER n) 15
  if n == 10 then s.endInjection else s

/-- A lock is released without a write (R361). -/
def State.forceLock (s : State) (n : Nat) : State :=
  ((s.freeLock n).bump LOCK_ERR_FORCED).fault 0x0A02 10 (subj 18 n)

/-- Every lock whose holder satisfies a test is released (R361). -/
def State.forceLocks (s : State) (p : Master → Bool) : State :=
  (s.hk.holder.filter (fun h => p h.2)).foldl (fun s h => s.forceLock h.1) s

end Sys2Proof.Machine
end

