-- ==== Sys2Proof/Machine/Pool.lean ====
section
/-! DEFINITION. The passing of time, which every command begins with; module DRAM bandwidth of the rings and of MW2
(R316 to R319); and which master reaches and writes which block of MW0 (R22, R548, R549). -/

namespace Sys2Proof.Machine

open Reg

/-- The most that a bucket holds, in bytes (R317). -/
def bucketMax : Nat := 65536

/-- The pool in 10 MB/s units: 54.6 GB/s less the admitted pixel-path traffic (HOST_BW_POOL). -/
def State.pool (s : State) : Nat := 5460 - s.get BRAID_BW_ADMIT_TOTAL

/-- The refill rate of a ring before scaling, in 10 MB/s units: the higher of BW and the BW at the admission of any
descriptor in flight (R317). -/
def State.ringRate (s : State) (n : Nat) : Nat :=
  (s.ring n).inflight.foldl (fun m d => max m d.bw) (s.get (RING_QUOTA_BW n))

/-- The sum of the refill rates of all rings and of MW2 (R317, R319). -/
def State.rateSum (s : State) : Nat :=
  ((List.range 64).map (fun n => s.ringRate n)).sum + s.get HOST_MW2_QUOTA_BW

/-- Bytes that a rate in 10 MB/s units refills in `dt` ns, scaled where the sum exceeds the pool (R317). -/
def refilled (rate sum pool dt : Nat) : Rat :=
  let b : Rat := (rate * dt : Nat) / (100 : Rat)
  if sum ≤ pool then b else b * pool / sum

/-- One burst of a request through MW2 (R50, R297, R319): in the module region a read returns 0 and a write is discarded. It
moves the bytes up to the next 512-byte boundary. What is left of the request; none where it has ended, and a read's data
leave. -/
def State.mw2Burst (s : State) (r : Bool × Nat × List Nat × Nat) : State × Option (Bool × Nat × List Nat × Nat) :=
  let addr := r.2.1
  let k := min r.2.2.2 (512 - addr % 512)
  let own := min k (modRegion - addr)
  let s : State := { s with host := { s.host with mw2Debt := s.host.mw2Debt + k } }
  let left := r.2.2.2 - k
  if r.1 then
    ({ s with dram := Mem.writes s.dram addr (r.2.2.1.take own) },
     if left = 0 then none else some (true, addr + k, r.2.2.1.drop k, left))
  else
    let got := r.2.2.1 ++ Mem.reads s.dram addr own ++ List.replicate (k - own) 0
    if left = 0 then (s.emit (.mw2Data got), none) else (s, some (false, addr + k, got, left))

/-- The MW2 requests that wait run in order, burst by burst, while the bucket of MW2 is above 0 (R319). -/
def State.mw2Go (s : State) : Nat → State
  | 0 => s
  | k + 1 =>
    match s.host.mw2Wait with
    | [] => s
    | r :: rest =>
      if bucketMax ≤ s.host.mw2Debt then s
      else
        let b := s.mw2Burst r
        { b.1 with host := { b.1.host with mw2Wait := b.2.toList ++ rest } }.mw2Go k

/-- Every MW2 request that may run does: a request of n bytes has at most n / 512 + 2 bursts. -/
def State.mw2Run (s : State) : State := s.mw2Go ((s.host.mw2Wait.map (fun r => r.2.2.2 / 512 + 2)).sum)

/-- Time passes: the buckets refill at the rates in force (R317), the clock moves on, and waiting MW2 requests run. -/
def State.pass (s : State) (t : Nat) : State :=
  let dt := t - s.now
  let due := s.host.rings.any (fun e => 0 < e.2.debt) || decide (0 < s.host.mw2Debt)
  if dt == 0 || !due then s.at_ t
  else
    let sum := s.rateSum
    let pool := s.pool
    let pay : Rat → Nat → Rat := fun d rate => max 0 (d - refilled rate sum pool dt)
    let s := s.host.rings.foldl (fun (s : State) e =>
      if 0 < e.2.debt then s.setRing e.1 { s.ring e.1 with debt := pay e.2.debt (s.ringRate e.1) } else s) s
    let s := { s with host := { s.host with mw2Debt := pay s.host.mw2Debt (s.get HOST_MW2_QUOTA_BW) } }
    (s.at_ t).mw2Run

/-- The present step of 10 µs (R316). -/
def State.useStep (s : State) : Nat := s.now / 10000

/-- DRAM bytes of a ring over the last 1.0 ms: the hundred steps that have ended (R316). -/
def State.ringUse (s : State) (n : Nat) : Nat :=
  (((s.ring n).use.filter (fun e => decide (s.useStep ≤ e.1 + 100) && decide (e.1 < s.useStep))).map (·.2)).sum

/-- Bytes are debited from a ring's bucket and counted in its use (R316, R317). -/
def State.debit (s : State) (n bytes : Nat) : State :=
  let r := s.ring n
  let use := r.use.filter (fun e => decide (s.useStep ≤ e.1 + 100))
  let use := match use with
    | (k, b) :: u => if k == s.useStep then (k, b + bytes) :: u else (s.useStep, bytes) :: (k, b) :: u
    | [] => [(s.useStep, bytes)]
  s.setRing n { r with debt := r.debt + bytes, use := use }

/-- A burst of a ring may start: its bucket is above 0 (R317). -/
def State.mayBurst (s : State) (n : Nat) : Bool := decide ((s.ring n).debt < bucketMax)

/-- `bytes` bytes may move as bursts of 512 without a wait (R317). -/
def State.mayMove (s : State) (n bytes : Nat) : Bool :=
  bytes == 0 || decide ((s.ring n).debt + ((bytes - 1) / 512 * 512 : Nat) < bucketMax)

/-! ### Access to MW0 -/

/-- The logic supplies are on and no island is held in reset, so that MW0 exists. -/
def State.powered (s : State) : Bool := s.house.mode != .off && s.house.mode != .stowed

/-- An effect inside the module, which only a powered module has. -/
def State.inside (s : State) (f : State → State) : State := if s.powered then f s else s

/-- A master reaches MW0: the host through the link, in D0 (R299, R527); the others inside the module. -/
def State.reaches (s : State) (m : Master) : Bool :=
  s.powered && (m != .host || (s.flag HOST_LINK_UP && !s.host.conf.d3hot))

/-- A master has write access to a block or register, whatever the access codes of its fields: R22 for the host, R548 for
firmware, R549 for the guards. The injection registers obey LOCK_10 beside this (R483). -/
def mayWrite (m : Master) (off : Nat) : Bool :=
  let block := off / 65536
  match m with
  | .host => block != 9 && block != 10
  | .guardA => block == 9 || block == 13 || (block == 6 && TONE_SREF_OFF 0 ≤ off && off < TONE_SREF_OFF 256)
      || (KEEPER_INJ_CTRL_OFF ≤ off && off ≤ KEEPER_INJ_HOLD_OFF)
  | .guardB => block == 10 || block == 13 || (KEEPER_INJ_CTRL_OFF ≤ off && off ≤ KEEPER_INJ_HOLD_OFF)
  | _ => block != 2 && block != 9 && block != 10 && off != SPLICE_HOST_EPOCH_OFF

/-- A master's write to a register arrives at its island. -/
def State.writes (s : State) (m : Master) (off : Nat) : Bool := s.reaches m && mayWrite m off

/-- The island that owns a block of MW0, by its number of R325 (R31). The CVU block is HOUSE's window (R421). -/
def islandOf (off : Nat) : Nat :=
  match off / 65536 with
  | 1 => 9 | 2 => 1 | 3 => 0 | 4 => 2 | 5 => 3 | 6 => 4 | 7 => 5 | 8 => 6 | 9 => 7 | 10 => 11 | 11 => 8
  | _ => 10

/-- An access to an MW0 offset waits: the PLL of its island has lost lock (R32). -/
def State.stalls (s : State) (off : Nat) : Bool := s.house.pllUnlocked.contains (islandOf off)

/-- An access waits behind those that wait already (R32). -/
def State.stall (s : State) (w : Waiting) : State :=
  { s with access := { s.access with waiting := s.access.waiting ++ [w] } }

/-! ### The frame of every command -/

/-- What holds after every command: the command has moved neither the clock nor the queue, and outside SHOW, SOLO and
CALIBRATE both guards keep their enables deasserted (R365). -/
def State.settle (s : State) (now : Nat) (pending : List Instr) : State :=
  let s := { s with now := now, pending := pending }
  if s.house.mode.emitting || (s.get GUARD_A_STATUS_EN_A == 0 && s.get GUARD_B_STATUS_EN_B == 0) then s else s.disable

/-- A command that arrives at a time: time passes first, then it has its effect. -/
def State.run (s : State) (t : Nat) (f : State → State) : State :=
  (f (s.pass t)).settle (s.pass t).now (s.pass t).pending

end Sys2Proof.Machine
end

