-- ==== Sys2Proof/Machine/Intake.lean ====
section
/-! DEFINITION. INTAKE: Hawser and SPLICE lanes, alignment, deskew, stream frames, stream configuration (chapter 8). -/

namespace Sys2Proof.Machine

open Reg

/-! ### Lanes that start -/

/-- The lanes whose power state is ACTIVE or IDLE leave OFF, with the requests kept meanwhile (R271, R277). -/
def State.lanesStart (s : State) : State :=
  let s := (List.range 8).foldl (fun s n =>
    let req := min (s.get (INTAKE_LANE_PWR_REQ n)) 2
    if req == 2 then s.set (INTAKE_LANE_PWR_STATE n) 2
    else
      let s := s.set (INTAKE_LANE_PWR_STATE n) 0
      let s := s.setLane n { s.lane n with idleHeld := req == 1 }
      s.laneTrain n) s
  if !s.twinEn then s
  else (List.range 2).foldl (fun (s : State) k => s.laneTrain (8 + k)) s

/-- The island of a lane has lost its PLL, so that it takes no block (R32). -/
def State.laneHeld (s : State) (n : Nat) : Bool := s.house.pllUnlocked.contains (laneIsland n)

/-- Sixty-four payload bits pass the descrambler 1 + x^39 + x^58 (R265): the bits and the new state. -/
def descramble (scr : Nat) : List Bool → List Bool × Nat
  | [] => ([], scr)
  | b :: r =>
    let o := (b != scr.testBit 38) != scr.testBit 57
    let rest := descramble ((2 * scr + bit b) % 2 ^ 58) r
    (o :: rest.1, rest.2)

/-- The bits of a byte, bit 0 first. -/
def bitsOf (b : Nat) : List Bool := (List.range 8).map (fun i => b.testBit i)

/-- Bits, bit 0 first, as bytes. -/
def packBits : List Bool → List Nat
  | a :: b :: c :: d :: e :: f :: g :: h :: r =>
    (bit a + 2 * bit b + 4 * bit c + 8 * bit d + 16 * bit e + 32 * bit f + 64 * bit g + 128 * bit h) :: packBits r
  | [] => []
  | l => [(l.zipIdx.map (fun p => bit p.1 * 2 ^ p.2)).sum]

/-- A control block's first byte that no rule gives a use on a lane (R266). -/
def invalidType (n type : Nat) : Bool :=
  !(type == 0x1E || type == 0x4B || type == 0x78 || type == 0x87 || (type == 0x2D && 8 ≤ n))

/-- A frame block of stream `m` on logical lane `logical` with an invalid header or a control type ends the frame in
progress (R286); outside a frame an invalid control block counts in SYNC_ERR. -/
def State.blockInFrame (s : State) (n logical sync type : Nat) : State :=
  let bad := sync == 0 || sync == 3
  let inMap := match s.streamOf logical with
    | none => none
    | some m => match (s.stream m).frame with
      | some f => if f.map / 2 ^ logical % 2 == 1 then some m else none
      | none => none
  match inMap with
  | some m =>
    if bad then if s.flag (INTAKE_STR_CFG_DAMAGED m) then s else s.discard m 7
    else if sync == 2 && (type == 0x1E || invalidType n type) then s.discard m 6 else s
  | none => if sync == 2 && invalidType n type then s.bump (laneField n 0x10 16 16) else s

/-- A sync header reaches a lane (R267): block lock after 64 consecutive valid ones, lost at the 16th invalid one of any 64.
A lane that loses block lock trains again with DOWN_SEEN (R271). The flag says that it was lost. -/
def State.syncHeader (s : State) (n : Nat) (bad : Bool) : Bool × State :=
  let s := if bad then s.bump (laneField n 0x10 16 16) else s
  let l := s.lane n
  let win := (bad :: l.window).take 64
  let good := if bad then 0 else min (l.good + 1) 64
  if l.locked && 16 ≤ (win.filter id).length then
    let s := s.setLane n { l with locked := false, good := 0, window := [], bip := 0, bipOn := false, since := none, marker := none }
    (true, (s.latch (laneField n 4 16 1)).laneFalls n 1 true)
  else (false, s.setLane n { l with window := win, good := good, locked := l.locked || good == 64 })

/-- LANE_BLOCK (R265 to R267, R286): a block other than ALIGN as received, its sync header in the order sent (0b01 data,
0b10 control) and its eight payload bytes before the descrambler. -/
def State.laneBlock (s : State) (n sync : Nat) (bytes : List Nat) : State :=
  if s.get (laneLink n) < 2 || 10 ≤ n || s.laneHeld n then s
  else
    match s.syncHeader n (sync % 4 == 0 || sync % 4 == 3) with
    | (true, s) => s
    | (false, s) =>
      let l := s.lane n
      let ds := descramble l.scr (bytes.flatMap bitsOf)
      let bip := (bytes.take 8).foldl (fun a b => a ^^^ (b % 256)) l.bip
      let s := s.setLane n { l with scr := ds.2, bip := bip, since := l.since.map (· + 1) }
      if s.lanePow n != 0 then s
      else s.blockInFrame n (s.get (laneLogical n)) (sync % 4) ((packBits ds.1).headD 0)

/-! ### Alignment markers and deskew (R268 to R270, R275) -/

/-- An ALIGN block is valid but for its sync header (R268). -/
def alignValid (bytes : List Nat) : Bool :=
  let b := fun i => bytes.getD i 0 % 256
  b 0 == 0x4B && b 1 < 16 && b 5 == 255 - b 4 && b 6 == 0x5A && b 7 == 0xC3

/-- The other physical lanes at BLOCK or above whose last marker carries a LANE (R270). -/
def State.twins (s : State) (n lane : Nat) : List Nat :=
  (List.range 10).filter (fun k => k != n && 2 ≤ s.get (laneLink k) && match (s.lane k).marker with
    | some m => m.1 == lane
    | none => false)

/-- LANE of a marker is accepted on a physical lane (R270): as SPLICE or Hawser lane, by REMAP, and carried by no other
lane. -/
def State.orderOk (s : State) (n lane : Nat) : Bool :=
  (if n < 8 then lane < 8 else lane == 8 || lane == 9) && (s.flag INTAKE_CTRL_REMAP || lane == n) && s.twins n lane == []

/-- The physical lanes at MARKED or above whose logical number lies in a group. -/
def State.groupLanes (s : State) (group : Nat) : List Nat :=
  (List.range 8).filter (fun k => 3 ≤ s.get (laneLink k) && group / 2 ^ s.get (laneLogical k) % 2 == 1)

/-- The period of the markers, ns (R268). -/
def markerPeriod : Nat := 67584

/-- What the newest markers of some lanes say (R275). Against the latest of them a marker with the same MCOUNT lies at most
80 ns back; one that is n counts behind lies nearest to n periods back, and its lane's next marker is awaited. Anything else
is a failure. The periods that a wait lasts are the model's reading (notes/assumptions/11.md). -/
inductive Skewed where
  | aligned | awaited | failed
  deriving DecidableEq, Repr

/-- The deskew of markers, each with its LANE, MCOUNT and arrival. -/
def deskewState (marks : List (Nat × Nat × Nat)) : Skewed :=
  let top := (marks.map (fun m => m.2.2)).foldl max 0
  let count := ((marks.find? (fun m => m.2.2 == top)).map (·.2.1)).getD 0
  let behind := fun (m : Nat × Nat × Nat) => (top - m.2.2 + markerPeriod / 2) / markerPeriod
  let agrees := fun (m : Nat × Nat × Nat) =>
    (count + 65536 - m.2.1 % 65536) % 65536 == behind m && (behind m != 0 || top ≤ m.2.2 + 80)
  if !marks.all agrees then .failed else if marks.all (fun m => behind m == 0) then .aligned else .awaited

/-- Deskew of physical lanes (R275): they become ALIGNED with their SKEW; a failure makes the ALIGNED ones MARKED with
DESKEW_ERR. -/
def State.deskew (s : State) (ks : List Nat) : State :=
  let marks := ks.filterMap (fun k => (s.lane k).marker)
  let low := (marks.map (fun m => m.2.2)).foldl min ((marks.map (fun m => m.2.2)).foldl max 0)
  match deskewState marks with
  | .aligned =>
    ks.foldl (fun s k => match (s.lane k).marker with
      | some m => ((s.set (laneLink k) 4).set (laneField k 4 24 8) (m.2.2 - low)).showLane k
      | none => s) s
  | .awaited => s
  | .failed =>
    ks.foldl (fun s k => if s.get (laneLink k) == 4 then
      let sub := s.laneSubj k
      ((s.laneFalls k 3 false).latch (laneField k 4 18 1)).noteFault 0x0003 (laneIsland k) sub else s) s

/-- The lanes of the group of a lane are deskewed at its marker: the group of its enabled stream as soon as every lane of it
is MARKED, and the lanes that are ALIGNED among themselves when another has fallen. A SPLICE lane works alone as well
(chapter 13). -/
def State.deskewOf (s : State) (n : Nat) : State :=
  if n < 8 then
    match s.streamOf (s.get (laneLogical n)) with
    | none => s
    | some m =>
      let g := s.get (INTAKE_STR_CFG_LANES m)
      let ks := s.groupLanes g
      let want := ((List.range 8).filter (fun i => g / 2 ^ i % 2 == 1)).length
      if ks.length == want then s.deskew ks
      else if s.get (laneLink n) == 4 then s.deskew (ks.filter (fun k => s.get (laneLink k) == 4))
      else s
  else s.deskew ([8, 9].filter (fun k => 3 ≤ s.get (laneLink k)))

/-- Cable length for a loss, both in their registers' units (R273). -/
def State.cableLength (s : State) (loss : Nat) : Nat :=
  let ref := if s.get INTAKE_CTRL_REF_LOSS == 0 then 120 else s.get INTAKE_CTRL_REF_LOSS
  min ((loss - s.get INTAKE_CTRL_CHAN_FIXED) * 100 / ref) 0xFFF

/-- Each entry to BLOCK reports the loss of the adapted equaliser and the cable length (R273). -/
def State.showLoss (s : State) (n : Nat) : State :=
  let loss := (s.lane n).loss
  let s := s.set (laneField n 8 31 1) 1
  (s.set (laneField n 8 16 12) (s.cableLength loss)).set (laneField n 8 0 12) (min loss 0xFFF)

/-- A lane stays at BLOCK, or falls to it, with ORDER_ERR: the LANE of its marker is refused (R270, R294). -/
def State.laneRefused (s : State) (n : Nat) : State :=
  let s := if s.get (laneLink n) == 2 then s else (s.laneFalls n 2 false).showLoss n
  (s.latch (laneField n 4 17 1)).noteFault 0x0002 (laneIsland n) (subj 4 15)

/-- A lane at BLOCK gains marker lock with its LANE accepted: MARKED (R271); a request for IDLE that is held applies (R277). -/
def State.laneMarked (s : State) (n lane : Nat) : State :=
  let s := ((s.set (laneLink n) 3).set (laneLogical n) lane).showLane n
  let l := s.lane n
  let s := s.setLane n { l with idleHeld := false }
  if l.idleHeld && n < 8 then s.set (INTAKE_LANE_PWR_STATE n) 1 else s

/-- ALIGN (R267 to R271, R275): an ALIGN block of eight bytes on a lane, which arrived at `arrival` ns. Its sync header is a
valid one; the receiver's own computation starts again at every ALIGN block. -/
def State.alignBlock (s : State) (n : Nat) (bytes : List Nat) (arrival : Nat) : State :=
  if s.get (laneLink n) < 2 || 10 ≤ n || s.laneHeld n then s
  else
    let s := (s.syncHeader n false).2
    let l := s.lane n
    let lane := bytes.getD 1 0 % 16
    if !l.locked then s
    else if !alignValid bytes then s.setLane n { l with bip := 0, bipOn := true, since := l.since.map (· + 1) }
    else
      let s := if l.bipOn && l.bip != bytes.getD 4 0 % 256 then s.bump (laneField n 0x10 0 16) else s
      let paired := l.since == some 16383 && (match l.marker with | some m => m.1 == lane | none => false)
      let s := s.setLane n { l with bip := 0, bipOn := true, since := some 0, marker := some (lane, field bytes 2 2, arrival) }
      if s.get (laneLink n) != 2 then s.deskewOf n
      else if !paired then s
      else if s.orderOk n lane then (s.laneMarked n lane).deskewOf n
      else ((s.twins n lane).foldl (fun s k => s.laneRefused k) s).laneRefused n

/-- MARKER_MISSING (R269, R271): the fourth consecutive marker position without a valid ALIGN block. -/
def State.markerMissing (s : State) (n : Nat) : State :=
  if s.laneHeld n then s
  else
    let up := 3 ≤ s.get (laneLink n)
    let s := s.setLane n { s.lane n with since := none, marker := none }
    if up then (s.laneFalls n 2 true).showLoss n else s

/-- LANE_TRAINED (R271, R273): TRAIN ends; the lane enters BLOCK with its loss, in 0.1 dB. -/
def State.laneTrained (s : State) (n loss : Nat) : State :=
  if s.get (laneLink n) != 1 || 10 ≤ n || s.laneHeld n then s
  else
    let s := s.setLane n { s.lane n with stored := true, loss := loss, locked := false, good := 0, window := [] }
    (s.set (laneLink n) 2).showLoss n

/-! ### Stream frames (R281 to R286, R289) -/

/-- Bytes per pixel of a stream format (R284). -/
def streamBytes : Nat → Option Nat
  | 0 => some 4 | 1 => some 6 | 2 => some 8 | 4 => some 3 | _ => none

/-- Stride of rows of `w` pixels of `p` bytes: a multiple of 64 bytes (R288). -/
def rowStride (w p : Nat) : Nat := (w * p + 63) / 64 * 64

/-- Stride of a stream in its buffer (R288). -/
def State.streamStride (s : State) (m : Nat) : Nat :=
  rowStride (s.get (INTAKE_STR_SIZE_W m)) ((streamBytes (s.get (INTAKE_STR_CFG_FORMAT m))).getD 0)

/-- Bytes of one stream buffer (R288). -/
def bufSize : Nat := 6291456

/-- Payload blocks of a frame (R283). -/
def State.payloadBlocks (s : State) (m : Nat) : Nat :=
  (s.get (INTAKE_STR_SIZE_W m) * s.get (INTAKE_STR_SIZE_H m)
    * (streamBytes (s.get (INTAKE_STR_CFG_FORMAT m))).getD 0 + 7) / 8

/-- The lanes of a lane map, ascending. -/
def mapLanes (map : Nat) : List Nat := (List.range 8).filter (fun i => map / 2 ^ i % 2 == 1)

/-- The buffer a new frame is written to: neither the one taken nor the newest (R289). -/
def Stream.freeBuf (r : Stream) : Nat :=
  ([0, 1, 2].find? (fun b => r.taken != some b && r.newest != some b)).getD 0

/-- The logical lane on which a de-framed block arrives; none where the lane's data is discarded (R276), and where INTAKE has
lost its PLL (R32). -/
def State.deframe (s : State) (n : Nat) : Option Nat :=
  if n < 8 && s.get (laneLink n) == 4 && s.lanePow n == 0 && !s.laneHeld n then some (s.get (laneLogical n)) else none

/-- The code of R286 by which an SOF on a lane ends its frame at once; 0 where the frame begins. -/
def State.sofCode (s : State) (n m : Nat) (bytes : List Nat) : Nat :=
  let r := s.stream m
  let map := bytes.getD 1 0 % 256
  let ready := (mapLanes map).all (fun g => (List.range 8).any (fun k =>
    s.get (laneLogical k) == g && s.get (laneLink k) == 4 && s.lanePow k == 0))
  let other := (bytes.drop 3).any (fun b => b % 256 != 0)
  if bytes.getD 2 0 % 256 != m || other || map == 0 || map &&& s.get (INTAKE_STR_CFG_LANES m) != map || !ready then 2
  else if (match r.lastSof with
      | some t => decide ((s.now - t) * s.get (INTAKE_STR_CFG_RATE_MAX m) * 100 < 98000000000)
      | none => false) then 3
  else if some (s.get (laneLogical n)) != (mapLanes map).head? then 6
  else 0

/-- SOF (R282, R286): the block's eight payload bytes after the descrambler. -/
def State.sofBlock (s : State) (n : Nat) (bytes : List Nat) : State :=
  match (s.deframe n).bind s.streamOf with
  | none => s
  | some m =>
    let s := if (s.stream m).frame.isSome then s.discard m 5 else s
    let code := s.sofCode n m bytes
    if s.intake.stopped || !s.flag (CVU_UNIT_CFG_SELFTEST_OK 7) then s
    else if code != 0 then s.discard m code
    else s.setStream m { s.stream m with frame := some ⟨s.now, bytes.getD 1 0 % 256, [], 1, (s.stream m).freeBuf⟩ }

/-- The header of a frame matches the stream's configuration (R283, R286 code 2). -/
def State.headerOk (s : State) (m : Nat) (h : List Nat) : Bool :=
  field h 0 1 == 1 && field h 1 1 == s.get (INTAKE_STR_CFG_FORMAT m) && field h 2 2 == s.get (INTAKE_STR_SIZE_W m)
    && field h 4 2 == s.get (INTAKE_STR_SIZE_H m) && field h 8 4 == s.payloadBlocks m && field h 12 18 == 0

/-- Payload block `i` of a frame is written row by row into its buffer (R288); the padding of the last block is not. -/
def State.storePayload (s : State) (m buf i : Nat) (bytes : List Nat) : State :=
  let r := s.stream m
  let row := s.get (INTAKE_STR_SIZE_W m) * (streamBytes (s.get (INTAKE_STR_CFG_FORMAT m))).getD 0
  let total := row * s.get (INTAKE_STR_SIZE_H m)
  let mem := ((bytes.take 8).zipIdx).foldl (fun mem p =>
    let k := 8 * i + p.2
    if k < total then Mem.write mem (buf * bufSize + k / row * s.streamStride m + k % row) (BitVec.ofNat 8 p.1)
    else mem) r.bytes
  s.setStream m { r with bytes := mem }

/-- The lane on which the next block of a frame travels: block i on L_(i mod n) (R281). -/
def StreamFrame.nextLane (f : StreamFrame) : Nat := (mapLanes f.map).getD (f.blocks % (mapLanes f.map).length) 8

/-- STREAM_FRAME_BLOCK (R283 to R286): the next header or payload block of a frame, descrambled. A block on another lane than
the next one of R281 is none of the frame's (notes/assumptions/11.md). -/
def State.frameBlock (s : State) (n : Nat) (bytes : List Nat) : State :=
  match (s.deframe n).bind s.streamOf with
  | none => s
  | some m =>
    let r := s.stream m
    match r.frame with
    | none => s
    | some f =>
      if f.nextLane != s.get (laneLogical n) then s
      else if f.blocks < 5 then
        let h := f.header ++ (List.range 8).map (fun i => bytes.getD i 0 % 256)
        let s := s.setStream m { r with frame := some { f with header := h, blocks := f.blocks + 1 } }
        if h.length < 32 then s
        else if crc16 (h.take 30) != field h 30 2 then (s.cvuFail 7 (crc16 (h.take 30)) (field h 30 2)).discard m 1
        else
          let s := s.cvuPass 7 (field h 30 2)
          if s.headerOk m h then s else s.discard m 2
      else if s.payloadBlocks m ≤ f.blocks - 5 then s.discard m 8
      else
        let s := s.setStream m { r with frame := some { f with blocks := f.blocks + 1 } }
        s.storePayload m f.buf (f.blocks - 5) bytes

/-- A stream frame completes (R285, R289, R293). -/
def State.completeFrame (s : State) (m : Nat) (f : StreamFrame) : State :=
  let r := s.stream m
  let skipped := r.newest.isSome && !r.used
  let s := s.setStream m { r with
    frame := none, newest := some f.buf, newestAt := s.now, used := false, lastSof := some f.sofAt, done := r.done + 1
    run := false }
  let s := if skipped then s.bump (INTAKE_STR_SKIPS_SUPERSEDED m) else s
  let s := (s.bump (INTAKE_STR_FRAMES_COMPLETED m)).set (INTAKE_STR_STATUS_LAST_SEQ m) (field f.header 6 2)
  let s := s.set (INTAKE_STR_STATUS_LAST_MAP m) f.map
  if s.flag (INTAKE_STR_STATUS_UP m) then s
  else
    let s := (s.set (INTAKE_STR_STATUS_UP m) 1).set (INTAKE_STR_STATUS_DOWN_CAUSE m) 0
    (s.set ⟨INTAKE_STATUS_OFF, 8 + m, 1⟩ 1).event ⟨6, m, 0, false, false, false, 0, [2 ^ 31]⟩

/-- The code of R286 by which an EOF on a lane of the frame's map discards the frame; 0 where the frame completes. -/
def State.eofCode (s : State) (n m : Nat) (f : StreamFrame) (bytes : List Nat) : Nat :=
  let count := field bytes 4 4
  if f.nextLane != s.get (laneLogical n) || f.blocks < 5 then 6
  else if bytes.getD 1 0 % 256 != m || field bytes 2 2 != 0 then 2
  else if count != s.payloadBlocks m then 8
  else if f.blocks - 5 != count then 6
  else 0

/-- EOF (R282, R285, R286): the block's eight payload bytes after the descrambler. -/
def State.eofBlock (s : State) (n : Nat) (bytes : List Nat) : State :=
  match (s.deframe n).bind s.streamOf with
  | none => s
  | some m =>
    match (s.stream m).frame with
    | none => s
    | some f =>
      let code := s.eofCode n m f bytes
      if f.map / 2 ^ s.get (laneLogical n) % 2 != 1 then s
      else if code != 0 then s.discard m code
      else s.completeFrame m f

/-! ### Power states, eye scans and configuration (R276 to R280, R287) -/

/-- The states in which lane requests are honoured (R277). -/
def Mode.lanesRun : Mode → Bool
  | .dark | .show | .solo | .calibrate | .service | .safe => true
  | _ => false

/-- LANE_POWER_REQUEST (R276 to R278): REQ of a lane is written. -/
def State.laneRequest (s : State) (n req : Nat) : State :=
  let s := s.set (INTAKE_LANE_PWR_REQ n) req
  let want := min req 2
  let l := s.lane n
  if !s.house.mode.lanesRun || 8 ≤ n then s
  else if want == 2 then
    let s := (s.set (INTAKE_LANE_PWR_STATE n) 2).laneOff n
    s.setLane n { s.lane n with idleHeld := false }
  else if want == 0 then
    let s := (s.set (INTAKE_LANE_PWR_STATE n) 0).setLane n { l with idleHeld := false }
    s.laneTrain n
  else if s.get (laneLink n) < 3 then
    let s := s.setLane n { l with idleHeld := true }
    if s.get (INTAKE_LANE_PWR_STATE n) == 2 then (s.set (INTAKE_LANE_PWR_STATE n) 0).laneTrain n else s
  else (s.set (INTAKE_LANE_PWR_STATE n) 1).laneLeaves (s.get (laneLogical n))

/-- EYE_SCAN (R279): the background scan of a lane ends with its width, 1/64 UI, and height, 2 mV. -/
def State.eyeScan (s : State) (n width height : Nat) : State :=
  let busyHere := s.flag INTAKE_EYE_STATUS_BUSY && s.intake.eyeLane == n
  if s.get (laneLink n) < 2 || s.lanePow n == 2 || busyHere || 10 ≤ n || s.laneHeld n then s
  else
    let s := (s.set (laneField n 0xC 0 8) (min width 255)).set (laneField n 0xC 8 8) (min height 255)
    let l := s.lane n
    let low := width < 16 || height < 15
    let run := if low then l.lowEyes + 1 else 0
    let s := s.setLane n { l with lowEyes := run }
    if 2 ≤ run then (s.latch (laneField n 4 19 1)).noteFault 0x0004 (laneIsland n) (s.laneSubj n) else s

/-- EYE_MEASURE_GO (R280): a write of INTAKE_EYE_CTRL. A write of GO while a measurement runs is discarded; one without GO
sets the fields for the next. -/
def State.eyeStart (s : State) (v : Nat) : State :=
  if getBits v 31 1 == 0 then s.setReg INTAKE_EYE_CTRL_OFF (v &&& 0x0F3FFF0F)
  else if s.flag INTAKE_EYE_STATUS_BUSY then s
  else
    let s := s.setReg INTAKE_EYE_CTRL_OFF (v &&& 0x0F3FFF0F)
    let n := getBits v 24 4
    if 10 ≤ n || s.get (laneLink n) < 2 || s.lanePow n == 2 then
      ((s.set INTAKE_EYE_STATUS_DONE 1).set INTAKE_EYE_STATUS_BUSY 0).set INTAKE_EYE_STATUS_INVALID 1
    else
      let s : State := { s with intake := { s.intake with eyeLane := n } }
      ((s.set INTAKE_EYE_STATUS_DONE 0).set INTAKE_EYE_STATUS_BUSY 1).set INTAKE_EYE_STATUS_INVALID 0

/-- EYE_MEASURE_DONE (R280): the measurement that runs ends with its disagreements. -/
def State.eyeEnd (s : State) (errors : Nat) : State :=
  if !s.flag INTAKE_EYE_STATUS_BUSY then s
  else ((s.set INTAKE_EYE_ERR_ERR (min errors 0xFFFFFFFF)).set INTAKE_EYE_STATUS_DONE 1).set INTAKE_EYE_STATUS_BUSY 0

/-- Admitted write traffic of a stream, bytes per second (R288). -/
def State.streamTraffic (s : State) (m : Nat) : Nat :=
  s.streamStride m * s.get (INTAKE_STR_SIZE_H m) * s.get (INTAKE_STR_CFG_RATE_MAX m)

/-- A stream configuration is rejected (R287). -/
def State.configRejected (s : State) (m code : Nat) : State :=
  ((s.latch INTAKE_STATUS_CFG_REJ).set INTAKE_STATUS_REJ_CODE code).set INTAKE_STATUS_REJ_STREAM m

/-- The code of R287 of the first check that a stream's written CFG fails; 0 where all pass. `other` is the pixel-path
traffic without this stream, bytes per second. -/
def State.configCode (s : State) (m other : Nat) : Nat :=
  let lanes := s.get (INTAKE_STR_CFG_LANES m)
  let w := s.get (INTAKE_STR_SIZE_W m)
  let h := s.get (INTAKE_STR_SIZE_H m)
  let shared := (List.range 8).any (fun k => k != m && s.flag (INTAKE_STR_CFG_ENABLE k)
    && s.get (INTAKE_STR_CFG_LANES k) &&& lanes != 0)
  if lanes == 0 || shared then 2
  else if (streamBytes (s.get (INTAKE_STR_CFG_FORMAT m))).isNone then 3
  else if w == 0 || 8192 < w || h == 0 || 8192 < h || bufSize < s.streamStride m * h then 4
  else if s.get (INTAKE_STR_CFG_RATE_MAX m) == 0 || 240 < s.get (INTAKE_STR_CFG_RATE_MAX m) then 5
  else if 54600000000 < other + s.streamTraffic m then 6
  else 0

/-- A stream is disabled (R286 code 9, R293 cause 4). -/
def State.streamOff (s : State) (m : Nat) : State :=
  if !s.flag (INTAKE_STR_CFG_ENABLE m) then s
  else
    let s := if (s.stream m).frame.isSome then s.discard m 9 else s
    let s := s.streamDown m 4
    let lanes := s.get (INTAKE_STR_CFG_LANES m)
    let s := s.set (INTAKE_STR_CFG_ENABLE m) 0
    (s.groupLanes lanes).foldl (fun s k => if s.get (laneLink k) == 4 then s.set (laneLink k) 3 else s) s

/-- STREAM_CONFIG (R287): INTAKE_STR_m_CFG is written; `other` as in `configCode`. -/
def State.streamConfig (s : State) (m v other : Nat) : State :=
  let enabled := s.flag (INTAKE_STR_CFG_ENABLE m)
  if getBits v 31 1 == 0 && enabled then (s.streamOff m).setReg (INTAKE_STR_CFG_OFF m) (v &&& 0x4FFF00FF)
  else if enabled then s.configRejected m 1
  else
    let s := s.setReg (INTAKE_STR_CFG_OFF m) (v &&& 0x4FFF00FF)
    if getBits v 31 1 == 0 then s
    else
      let code := s.configCode m other
      if code != 0 then s.configRejected m code
      else
        let s := s.set (INTAKE_STR_CFG_ENABLE m) 1
        let s := s.setStream m { s.stream m with frame := none, newest := none, used := false, lastSof := none, run := false }
        let s := (s.set (INTAKE_STR_STATUS_UP m) 0).set (INTAKE_STR_STATUS_DOWN_CAUSE m) 1
        let g := s.get (INTAKE_STR_CFG_LANES m)
        if (s.groupLanes g).length == (mapLanes g).length then s.deskew (s.groupLanes g) else s

/-- A write of INTAKE_STR_m_SIZE (R287): rejected with code 1 while the stream is enabled. -/
def State.streamSize (s : State) (m v : Nat) : State :=
  if s.flag (INTAKE_STR_CFG_ENABLE m) then s.configRejected m 1 else s.setReg (INTAKE_STR_SIZE_OFF m) (v &&& 0x3FFF3FFF)

/-- The timeout of a stream, ns (INTAKE_STR_m_TIMEOUT.MS): 0 acts as 100 ms, above 1,000 as 1,000. -/
def State.streamLimit (s : State) (m : Nat) : Nat :=
  let ms := s.get (INTAKE_STR_TIMEOUT_MS m)
  1000000 * (if ms == 0 then 100 else min ms 1000)

/-- STREAM_TIMEOUT (R293): no frame of a stream has completed for its timeout. -/
def State.streamTimeout (s : State) (m : Nat) : State :=
  if s.flag (INTAKE_STR_CFG_ENABLE m) && s.flag (INTAKE_STR_STATUS_UP m)
      && decide ((s.stream m).newestAt + s.streamLimit m ≤ s.now) then s.streamDown m 2 else s

/-- A stream is ready at a capture point (R204): UP, with no frame in progress. -/
def State.streamReady (s : State) (m : Nat) : Bool :=
  s.flag (INTAKE_STR_CFG_ENABLE m) && s.flag (INTAKE_STR_STATUS_UP m) && (s.stream m).frame.isNone

/-- A capture point takes the newest complete frame of every ready stream and records its margin (R289, R290, R292).
A stream that is not ready keeps the buffer taken before. -/
def State.takeStreams (s : State) : State :=
  (List.range 8).foldl (fun s m =>
    let r := s.stream m
    match r.newest with
    | none => s
    | some b =>
      if r.used || !s.streamReady m then s
      else
        let q := min ((s.now - r.newestAt) / 250) 0xFFFF
        let s := s.setStream m { r with taken := some b, used := true }
        let s := (s.set (INTAKE_STR_MARGIN_LAST m) q).set (INTAKE_STR_MARGIN_MIN m) (min q (s.get (INTAKE_STR_MARGIN_MIN m)))
        if s.now - r.newestAt < 2000 then s.bump (INTAKE_STR_SKIPS_NEAR m) else s) s

end Sys2Proof.Machine
end

