-- ==== Sys2Proof/Machine/Braid.lean ====
section
/-! DEFINITION. BRAID and the scalers: the layers and their sources, the Coil formats, blending, the protected layer
(chapter 6), and the scaled layers of WARP (chapter 7). -/

namespace Sys2Proof.Machine

open Reg

/-! ### Rounding (R151) -/

/-- A quotient rounded to the nearest whole number, a half up. -/
def rnd (a b : Nat) : Nat := (2 * a + b) / (2 * b)

/-- A signed quotient rounded to the nearest whole number, a half up. -/
def rndI (a : Int) (b : Nat) : Int := (2 * a + b) / (2 * b : Nat)

/-- A number limited to a range. -/
def clampI (lo hi v : Int) : Int := max lo (min hi v)

/-- A pixel of four 16-bit values: red, green, blue, alpha (R194). -/
structure Px where
  r : Nat
  g : Nat
  b : Nat
  a : Nat
  deriving DecidableEq, Repr

/-- A transparent pixel. -/
def Px.clear : Px := ⟨0, 0, 0, 0⟩

/-- A pixel from a list of components. -/
def Px.of (l : List Nat) : Px := ⟨l.getD 0 0, l.getD 1 0, l.getD 2 0, l.getD 3 65535⟩

/-! ### Layer settings (R192) -/

/-- SRC.FORMAT. -/
def layerFormat (c : List Nat) : Nat := getBits (layerWord c 0) 24 4

/-- SRC.SCALER: 0 none, 1 SC_0, 2 SC_1. -/
def layerScaler (c : List Nat) : Nat := getBits (layerWord c 0) 12 2

/-- SRC.POLICY, where 3 acts as 1. -/
def layerPolicy (c : List Nat) : Nat := let p := getBits (layerWord c 0) 4 2; if p = 3 then 1 else p

/-- SRC.BLEND. -/
def layerBlend (c : List Nat) : Nat := getBits (layerWord c 0) 0 2

/-- The surface's address. -/
def layerBase (c : List Nat) : Nat := 2 ^ 32 * getBits (layerWord c 2) 0 1 + getBits (layerWord c 1) 8 24 * 256

/-- STRIDE. -/
def layerStride (c : List Nat) : Nat := getBits (layerWord c 3) 0 20

/-- A layer contributes at all: enabled with a source (R198). -/
def layerLive (c : List Nat) : Bool := layerOn c && layerType c != 0

/-- A signed position, limited to -8,192 to 8,191 (BRAID_LAYER_nn_DST). -/
def dstPos (v : Nat) : Int := clampI (-8192) 8191 (signedBits 16 v)

/-- Crop and output geometry of a layer: CX, CY, CW, CH, output width and height, DX, DY. -/
structure Geometry where
  cx : Nat
  cy : Nat
  cw : Nat
  ch : Nat
  ow : Nat
  oh : Nat
  dx : Int
  dy : Int
  deriving DecidableEq, Repr

/-- The geometry of a layer's settings (R192, R193). -/
def layerGeo (c : List Nat) : Geometry :=
  let lo := fun i => getBits (layerWord c i) 0 14
  let hi := fun i => getBits (layerWord c i) 16 14
  let scaled := layerScaler c != 0
  ⟨lo 5, hi 5, lo 6, hi 6, if scaled then lo 8 else lo 6, if scaled then hi 8 else hi 6,
   dstPos (getBits (layerWord c 7) 0 16), dstPos (getBits (layerWord c 7) 16 16)⟩

/-- A layer's geometry leaves it empty (R224). -/
def layerEmpty (c : List Nat) : Bool :=
  let g := layerGeo c
  g.cw == 0 || g.ch == 0 || g.ow == 0 || g.oh == 0

/-- ALPHA of a layer. -/
def layerAlpha (c : List Nat) : Nat := getBits (layerWord c 9) 0 16

/-- REPEAT_MAX of a layer. -/
def layerRepeat (c : List Nat) : Nat := getBits (layerWord c 9) 24 8

/-- Width and height of a layer's source: those of the stream, or of the surface (R192). -/
def State.sourceSize (s : State) (c : List Nat) : Nat × Nat :=
  if layerType c == 1 then (s.get (INTAKE_STR_SIZE_W (layerStream c)), s.get (INTAKE_STR_SIZE_H (layerStream c)))
  else (getBits (layerWord c 4) 0 14, getBits (layerWord c 4) 16 14)

/-- Components and their width in bits of a base format: RGBA8, RGB16, RGBA16 (R208). -/
def surfaceComps : Nat → Option (Nat × Nat)
  | 0 | 8 => some (4, 8) | 1 | 9 => some (3, 16) | 2 | 10 => some (4, 16) | _ => none

/-- Bytes per pixel of a surface format. -/
def surfaceBytes (fmt : Nat) : Nat := match surfaceComps fmt with | some (k, n) => k * n / 8 | none => 0

/-- A Coil format (R208). -/
def isCoil (fmt : Nat) : Bool := fmt == 8 || fmt == 9 || fmt == 10

/-- Components of one pixel from its bytes, expanded to 16 bits (R194, R208). -/
def expand (k n : Nat) (bytes : List Nat) : Px :=
  Px.of ((List.range k).map (fun i => if n = 8 then field bytes i 1 * 257 else field bytes (2 * i) 2))

/-! ### Coil blocks (R210 to R215) -/

/-- The first `k` bits of a bit list as a number, least significant first, and the rest. -/
def takeBits (k : Nat) (l : List Bool) : Option (Nat × List Bool) :=
  if l.length < k then none
  else some (((l.take k).zipIdx.map (fun p => bit p.1 * 2 ^ p.2)).sum, l.drop k)

/-- `count` residuals of `w` bits each. -/
def takeResiduals (w : Nat) : Nat → List Bool → Option (List Nat × List Bool)
  | 0, l => some ([], l)
  | k + 1, l => do
    let (u, l) ← takeBits w l
    let (us, l) ← takeResiduals w k l
    some (u :: us, l)

/-- The prediction of R214 from the neighbours left, above and above-left. -/
def coilPred (left above corner : Option Nat) : Nat :=
  match left, above with
  | none, none => 0
  | some a, none => a
  | none, some b => b
  | some a, some b =>
    let c := corner.getD 0
    if max a b ≤ c then min a b else if c ≤ min a b then max a b else a + b - c

/-- One row of one plane from its residuals: s = (u >> 1) XOR -(u & 1), then x = (pred + s) mod 2^n (R214). -/
def coilRow (n : Nat) (above : List Nat) (left corner : Option Nat) : List Nat → List Nat
  | [] => []
  | u :: us =>
    let b := above.head?
    let s : Int := if u % 2 = 0 then (u / 2 : Nat) else -((u / 2 : Nat) : Int) - 1
    let x := twos n ((coilPred left b corner : Int) + s)
    x :: coilRow n above.tail (some x) b us

/-- The rows of one plane: widths and residuals from the bit stream (R213). -/
def coilRows (n bw : Nat) : Nat → List Nat → List Bool → Option (List Nat × List Bool)
  | 0, _, l => some ([], l)
  | k + 1, above, l => do
    let (w, l) ← takeBits 5 l
    if n < w then none
    else
      let (us, l) ← takeResiduals w bw l
      let row := coilRow n above none none us
      let (rest, l) ← coilRows n bw k row l
      some (row ++ rest, l)

/-- The planes of a PACKED body, and the bits left over. -/
def coilPlanes (n bw bh : Nat) : Nat → List Bool → Option (List (List Nat) × List Bool)
  | 0, l => some ([], l)
  | k + 1, l => do
    let (p, l) ← coilRows n bw bh [] l
    let (ps, l) ← coilPlanes n bw bh k l
    some (p :: ps, l)

/-- A number rounded up to a multiple of 16. -/
def up16 (n : Nat) : Nat := (n + 15) / 16 * 16

/-- A block's component planes, in row-major order; none where the block is corrupt (R212 to R215). `bytes` is the whole
block, `k` and `n` the base format's components and width. -/
def coilDecode (k n bw bh : Nat) (bytes : List Nat) : Option (List (List Nat)) :=
  let head := field bytes 0 4
  let body := bytes.drop 4
  let bpp := k * n / 8
  let comp := fun (o c : Nat) => field body (o + c * (n / 8)) (n / 8)
  let res : Option (List (List Nat) × Nat) :=
    match head % 4 with
    | 0 => (coilPlanes n bw bh k (body.flatMap bitsOf)).map
        (fun r => (r.1, (body.length * 8 - r.2.length + 7) / 8))
    | 1 => if body.length < bw * bh * bpp then none
           else some ((List.range k).map (fun c => (List.range (bw * bh)).map (fun i => comp (i * bpp) c)), bw * bh * bpp)
    | 2 => if body.length < bpp then none
           else some ((List.range k).map (fun c => List.replicate (bw * bh) (comp 0 c)), bpp)
    | _ => none
  match res with
  | none => none
  | some (planes, used) =>
    if head / 4 % 2 ^ 14 = 0 ∧ bytes.length = up16 (4 + used) ∧ planes.flatten.sum % 2 ^ 16 = head / 2 ^ 16
    then some planes else none

/-- Block columns and rows of a Coil surface (R210). -/
def coilGrid (w h : Nat) : Nat × Nat := ((w + 15) / 16, (h + 15) / 16)

/-- The index entry of a block: OFFSET and LEN; none where it fails R211. -/
def coilEntry (mem : List Host.Cell) (base w h bx by_ : Nat) : Option (Nat × Nat) :=
  let g := coilGrid w h
  let e := Mem.word mem (base + 4 * (by_ * g.1 + bx))
  let off := e / 256
  let len := e % 256
  if (4 * g.1 * g.2 + 15) / 16 ≤ off ∧ 1 ≤ len ∧ len ≤ 129 ∧ base + 16 * off + 16 * len ≤ modRegion
  then some (off, len) else none

/-- The pixel at (i, j) of a Coil surface; none where its block is corrupt. -/
def coilPixel (mem : List Host.Cell) (base fmt w h i j : Nat) : Option Px := do
  let (k, n) ← surfaceComps fmt
  let bx := i / 16
  let by_ := j / 16
  let (off, len) ← coilEntry mem base w h bx by_
  let bw := min 16 (w - 16 * bx)
  let bh := min 16 (h - 16 * by_)
  let planes ← coilDecode k n bw bh (Mem.reads mem (base + 16 * off) (16 * len))
  let at_ := (j % 16) * bw + i % 16
  let vals := planes.map (fun p => p.getD at_ 0)
  some (Px.of (vals.map (fun v => if n = 8 then v * 257 else v)))

/-! ### Source pixels (R193, R194, R209) -/

/-- Components and their width in bits of a stream format: RGBA8, RGB16, RGBA16, RGB8 (R194, R286). -/
def streamComps : Nat → Option (Nat × Nat)
  | 0 => some (4, 8) | 1 => some (3, 16) | 2 => some (4, 16) | 4 => some (3, 8) | _ => none

/-- Pixel (i, j) of a stream frame (R194, R288). Outside the frame there is nothing: a layer that repeats a frame of a
source it has left may have a crop that reaches beyond it (notes/assumptions/16.md). -/
def State.picturePixel (s : State) (p : Picture) (i j : Nat) : Px :=
  match streamComps p.format with
  | some (k, n) =>
    let size := k * n / 8
    if i < p.width ∧ j < p.height then
      expand k n (Mem.reads (s.stream p.stream).bytes (p.buf * bufSize + j * rowStride p.width size + size * i) size)
    else Px.clear
  | none => Px.clear

/-- A source pixel (i, j) of a layer: of the stream frame it shows, or of its surface; none where the Coil block is
corrupt. -/
def State.sourcePixel (s : State) (c : List Nat) (pic : Option Picture) (i j : Nat) : Option Px :=
  match pic with
  | some p => some (s.picturePixel p i j)
  | none =>
    let fmt := layerFormat c
    let size := s.sourceSize c
    if isCoil fmt then coilPixel s.dram (layerBase c) fmt size.1 size.2 i j
    else match surfaceComps fmt with
      | some (k, n) => some (expand k n (Mem.reads s.dram (layerBase c + j * layerStride c + i * surfaceBytes fmt) (surfaceBytes fmt)))
      | none => some Px.clear

/-! ### Scalers (R255 to R259) -/

/-- Phase and tap base of an output position (R256, R257): `o` of `out` positions over `n` source pixels, on the averaged
grid where `n` exceeds twice `out`. -/
def tapPos (o n out : Nat) : Int × Nat :=
  let num : Int := if 2 * out < n then (2 * o + 1) * n - 2 * out else (2 * o + 1) * n - out
  let den : Nat := if 2 * out < n then 4 * out else 2 * out
  let base := num / (den : Int)
  (base, (64 * (num - base * den) / (den : Int)).toNat)

/-- The four Catmull-Rom coefficients at phase p, with 12 fractional bits, the second adjusted (R258). -/
def cubicTaps (p : Nat) : List Int :=
  let q : Int := p
  let w0 := rndI (-(q ^ 3) + 128 * q ^ 2 - 4096 * q) 128
  let w2 := rndI (-(3 * q ^ 3) + 256 * q ^ 2 + 4096 * q) 128
  let w3 := rndI (q ^ 3 - 64 * q ^ 2) 128
  [w0, 4096 - w0 - w2 - w3, w2, w3]

/-- The coefficients of a filter at phase p, for `taps` 8 (horizontal) or 4 (vertical) (R258). -/
def State.filterTaps (s : State) (sc filt taps p : Nat) : List Int :=
  let pad := fun (l : List Int) (k : Nat) => List.replicate k 0 ++ l ++ List.replicate (taps - k - l.length) 0
  match filt with
  | 0 => pad (if p < 32 then [4096, 0] else [0, 4096]) (if taps = 8 then 3 else 1)
  | 1 => pad [4096 - 64 * (p : Int), 64 * (p : Int)] (if taps = 8 then 3 else 1)
  | 2 => pad (cubicTaps p) (if taps = 8 then 2 else 0)
  | _ => (List.range taps).map (fun k =>
      let w := if taps = 8 then s.reg (WARP_SC_HCOEF_OFF sc (4 * p + k / 2)) else s.reg (WARP_SC_VCOEF_OFF sc (2 * p + k / 2))
      signedBits 16 (getBits w (16 * (k % 2)) 16))

/-- A filter's result (R259). -/
def filterSum (coefs : List Int) (xs : List Nat) : Nat :=
  (clampI 0 65535 (rndI ((List.zipWith (fun (c : Int) (x : Nat) => c * x) coefs xs).sum) 4096)).toNat

/-- Premultiplied components of a source pixel of the crop (R259): a position outside the crop takes the nearest pixel. -/
def State.cropPixel (s : State) (c : List Nat) (pic : Option Picture) (i j : Int) : List Nat :=
  let g := layerGeo c
  let x := (clampI 0 (g.cw - 1) i).toNat
  let y := (clampI 0 (g.ch - 1) j).toNat
  match s.sourcePixel c pic (g.cx + x) (g.cy + y) with
  | some p => [rnd (p.r * p.a) 65535, rnd (p.g * p.a) 65535, rnd (p.b * p.a) 65535, p.a]
  | none => [0, 0, 0, 0]

/-- Two neighbours averaged (R257). -/
def avg2 (a b : List Nat) : List Nat := List.zipWith (fun x y => (x + y + 1) / 2) a b

/-- HFILT and VFILT in force on a scaler (R260): both CUBIC before any commit. -/
def State.filterOf (s : State) (sc : Nat) : Nat := sget (fun _ => 0x22) s.warp.filters sc

/-- Pixels or lines of an axis of `n` once neighbours are averaged (R257). -/
def gridCount (n out : Nat) : Nat := if 2 * out < n then (n + 1) / 2 else n

/-- The source positions that position `k` of the filter's grid stands for: the pair that is averaged, a last one alone,
or the one nearest (R257, R259). -/
def gridSource (n out : Nat) (k : Int) : List Nat :=
  let m := (clampI 0 (gridCount n out - 1) k).toNat
  if 2 * out < n then (if 2 * m + 1 < n then [2 * m, 2 * m + 1] else [2 * m]) else [m]

/-- The value at position `k` of the filter's grid, from the values at the source positions. -/
def gridValue (n out : Nat) (at_ : Nat → List Nat) (k : Int) : List Nat :=
  match (gridSource n out k).map at_ with
  | [a, b] => avg2 a b
  | l => l.headD []

/-- The crop's row `j` filtered horizontally, at output column `o` (R255 to R259). -/
def State.scLine (s : State) (c : List Nat) (pic : Option Picture) (j o : Nat) : List Nat :=
  let g := layerGeo c
  let t := tapPos o g.cw g.ow
  let px := (List.range 8).map (fun k => gridValue g.cw g.ow (fun i => s.cropPixel c pic i j) (t.1 - 3 + k))
  let coefs := s.filterTaps (layerScaler c - 1) (getBits (s.filterOf (layerScaler c - 1)) 0 2) 8 t.2
  (List.range 4).map (fun q => filterSum coefs (px.map (fun p => p.getD q 0)))

/-- Where the vertical filter takes its lines from: row and output column of a layer's crop, filtered horizontally. -/
abbrev Lines := List Nat → Option Picture → Nat → Nat → List Nat

/-- A scaled layer's pixel at output (o, q), no longer premultiplied (R255 to R259). -/
def State.scPixel (s : State) (lines : Lines) (c : List Nat) (pic : Option Picture) (o q : Nat) : Px :=
  let g := layerGeo c
  let t := tapPos q g.ch g.oh
  let ls := (List.range 4).map (fun k => gridValue g.ch g.oh (fun j => lines c pic j o) (t.1 - 1 + k))
  let coefs := s.filterTaps (layerScaler c - 1) (getBits (s.filterOf (layerScaler c - 1)) 4 2) 4 t.2
  let v := (List.range 4).map (fun i => filterSum coefs (ls.map (fun l => l.getD i 0)))
  let a := v.getD 3 0
  let un := fun i => if a = 0 then 0 else min 65535 (rnd (65535 * v.getD i 0) a)
  ⟨un 0, un 1, un 2, a⟩

/-- The rows of the crop that an output row `q` of a scaled layer is filtered from. -/
def tapRows (g : Geometry) (q : Nat) : List Nat :=
  ((List.range 4).flatMap (fun k => gridSource g.ch g.oh ((tapPos q g.ch g.oh).1 - 1 + k))).dedup

/-! ### Composition (R189 to R196, R216, R217) -/

/-- A layer's pixel at canvas point (u, v); none where the layer is transparent there. -/
def State.layerPixel (s : State) (lines : Lines) (c : List Nat) (pic : Option Picture) (u v : Nat) : Option Px :=
  let g := layerGeo c
  let i := (u : Int) - g.dx
  let j := (v : Int) - g.dy
  if i < 0 ∨ (g.ow : Int) ≤ i ∨ j < 0 ∨ (g.oh : Int) ≤ j then none
  else if layerScaler c == 0 then s.sourcePixel c pic (g.cx + i.toNat) (g.cy + j.toNat)
  else if 4096 ≤ i then none
  else some (s.scPixel lines c pic i.toNat j.toNat)

/-- over(x, d, a) of R196. -/
def over_ (x d a : Nat) : Nat := rnd (x * a + d * (65535 - a)) 65535

/-- The blend of one component (R196). -/
def blend1 (mode x d a : Nat) : Nat :=
  match mode with
  | 0 => over_ x d a
  | 1 => min 65535 (d + rnd (x * a) 65535)
  | 2 => over_ (rnd (x * d) 65535) d a
  | _ => over_ (max x d) d a

/-- A layer blended into the canvas value beneath it (R195, R196). -/
def blendPx (mode alpha : Nat) (p : Px) (d : List Nat) : List Nat :=
  let a := rnd (p.a * alpha) 65535
  [blend1 mode p.r (d.getD 0 0) a, blend1 mode p.g (d.getD 1 0) a, blend1 mode p.b (d.getD 2 0) a]

/-- M(k) of R217. -/
def maskGain (k : Nat) : Nat :=
  [0, 512, 724, 1024, 1448, 2048, 2896, 4096, 5792, 8192, 11585, 16384, 23170, 32768, 46340].getD k 65536

/-- A staged TONE register in force (R152). -/
def State.toneForce (s : State) (off : Nat) : Nat := sget (fun _ => 0) s.tone.force off

/-- A field of a TONE register in force. -/
def State.toneField (s : State) (f : Field) : Nat := getBits (s.toneForce f.off) f.lsb f.width

/-- The mask code at a canvas point (R216, R217, R222): 0 everywhere while every point is blocked; codes 1 to 14 act as 0
under the user curve. -/
def State.maskCode (s : State) (u v : Nat) : Nat :=
  if s.flag BRAID_PROT_STATUS_BLOCKED_ALL then 0
  else match s.braid.prot with
    | none => 15
    | some m =>
      let k := sget (fun _ => 15) m.codes (1024 * v + u)
      if s.toneField TONE_CTRL_CURVE == 3 && k < 15 then 0 else k

/-- What layer `l` contributes to the scan. -/
def State.layerPlan (s : State) (l : Nat) : Option (List Nat × Option Picture) :=
  ((s.braid.layers.find? (fun e => e.1 == l)).map (fun e => e.2.plan)).join

/-- A canvas point as it leaves BRAID, with the protected layer applied (R190, R217), and its mask code; `lines` serves the
scaled layers. -/
def State.composeAt (s : State) (lines : Lines) (u v : Nat) : List Nat × Nat :=
  let base := (List.range 15).foldl (fun d l => match s.layerPlan l with
    | some (c, pic) => match s.layerPixel lines c pic u v with
      | some p => blendPx (layerBlend c) (layerAlpha c) p d
      | none => d
    | none => d) [0, 0, 0]
  let k := s.maskCode u v
  (base.map (fun x => x * maskGain k / 65536), k)

/-- A canvas point of the frame being scanned, each line filtered from the source. -/
def State.canvas (s : State) (u v : Nat) : List Nat × Nat := s.composeAt s.scLine u v

/-- The Coil blocks of a layer's crop, as block columns and rows. -/
def coilBlocks (g : Geometry) : List (Nat × Nat) :=
  if g.cw = 0 ∨ g.ch = 0 then []
  else
    let xs := (List.range ((g.cx + g.cw - 1) / 16 + 1)).drop (g.cx / 16)
    let ys := (List.range ((g.cy + g.ch - 1) / 16 + 1)).drop (g.cy / 16)
    ys.flatMap (fun y => xs.map (fun x => (x, y)))

/-- A Coil block of a layer's surface is corrupt (R215). -/
def State.blockCorrupt (s : State) (c : List Nat) (b : Nat × Nat) : Bool :=
  let size := s.sourceSize c
  (coilPixel s.dram (layerBase c) (layerFormat c) size.1 size.2 (16 * b.1) (16 * b.2)).isNone

/-! ### DRAM accounting (R231, R232) -/

/-- The 64-byte lines that bytes `a` to `b` of memory lie in. -/
def lines64 (a b : Nat) : Nat := b / 64 - a / 64 + 1

/-- B_L: bytes that a layer's crop reads per output frame (R231). -/
def State.layerBytes (s : State) (c : List Nat) : Nat :=
  let g := layerGeo c
  if !layerLive c || layerEmpty c then 0
  else if layerType c == 1 then
    let m := layerStream c
    let p := (streamBytes (s.get (INTAKE_STR_CFG_FORMAT m))).getD 0
    ((List.range g.ch).map (fun j =>
      let row := (g.cy + j) * s.streamStride m
      64 * lines64 (row + g.cx * p) (row + (g.cx + g.cw) * p - 1))).sum
  else if isCoil (layerFormat c) then
    let size := s.sourceSize c
    let bwid := (coilGrid size.1 size.2).1
    let blocks := ((coilBlocks g).map (fun b => match coilEntry s.dram (layerBase c) size.1 size.2 b.1 b.2 with
      | some e => 16 * e.2
      | none => 0)).sum
    let x0 := g.cx / 16
    let x1 := (g.cx + g.cw - 1) / 16
    let rows := (List.range ((g.cy + g.ch - 1) / 16 + 1)).drop (g.cy / 16)
    blocks + (rows.map (fun y =>
      let e := layerBase c + 4 * (y * bwid)
      64 * lines64 (e + 4 * x0) (e + 4 * x1 + 3))).sum
  else
    let p := surfaceBytes (layerFormat c)
    ((List.range g.ch).map (fun j =>
      let row := layerBase c + (g.cy + j) * layerStride c
      64 * lines64 (row + g.cx * p) (row + (g.cx + g.cw) * p - 1))).sum

/-- Output frames per 1,001 seconds at a RATE and PULLDOWN (R55). -/
def rateMilli (rate : Nat) (pull : Bool) : Nat := (rate + 1) * 120 * (if pull then 1000 else 1001)

/-- Traffic in bytes per second of bytes per frame at the rate in force. -/
def State.perSecond (s : State) (bytes : Nat) : Nat :=
  bytes * rateMilli s.timer.timing.rate s.timer.timing.pulldown / 1001

/-- The pixel-path traffic beside the layers (R52, R232): stream writes, calibration reads, charge updates, and mirror
records in a twin set. Survey records have no figure in the spec and count 0 (notes/assumptions/22.md). -/
def State.otherTraffic (s : State) : Nat :=
  ((List.range 8).map (fun m => if s.flag (INTAKE_STR_CFG_ENABLE m) then s.streamTraffic m else 0)).sum
    + (33554432 + s.perSecond (16777216 + if s.twinEn then 262144 else 0))

/-- The layers' traffic for given bytes per layer. -/
def State.layersTraffic (s : State) : Nat :=
  s.perSecond ((s.braid.layers.map (fun e => if layerLive e.2.cfg then e.2.admitBytes else 0)).sum)

/-- The admission limit of R52. -/
def bwLimit : Nat := 54600000000

/-- BRAID_BW_ADMIT follows the layers, streams and rate (R232). -/
def State.showAdmit (s : State) : State :=
  let l := s.layersTraffic
  (s.set BRAID_BW_ADMIT_LAYERS (min (l / 10000000) 0xFFFF)).set BRAID_BW_ADMIT_TOTAL
    (min ((l + s.otherTraffic) / 10000000) 0xFFFF)

/-! ### Layers: staging, checks and commits (R197 to R202) -/

/-- A layer that has never been committed: the cold values of its window. -/
def Layer.cold : Layer :=
  ⟨[0, 0, 0, 0, 0, 0, 0, 0, 0, 0xFFFF], [0, 0, 0, 0, 0, 0, 0, 0, 0, 0xFFFF], 0, none, none, 0, false, 0, false, false⟩

/-- A layer. -/
def State.layer (s : State) (l : Nat) : Layer := sget (fun _ => Layer.cold) s.braid.layers l

/-- The state with one layer changed. -/
def State.setLayer (s : State) (l : Nat) (y : Layer) : State :=
  { s with braid := { s.braid with layers := sput (fun _ => Layer.cold) s.braid.layers l y } }

/-- MW0 offset of word `i` of a layer's window. -/
def layerOff (l i : Nat) : Nat := 0x40100 + 0x40 * l + 4 * i

/-- The staged settings of a layer. -/
def State.staged (s : State) (l : Nat) : List Nat := (List.range 10).map (fun i => s.reg (layerOff l i))

/-- The bits of the ten staged words that hold fields. -/
def layerMasks : List Nat :=
  [0x8F073333, 0xFFFFFF00, 1, 0xFFFFF, 0x3FFF3FFF, 0x3FFF3FFF, 0x3FFF3FFF, 0xFFFFFFFF, 0x3FFF3FFF, 0xFF00FFFF]

/-- A USER filter of a scaler has a phase whose coefficients do not sum to 4,096 (R261). -/
def State.coefBad (s : State) (sc : Nat) : Bool :=
  let bad := fun (filt taps : Nat) => filt == 3 && (List.range 64).any (fun p => (s.filterTaps sc 3 taps p).sum != 4096)
  bad (s.get (WARP_SC_CTRL_HFILT sc)) 8 || bad (s.get (WARP_SC_CTRL_VFILT sc)) 4

/-- A live Coil layer has an index entry among the blocks of its crop that fails R211. -/
def State.indexBad (s : State) (c : List Nat) : Bool :=
  let size := s.sourceSize c
  layerLive c && layerType c == 2 && isCoil (layerFormat c) && (coilBlocks (layerGeo c)).any (fun b =>
    (coilEntry s.dram (layerBase c) size.1 size.2 b.1 b.2).isNone)

/-- The first check of R198, codes 1 to 7, that layer `l` of the commit of a mask fails; 0 where it passes. `all` gives the
settings of every layer as they would be after the commit. Check 5 also fails a layer where a layer that the commit does
not change fails it (notes/assumptions/16.md). -/
def State.layerCode (s : State) (mask l : Nat) (all : Nat → List Nat) : Nat :=
  let c := all l
  let g := layerGeo c
  let size := s.sourceSize c
  let fmt := layerFormat c
  let surf := layerType c == 2
  let sc := layerScaler c
  if !layerLive c then 0
  else if layerType c == 3 || (surf && (surfaceComps fmt).isNone)
    || (layerType c == 1 && !s.flag (INTAKE_STR_CFG_ENABLE (layerStream c))) then 1
  else if surf && (size.1 == 0 || 8192 < size.1 || size.2 == 0 || 8192 < size.2) then 2
  else if size.1 < g.cx + g.cw || size.2 < g.cy + g.ch then 3
  else if surf && (if isCoil fmt then
        modRegion < layerBase c + 4 * (coilGrid size.1 size.2).1 * (coilGrid size.1 size.2).2
      else layerStride c % 16 != 0 || layerStride c < size.1 * surfaceBytes fmt
        || modRegion < layerBase c + (size.2 - 1) * layerStride c + size.1 * surfaceBytes fmt) then 4
  else if s.indexBad c || (List.range 15).any (fun k => mask / 2 ^ k % 2 == 0 && s.indexBad (all k)) then 5
  else if sc == 3 || (sc != 0 && (
      (List.range 15).any (fun k => k != l && layerLive (all k) && layerScaler (all k) == sc)
      || (g.cw != 0 && g.ch != 0 && g.ow != 0 && g.oh != 0
          && (4096 < g.ow || 4 * g.ow < g.cw || 4 * g.oh < g.ch || s.coefBad (sc - 1))))) then 6
  else 0

/-- A layer commit is rejected (R197, R198). -/
def State.layerRejected (s : State) (code l : Nat) : State :=
  ((s.latch BRAID_STATUS_COMMIT_REJ).set BRAID_STATUS_REJ_CODE code).set BRAID_STATUS_REJ_LAYER l

/-- The code and layer of the first failure of a commit of the layers of a mask (R198); none where it passes. The ground
8, follower, and 9, pending, hold for every layer of the mask. -/
def State.commitCode (s : State) (mask : Nat) : Option (Nat × Nat) :=
  let ls := (List.range 15).filter (fun l => mask / 2 ^ l % 2 == 1)
  let all := fun l => if mask / 2 ^ l % 2 == 1 then s.staged l else (s.layer l).cfg
  let total := s.perSecond (((List.range 15).map (fun l =>
    if mask / 2 ^ l % 2 == 1 then s.layerBytes (s.staged l)
    else if layerLive (s.layer l).cfg then (s.layer l).admitBytes else 0)).sum) + s.otherTraffic
  (ls.map (fun l =>
    let k := s.layerCode mask l all
    let k := if k == 0 && layerLive (all l) && bwLimit < total then 7 else k
    let k := if k == 0 && s.follows then 8 else k
    let k := if k == 0 && s.flag BRAID_STATUS_COMMIT_PENDING then 9 else k
    (k, l))).find? (fun p => p.1 != 0)

/-- A commit of the layers of a mask is accepted (R197): it carries the staged values and waits for its capture point. -/
def State.layerAccept (s : State) (mask : Nat) (frame : Option Nat) : State :=
  let ls := (List.range 15).filter (fun l => mask / 2 ^ l % 2 == 1)
  let cfgs := ls.map (fun l => (l, s.staged l))
  let filters := cfgs.filterMap (fun e => let sc := layerScaler e.2
    if layerLive e.2 && sc != 0 && sc < 3 then some (sc - 1, s.reg (WARP_SC_CTRL_OFF (sc - 1))) else none)
  ({ s with braid := { s.braid with commit := some ⟨mask, cfgs, filters, s.now, frame, 0, none⟩ } }).set
    BRAID_STATUS_COMMIT_PENDING 1

/-- A layer that waits under R207 shows HELD. -/
def State.showHeld (s : State) : State :=
  (List.range 15).foldl (fun s l =>
    let held := (match s.braid.commit with
      | some c => c.waits != 0 && c.mask / 2 ^ l % 2 == 1
      | none => false)
      || s.braid.moves.any (fun v => v.layer == l && v.waits != 0)
    s.setFlag (BRAID_LAYER_STATUS_HELD l) held) s

/-- The filters and layers of the scalers in force (WARP_SC_n_STATUS). -/
def State.showScalers (s : State) : State :=
  (List.range 2).foldl (fun s sc =>
    match (List.range 15).find? (fun l => layerLive (s.layer l).cfg && layerScaler (s.layer l).cfg == sc + 1) with
    | some l => ((s.set (WARP_SC_STATUS_BOUND sc) 1).set (WARP_SC_STATUS_LAYER sc) l).set (WARP_SC_STATUS_OW sc)
        (layerGeo (s.layer l).cfg).ow
    | none => (((s.set (WARP_SC_STATUS_BOUND sc) 0).set (WARP_SC_STATUS_OW sc) 0).set (WARP_SC_STATUS_CLIP sc) 0).set
        (WARP_SC_STATUS_RATIO_OVER sc) 0) s

/-- A commit takes effect at a capture point (R197, R203). -/
def State.commitApplies (s : State) (c : LayerCommit) : State :=
  let s := { s with braid := { s.braid with commit := none } }
  let s := s.set BRAID_STATUS_COMMIT_PENDING 0
  let s := c.cfgs.foldl (fun s e =>
    let y := s.layer e.1
    let bytes := s.layerBytes e.2
    let s := s.setLayer e.1 { y with
      cfg := e.2, admitBytes := bytes, base := (s.stream (layerStream e.2)).done }
    let s := s.setFlag (BRAID_LAYER_STATUS_EMPTY e.1) (layerLive e.2 && layerEmpty e.2)
    s.set (BRAID_LAYER_BYTES_ADMIT e.1) (bytes / 64)) s
  let s := { s with warp := { s.warp with
    filters := c.filters.foldl (fun m (f : Nat × Nat) => sput (fun _ => 0x22) m f.1 f.2) s.warp.filters } }
  s.showAdmit.showScalers

/-- A move takes effect at a capture point (R200). -/
def State.moveApplies (s : State) (v : LayerMove) : State :=
  let y := s.layer v.layer
  let alpha := 2 ^ 24 * getBits (layerWord y.cfg 9) 24 8 + v.alpha % 2 ^ 16
  let cfg := ((y.cfg.set 7 v.dst).set 8 v.out).set 9 alpha
  let s := s.setLayer v.layer { y with cfg := cfg }
  s.setFlag (BRAID_LAYER_STATUS_EMPTY v.layer) (layerLive cfg && layerEmpty cfg)

/-! ### Capture points (R203 to R207, R220 to R222, R262) -/

/-- A SURFACE descriptor in flight fences a layer, until its completion is written (R204, R316, R327). -/
def State.fenced (s : State) (l : Nat) : Bool :=
  s.host.rings.any (fun e => s.get (RING_CFG_CLASS e.1) == 1
    && e.2.inflight.any (fun d => (d.words.getD 1 0) / 2 ^ l % 2 == 1))

/-- The source of a layer is ready (R204). -/
def State.layerReady (s : State) (l : Nat) : Bool :=
  let y := s.layer l
  if !layerLive y.cfg then true
  else if layerType y.cfg == 1 then
    let m := layerStream y.cfg
    s.streamReady m && decide (y.base < (s.stream m).done)
  else !s.fenced l

/-- A HOLD layer that is not ready (R207). -/
def State.layerHolds (s : State) (l : Nat) : Bool :=
  layerLive (s.layer l).cfg && layerPolicy (s.layer l).cfg == 2 && !s.layerReady l

/-- A commit or move is due at the capture point of output frame E (R197, R199, R200). -/
def State.dueAt (s : State) (e goAt : Nat) (frame : Option Nat) : Bool :=
  match frame with
  | some f => decide (0 ≤ frameDiff e f)
  | none => decide (50000 + goAt ≤ s.now)

/-- Step 1 of R203 for the layers' commit: it applies, or waits whole for a HOLD layer, at most eight times (R207). -/
def State.captureCommit (s : State) (e : Nat) : State :=
  match s.braid.commit with
  | none => s
  | some c =>
    if c.ringOf.isSome || !s.dueAt e c.goAt c.frame then s
    else if c.waits < 8 && (List.range 15).any (fun l => c.mask / 2 ^ l % 2 == 1 && s.layerHolds l) then
      { s with braid := { s.braid with commit := some { c with waits := c.waits + 1 } } }
    else s.commitApplies c

/-- Step 1 of R203 for one move, `held` being the layers that hold at this capture point (R200, R201, R207). -/
def State.captureMove (s : State) (e : Nat) (held : List Nat) (v : LayerMove) : State :=
  let keep := fun (v : LayerMove) => { s with braid := { s.braid with moves := s.braid.moves ++ [v] } }
  if v.ringOf.isSome || !s.dueAt e v.goAt v.frame then keep v
  else if v.waits < 8 && held.contains v.layer then keep { v with waits := v.waits + 1 }
  else s.moveApplies v

/-- Step 1 of R203: commits first, moves after them in their order (R201). -/
def State.captureChanges (s : State) (e : Nat) : State :=
  let held := (List.range 15).filter (fun l => s.layerHolds l)
  let s := s.captureCommit e
  let mv := s.braid.moves
  let s := mv.foldl (fun s v => s.captureMove e held v) { s with braid := { s.braid with moves := [] } }
  s.showHeld.showScalers

/-- A scaled layer's output width is above the line buffer (R262). -/
def scClip (c : List Nat) : Bool :=
  layerLive c && layerScaler c != 0 && !layerEmpty c && decide (4096 < (layerGeo c).ow)

/-- A scaled layer's ratio is above 4:1 (R262). -/
def scRatio (c : List Nat) : Bool :=
  let g := layerGeo c
  layerLive c && layerScaler c != 0 && !layerEmpty c && (decide (4 * g.ow < g.cw) || decide (4 * g.oh < g.ch))

/-- The run-time limits of a moved layer's scaler (R262): status, CLIPPED, and the fault once per run. -/
def State.captureScaler (s : State) (l : Nat) : State :=
  let y := s.layer l
  let c := y.cfg
  let ratio := scRatio c
  let clip := scClip c && !ratio
  let sc := layerScaler c
  let s := if layerLive c && (sc == 1 || sc == 2) then
      (s.setFlag (WARP_SC_STATUS_CLIP (sc - 1)) clip).setFlag (WARP_SC_STATUS_RATIO_OVER (sc - 1)) ratio
    else s
  let s := s.setLayer l { y with clipRun := clip, ratioRun := ratio }
  let s := if clip || ratio then s.latch (BRAID_LAYER_STATUS_CLIPPED l) else s
  let s := if clip && !y.clipRun then s.fault 0x0303 3 (subj 6 l) else s
  if ratio && !y.ratioRun then s.fault 0x0304 3 (subj 6 l) else s

/-- The stream frame that the capture point took for a stream, as BRAID reads it (R290). -/
def State.takenPicture (s : State) (m : Nat) : Option Picture :=
  (s.stream m).taken.map (fun b =>
    ⟨m, b, s.get (INTAKE_STR_CFG_FORMAT m), s.get (INTAKE_STR_SIZE_W m), s.get (INTAKE_STR_SIZE_H m)⟩)

/-- Settings with the content that goes with them while a layer is not ready (R205): the last stream frame shown, or the
surface as it stands. -/
def Layer.kept (y : Layer) (c : List Nat) : Option (List Nat × Option Picture) :=
  if layerType c == 1 then y.buf.map (fun p => (c, some p)) else some (c, none)

/-- The settings and content that a layer contributes to the scan, before R206 and R262 (R204, R205). A HOLD layer that was
not in use at its last ready capture point has no earlier settings: a surface shows under those in force
(notes/assumptions/16.md). -/
def State.layerChoice (s : State) (l : Nat) (ready : Bool) : Option (List Nat × Option Picture) :=
  let y := s.layer l
  if ready then
    if layerType y.cfg == 1 then (s.takenPicture (layerStream y.cfg)).map (fun p => (y.cfg, some p))
    else some (y.cfg, none)
  else
    match layerPolicy y.cfg with
    | 0 => y.kept y.cfg
    | 1 => none
    | _ => if layerLive y.ready then y.kept y.ready
           else if layerType y.cfg == 2 then some (y.cfg, none) else none

/-- Steps 2 and 3 of R203 for one layer (R204 to R206, R224, R262). -/
def State.captureLayer (s : State) (l : Nat) : State :=
  let y := s.layer l
  if !layerLive y.cfg then
    if y == Layer.cold then s
    else
      let s := s.setLayer l { y with plan := none, run := 0, stale := false, ready := y.cfg }
      ((s.set (BRAID_LAYER_STATUS_NOT_READY l) 0).set (BRAID_LAYER_STATUS_REPEAT_RUN l) 0).captureScaler l
  else
    let ready := s.layerReady l
    let run := if ready then 0 else y.run + 1
    let gone := layerRepeat y.cfg != 0 && decide (layerRepeat y.cfg < run)
    let choice := s.layerChoice l ready
    let shown := match choice with
      | some (c, b) => if gone || layerEmpty c || scRatio c || layerAlpha c == 0 then none else some (c, b)
      | none => none
    let s := s.setLayer l { y with
      plan := shown, run := run, stale := gone,
      ready := if ready then y.cfg else y.ready
      buf := if ready && layerType y.cfg == 1 then s.takenPicture (layerStream y.cfg) else y.buf }
    let s := (s.setFlag (BRAID_LAYER_STATUS_NOT_READY l) (!ready)).set (BRAID_LAYER_STATUS_REPEAT_RUN l) (min run 255)
    let s := if gone && !y.stale then s.fault 0x0201 2 (subj 6 l) else s
    s.captureScaler l

/-- Sectors that hold a marked tile of a mask: tile 64·ty + tx, sector 8·(ty / 8) + tx / 8 (R9). -/
def Mask.sectors (m : Mask) : List Nat :=
  (List.range 64).filter (fun c => m.tiles.any (fun t => t / 512 * 8 + t % 64 / 8 == c))

/-- Every colour of some sectors is gated for a reason. -/
def State.gateSectors (s : State) (why : Gate) (cs : List Nat) : State :=
  cs.foldl (fun s c => (List.range 4).foldl (fun s k => s.gate why (4 * c + k)) s) s

/-- Step 4 of R203: the protected-layer buffer for output frame E (R220 to R222). -/
def State.captureMask (s : State) (e : Nat) : State :=
  let s := match s.braid.waiting with
    | some p =>
      if p.verified && decide (0 ≤ frameDiff e p.mask.target) && decide (50000 + p.at_ ≤ s.now) then
        let s := { s with braid := { s.braid with prot := some p.mask, waiting := none } }
        let s := ((s.set BRAID_PROT_STATUS_VALID 1).set BRAID_PROT_STATUS_PUBLISHED 0).set BRAID_PROT_STATUS_IN_USE
          (1 - s.get BRAID_PROT_STATUS_IN_USE)
        s.setReg BRAID_PROT_TARGET_OFF p.mask.target
      else s
    | none => s
  match s.braid.prot with
  | none => s
  | some m =>
    let age := frameDiff e m.target
    let s := (s.set BRAID_PROT_STATUS_AGE (min age.toNat 255)).set BRAID_PROT_STATUS_BLOCKED_ALL 0
    if 5 ≤ age then
      let first := !s.braid.staleRun
      let s := { s with braid := { s.braid with staleRun := true } }
      let s := (s.set BRAID_PROT_STATUS_STALE 1).bump BRAID_PROT_COUNTS_STALE_FRAMES
      let s := s.gateSectors .stale m.sectors
      if first then s.fault 0x0204 2 0 else s
    else ({ s with braid := { s.braid with staleRun := false } }).set BRAID_PROT_STATUS_STALE 0

/-- The capture point of output frame E in BRAID (R203). -/
def State.captureBraid (s : State) (e : Nat) : State :=
  let s := s.captureChanges e
  let s := s.takeStreams
  let s := (List.range 15).foldl (fun s l => s.captureLayer l) s
  let s := s.captureMask e
  { s with braid := { s.braid with frame := e, corrupt := [] } }

/-! ### What a scan reads (R231 to R233) -/

/-- The source positions, of the `n` of an axis of the crop shown over `out` from canvas position `d`, that the canvas points
from `a` to `b` − 1 need, `taps` taps of which `before` lie below the base; a scaled line ends at column 4,096 (R262). First
position and count. -/
def axisRead (n out : Nat) (d : Int) (scaled : Bool) (taps before a b : Nat) : Nat × Nat :=
  let lo := (max 0 ((a : Int) - d)).toNat
  let hi := (min (if scaled && taps == 8 then min out 4096 else out : Int) ((b : Int) - d)).toNat
  if hi ≤ lo then (0, 0)
  else if !scaled then (lo, hi - lo)
  else
    let two := if 2 * out < n then 2 else 1
    let x := clampI 0 (n - 1) (two * ((tapPos lo n out).1 - before))
    let y := clampI 0 (n - 1) (two * ((tapPos (hi - 1) n out).1 - before + taps) - 1)
    (x.toNat, (y - x + 1).toNat)

/-- The columns of a layer's crop that its points on the canvas need (R193): first and count. -/
def readColumns (c : List Nat) : Nat × Nat :=
  let g := layerGeo c
  axisRead g.cw g.ow g.dx (layerScaler c != 0) 8 3 0 1024

/-- Bytes that a layer reads in the scan: the lines or blocks of the part of its crop that reaches the canvas rows from `a`
to `b` − 1 (R193, R233). -/
def State.layerRead (s : State) (l a b : Nat) : Nat :=
  match s.layerPlan l with
  | none => 0
  | some (c, _) =>
    let g := layerGeo c
    let x := readColumns c
    let y := axisRead g.ch g.oh g.dy (layerScaler c != 0) 4 1 a b
    if x.2 = 0 ∨ y.2 = 0 then 0
    else
      let pos := 65536 * (g.cy + y.1) + (g.cx + x.1)
      s.layerBytes ((((c.set 5 pos).set 6 (65536 * y.2 + x.2))).set 8 (65536 * y.2 + x.2))

/-- The bytes that each layer read in the scan of the canvas rows from `a` to `b` − 1 are recorded, 0 where the scan took
nothing from BRAID; BW_OVER in each frame whose total exceeds what was admitted (R233). -/
def State.measureReads (s : State) (a b : Nat) : State :=
  let reads := (List.range 15).map (fun l => if s.timer.pixelPath then s.layerRead l a b else 0)
  let s := (reads.zipIdx).foldl (fun s p => s.set (BRAID_LAYER_MEAS_READ p.2) (p.1 / 64)) s
  let rate := s.perSecond reads.sum
  let s := s.set BRAID_BW_MEAS_LAYERS (min (rate / 10000000) 0xFFFF)
  if s.layersTraffic < rate then (s.latch BRAID_STATUS_BW_OVER).fault 0x0205 2 0 else s

/-- The admitted pixel-path traffic of R232. -/
def State.admitted (s : State) : Nat := s.layersTraffic + s.otherTraffic

/-- A change of the output rate takes effect, from an admitted traffic of `old`: the new one follows, and a rise to more
than the limit sets BW_OVER (R232). -/
def State.rateTraffic (s : State) (old : Nat) : State :=
  let s := s.showAdmit
  if bwLimit < s.admitted ∧ old < s.admitted then (s.latch BRAID_STATUS_BW_OVER).fault 0x0205 2 0 else s

/-! ### What a canvas row fetches (R193, R215, R255) -/

/-- A layer meets a corrupt Coil block in row `j` of its crop: CORRUPT, and LAYER_CORRUPT once per layer and frame (R215). Only
the blocks of the columns that the canvas needs are fetched (R193). -/
def State.corruptRow (s : State) (l j : Nat) (c : List Nat) : State :=
  let g := layerGeo c
  let x := readColumns c
  let cols := if x.2 = 0 then [] else (List.range ((g.cx + x.1 + x.2 - 1) / 16 + 1)).drop ((g.cx + x.1) / 16)
  if layerType c == 2 && isCoil (layerFormat c) && !s.braid.corrupt.contains l
      && cols.any (fun b => s.blockCorrupt c (b, (g.cy + j) / 16)) then
    let s := { s with braid := { s.braid with corrupt := l :: s.braid.corrupt } }
    (s.latch (BRAID_LAYER_STATUS_CORRUPT l)).fault 0x0202 2 (subj 6 l)
  else s

/-- A line buffer of a scaler, by its number 2·n for UP and 2·n + 1 for LO. -/
def State.lineBuf (s : State) (i : Nat) : List ScLine := sget (fun _ => []) s.warp.comp.lines i

/-- A fetched row of a scaled layer's crop is filtered into a line buffer, which keeps its latest 8 lines (R255): the output
columns that reach the canvas. -/
def State.pushLine (s : State) (i j : Nat) (c : List Nat) (pic : Option Picture) : State :=
  let g := layerGeo c
  let lo := (max 0 (-g.dx)).toNat
  let hi := (min (min g.ow 4096 : Int) (1024 - g.dx)).toNat
  let line : ScLine := ⟨j, lo, ((List.range hi).drop lo).map (fun o => s.scLine c pic j o)⟩
  { s with warp := { s.warp with comp := { s.warp.comp with
    lines := sput (fun _ => []) s.warp.comp.lines i ((line :: s.lineBuf i).take 8) } } }

/-- What stream `st` (0 UP, 1 LO) fetches of layer `l` for canvas row `v`: the row itself, or the rows that a scaled layer is
filtered from and that its line buffer does not hold. -/
def State.fetchLayer (s : State) (st v l : Nat) : State :=
  match s.layerPlan l with
  | none => s
  | some (c, pic) =>
    let g := layerGeo c
    let q := (v : Int) - g.dy
    if q < 0 ∨ (g.oh : Int) ≤ q ∨ (readColumns c).2 = 0 then s
    else if layerScaler c == 0 then s.corruptRow l q.toNat c
    else
      let i := 2 * (layerScaler c - 1) + st
      (tapRows g q.toNat).foldl (fun (s : State) j =>
        if (s.lineBuf i).any (fun e => e.row == j) then s else (s.corruptRow l j c).pushLine i j c pic) s

/-- The lines that stream `st` filters vertically: those of its line buffer. -/
def State.buffered (s : State) (st : Nat) : Lines := fun c pic j o =>
  match (s.lineBuf (2 * (layerScaler c - 1) + st)).find? (fun e => e.row == j) with
  | some e => e.px.getD (o - e.first) []
  | none => s.scLine c pic j o

/-- Stream `st` composes canvas row `v` (R190, R255): what it fetches, and the row's points. -/
def State.composeRow (s : State) (st v : Nat) : State × CanvasRow :=
  let s := (List.range 15).foldl (fun (s : State) l => s.fetchLayer st v l) s
  (s, ⟨v, (List.range 1024).map (fun u => s.composeAt (s.buffered st) u v)⟩)

/-! ### Host commands of the layers (R197, R200, R223) -/

/-- A write of BRAID_LAYER_COMMIT outside a twin set, or the check of one inside it: rejected, or accepted for a frame
(R197 to R199). -/
def State.layerCommit (s : State) (mask : Nat) (frame : Option Nat) : State :=
  if mask % 2 ^ 15 == 0 then s
  else match s.commitCode (mask % 2 ^ 15) with
    | some (code, l) => s.layerRejected code l
    | none => s.layerAccept (mask % 2 ^ 15) frame

/-- A move is accepted (R200): the staged registers take its values, and it waits for its capture point. -/
def State.moveAccept (s : State) (l dst out alpha : Nat) (frame : Option Nat) : State :=
  let s := s.setReg (layerOff l 7) dst
  let s := s.setReg (layerOff l 8) (out &&& 0x3FFF3FFF)
  let s := s.set ⟨layerOff l 9, 0, 16⟩ alpha
  { s with braid := { s.braid with moves := s.braid.moves ++ [⟨l, dst, out &&& 0x3FFF3FFF, alpha % 2 ^ 16, s.now, frame, 0, none⟩] } }

/-- A word of the mask in use (R216): eight codes. -/
def State.protWord (s : State) (i : Nat) : Nat :=
  match s.braid.prot with
  | none => 0
  | some m => ((List.range 8).map (fun k => sget (fun _ => 15) m.codes (8 * i + k) * 16 ^ k)).sum

/-- BRAID_PROT_INDEX (R223): the index is taken and READY clears; the word and READY follow within 1.0 µs, which the
model lets pass at once (notes/assumptions/2.md). -/
def State.protIndex (s : State) (v : Nat) : State :=
  let s := s.set BRAID_PROT_INDEX_INDEX v
  let s := s.setReg BRAID_PROT_DATA_OFF (s.protWord (v % 2 ^ 17))
  s.set BRAID_PROT_INDEX_READY 1

end Sys2Proof.Machine
end

