-- ==== Sys2Proof/Machine/Warp.lean ====
section
/-! DEFINITION. WARP: the mesh and its evaluation, sampling, admission, loading and selection of a bank, the footprint
check, scaler coefficients (chapter 7); the frame period that targets are chosen by. -/

namespace Sys2Proof.Machine

open Reg

/-! ### Indices of R9 -/

/-- Sector of a pixel (R9). -/
def sectorOf (x y : Nat) : Nat := y / 128 * 8 + x / 128

/-- Local index of a pixel's sector within its quadrant (R9). -/
def localSectorOf (x y : Nat) : Nat := 4 * (y / 128 % 4) + x / 128 % 4

/-- Tile of a pixel (R9). -/
def tileOf (x y : Nat) : Nat := y / 16 * 64 + x / 16

/-- Row band of a pixel row (R9). -/
def bandOf (y : Nat) : Nat := y / 64

/-- Quadrant of a pixel (R9). -/
def quadOf (x y : Nat) : Nat := y / 512 * 2 + x / 512

/-! ### Frame periods and capture points to come -/

/-- The nominal frame period T at the rate in force, ns (R55). -/
def State.periodNs (s : State) : Nat :=
  1001000000000 / rateMilli s.timer.timing.rate s.timer.timing.pulldown

/-- The period of the present frame as the timer runs it, ns (R57, R66). -/
def State.framePeriod (s : State) : Nat := if s.timer.planned == 0 then s.periodNs else s.timer.planned / 16

/-- The period expected of the frames after it, ns: that of the source followed, else the nominal one (R57). -/
def State.nextPeriod (s : State) : Nat := max 1 (if s.timer.base == 0 then s.periodNs else s.timer.base / 16)

/-- The time at which the present frame's boundary is due (R59). -/
def State.nextBoundaryAt (s : State) : Nat := s.timer.boundaryAt + s.framePeriod

/-- The output frame of the next capture point (R60): the capture point of frame E lies in frame E − 2. -/
def State.nextCapture (s : State) : Nat :=
  if s.timer.captureAt ≤ s.timer.boundaryAt then frameAdd s.frameNo 2 else frameAdd s.frameNo 3

/-- The time at which the next capture point is due: 40 µs before its boundary (R60). -/
def State.nextCaptureAt (s : State) : Nat :=
  s.nextBoundaryAt + (if s.timer.captureAt ≤ s.timer.boundaryAt then 0 else s.nextPeriod) - 40000

/-- The output frame of the `n`-th capture point that lies at least 50 µs from now. -/
def State.captureAfter (s : State) (n : Nat) : Nat :=
  frameAdd s.nextCapture (if 50000 + s.now ≤ s.nextCaptureAt then n - 1 else n)

/-! ### The mesh (R236 to R241) -/

/-- A node coordinate of a bank: node (i, j) from 0 to 64, `c` 0 for U and 1 for V. -/
def meshNode (b : List Int) (c i j : Nat) : Int := b.getD (2 * (65 * j + i) + c) 0

/-- A node along i, extrapolated linearly outside 0 to 64 (R241). -/
def meshNodeI (b : List Int) (c : Nat) (i : Int) (j : Nat) : Int :=
  if i < 0 then 2 * meshNode b c 0 j - meshNode b c 1 j
  else if 64 < i then 2 * meshNode b c 64 j - meshNode b c 63 j
  else meshNode b c i.toNat j

/-- A node extrapolated along i, then along j (R241). -/
def meshNodeIJ (b : List Int) (c : Nat) (i j : Int) : Int :=
  if j < 0 then 2 * meshNodeI b c i 0 - meshNodeI b c i 1
  else if 64 < j then 2 * meshNodeI b c i 64 - meshNodeI b c i 63
  else meshNodeI b c i j.toNat

/-- The weights of R239 at a fraction of 0 to 15, in 1/8,192. -/
def meshWeights (f : Nat) : List Int :=
  let f : Int := f
  [-(f ^ 3) + 32 * f ^ 2 - 256 * f, 3 * f ^ 3 - 80 * f ^ 2 + 8192, -(3 * f ^ 3) + 64 * f ^ 2 + 256 * f, f ^ 3 - 16 * f ^ 2]

/-- A coordinate at an array pixel, in 1/256 canvas point (R239, R240). -/
def meshCoord (b : List Int) (c x y : Nat) : Int :=
  let i : Int := x / 16
  let j : Int := y / 16
  let wx := meshWeights (x % 16)
  let wy := meshWeights (y % 16)
  let line := fun (k : Nat) =>
    ((List.range 4).map (fun a => wx.getD a 0 * meshNodeIJ b c (i + a - 1) (j + k - 1))).sum
  rndI ((List.range 4).map (fun k => wy.getD k 0 * line k)).sum (2 ^ 34)

/-- The footprint points of an array pixel with their weights in 1/65,536 (R242, R243), some of them perhaps off the
canvas. -/
def meshFootprint (b : List Int) (x y : Nat) : List (Int × Int × Nat) :=
  let u := meshCoord b 0 x y
  let v := meshCoord b 1 x y
  let u0 := u / 256
  let v0 := v / 256
  let fu := (u % 256).toNat
  let fv := (v % 256).toNat
  [(u0, v0, (256 - fu) * (256 - fv)), (u0 + 1, v0, fu * (256 - fv)), (u0, v0 + 1, (256 - fu) * fv),
   (u0 + 1, v0 + 1, fu * fv)].filter (fun p => p.2.2 != 0)

/-- The node words of a selection: BANK_0 or BANK_1. -/
def State.bank (s : State) (k : Nat) : List Int := if k = 0 then s.warp.bank0 else s.warp.bank1

/-- The footprint of an array pixel under a selection (R242 to R244): 2 is IDENTITY. -/
def State.footprint (s : State) (sel x y : Nat) : List (Int × Int × Nat) :=
  if 2 ≤ sel then [((x : Int), (y : Int), 65536)] else meshFootprint (s.bank sel) x y

/-- A point lies on the canvas. -/
def onCanvas (u v : Int) : Bool := decide (0 ≤ u) && decide (u < 1024) && decide (0 ≤ v) && decide (v < 1024)

/-- An array pixel from its footprint (R242, R243, R251): the blend of the points, and the greatest code among them; a
point off the canvas is black with code 0. -/
def warpBlend (pts : List (Int × Int × Nat)) (canvas : Nat → Nat → List Nat × Nat) : List Nat × Nat :=
  let vals := pts.map (fun p =>
    let q := if onCanvas p.1 p.2.1 then canvas p.1.toNat p.2.1.toNat else ([0, 0, 0], 0)
    (q.1, q.2, p.2.2))
  ((List.range 3).map (fun c => rnd ((vals.map (fun p => p.1.getD c 0 * p.2.2)).sum) 65536),
   (vals.map (fun p => p.2.1)).foldl max 0)

/-- SPLIT, ORDER and u0 of a selection (R245, R249). -/
def State.split (s : State) (sel : Nat) : Nat := if 2 ≤ sel then 512 else s.get (WARP_BANK_INFO_SPLIT sel)

/-- ORDER of a selection: 0 for IDENTITY. -/
def State.order (s : State) (sel : Nat) : Nat := if 2 ≤ sel then 0 else s.get (WARP_BANK_INFO_ORDER sel)

/-- u0 of a selection: 0 for IDENTITY. -/
def State.firstRow (s : State) (sel : Nat) : Nat :=
  if 2 ≤ sel then 0 else if sel = 0 then s.warp.first0 else s.warp.first1

/-- A canvas row counted with ORDER applied, and back (R245). -/
def orderRow (order v : Nat) : Nat := if order = 0 then v else 1023 - v

/-- The selection of the frame being scanned. -/
def State.inUse (s : State) : Nat := s.get WARP_MESH_STATUS_IN_USE

/-- A canvas point as array row `y` reads it (R245): the lower half from LO's window, the upper half from UP's, or from the
seam store at SPLIT and beyond. -/
def State.windowPoint (s : State) (y u v : Nat) : List Nat × Nat :=
  let c := s.warp.comp
  let rows := if 512 ≤ y then c.lo else if orderRow (s.order s.inUse) v < s.split s.inUse then c.up else c.seam
  match rows.find? (fun r => r.row == v) with
  | some r => r.pts.getD u ([0, 0, 0], 0)
  | none => s.canvas u v

/-- An array pixel as it leaves WARP, with k_eff (R242, R243, R251). Of a row that WARP has not yet passed on, the pixel is
what the canvas will give it (notes/assumptions/16.md). -/
def State.warpPixel (s : State) (x y : Nat) : List Nat × Nat :=
  match s.warp.comp.rows.find? (fun r => r.1 == y) with
  | some r => r.2.getD x ([0, 0, 0], 0)
  | none => warpBlend (s.footprint s.inUse x y) s.canvas

/-! ### Admission of a mesh image (R237, R238, R245, R246) -/

/-- The canvas rows that the footprints of an array row touch on the canvas, with ORDER applied (R245). -/
def meshRows (b : List Int) (order y : Nat) : List Nat :=
  (List.range 1024).flatMap (fun x => (meshFootprint b x y).filterMap (fun p =>
    if onCanvas p.1 p.2.1 then some (orderRow order p.2.1.toNat) else none))

/-- The least and greatest of some rows. -/
def rowSpan (l : List Nat) : Option (Nat × Nat) :=
  match l with
  | [] => none
  | a :: r => some (r.foldl min a, r.foldl max a)

/-- The greater of a number and an optional one. -/
def optMax (a : Option Nat) (b : Option Nat) : Option Nat :=
  match a, b with
  | none, b => b
  | a, none => a
  | some x, some y => some (max x y)

/-- What the checks 5 to 7 need of each row pair: spans of the upper row below SPLIT, of the upper row from SPLIT up, and
of the lower row. -/
structure RowPair where
  up   : Option (Nat × Nat)
  seam : Option (Nat × Nat)
  lo   : Option (Nat × Nat)
  deriving DecidableEq, Repr

/-- SPLIT of an image (R245). -/
def meshSplit (lower : List (List Nat)) : Nat := ((rowSpan lower.flatten).map (·.1)).getD 1024

/-- The row pairs of an image. -/
def meshPairs (upper lower : List (List Nat)) (split : Nat) : List RowPair :=
  List.zipWith (fun u l => ⟨rowSpan (u.filter (· < split)), rowSpan (u.filter (split ≤ ·)), rowSpan l⟩) upper lower

/-- A row's span ends more than 127 rows above where a later one, or itself, begins. -/
def spanFar (p q : Option (Nat × Nat)) : Bool :=
  match p, q with
  | some p, some q => decide (q.1 + 127 < p.2)
  | _, _ => false

/-- Check 5 (R246): the first row pair k that samples more than 127 rows above what some k' ≥ k samples in the same
stream. -/
def windowFails (k : Nat) : List RowPair → Option Nat
  | [] => none
  | p :: r =>
    if (p :: r).any (fun q => spanFar p.up q.up || spanFar p.lo q.lo) then some k else windowFails (k + 1) r

/-- Check 6 (R246): the first upper row that samples at or above SPLIT + 64. -/
def seamFails (k split : Nat) : List RowPair → Option Nat
  | [] => none
  | p :: r => match p.seam with
    | some q => if split + 64 ≤ q.2 then some k else seamFails (k + 1) split r
    | none => seamFails (k + 1) split r

/-- Check 7 (R246): the first row pair whose lead exceeds 46 + 6·k. -/
def leadFails (k split u0 : Nat) (hu hl : Option Nat) : List RowPair → Option Nat
  | [] => none
  | p :: r =>
    let hu := optMax hu (p.up.map (·.2))
    let hl := optMax (optMax hl (p.lo.map (·.2))) (p.seam.map (·.2))
    let a := match hu with | some h => h + 1 - u0 | none => 0
    let b := match hl with | some h => h + 1 - split | none => 0
    if 46 + 6 * k < a + b then some k else leadFails (k + 1) split u0 hu hl r

/-- Node words of an image, signed. -/
def imageNodes (words : List Nat) : List Int := ((words.drop 8).take 8450).map (fun w => signedBits 32 w)

/-- SUM over node words (R237). -/
def imageSum (words : List Nat) : Nat :=
  ((((words.drop 8).take 8450).zipIdx.map (fun p => p.1 ^^^ p.2)).sum) % 2 ^ 32

/-- Check 1 (R246): the header, for an image meant for a bank. -/
def headerBad (words : List Nat) (bank : Nat) : Bool :=
  let w := fun i => words.getD i 0
  getBits (w 0) 8 8 != 1 || getBits (w 0) 16 16 != 0 || getBits (w 0) 1 7 != 0 || getBits (w 1) 16 16 != 0
    || (List.range 5).any (fun i => w (3 + i) != 0) || 2 ≤ bank

/-- Checks 3 to 7 of R246: LOAD_ERR, WHERE, SPLIT and u0; u0 is SPLIT where the upper half touches no canvas row. -/
def meshChecks (words : List Nat) : Nat × Nat × Nat × Nat :=
  let nodes := imageNodes words
  let order := getBits (words.getD 0 0) 0 1
  if imageSum words != words.getD 2 0 then (3, 0, 0, 0)
  else match (nodes.zipIdx).find? (fun p => decide (p.1 < -67108864) || decide (134152192 < p.1)) with
    | some p => (4, p.2 / 2, 0, 0)
    | none =>
      let upper := (List.range 512).map (fun k => meshRows nodes order k)
      let lower := (List.range 512).map (fun k => meshRows nodes order (512 + k))
      let split := meshSplit lower
      let u0 := ((rowSpan upper.flatten).map (·.1)).getD split
      let ps := meshPairs upper lower split
      match windowFails 0 ps with
      | some k => (5, k, 0, 0)
      | none => match seamFails 0 split ps with
        | some k => (6, k, 0, 0)
        | none => match leadFails 0 split u0 none none ps with
          | some k => (7, k, 0, 0)
          | none => (0, 0, split, u0)

/-- A load's result in WARP_MESH_STATUS and WARP_LOAD_WHERE (R246). -/
def State.loadResult (s : State) (err where_ bank : Nat) : State :=
  ((s.set WARP_MESH_STATUS_LOAD_ERR err).set WARP_MESH_STATUS_LOAD_BANK bank).setReg WARP_LOAD_WHERE_OFF where_

/-- A bank is in use, or named by the pending selection (check 2 of R246). -/
def State.bankBusy (s : State) (bank : Nat) : Bool :=
  s.get WARP_MESH_STATUS_IN_USE == bank
    || (s.flag WARP_MESH_STATUS_PENDING && s.get WARP_MESH_STATUS_PEND_BANK == bank)

/-- A load starts (R247): checks 1 and 2; the bank's VALID clears and LOADING reads 1. The result is LOAD_ERR, 0 where
the load goes on. -/
def State.loadStart (s : State) (words : List Nat) (bank ring index : Nat) : Nat × State :=
  if headerBad words bank then (1, s.loadResult 1 0 (bank % 4))
  else if s.bankBusy bank then (2, s.loadResult 2 0 bank)
  else
    let s := (s.set ⟨WARP_MESH_STATUS_OFF, 8 + bank, 1⟩ 0).set WARP_MESH_STATUS_LOADING 1
    let s := s.set WARP_MESH_STATUS_LOAD_BANK bank
    (0, { s with warp := { s.warp with load := some ⟨bank, words, ring, index⟩ } })

/-- A bank takes a checked image (R246, R247). The backing copy and the on-die copy are one in the model. -/
def State.bankTakes (s : State) (bank : Nat) (words : List Nat) (err where_ split first : Nat) : State :=
  let s := s.loadResult err where_ bank
  let nodes := if err = 0 then imageNodes words else []
  let s := { s with warp := if bank = 0 then { s.warp with bank0 := nodes, first0 := first }
    else { s.warp with bank1 := nodes, first1 := first } }
  if err != 0 then s.set ⟨WARP_MESH_STATUS_OFF, 8 + bank, 1⟩ 0
  else
    let s := s.set ⟨WARP_MESH_STATUS_OFF, 8 + bank, 1⟩ 1
    let s := s.set (WARP_BANK_INFO_SPLIT bank) split
    let s := s.set (WARP_BANK_INFO_ORDER bank) (getBits (words.getD 0 0) 0 1)
    let s := s.set (WARP_BANK_INFO_TAG bank) (getBits (words.getD 1 0) 0 16)
    s.setReg (WARP_BANK_SUM_OFF bank) (words.getD 2 0)

/-- The checks of the load in progress end (R246, R247); its descriptor completes with LOAD_ERR (R324). -/
def State.loadEnds (s : State) : State :=
  match s.warp.load with
  | none => s
  | some l =>
    let r := meshChecks l.words
    let s := { s with warp := { s.warp with load := none } }
    let s := (s.set WARP_MESH_STATUS_LOADING 0).bankTakes l.bank l.words r.1 r.2.1 r.2.2.1 r.2.2.2
    if r.1 = 0 then s.finish l.ring l.index 0 0 0 else s.finish l.ring l.index 0x0B r.1 (r.2.1 % 2 ^ 16)

/-! ### Selection (R248 to R250) -/

/-- A selection may be taken (R248): the ground of its rejection, none where it is accepted or has no effect. -/
def State.selectRejected (s : State) (bank : Nat) : Bool :=
  bank == 3 || (bank < 2 && !s.flag ⟨WARP_MESH_STATUS_OFF, 8 + bank, 1⟩) || s.flag WARP_MESH_STATUS_PENDING || s.follows

/-- A selection has no effect (R248): it names the one in force, with none pending. -/
def State.selectIdle (s : State) (bank : Nat) : Bool :=
  bank == s.get WARP_MESH_STATUS_IN_USE && !s.flag WARP_MESH_STATUS_PENDING && bank != 3
    && (2 ≤ bank || s.flag ⟨WARP_MESH_STATUS_OFF, 8 + bank, 1⟩)

/-- A selection is accepted for frame E (R249). -/
def State.selectAccept (s : State) (bank e : Nat) : State :=
  let s := ((s.set WARP_MESH_STATUS_PENDING 1).set WARP_MESH_STATUS_PEND_BANK bank).setReg WARP_MESH_TARGET_OFF e
  let s := s.set WARP_MESH_SELECT_BANK bank
  { s with warp := { s.warp with selAt := s.now } }

/-- The pending selection takes effect at the capture point of its frame (R249). -/
def State.captureSelect (s : State) (e : Nat) : State :=
  if s.flag WARP_MESH_STATUS_PENDING && decide (0 ≤ frameDiff e (s.reg WARP_MESH_TARGET_OFF)) then
    (s.set WARP_MESH_STATUS_IN_USE (s.get WARP_MESH_STATUS_PEND_BANK)).set WARP_MESH_STATUS_PENDING 0
  else s

/-! ### The composition of a frame (R245) -/

/-- The canvas rows that array row `y` touches under a selection, with ORDER applied (R245). -/
def State.rowReads (s : State) (sel y : Nat) : List Nat :=
  if 2 ≤ sel then [y] else meshRows (s.bank sel) (s.order sel) y

/-- A canvas row, its number with ORDER applied `r`, joins the window of its stream, which keeps the latest 128, and the seam
store where LO composes it among SPLIT to SPLIT + 63 (R245). -/
def Compose.store (c : Compose) (st r split : Nat) (row : CanvasRow) : Compose :=
  if st = 0 then { c with upNext := r + 1, up := (row :: c.up).take 128 }
  else { c with loNext := r + 1, lo := (row :: c.lo).take 128, seam := if r < split + 64 then row :: c.seam else c.seam }

/-- Stream `st` composes the rows from its next one to `stop` − 1, in order (R245). -/
def State.advance (s : State) (st stop : Nat) : State :=
  let next := if st = 0 then s.warp.comp.upNext else s.warp.comp.loNext
  ((List.range stop).drop next).foldl (fun (s : State) r =>
    let p := s.composeRow st (orderRow (s.order s.inUse) r)
    { p.1 with warp := { p.1.warp with comp := p.1.warp.comp.store st r (s.split s.inUse) p.2 } }) s

/-- An array row leaves WARP. -/
def State.passRow (s : State) (y : Nat) : State :=
  let row := (List.range 1024).map (fun x => warpBlend (s.footprint s.inUse x y) (s.windowPoint y))
  { s with warp := { s.warp with comp := { s.warp.comp with rows := (y, row) :: s.warp.comp.rows } } }

/-- Row pair `k` leaves WARP: each stream first composes what the pair reaches (R245). After the last pair UP composes on to
SPLIT − 1 and LO to the end of the canvas. -/
def State.passPair (s : State) (k : Nat) : State :=
  let split := s.split s.inUse
  let upper := s.rowReads s.inUse k
  let lower := s.rowReads s.inUse (512 + k) ++ upper.filter (split ≤ ·)
  let stop := fun (l : List Nat) => (l.map (· + 1)).foldl max 0
  let s := (s.advance 0 (stop (upper.filter (· < split)))).advance 1 (stop lower)
  let s := (s.passRow k).passRow (512 + k)
  let s := { s with warp := { s.warp with comp := { s.warp.comp with pairs := k + 1 } } }
  if k == 511 then (s.advance 0 split).advance 1 1024 else s

/-- WARP's part of row slot `k`: the row pairs up to k + 2 leave it, since concealment looks two array rows ahead
(R171, notes/assumptions/16.md). -/
def State.warpSlot (s : State) (k : Nat) : State :=
  ((List.range (min (k + 3) 512)).drop s.warp.comp.pairs).foldl (fun (s : State) p => s.passPair p) s

/-- The composition of a frame starts anew: UP at u0, LO at SPLIT (R245). -/
def State.composeBegins (s : State) : State :=
  { s with warp := { s.warp with
    comp := ⟨s.firstRow s.inUse, s.split s.inUse, [], [], [], [], [], 0⟩ } }

/-- What the layers read in the scan that ended is recorded (R233): the canvas rows from u0, or from SPLIT where the upper half
reaches none below it, with ORDER applied. -/
def State.scanReads (s : State) : State :=
  let first := min (s.firstRow s.inUse) (s.split s.inUse)
  if s.order s.inUse = 0 then s.measureReads first 1024 else s.measureReads 0 (1024 - first)

/-! ### The footprint check (R253) -/

/-- A tile is marked in the tile map of the frame being scanned (R172, R386). While no verified mask is in use there is
no map, and every tile counts as marked (notes/assumptions/24.md). -/
def State.tileMarked (s : State) (tile : Nat) : Bool :=
  match s.braid.prot with
  | none => true
  | some m => s.flag BRAID_PROT_STATUS_BLOCKED_ALL || m.tiles.contains tile

/-- A footprint fault in the frame being scanned: the frame's first one gates the sector of its tile and shows the tile; it
is recorded once per run of frames (R253). The sectors of all of them keep their gates. -/
def State.footprintFault (s : State) (tile : Nat) : State :=
  let sec := tile / 512 * 8 + tile % 64 / 8
  let first := s.warp.footNow == []
  let s := if first then
      ((s.bump WARP_FOOT_STATUS_FRAMES).set WARP_FOOT_STATUS_TILE tile).gateSectors .footprint [sec]
    else s
  let s := if s.warp.footNow.contains sec then s
    else { s with warp := { s.warp with footNow := sec :: s.warp.footNow } }
  if first && !s.warp.footRun then
    ({ s with warp := { s.warp with footRun := true } }).fault 0x0301 3 (subj 3 tile)
  else s

/-- The scan of a frame has finished: sectors without a fault in it lose their footprint gates (R253). -/
def State.footprintEnds (s : State) : State :=
  let bad := s.warp.footNow
  let s := s.ungate (fun g => g.1 == .footprint && !bad.contains (g.2 / 4))
  { s with warp := { s.warp with footRun := bad != [], footNow := [] } }

/-! ### Scaler coefficients (R260) -/

/-- A committed layer uses a scaler with FILTER 3 (R260). -/
def State.userFilter (s : State) (sc : Nat) : Bool :=
  let f := s.filterOf sc
  s.braid.layers.any (fun e => layerLive e.2.cfg && layerScaler e.2.cfg == sc + 1)
    && (getBits f 0 2 == 3 || getBits f 4 2 == 3)

/-- A coefficient register is written, or the write discarded (R260). -/
def State.coefWrite (s : State) (off v : Nat) : State :=
  let sc := (off - 0x51000) / 0x800
  if s.userFilter sc then s.latch (WARP_SC_STATUS_COEF_REJ sc) else s.setReg off v

end Sys2Proof.Machine
end

