-- ==== Sys2Proof/Machine/Tone.lean ====
section
/-! DEFINITION. TONE: the eight stages of a pixel, the settings and calibration tables, delivered charge and wear, and
the power governor (chapter 5). -/

namespace Sys2Proof.Machine

open Reg

/-- The largest L24 value (R150). -/
def l24Max : Nat := 16777215

/-- The largest V20 value after the limit of R173. -/
def v20Max : Nat := 1048575

/-! ### Stage 1: input transfer curve (R154 to R157) -/

/-- n' of R154: a component after the input range. -/
def narrowed (narrow : Bool) (n : Nat) : Nat :=
  if narrow then (clampI 0 65535 (rndI (((n : Int) - 4096) * 65535) 56064)).toNat else n

/-- The user curve of R157: point `i` reads its value where it was loaded, the straight line elsewhere. -/
def userPoint (curve : List (Nat × Nat)) (i : Nat) : Nat := sget (fun i => i * 1025) curve i

/-- The piecewise-linear evaluation of R157. -/
def userCurve (curve : List (Nat × Nat)) (n : Nat) : Nat :=
  let i := n / 64
  let f := n % 64
  let p := userPoint curve
  if i = 1023 then p 1023
  else ((p i : Int) + (((p (i + 1) : Int) - p i) * f + 32) / 64).toNat

/-- Stage 1 (R154 to R157). -/
def State.stage1 (s : State) (n : Nat) : Nat :=
  let n := narrowed (s.toneField TONE_CTRL_NARROW == 1) n
  match s.toneField TONE_CTRL_CURVE with
  | 0 => n * 16 + n / 4096
  | 1 => curve709 n
  | 2 => curvePq (max 100 (s.toneField TONE_PQ_PEAK)) n
  | _ => userCurve s.tone.curve n

/-! ### Stage 2: colour matrix and lime (R158 to R161) -/

/-- The coefficient of a preset matrix that the factory image does not give in the model: 0.625 on the diagonal and for
LIM, so white stays within R160 (notes/assumptions/26.md). -/
def presetDefault (k : Nat) : Int :=
  if k % 12 = 0 ∨ k % 12 = 4 ∨ k % 12 = 8 then 10240 else 0

/-- m[o][i] of R158 and R159. -/
def State.matrix (s : State) (o i : Nat) : Int :=
  let sp := s.toneField TONE_CTRL_SPACE
  if sp = 3 then signedBits 18 (s.toneField (TONE_MATRIX_COEF (3 * o + i)))
  else sget presetDefault s.tone.presets (12 * sp + 3 * o + i)

/-- P_o of R159 for a row of coefficients, rounded once to L24, negative values kept. -/
def prelimOf (m : Nat → Int) (l : List Nat) : Int :=
  min l24Max (rndI ((List.range 3).map (fun i => m i * (l.getD i 0 : Int))).sum 16384)

/-- P_o of R159. -/
def State.prelim (s : State) (l : List Nat) (o : Nat) : Int := prelimOf (s.matrix o) l

/-- The exponent e with 2^15 ≤ x·2^e < 2^16 for a positive x. -/
def sigExp (x : Rat) : Int :=
  let k : Int := (Nat.log2 x.num.toNat : Int) - (Nat.log2 x.den : Int)
  let top : Rat := if 0 ≤ k then (2 ^ k.toNat : Nat) else 1 / (2 ^ (-k).toNat : Nat)
  if top ≤ x then 15 - k else 16 - k

/-- A quotient rounded to 16 significant bits, a half up (R161). -/
def sig16 (x : Rat) : Rat :=
  if x ≤ 0 then 0
  else
    let e := sigExp x
    if 0 ≤ e then (Rat.floor (x * (2 ^ e.toNat : Nat) + 1 / 2) : Rat) / (2 ^ e.toNat : Nat)
    else (Rat.floor (x / (2 ^ (-e).toNat : Nat) + 1 / 2) : Rat) * (2 ^ (-e).toNat : Nat)

/-- λ of R161 for the preliminary values of RED, GRN and BLU. `a` holds a_c with 14 fractional bits, `share` is
LIME_SHARE. The divisions are rounded to 16 significant bits; the products between them stay exact
(notes/assumptions/15.md). -/
def limeAmount (rule share : Nat) (a : List Nat) (p : List Int) : Rat :=
  let f := sig16 ((share : Rat) / 255)
  let cand := (List.range 3).filterMap (fun c =>
    if a.getD c 0 = 0 then none else some (sig16 ((max (p.getD c 0) 0 : Int) / ((a.getD c 0 : Rat) / 16384))))
  let lamMax : Rat := match cand with
    | [] => 0
    | x :: r => r.foldl min x
  match rule with
  | 1 => f * lamMax
  | 2 =>
    let hi := (p.take 3).foldl max (p.getD 0 0)
    let lo := (p.take 3).foldl min (p.getD 0 0)
    if 0 < hi ∧ 0 < lo then sig16 (f * lamMax * (lo : Rat) / (hi : Rat)) else 0
  | _ => 0

/-- The lime rule on the preliminary values, and the limit that ends stage 2 (R160, R161): what is negative becomes 0. -/
def limeStage (rule share : Nat) (a : List Nat) (p : List Int) : List Nat :=
  let lam := limeAmount rule share a p
  (List.range 4).map (fun c =>
    let v := if c < 3 then p.getD c 0 - Rat.floor (lam * ((a.getD c 0 : Rat) / 16384) + 1 / 2)
      else p.getD 3 0 + Rat.floor (lam + 1 / 2)
    (clampI 0 l24Max v).toNat)

/-- Stage 2 (R158 to R161): RED, GRN, BLU, LIM. The a_c are those of TONE_LIME_SUB_RED to TONE_LIME_SUB_BLU (R160). -/
def State.stage2 (s : State) (l : List Nat) : List Nat :=
  limeStage (s.toneField TONE_CTRL_LIME_RULE) (s.toneField TONE_CTRL_LIME_SHARE)
    ((List.range 3).map (fun c => s.get (TONE_LIME_SUB_A c))) ((List.range 4).map (s.prelim l))

/-! ### Stages 3 to 5: calibration, wear and concealment (R162 to R172) -/

/-- The calibration word of an emitter where nothing has loaded another: GAIN 1.0, OFFSET 0, WEAR 1.0, NORMAL. -/
def calDefault (_ : Nat) : BitVec 32 := 0x80001000#32

/-- An emitter's number: 4·(1024·y + x) + c (R186). -/
def emitter (x y c : Nat) : Nat := 4 * (1024 * y + x) + c

/-- An emitter's calibration word (R162). -/
def State.calWord (s : State) (e : Nat) : Nat := (sget calDefault s.tone.cal e).toNat

/-- An emitter's calibration word is written. -/
def State.setCal (s : State) (e w : Nat) : State :=
  { s with tone := { s.tone with cal := sput calDefault s.tone.cal e (BitVec.ofNat 32 w) } }

/-- STATE of a calibration word: DEAD reads 2 or 3 (R162). -/
def calDead (w : Nat) : Bool := decide (2 ≤ w % 4)

/-- The one-segment factor o1[c][i] (R163). -/
def State.oneSeg (s : State) (c i : Nat) : Nat := sget (fun _ => 32768) s.tone.oneseg (16 * c + i)

/-- Stage 3 (R163). Its first product is limited only once the offset is added (notes/assumptions/15.md). -/
def State.stage3 (s : State) (c w v : Nat) : Nat :=
  let gain := getBits w 20 12
  if v = 0 ∨ gain = 0 then 0
  else
    let out := (clampI 0 l24Max ((rnd (v * gain) 2048 : Int) + 4 * signedBits 6 (getBits w 14 6))).toNat
    if w % 4 = 1 then min l24Max (rnd (out * s.oneSeg c (min (Nat.log2 v - 5) 15)) 32768) else out

/-- Stage 4 (R166). -/
def stage4 (w v : Nat) : Nat :=
  let wear := getBits w 2 12
  min l24Max (rnd (v * (if wear = 0 then 1024 else wear)) 1024)

/-- An emitter's value after stage 4. -/
def State.v4 (s : State) (x y c : Nat) : Nat :=
  let px := (s.warpPixel x y).1
  let l := (List.range 3).map (fun i => s.stage1 (px.getD i 0))
  let w := s.calWord (emitter x y c)
  stage4 w (s.stage3 c w ((s.stage2 l).getD c 0))

/-- The pixels around one, in the array. -/
def neighbours (x y : Nat) : List (Nat × Nat) :=
  ([(-1, -1), (0, -1), (1, -1), (-1, 0), (1, 0), (-1, 1), (0, 1), (1, 1)] : List (Int × Int)).filterMap (fun d =>
    let u := (x : Int) + d.1
    let v := (y : Int) + d.2
    if onCanvas u v then some (u.toNat, v.toNat) else none)

/-- An emitter is DEAD for the pixel path (R164). -/
def State.emitterDead (s : State) (x y c : Nat) : Bool := calDead (s.calWord (emitter x y c))

/-- eligible(n) of R171. -/
def State.eligible (s : State) (c : Nat) (n : Nat × Nat) : Bool :=
  !s.emitterDead n.1 n.2 c && !s.tileMarked (tileOf n.1 n.2) && s.v4 n.1 n.2 c != 0

/-- What one dead emitter gives each of its eligible neighbours (R171). -/
def State.shareOf (s : State) (x y c : Nat) : Nat :=
  let m := ((neighbours x y).filter (fun n => s.eligible c n)).length
  if m = 0 then 0 else rnd (s.v4 x y c * min 256 (s.toneField TONE_CONCEAL_STRENGTH)) (256 * m)

/-- Stage 5 (R171, R172). -/
def State.v5 (s : State) (x y c : Nat) : Nat :=
  let v := s.v4 x y c
  let on := s.toneField TONE_CTRL_CONCEAL / 2 ^ c % 2 == 1
  if !on || !s.eligible c (x, y) then v
  else
    let add := (((neighbours x y).filter (fun d => s.emitterDead d.1 d.2 c && !s.tileMarked (tileOf d.1 d.2))).map
      (fun d => s.shareOf d.1 d.2 c)).sum
    min l24Max (v + min add v)

/-! ### Stages 6 to 8: limit, range, duty and dither (R173, R180 to R183) -/

/-- A kill latch is set (R106). -/
def State.killed (s : State) (x y c : Nat) : Bool := s.array.kill.contains (emitter x y c)

/-- Stage 6 (R164, R173): V20, and whether the value was above the limit. -/
def State.stage6 (s : State) (x y c : Nat) : Nat × Bool :=
  if s.emitterDead x y c || s.killed x y c then (0, false)
  else
    let v := s.v5 x y c
    (min v v20Max, decide (v20Max < v))

/-- RATIO of a quadrant, colour and range (R83). -/
def State.ratio (s : State) (q c r : Nat) : Nat := s.get (STRIKE_RSTEP_RATIO (64 * q + 16 * c + r))

/-- q4(r) of R180. -/
def q4 (v ratio : Nat) : Nat := (2 ^ 18 * v + ratio) / (2 * ratio)

/-- dmin4(r) of R180, 0 for range 0. -/
def dmin4 (ratio : Nat → Nat) (r : Nat) : Nat :=
  if r = 0 then 0 else (16380 * ratio (r - 1) + ratio r - 1) / ratio r

/-- Stage 7 (R180): range and quarter-duty. -/
def stage7 (ratio : Nat → Nat) (v : Nat) : Nat × Nat :=
  if v = 0 then (0, 0)
  else match (List.range 16).find? (fun r => decide (q4 v (ratio r) ≤ 16380)) with
    | none => (15, max 16380 (dmin4 ratio 15))
    | some r => (r, max (q4 v (ratio r)) (dmin4 ratio r))

/-- θ of R183 for a frame number. -/
def dither (on : Bool) (frame x y c : Nat) : Nat :=
  if on then [0, 2, 1, 3].getD ((frame + (2 * (y % 2) + x % 2 + c) % 4) % 4) 0 else 2

/-- A channel as it leaves stage 8 (R183): range and duty. -/
def stage8 (rd : Nat × Nat) (theta : Nat) : Nat × Nat := (rd.1, min 4095 ((rd.2 + theta) / 4))

/-- A pixel word of R79 from its four channels of range and duty. -/
def pixelWord (chs : List (Nat × Nat)) : Nat :=
  (chs.zipIdx.map (fun p => (p.1.1 % 16 * 4096 + p.1.2 % 4096) * 2 ^ (16 * p.2))).sum

/-- Range of a channel of a pixel word. -/
def wordRange (w c : Nat) : Nat := getBits w (16 * c + 12) 4

/-- Duty of a channel of a pixel word. -/
def wordDuty (w c : Nat) : Nat := getBits w (16 * c) 12

/-- The word that TONE codes for a pixel of frame `frame`, and how many of its channels were limited (R149). -/
def State.toneWord (s : State) (frame x y : Nat) : Nat × Nat :=
  let q := quadOf x y
  let on := s.toneField TONE_CTRL_DITHER == 1
  let chs := (List.range 4).map (fun c =>
    let v := s.stage6 x y c
    (stage8 (stage7 (s.ratio q c) v.1) (dither on frame x y c), v.2))
  (pixelWord (chs.map (·.1)), (chs.filter (·.2)).length)

/-- A pixel lies in the measurement pattern in force (R103). The pattern acts only while the module is in CALIBRATE: when it
leaves CALIBRATE within a frame, the pattern ends at the next pixel (notes/assumptions/14.md). -/
def State.inPattern (s : State) (x y : Nat) : Bool :=
  let p := s.array.pattern
  s.house.mode == .calibrate && p.enable && decide (p.x0 ≤ x) && decide (x ≤ p.x1) && decide (p.y0 ≤ y) && decide (y ≤ p.y1)

/-- The word that the pixel path sends for a pixel, with the limited channels: TONE's, or the pattern's (R103, R149). -/
def State.pathWord (s : State) (frame x y : Nat) : Nat × Nat :=
  let t := s.toneWord frame x y
  if s.inPattern x y then
    (if s.tileMarked (tileOf x y) then 0 else s.array.pattern.word, t.2)
  else t

/-! ### Measurement of the coded frame (R174, R184) -/

/-- TONE's own sector code (R165): 1,023 where nothing has loaded another. -/
def State.sectorCode (s : State) (sec c : Nat) : Nat := sget (fun _ => 1023) s.tone.sector (4 * sec + c)

/-- (1,023 + 3·CODE) × RATIO of a channel of a coded word. -/
def State.chanLevel (s : State) (x y c w : Nat) : Nat :=
  (1023 + 3 * s.sectorCode (sectorOf x y) c) * s.ratio (quadOf x y) c (wordRange w c)

/-- The sums and peaks of a coded word join those of the frame (R174, R184). -/
def State.measureWord (s : State) (x y w : Nat) : State :=
  let level := fun c => s.chanLevel x y c w
  let t := s.tone
  { s with tone := { t with
    sums := (List.range 4).map (fun c => t.sums.getD c 0 + level c * wordDuty w c)
    peaks := (List.range 4).map (fun c => if wordDuty w c = 0 then t.peaks.getD c 0 else max (t.peaks.getD c 0) (level c)) } }

/-! ### Settings (R152, R153) -/

/-- The staged registers of R152. -/
def toneStaged : List Nat :=
  [TONE_CTRL_OFF, TONE_PQ_OFF, TONE_CONCEAL_OFF, TONE_GOV_BUDGET_OFF, TONE_GOV_SHAPE_OFF, TONE_GOV_MODEL_OFF,
   TONE_GOV_IMAX_OFF] ++ (List.range 12).map (fun i => TONE_MATRIX_OFF i)

/-- The staged values, as a commit carries them. -/
def State.toneValues (s : State) : List (Nat × Nat) :=
  toneStaged.foldl (fun m o => sput (fun _ => 0) m o (s.reg o)) []

/-- A TONE commit is rejected (R153). -/
def State.toneRejected (s : State) : Bool :=
  s.get TONE_CTRL_LIME_RULE == 3 || s.follows || s.flag TONE_STATUS_COMMIT_PENDING

/-- A TONE commit is accepted, for a frame in a twin set (R152, R153). -/
def State.toneAccept (s : State) (values : List (Nat × Nat)) (frame : Option Nat) : State :=
  ({ s with tone := { s.tone with pending := some (values, s.now, frame) } }).set TONE_STATUS_COMMIT_PENDING 1

/-- The working efficiency (R175, R179): EFF, or the lowered value. -/
def State.effUsed (s : State) : Rat :=
  match s.tone.effLow with
  | some e => e
  | none => ((max 717 (s.toneField TONE_GOV_MODEL_EFF) : Nat) : Rat) / 1024

/-- EFF_USED follows the working efficiency. -/
def State.showEff (s : State) : State := s.set TONE_GOV_DERATE_EFF_USED (Rat.floor (s.effUsed * 1024)).toNat

/-- TONE's settings at the capture point of output frame E (R152, R188). -/
def State.captureTone (s : State) (e : Nat) : State :=
  match s.tone.pending with
  | none => s
  | some (v, goAt, frame) =>
    if s.dueAt e goAt frame then
      (({ s with tone := { s.tone with force := v, pending := none } }).set TONE_STATUS_COMMIT_PENDING 0).showEff
    else s

/-! ### Calibration blocks (R185 to R188) -/

/-- Entries of a calibration table (R186). -/
def calEntries : Nat → Option Nat
  | 1 => some 4194304 | 2 => some 256 | 3 => some 1024 | 4 => some 64 | 5 => some 132 | 6 => some 4194304 | _ => none

/-- The states in which a block of a table is accepted (R186). -/
def calMode (table : Nat) (m : Mode) : Bool :=
  match table with
  | 1 | 3 => m == .dark || m == .show || m == .solo || m == .calibrate || m == .service
  | 2 => m == .dark || m == .calibrate || m == .service
  | _ => m == .service

/-- The value that a table in force holds for an entry. -/
def State.calInForce (s : State) (table i : Nat) : Nat :=
  match table with
  | 3 => userPoint s.tone.curve i
  | _ => 0

/-- The staged user curve, with the points in force where none is staged. -/
def State.stagedPoint (s : State) (i : Nat) : Nat :=
  match s.tone.staged.find? (fun e => e.1 == 3 && e.2.1 == i) with
  | some e => e.2.2 % 2 ^ 24
  | none => userPoint s.tone.curve i

/-- The staged user curve decreases somewhere or has a point above 1,048,576 (R187, code 5). -/
def State.curveBad (s : State) : Bool :=
  s.tone.staged.any (fun e => e.1 == 3)
    && (List.range 1024).any (fun i => decide (1048576 < s.stagedPoint i)
      || (i != 1023 && decide (s.stagedPoint (i + 1) < s.stagedPoint i)))

/-- Checks 1, 2, 3, 4 and 6 of R187 on a block of words. -/
def State.calCode (s : State) (w : List Nat) : Nat :=
  let h := fun i => w.getD i 0
  let table := getBits (h 0) 0 8
  let entries := w.drop 8
  if (calEntries table).isNone || getBits (h 0) 8 8 != 1 || getBits (h 0) 16 16 != 0 || getBits (h 4) 1 31 != 0
    || h 5 != 0 || h 6 != 0 || h 7 != 0 then 1
  else if (calEntries table).getD 0 < h 1 + h 2 then 2
  else if !calMode table s.house.mode then 3
  else if h 2 != 0 && (crc32 (bytesOf (entries.take (h 2))) != h 3 || !s.flag (CVU_UNIT_CFG_SELFTEST_OK 6)) then 4
  else if s.flag TONE_STATUS_CAL_PENDING then 6
  else 0

/-- CVU_06 checks the block's CRC where R187 asks for it (R418). -/
def State.calCheck (s : State) (w : List Nat) (code : Nat) : State :=
  let h := fun i => w.getD i 0
  let c := crc32 (bytesOf ((w.drop 8).take (h 2)))
  if h 2 == 0 || code == 1 || code == 2 || code == 3 then s
  else if code == 4 then s.cvuFail 6 c (h 3) else s.cvuPass 6 c

/-- A calibration block arrives (R185 to R188): LAST_ERR, and the state with its entries staged. -/
def State.calBlock (s : State) (w : List Nat) : Nat × State :=
  let h := fun i => w.getD i 0
  let table := getBits (h 0) 0 8
  let code := s.calCode w
  let s := (s.calCheck w code).set TONE_CAL_STATUS_LAST_TABLE (min table 15)
  if code != 0 then (code, s.set TONE_CAL_STATUS_LAST_ERR code)
  else
    let es := ((w.drop 8).take (h 2)).zipIdx.map (fun p => (table, h 1 + p.2, p.1))
    let s := { s with tone := { s.tone with staged := es.reverse ++ s.tone.staged } }
    let s := if es == [] then s else s.set TONE_CAL_STATUS_STAGED 1
    if getBits (h 4) 0 1 == 0 then (0, s.set TONE_CAL_STATUS_LAST_ERR 0)
    else if s.curveBad then
      (5, (({ s with tone := { s.tone with staged := [] } }).set TONE_CAL_STATUS_STAGED 0).set TONE_CAL_STATUS_LAST_ERR 5)
    else
      (0, (({ s with tone := { s.tone with calGo := some none } }).set TONE_STATUS_CAL_PENDING 1).set
        TONE_CAL_STATUS_LAST_ERR 0)

/-- One staged entry takes effect (R186, R188). -/
def State.calEntry (s : State) (e : Nat × Nat × Nat) : State :=
  let i := e.2.1
  let v := e.2.2
  let t := s.tone
  match e.1 with
  | 1 => s.setCal i (2 ^ 14 * (v / 2 ^ 14 % 2 ^ 18) + s.calWord i % 2 ^ 14)
  | 2 => { s with tone := { t with sector := sput (fun _ => 1023) t.sector i (v % 1024) } }
  | 3 => { s with tone := { t with curve := sput (fun i => i * 1025) t.curve i (v % 2 ^ 24) } }
  | 4 => { s with tone := { t with oneseg := sput (fun _ => 32768) t.oneseg i (v % 65536) } }
  | 5 => if i < 128 then { s with tone := { t with eta := sput (fun _ => 32768) t.eta i (v % 65536) } }
         else { s with tone := { t with kappa := sput (fun _ => 0) t.kappa (i - 128) (signedBits 16 (v % 65536)) } }
  | 6 => { s with tone := { t with charge := sput (fun _ => 0) t.charge i (v % 2 ^ 32) } }
  | _ => s

/-- The calibration commit at a capture point at least 50 µs after its descriptor's completion (R188). -/
def State.captureCal (s : State) : State :=
  match s.tone.calGo with
  | some (some t) =>
    if 50000 + t ≤ s.now then
      let s := s.tone.staged.reverse.foldl (fun s e => s.calEntry e) s
      let s := { s with tone := { s.tone with staged := [], calGo := none } }
      ((s.set TONE_STATUS_CAL_PENDING 0).set TONE_CAL_STATUS_STAGED 0).count TONE_CAL_STATUS_GEN
    else s
  | _ => s

/-! ### Delivered charge and wear (R167 to R170) -/

/-- The emitters whose front word has a non-zero duty, with their word. -/
def State.litPixels (s : State) : List (Nat × Nat) :=
  s.array.front.filterMap (fun e => if e.2.toNat = 0 then none else some (e.1, e.2.toNat))

/-- The effective code of a sector and colour, in 1/4,092 of its range: 1,023 + 3·min(CODE, CLAMP), 0 under a DARK gate
(R114, R120). -/
def State.sectorFactor (s : State) (sec c : Nat) : Nat :=
  let i := 4 * sec + c
  if s.flag (TONE_SREF_DARK i) || s.flag (TONE_SREF_STRIKE_DARK i) then 0
  else 1023 + 3 * min (s.get (TONE_SREF_CODE i)) (s.get (TONE_SREF_CLAMP i))

/-- The global code that SEL selects (R118). -/
def State.globalCode (s : State) (c : Nat) : Nat :=
  if s.flag (TONE_GREF_SEL c) then s.get (TONE_GREF_FULL_CODE c) else s.get (TONE_GREF_HALF_CODE c)

/-- An emitter can carry current (R30, R106): ARRAY_EN_A and ARRAY_EN_B are asserted at its quadrant, its colour's buck runs,
its band's pass switch is closed, its kill latch is clear, and its full scale is not 0. -/
def State.carries (s : State) (pix c : Nat) : Bool :=
  let x := pix % 1024
  let y := pix / 1024
  let q := quadOf x y
  s.flag ⟨GUARD_A_STATUS_EN_A.off, GUARD_A_STATUS_EN_A.lsb + q, 1⟩ && s.flag ⟨GUARD_B_STATUS_EN_B.off, GUARD_B_STATUS_EN_B.lsb + q, 1⟩
    && s.flag ⟨ANODE_RAIL_STATUS_OFF, c, 1⟩ && s.flag (bandBit (bandOf y) c) && !s.killed x y c
    && s.globalCode c != 0 && s.sectorFactor (sectorOf x y) c != 0

/-- The charge of one emitter over one second of a frame, in counts of 16 µC, exactly: FS × ρ × d / 4,096 over 16 µC (R85,
R114, R167). -/
def State.chargeRate (s : State) (pix c w : Nat) : Rat :=
  let x := pix % 1024
  let y := pix / 1024
  (160 * s.globalCode c * s.sectorFactor (sectorOf x y) c * s.ratio (quadOf x y) c (wordRange w c) * wordDuty w c : Nat)
    / ((4095 * 4092 * 8388608 * 4096 * 16 : Nat) : Rat)

/-- A count rises by a charge, its fraction rounded up or down by a free value (R167: with probability f, which one run
cannot show; notes/assumptions/27.md). -/
def State.addCharge (s : State) (e : Nat) (q : Rat) : State :=
  if q ≤ 0 then s
  else
    let whole := (Rat.floor q).toNat
    let (f, s) := if (whole : Rat) = q then (0, s) else (let r := s.free; (r.1 % 2, r.2))
    { s with tone := { s.tone with
      charge := sput (fun _ => 0) s.tone.charge e (min 0xFFFFFFFF (sget (fun _ => 0) s.tone.charge e + whole + f)) } }

/-- The charges that the frame in force delivers over one second, as the codes, gates, clamps and enables stand (R167). -/
def State.chargeSample (s : State) : List (Nat × Rat) :=
  s.litPixels.flatMap (fun p => (List.range 4).filterMap (fun c =>
    if wordDuty p.2 c != 0 && s.carries p.1 c then some (4 * p.1 + c, s.chargeRate p.1 c p.2) else none))

/-- The start of beat 16 (R167): the frame that the LFSR has chosen is sampled. -/
def State.sampleCharge (s : State) : State :=
  match s.tone.sampleIn with
  | none => s
  | some 0 => { s with tone := { s.tone with sampleIn := none, sample := s.chargeSample } }
  | some (n + 1) => { s with tone := { s.tone with sampleIn := some n } }

/-- A second begins (R167): the LFSR moves on and chooses the frame of it that is sampled (notes/assumptions/27.md). -/
def State.chooseSample (s : State) : State :=
  let l := Config.lfsrNext s.tone.lfsr
  let frames := max 1 (1000000000 / max 1 s.periodNs)
  { s with tone := { s.tone with lfsr := l, sampleIn := some (Config.sampleFrame l % frames), sample := [] } }

/-- CHARGE_UPDATE (R167): the counts take the charges of the second's sampled frame, and the next second begins. -/
def State.chargeUpdate (s : State) : State :=
  if !s.timerRuns || s.islandStopped 4 then s
  else
    let s : State := { s with tone := { s.tone with updates := s.tone.updates + 1 } }
    (s.tone.sample.foldl (fun s e => s.addCharge e.1 e.2) s).chooseSample

/-- The 16-bit code that the wear store keeps of a count (R168): exponent and mantissa, rounded down. -/
def storedCode (n : Nat) : Nat :=
  if n < 2048 then n else (Nat.log2 n - 10) * 2048 + (n / 2 ^ (Nat.log2 n - 11) - 2048)

/-- The count that a code stands for (R168). -/
def codeCount (k : Nat) : Nat := if k < 2048 then k else (2048 + k % 2048) * 2 ^ (k / 2048 - 1)

/-- The CRC-32 of a checkpoint: over its 16-bit codes in the order of the emitters (R168; notes/assumptions/15.md). -/
def wearCrc (codes : List (Nat × Nat)) : Nat :=
  crc32 ((List.range 4194304).flatMap (fun e => toBytes 2 (sget (fun _ => 0) codes e)))

/-- The codes of counts, where they are not 0. -/
def wearCodes (charge : List (Nat × Nat)) : List (Nat × Nat) :=
  charge.filterMap (fun e => if storedCode e.2 = 0 then none else some (e.1, storedCode e.2))

/-- A checkpoint of all counts is written to one slot's wear store, the two in turn (R168). -/
def State.checkpoint (s : State) (hours : Nat) : State :=
  let codes := wearCodes s.tone.charge
  let w : WearStore := ⟨hours, s.tone.ckpts + 1, codes, wearCrc codes⟩
  let t := { s.tone with ckpts := s.tone.ckpts + 1, ckptAt := s.now }
  { s with tone := if s.tone.ckpts % 2 = 0 then { t with store0 := some w } else { t with store1 := some w } }

/-- A wear store as the flash returns it: `flips` names emitters whose code reads otherwise, and by which bits. -/
def WearStore.readBack (w : WearStore) (flips : List (Nat × Nat)) : WearStore :=
  { w with codes := flips.foldl (fun m e => sput (fun _ => 0) m e.1 (sget (fun _ => 0) m e.1 ^^^ e.2 % 65536)) w.codes }

/-- A wear store read back passes its CRC-32 (R168, R169); unchanged codes do. -/
def WearStore.passes (w : WearStore) (flips : List (Nat × Nat)) : Bool :=
  flips == [] || wearCrc (w.readBack flips).codes == w.crc

/-- η_c at a charge count, with 15 fractional bits (the wear model). -/
def State.etaAt (s : State) (c count : Nat) : Rat :=
  let q : Rat := (count * 16 : Nat) / 1000000
  let pt := fun i => ((sget (fun _ => 32768) s.tone.eta (32 * c + i) : Nat) : Rat) / 32768
  let at_ := fun i : Nat => if i = 0 then (0 : Rat) else ((2 ^ i : Nat) : Rat) / 32768
  match (List.range 31).find? (fun i => q < at_ (i + 1)) with
  | none => pt 31
  | some i => pt i + (pt (i + 1) - pt i) * (q - at_ i) / (at_ (i + 1) - at_ i)

/-- DVF of a segment from its drift record, mV (R140). -/
def driftDvf (r : BitVec 16) : Int := signedBits 10 (r.toNat / 64)

/-- The mean DVF over an emitter's segments in service (R140, R170). -/
def State.meanDvf (s : State) (e : Nat) : Rat :=
  let segs := [2 * e, 2 * e + 1].filter (fun k => !s.array.segOpen.contains k)
  let vals : List Int := segs.map (fun k => driftDvf (sget (fun _ => 0#16) s.array.drift k))
  if vals = [] then 0 else ((vals.sum : Int) : Rat) / ((vals.length : Nat) : Rat)

/-- w_target of R170 before and after the limit of WEAR_MAX. -/
def State.wearTarget (s : State) (e : Nat) : Nat × Nat :=
  let c := e % 4
  let eta := s.etaAt c (sget (fun _ => 0) s.tone.charge e) *
    (1 + ((sget (fun _ => (0 : Int)) s.tone.kappa c : Int) : Rat) * s.meanDvf e / 1048576)
  let eta := max (1 / 4) (min (5 / 4) eta)
  let raw := (Rat.floor (1024 / eta + 1 / 2)).toNat
  (raw, min raw (max 1024 (s.get TONE_WEAR_CTRL_WEAR_MAX)))

/-- The emitters whose wear gain may differ from the one at charge 0 and no drift. -/
def State.wornEmitters (s : State) : List Nat :=
  let drifted : List Nat := s.array.drift.map (fun (d : Nat × BitVec 16) => d.1 / 2)
  let worn : List Nat := s.tone.cal.filterMap (fun (e : Nat × BitVec 32) =>
    if getBits e.2.toNat 2 12 == 1024 then none else some e.1)
  (s.tone.charge.map (fun (e : Nat × Nat) => e.1) ++ drifted ++ worn).dedup

/-- WEAR_RECOMPUTE (R170): WEAR of every emitter moves by at most one unit toward its target. Emitters with no charge,
drift or other wear are alike: their target is that of charge 0. -/
def State.wearRecompute (s : State) : State :=
  let base := fun c => if sget (fun _ => 32768) s.tone.eta (32 * c) == 32768 then true else false
  let all := if (List.range 4).all base then s.wornEmitters else List.range 4194304
  let capped := (all.filter (fun e => let t := s.wearTarget e; decide (t.2 < t.1))).length
  let s1 := all.foldl (fun s e =>
    let w := s.calWord e
    let wear := getBits w 2 12
    let wear := if wear = 0 then 1024 else wear
    let t := (s.wearTarget e).2
    let wear := if wear < t then wear + 1 else if t < wear then wear - 1 else wear
    s.setCal e (setBits w 2 12 wear)) s
  let rose := decide (s.get TONE_WEAR_STATUS_CAPPED < min capped 0xFFFF)
  let first := (all.find? (fun e => let t := s.wearTarget e; decide (t.2 < t.1))).getD 0
  let s1 : State := { s1 with tone := { s1.tone with wearSteps := s.tone.wearSteps + 1 } }
  let s1 := s1.set TONE_WEAR_STATUS_CAPPED (min capped 0xFFFF)
  if rose then s1.fault 0x0402 4 (subj 1 (2 ^ 20 * (first % 4) + first / 4)) else s1

/-! ### The power governor (R175 to R178) -/

/-- A number limited to a range. -/
def clampN (lo hi v : Nat) : Nat := max lo (min hi v)

/-- V_WAKE of a colour, mV (ANODE_VWAKE). -/
def State.vWake (s : State) (c : Nat) : Nat := 20 * clampN 100 250 (getBits (s.reg ANODE_VWAKE_OFF) (8 * c) 8)

/-- I1_c in amperes of the frame coded (R174). -/
def State.i1 (s : State) (c : Nat) : Rat :=
  (160 * s.get (TONE_GOV_GNOM_G_NOM c) * s.tone.sums.getD c 0 : Nat)
    / ((4095 * 4092 * 4096 * 8388608 * 1000000 : Nat) : Rat)

/-- What R175 computes of a frame: P1 in W, s_target, and the limit that binds (0 none, 1 power, 2 rail current). -/
structure Governed where
  p1     : Rat
  pv     : Rat
  target : Rat
  limit  : Nat
  deriving DecidableEq, Repr

/-- The unlimited prediction and the target of R175. -/
def State.govern (s : State) : Governed :=
  let i1 := (List.range 4).map s.i1
  let volt := fun c => ((max (s.get (ANODE_RAIL_V_VSET c)) (s.vWake c) : Nat) : Rat) / 1000 + 1 / 2
  let eff := s.effUsed
  let budget := ((clampN 500 4500 (s.toneField TONE_GOV_BUDGET_BUDGET) : Nat) : Rat) / 10
  let knee := ((clampN 128 256 (s.toneField TONE_GOV_SHAPE_KNEE) : Nat) : Rat) / 256
  let pfix := ((s.toneField TONE_GOV_MODEL_PFIX : Nat) : Rat) / 10
  let imax := ((min 4000 (s.toneField TONE_GOV_IMAX_IMAX) : Nat) : Rat) / 100
  let pv := ((List.range 4).map (fun c => i1.getD c 0 * volt c)).sum / eff
  let p1 := pfix + pv
  let kb := knee * budget
  let power : Rat := if p1 ≤ kb ∨ pv = 0 then 1
    else max 0 ((kb + (p1 - kb) * (budget - kb) / ((p1 - kb) + (budget - kb)) - pfix) / pv)
  let rail : Rat := i1.foldl (fun m i => if 0 < i then min m (imax / i) else m) 1
  ⟨p1, pv, min power rail, if 1 ≤ min power rail then 0 else if power ≤ rail then 1 else 2⟩

/-- S of a frame, and whether RISE bound it (R175). -/
def State.govS (s : State) (g : Governed) : Rat × Bool :=
  let rise := ((max 1 (s.toneField TONE_GOV_SHAPE_RISE) : Nat) : Rat) / 4096
  match s.tone.sPrev with
  | none => (g.target, false)
  | some p => if p + rise < g.target then (p + rise, true) else (g.target, false)

/-- d_factor moves by its two inputs once per frame (R177). -/
def State.moveDerate (s : State) : State :=
  let d := s.get TONE_GOV_DERATE_D
  let lo := 4 * max 64 (s.toneField TONE_GOV_SHAPE_DERATE_MIN)
  let low := s.flag TONE_GOV_STATUS_THERMAL || s.get TONE_GOV_STATUS_RAIL_LIM != 0
  s.set TONE_GOV_DERATE_D (if low then max lo (d - 4) else max lo (min 1024 (d + 1)))

/-- FULL_CODE of each colour at a factor of 1/65,536 (R175). -/
def State.fullCodes (s : State) (sApp : Nat) : List Nat :=
  (List.range 4).map (fun c => s.get (TONE_GOV_GNOM_G_NOM c) * sApp / 65536)

/-- A number of W in 100 mW units, saturating at 16 bits. -/
def deciWatts (p : Rat) : Nat := min (Rat.floor (p * 10)).toNat 0xFFFF

/-- The governor at the end of the scan (R175): S, its own s_app and FULL_CODE, and p_new (R184), before the partner's value.
S becomes s_prev whether or not the frame is then struck, and P_APPLIED takes the module's own s_app before FULL_CODE is
rounded down and before the partner's value (R99, R175; notes/assumptions/15.md). -/
def State.governOwn (s : State) : State :=
  let g := s.govern
  let (sv, rise) := s.govS g
  let own := (Rat.floor (sv * ((s.get TONE_GOV_DERATE_D : Nat) : Rat) * 64)).toNat
  let codes := s.fullCodes own
  let pNew := (List.range 4).map (fun c =>
    ((160 * codes.getD c 0 * s.tone.peaks.getD c 0 : Nat) : Rat) / ((4095 * 4092 * 8388608 : Nat) : Rat))
  let s := { s with tone := { s.tone with sPrev := some sv, sOwn := own, nextFull := codes, pNew := pNew } }
  let s := s.set TONE_GOV_STATUS_LIMIT (if rise then 3 else g.limit)
  let s := (s.set TONE_GOV_STATUS_S own).set TONE_GOV_POWER_P1 (deciWatts g.p1)
  let s := s.set TONE_GOV_POWER_P_APPLIED (deciWatts (g.p1 - g.pv + g.pv * own / 65536))
  (List.range 4).foldl (fun s c => s.set (TONE_GOV_I_I1 c) (min (Rat.floor (s.i1 c * 100)).toNat 0xFFFF)) s

/-- The governor of a frame that draws nothing (R175, R178): S is 1.0, so that s_app is d_factor, and FULL_CODE is 0. -/
def State.governDark (s : State) : State :=
  let s := ({ s with tone := { s.tone with sPrev := none } }).governOwn
  { s with tone := { s.tone with sPrev := none, nextFull := [0, 0, 0, 0], pNew := [0, 0, 0, 0] } }

/-- The partner's s_app at the start of the quiet interval (R178). -/
def State.governPartner (s : State) : State :=
  if !(s.twinEn && s.role != 0 && s.spliceUp && s.house.mode.emitting) then s
  else match s.tone.partnerS with
    | some (p, f) =>
      if f == s.frameNo then
        let app := min s.tone.sOwn p
        let s := { s with tone := { s.tone with nextFull := s.fullCodes app } }
        s.set TONE_GOV_STATUS_S app
      else (s.latch TONE_GOV_STATUS_UNPAIRED).fault 0x0403 4 0
    | none => (s.latch TONE_GOV_STATUS_UNPAIRED).fault 0x0403 4 0

end Sys2Proof.Machine
end

