-- ==== Sys2Proof/Machine/Timer.lean ====
section
/-! DEFINITION. The frame timer: references, lock states, phase, module time, timing commits, FRAME_NO and the boundary
(chapter 2). -/

namespace Sys2Proof.Machine

open Reg

/-! ### References and lock states (R63 to R68) -/

/-- The active source: 0 FREE, 1 SYNC_IN, 2 PTP, 3 PARTNER for a follower while SPLICE is up (R65). -/
def State.activeSource (s : State) : Nat := if s.role == 2 && s.spliceUp then 3 else s.timer.timing.source

/-- The active source has a valid reference. -/
def State.refValid (s : State) : Bool :=
  match s.activeSource with
  | 1 => s.timer.syncValid
  | 2 => s.timer.ptpValid
  | 3 => s.timer.peerValid
  | _ => false

/-- STATE of R68: 0 STOPPED, 1 FREE, 2 ACQUIRE, 3 LOCKED, 4 HOLDOVER. -/
def State.lockState (s : State) : Nat := s.get STRIKE_SYNC_STATUS_STATE

/-- The frame timer takes a lock state; a change of it raises vector 69 (R337). -/
def State.setLock (s : State) (n : Nat) : State :=
  let s := if s.lockState == n then s else s.raise 5
  ({ s with timer := { s.timer with goodRun := 0 } }).set STRIKE_SYNC_STATUS_STATE n

/-- The nominal frame period, 1/16 ns (R55). -/
def State.nominal16 (s : State) : Nat := 16 * 1001000000000 / rateMilli s.timer.timing.rate s.timer.timing.pulldown

/-- What is known of a source's phase and period no longer counts. -/
def State.forgetPhase (s : State) : State :=
  { s with timer := { s.timer with phaseErr := 0, phaseNew := false, base := 0 } }

/-- The lock state follows the active source and its validity (R65, R68). A timer whose source has become FREE runs free; one
that loses its reference in LOCKED holds the period averaged over the last 16 reference events. -/
def State.relock (s : State) : State :=
  let valid := s.refValid
  let s := (s.set STRIKE_SYNC_STATUS_ACTIVE_SOURCE s.activeSource).setFlag STRIKE_SYNC_STATUS_REF_VALID valid
  let free := s.activeSource == 0
  match s.lockState, valid with
  | 1, true => ({ s.forgetPhase with timer := { s.forgetPhase.timer with jumpNext := s.timer.timing.jump } }).setLock 2
  | 2, false => s.forgetPhase.setLock 1
  | 3, false =>
    if free then s.forgetPhase.setLock 1
    else
      let p := s.timer.periods
      ({ s with timer := { s.timer with
        holdSince := s.now, phaseErr := 0, phaseNew := false, base := if p == [] then 0 else p.sum / p.length } }).setLock 4
        |>.fault 0x050A 5 0
  | 4, true => ({ s with timer := { s.timer with jumpNext := false } }).setLock 2
  | 4, false => if free then s.forgetPhase.setLock 1 else s
  | _, _ => s

/-- A phase measurement at a reference event, positive when the boundary is late, with the period of the source where it is
known (R66, R68). -/
def State.phaseEvent (s : State) (err : Int) (base : Nat) : State :=
  let s := s.setReg STRIKE_PHASE_ERR_OFF (twos 32 err)
  let s := { s with timer := { s.timer with
    phaseErr := err, phaseNew := true, base := if base == 0 then s.timer.base else base
    periods := (s.get STRIKE_PERIOD_PERIOD :: s.timer.periods).take 16 } }
  match s.lockState with
  | 2 =>
    if err.natAbs < 1000 then
      if s.timer.goodRun + 1 == 16 then s.setLock 3
      else { s with timer := { s.timer with goodRun := s.timer.goodRun + 1 } }
    else { s with timer := { s.timer with goodRun := 0 } }
  | 3 =>
    if 5000 < err.natAbs then
      (({ s with timer := { s.timer with jumpNext := false } }).setLock 2).fault 0x0509 5 0
    else s
  | _ => s

/-- A phase difference taken to the nearest boundary of a grid of period `t` ns: from −t/2 up. -/
def centred (d : Int) (t : Nat) : Int :=
  let m := d % (t : Int)
  if (t : Int) ≤ 2 * m then m - t else m

/-- The frequency of the last 16 edges, times MULT, lies within ±0.2 % of the nominal output rate (R63). -/
def State.edgesInRange (s : State) : Bool :=
  match s.timer.edges.head?, s.timer.edges.getLast? with
  | some a, some b =>
    let v := 15 * 1000000000 * 1001 * 1000 * s.timer.timing.mult
    let n := (a - b) * rateMilli s.timer.timing.rate s.timer.timing.pulldown
    decide (998 * n ≤ v) && decide (v ≤ 1002 * n)
  | _, _ => false

/-- The SYNC_IN reference is lost (R63). -/
def State.syncLost (s : State) : State :=
  ({ s with timer := { s.timer with syncValid := false, edges := [] } }).relock

/-- A phase difference of `d` ns taken to the nearest boundary of a grid of period `num`/`den` ns. -/
def gridErr (d : Int) (num den : Nat) : Int := centred (d * den) num / (den : Int)

/-- The phase error of the last boundary against an edge (R66, R68): the grid starts PHASE_NS, taken modulo MULT nominal
periods, after the edge, and has the period measured over the last 16 edges. -/
def State.syncPhase (s : State) (edge : Nat) : Int :=
  let m := s.timer.timing.mult
  let span := edge - s.timer.edges.getLast?.getD edge
  let rate := rateMilli s.timer.timing.rate s.timer.timing.pulldown
  let phase := s.timer.timing.phaseNs * rate % (1001000000000 * m) / rate
  gridErr ((s.timer.boundaryAt : Int) - edge - phase) span (15 * m)

/-- SYNC_IN_EDGE (R63, R66, R68): a selected edge is captured, to 10 ns. An edge more than one and a half expected
intervals after the last one tells of a missing edge, and the count of 16 starts again with it. While the reference is
invalid the last 16 edges count, whichever they are. -/
def State.syncEdge (s : State) : State :=
  if s.timer.timing.source != 1 || !s.timerRuns then s
  else
    let edge := s.now / 10 * 10
    let gap := match s.timer.edges.head? with
      | some e => decide (3 * s.timer.timing.mult * s.periodNs < 2 * (edge - e))
      | none => false
    let s : State := { s with timer := { s.timer with edges := if gap then [edge] else (edge :: s.timer.edges).take 16 } }
    let s : State := if s.timer.edges.length < 16 then s
      else if s.edgesInRange then
        let s := s.set STRIKE_SYNC_STATUS_REF_RANGE 0
        ({ s with timer := { s.timer with syncValid := true } }).relock
      else
        let s := s.set STRIKE_SYNC_STATUS_REF_RANGE 1
        if s.timer.syncValid then s.syncLost else s
    if s.activeSource == 1 && s.timer.syncValid && s.timer.edges.length == 16 then
      let span := edge - s.timer.edges.getLast?.getD edge
      s.phaseEvent (s.syncPhase edge) (16 * span / (15 * s.timer.timing.mult))
    else s

/-- SYNC_EDGE_MISSING (R63): the third consecutive expected edge does not arrive. -/
def State.syncMissing (s : State) : State :=
  if s.timer.timing.source != 1 || !s.timerRuns then s else s.syncLost

/-- HOLD_LIMIT in seconds (STRIKE_SYNC_CTRL). -/
def State.holdLimit (s : State) : Nat := clampN 1 3600 s.timer.timing.holdLimit

/-- HOLD_LIMIT_EXPIRY (R68): HOLDOVER has lasted HOLD_LIMIT seconds. -/
def State.holdExpires (s : State) : State :=
  if s.lockState == 4 && decide (1000000000 * s.holdLimit + s.timer.holdSince ≤ s.now) then s.setLock 1 else s

/-! ### Module time (R64) -/

/-- TRIM_PPB as it acts: limited to ±200,000. -/
def State.trim (s : State) : Int := clampI (-200000) 200000 (signedBits 32 (s.reg STRIKE_TIME_TRIM_OFF))

/-- Module time, ns: it counts from the start of the frame timer (STRIKE_TIME). -/
def State.moduleTime (s : State) : Int :=
  if s.timer.clock then s.timer.timeVal + ((s.now - s.timer.timeAt : Nat) : Int) * (1000000000 + s.trim) / 1000000000
  else s.timer.timeVal

/-- Module time is brought up to now and stepped. -/
def State.stepTime (s : State) (by_ : Int) : State :=
  { s with timer := { s.timer with timeVal := s.moduleTime + by_, timeAt := s.now } }

/-- The PTP reference is steered: it is valid for the next 4 s (R64). -/
def State.ptpSteered (s : State) : State :=
  ({ s with timer := { s.timer with ptpAt := some s.now, ptpValid := true } }).relock

/-- The phase error of a boundary at this moment on the PTP grid t = k·T + PHASE_NS (R64). -/
def State.ptpPhase (s : State) : Int :=
  gridErr (s.moduleTime - s.timer.timing.phaseNs) 1001000000000 (rateMilli s.timer.timing.rate s.timer.timing.pulldown)

/-- The period of the PTP grid in the timer's own time, 1/16 ns: T at the rate of module time. -/
def State.ptpPeriod (s : State) : Nat := s.nominal16 * 1000000000 / (1000000000 + s.trim).toNat

/-- STRIKE_TIME_OFFSET (R64): module time steps at once; the next boundary shows the step as a phase error (R66). -/
def State.timeOffset (s : State) (v : Nat) : State := (s.stepTime (signedBits 32 (v % 2 ^ 32))).ptpSteered

/-- STRIKE_TIME_TRIM (R64): the rate of module time. -/
def State.timeTrim (s : State) (v : Nat) : State :=
  let s := s.stepTime 0
  (s.setReg STRIKE_TIME_TRIM_OFF (twos 32 (clampI (-200000) 200000 (signedBits 32 (v % 2 ^ 32))))).ptpSteered

/-- PTP_REFERENCE_TIMEOUT (R64): no write for 4 s. -/
def State.ptpTimeout (s : State) : State :=
  match s.timer.ptpAt with
  | none => s
  | some t => if 4000000000 + t ≤ s.now then ({ s with timer := { s.timer with ptpValid := false } }).relock else s

/-- FRAME_NO on the PTP grid (R70): t / T at this moment, rounded down. DESIGN CHOICE (notes/assumptions/13.md): the spec
does not say how t / T is rounded where the boundary falls just before its grid point; the model takes the floor of the
measured module time, so that a boundary 1 ns early has the number before. -/
def State.ptpFrame (s : State) : Nat :=
  ((s.moduleTime * (rateMilli s.timer.timing.rate s.timer.timing.pulldown : Nat)) / 1001000000000 % (2 ^ 32 : Nat)).toNat

/-! ### Timing commits and FRAME_NO loads (R74 to R77) -/

/-- The staged timing values. -/
def State.stagedTiming (s : State) : Timing :=
  ⟨s.get STRIKE_RATE_RATE, s.flag STRIKE_RATE_PULLDOWN, s.get STRIKE_SYNC_CTRL_SOURCE, s.flag STRIKE_SYNC_CTRL_EDGE,
   s.flag STRIKE_SYNC_CTRL_ACQUIRE, s.get STRIKE_SYNC_CTRL_MULT, s.get STRIKE_SYNC_CTRL_HOLD_LIMIT,
   s.get STRIKE_SYNC_PHASE_PHASE_NS⟩

/-- The first two grounds of R75 on a setting. -/
def timingBad (source mult : Nat) : Bool := source == 3 || (source == 1 && (mult == 0 || decide (20 < mult)))

/-- A timing commit is rejected (R75). -/
def State.timingRejected (s : State) : Bool :=
  timingBad (s.get STRIKE_SYNC_CTRL_SOURCE) (s.get STRIKE_SYNC_CTRL_MULT) || s.follows
    || s.flag STRIKE_SYNC_STATUS_COMMIT_PENDING

/-- A timing commit is accepted, for the boundary of a frame in a twin set (R74, R75). -/
def State.timingAccept (s : State) (v : Timing) (frame : Option Nat) : State :=
  ({ s with timer := { s.timer with pending := some (v, s.now, frame) } }).set STRIKE_SYNC_STATUS_COMMIT_PENDING 1

/-- STRIKE_FRAME_LOAD (R77). DESIGN CHOICE (notes/assumptions/13.md): the spec does not say when the active source is judged;
the model judges it at the write, so that a load still pending when the source has become PTP or PARTNER is applied. -/
def State.frameLoad (s : State) (v : Nat) : State :=
  if s.activeSource == 2 || s.activeSource == 3 then s.latch STRIKE_SYNC_STATUS_LOAD_REJ
  else { s with timer := { s.timer with load := some (v % 2 ^ 32, s.now) } }

/-- FRAME_NO is set, with FRAME_NO_LOAD where it does not go on by 1 (R71). -/
def State.numberFrame (s : State) (old new : Nat) (load : Bool) : State :=
  let s := s.setReg STRIKE_FRAME_NO_OFF (new % 2 ^ 32)
  if load then s.faultVal 0x050B 5 0 old (new % 2 ^ 32) else s

/-- A timing commit applies at the boundary of frame `n` (R68, R74, R76). -/
def State.timingBoundary (s : State) (n : Nat) : State :=
  match s.timer.pending with
  | none => s
  | some (v, goAt, frame) =>
    let due := match frame with
      | some f => decide (0 ≤ frameDiff n f)
      | none => decide (50000 + goAt ≤ s.now)
    if !due then s
    else
      let moved := v.source != s.timer.timing.source || v.edge != s.timer.timing.edge
      let was := s.admitted
      let rate := v.rate != s.timer.timing.rate || v.pulldown != s.timer.timing.pulldown
      let s := { s with timer := { s.timer with
        timing := v, pending := none
        syncValid := s.timer.syncValid && !moved, edges := if moved then [] else s.timer.edges } }
      let s := (s.forgetPhase.set STRIKE_SYNC_STATUS_COMMIT_PENDING 0).setLock 1
      let s := if rate then s.rateTraffic was else s
      s.relock

/-- A STRIKE_FRAME_LOAD or a reload applies at a boundary; otherwise FRAME_NO goes on by 1 (R70, R77). -/
def State.advanceFrame (s : State) : State :=
  let old := s.frameNo
  match s.timer.reload with
  | some f => ({ s with timer := { s.timer with reload := none } }).numberFrame old f (f != frameAdd old 1)
  | none => match s.timer.load with
    | some (v, at_) =>
      if 50000 + at_ ≤ s.now then ({ s with timer := { s.timer with load := none } }).numberFrame old v true
      else s.numberFrame old (old + 1) false
    | none => s.numberFrame old (old + 1) false

/-- The period planned for the frame that starts, 1/16 ns (R66, R68): that of the source followed or held, else the nominal
one, corrected by at most 0.1 % of the nominal period for the phase last measured, and changed by at most as much from
frame to frame (notes/assumptions/12.md); or lengthened once by the whole phase error where a jump is allowed and a phase
has been measured. A change of rate and the frame after a jump take the new period at once. -/
def State.planPeriod (s : State) : State :=
  let nom := s.nominal16
  let follows := s.lockState == 2 || s.lockState == 3
  let target := if (follows || s.lockState == 4) && s.timer.base != 0 then s.timer.base else nom
  let err := s.timer.phaseErr * 16
  if follows && s.timer.jumpNext && s.timer.phaseNew then
    { s with timer := { s.timer with
      planned := target + ((-err) % (target : Int)).toNat, jumpNext := false, phaseErr := 0, phaseNew := false } }
  else
    let lim : Int := nom / 1000
    let near := decide (((s.timer.planned : Int) - target).natAbs ≤ nom / 200)
    let last : Int := if near then s.timer.planned else target
    let want : Int := target + (if follows then clampI (-lim) lim (-err) else 0)
    let next := clampI (last - lim) (last + lim) want
    { s with timer := { s.timer with
      planned := next.toNat
      phaseErr := if follows then s.timer.phaseErr + (next - target) / 16 else s.timer.phaseErr } }

/-- The timer's part of a boundary (R64, R68, R70, R74, R77): commits and loads apply, FRAME_NO advances, PERIOD reports
the frame that ended, and the PTP reference event is taken. -/
def State.timerBoundary (s : State) : State :=
  let period := (s.now - s.timer.boundaryAt) * 16
  let s := s.setReg STRIKE_PERIOD_OFF (min period 0xFFFFFFFF)
  let s := s.timingBoundary (frameAdd s.frameNo 1)
  let s := s.advanceFrame
  let s := (s.set STRIKE_BEAT_BEAT 0).set STRIKE_BEAT_IN_STRIKE 0
  let s := { s with timer := { s.timer with
    boundaryAt := s.now, rowsRun := 0, rowsOk := true, phase := 0, stagger := s.flag STRIKE_BEAT_CTRL_STAGGER } }
  let s := if s.activeSource == 2 && s.timer.ptpValid then
      let was := s.lockState
      let s := s.phaseEvent s.ptpPhase s.ptpPeriod
      if was == 2 && s.lockState == 3 then s.numberFrame s.frameNo s.ptpFrame true else s
    else s
  s.planPeriod

/-- The frame timer starts (R68, R70): FREE at the nominal period, FRAME_NO set, module time from 0, the quadrant links
trained (R96). -/
def State.timerStart (s : State) : State :=
  let old := s.frameNo
  let peer := s.timer.reload
  let s := { s with timer := { s.timer with
    boundaryAt := s.now, captureAt := 0, rowsRun := 0, rowsOk := true, phase := 0, clock := true, timeVal := 0, timeAt := s.now,
    edges := [], syncValid := false, peerValid := false, goodRun := 0, periods := [], phaseErr := 0,
    jumpNext := false, phaseNew := false, base := 0, refAt := none, pixelPath := false, struckPath := false, stagger := s.flag STRIKE_BEAT_CTRL_STAGGER
    reload := none } }
  let s := { s with array := { s.array with surveyed := 0, frames := 0 } }
  let s := ((s.set STRIKE_STATUS_TIMER_RUN 1).setLock 1).set STRIKE_QLINK_STATUS_LINK_UP 15
  let s := (s.set STRIKE_BEAT_BEAT 0).set STRIKE_BEAT_IN_STRIKE 0
  let s := match peer, s.activeSource, s.timer.load with
    | some f, 3, _ => s.numberFrame old f false
    | _, 2, _ => s.numberFrame old s.ptpFrame false
    | _, _, some (v, _) => ({ s with timer := { s.timer with load := none } }).numberFrame old v true
    | _, _, none => s.numberFrame old 0 false
  s.planPeriod.relock.chooseSample

/-- The frame timer stops (R68): FRAME_NO is frozen. -/
def State.timerStop (s : State) : State :=
  ((s.set STRIKE_STATUS_TIMER_RUN 0).setLock 0).set STRIKE_SYNC_STATUS_REF_VALID 0

/-- STRIKE_LATE_CLEAR. -/
def State.lateClear (s : State) (v : Nat) : State := if v % 2 == 1 then s.set STRIKE_STATUS_LATE_COUNT 0 else s

end Sys2Proof.Machine
end

