-- ==== Sys2Proof/Machine/Array.lean ====
section
/-! DEFINITION. The emission array: quadrant links, kill latches, fuse-out, the survey, drift records, the defect map and
the peek capture (chapters 3 and 4). -/

namespace Sys2Proof.Machine

open Reg

/-! ### Quadrant links (R96) -/

/-- A quadrant link loses training: LINK_ERR is set, LINK_UP falls. -/
def State.qlinkLoss (s : State) (q : Nat) : State :=
  if 4 ≤ q then s
  else
    let s := (s.latch ⟨STRIKE_QLINK_STATUS_OFF, 16 + q, 1⟩).set ⟨STRIKE_QLINK_STATUS_OFF, q, 1⟩ 0
    let s := { s with array := { s.array with retrain := if s.array.retrain.contains q then s.array.retrain else q :: s.array.retrain } }
    s.fault 0x0508 5 (subj 16 q)

/-- The survey slot begins to retrain the links that are down. -/
def State.retrainLinks (s : State) : State := { s with array := { s.array with retrain := [] } }

/-- Retraining of a quadrant link, which a survey slot has begun, completes: LINK_UP reads 1. -/
def State.qlinkTrained (s : State) (q : Nat) : State :=
  if 4 ≤ q || s.array.retrain.contains q then s else s.set ⟨STRIKE_QLINK_STATUS_OFF, q, 1⟩ 1

/-- A quadrant link is up. -/
def State.qlinkUp (s : State) (q : Nat) : Bool := s.flag ⟨STRIKE_QLINK_STATUS_OFF, q, 1⟩

/-! ### Emitters and segments -/

/-- SUBJECT of an emitter (R475): as defect map word 0. -/
def subjPixel (x y c : Nat) : Nat := subj 1 (2 ^ 20 * c + y * 2 ^ 10 + x)

/-- A segment's number: 8·pixel + 2·channel + half. -/
def segNo (x y c half : Nat) : Nat := 8 * (1024 * y + x) + 2 * c + half

/-- A kill latch is set or cleared. -/
def State.setKill (s : State) (e : Nat) (on : Bool) : State :=
  let k := s.array.kill.filter (· != e)
  { s with array := { s.array with kill := if on then e :: k else k } }

/-- A segment counts as open. -/
def State.openSeg (s : State) (n : Nat) : State :=
  { s with array := { s.array with segOpen := if s.array.segOpen.contains n then s.array.segOpen else n :: s.array.segOpen } }

/-- TONE's STATE of an emitter (R164). -/
def State.toneState (s : State) (e st : Nat) : State := s.setCal e (s.calWord e / 4 * 4 + st)

/-! ### The defect map (R141 to R145) -/

/-- Conditions of R142. -/
def condOneSeg : Nat := 1
def condFused : Nat := 2
def condDead : Nat := 3
def condShort : Nat := 4

/-- STATE of TONE that follows a condition (R164): 1 for ONE_SEGMENT and FUSED, 2 for DEAD and SHORT_PENDING. -/
def stateOf (cond : Nat) : Nat := if cond = 1 ∨ cond = 2 then 1 else if cond = 3 ∨ cond = 4 then 2 else 0

/-- The order of the map: (Y, X, CHANNEL). -/
def Defect.key (d : Defect) : Nat := (d.y * 1024 + d.x) * 4 + d.ch

/-- The entry of an emitter. -/
def State.defect (s : State) (x y c : Nat) : Option Defect :=
  s.array.defects.find? (fun d => d.x == x && d.y == y && d.ch == c)

/-- An entry put in its place in the order. -/
def insertDefect (d : Defect) : List Defect → List Defect
  | [] => [d]
  | e :: r => if d.key < e.key then d :: e :: r else e :: insertDefect d r

/-- STRIKE_DEFECT_COUNT follows the map. -/
def State.showDefects (s : State) : State :=
  let n := s.array.defects.length
  (s.set STRIKE_DEFECT_COUNT_ENTRIES n).setFlag STRIKE_DEFECT_COUNT_FULL (n == 16384)

/-- The four words of an entry (R142). -/
def Defect.words (d : Defect) : List Nat :=
  [2 ^ 30 * d.tries + 2 ^ 28 * d.cause + 2 ^ 24 * d.cond + 2 ^ 20 * d.ch + d.y * 2 ^ 10 + d.x, d.first, d.last, d.hours]

/-- The map has changed in one entry, and holds `l` (R145): ENTRIES, FULL and GEN follow, and a DEFECT event carries the
entry after the change (R334). -/
def State.setDefects (s : State) (l : List Defect) (d : Defect) : State :=
  let s := ({ s with array := { s.array with defects := l } }).showDefects.count STRIKE_DEFECT_COUNT_GEN
  s.event ⟨2, d.cond, 5, false, false, false, 0, d.words⟩

/-- An emitter takes a condition (R105, R107, R109, R141, R142, R144): an entry is created or updated in place, and TONE's
STATE follows. With the map full a new entry is not stored. -/
def State.putDefect (s : State) (x y c cond cause tries : Nat) : State :=
  let e := emitter x y c
  match s.defect x y c with
  | some d =>
    let new : Defect := { d with cond := cond, cause := cause, tries := min tries 3, last := s.frameNo }
    (s.setDefects (s.array.defects.map (fun o => if o == d then new else o)) new).toneState e (stateOf cond)
  | none =>
    if 16384 ≤ s.array.defects.length then s.fault 0x0504 5 (subjPixel x y c)
    else
      let d : Defect := ⟨x, y, c, cond, cause, min tries 3, s.frameNo, s.frameNo, s.hours⟩
      (s.setDefects (insertDefect d s.array.defects) d).toneState e (stateOf cond)

/-- The entry at an index, four zero words at or above ENTRIES (R145). -/
def State.defectWords (s : State) (i : Nat) : List Nat :=
  match s.array.defects[i]? with
  | some d => d.words
  | none => [0, 0, 0, 0]

/-- DEFECT_INDEX_WRITE (R145): the entry appears in the data registers and READY is set within 2.0 µs, which the model
lets pass at once. -/
def State.defectIndex (s : State) (v : Nat) : State :=
  let i := v % 2 ^ 14
  let s := (s.set STRIKE_DEFECT_INDEX_INDEX i).set STRIKE_DEFECT_INDEX_READY 1
  ((s.defectWords i).zipIdx).foldl (fun s p => s.setReg (STRIKE_DEFECT_DATA_OFF p.2) p.1) s

/-- DEFECT_JOURNAL_WRITE (R143): both slots' journals take the map. -/
def State.defectJournal (s : State) : State := { s with array := { s.array with journal := s.array.defects } }

/-! ### Fuse-out (R106 to R111) -/

/-- A quadrant's fuse queue, with those that wait for room behind its 64 entries. -/
def State.fuseQueue (s : State) (q : Nat) : List FuseJob := sget (fun _ => []) s.array.fuse q

/-- A fuse queue changes, and STRIKE_FUSE_QUEUE with it. -/
def State.setFuse (s : State) (q : Nat) (l : List FuseJob) : State :=
  let s := { s with array := { s.array with fuse := sput (fun _ => []) s.array.fuse q l } }
  s.set ⟨STRIKE_FUSE_QUEUE_OFF, 8 * q, 8⟩ (min l.length 64)

/-- A fuse-out of an emitter. -/
def FuseJob.of (j : FuseJob) (x y c : Nat) : Bool := j.x == x && j.y == y && j.ch == c

/-- A segment of an emitter is queued for fuse-out. -/
def State.queued (s : State) (x y c : Nat) : Bool := (s.fuseQueue (quadOf x y)).any (fun j => j.of x y c)

/-- One segment is queued for fuse-out. -/
def State.queuedSeg (s : State) (x y c half : Nat) : Bool :=
  (s.fuseQueue (quadOf x y)).any (fun j => j.of x y c && j.half == half)

/-- An emitter's entry is SHORT_PENDING from the journal, and no fuse-out of it is queued since the start (R110, R143). -/
def State.shortLoaded (s : State) (x y c : Nat) : Bool :=
  !s.queued x y c && (match s.defect x y c with | some d => d.cond == condShort | none => false)

/-- An emitter is dead (R109), whether the map could store it or not (R144): its kill latch is set, and no fuse-out of it is
queued or to be queued again. -/
def State.isDead (s : State) (x y c : Nat) : Bool := s.killed x y c && !s.queued x y c && !s.shortLoaded x y c

/-- FUSE_TRIES of an emitter's entry. -/
def State.fuseTries (s : State) (x y c : Nat) : Nat :=
  match s.defect x y c with
  | some d => d.tries
  | none => 0

/-- An emitter dies (R109): its kill latch is set, and none of its segments stays queued (R111). -/
def State.emitterDies (s : State) (x y c cause tries : Nat) : State :=
  let q := quadOf x y
  let s := s.setFuse q ((s.fuseQueue q).filter (fun j => !j.of x y c))
  let s := s.setKill (emitter x y c) true
  (s.putDefect x y c condDead cause tries).fault 0x0503 5 (subjPixel x y c)

/-- A segment is confirmed open (R105, R109, R111). A queued segment keeps its fuse-out, and a dead emitter stays dead. Where
a start has loaded an entry, the first segment found open is the one that a ONE_SEGMENT or FUSED entry stands for, and a
SHORT_PENDING entry becomes ONE_SEGMENT (R143; notes/assumptions/14.md). -/
def State.confirmOpen (s : State) (x y c half : Nat) : State :=
  let n := segNo x y c half
  if s.array.segOpen.contains n || s.queuedSeg x y c half then s
  else if s.isDead x y c then s.openSeg n
  else if s.array.segOpen.contains (segNo x y c (1 - half)) || s.queuedSeg x y c (1 - half) then
    (s.openSeg n).emitterDies x y c 0 (s.fuseTries x y c)
  else match s.defect x y c with
    | some d =>
      if d.cond == condShort then
        ((((s.openSeg n).setKill (emitter x y c) false).putDefect x y c condOneSeg 0 d.tries)).fault 0x0501 5 (subjPixel x y c)
      else s.openSeg n
    | none => ((s.openSeg n).putDefect x y c condOneSeg 0 0).fault 0x0501 5 (subjPixel x y c)

/-- A segment is confirmed shorted (R106, R141). The table of R141 names no such event of an emitter that has an entry; here
it makes any entry but DEAD SHORT_PENDING, and a fuse-out that a start has interrupted goes on with the tries journalled
(notes/assumptions/14.md). -/
def State.confirmShort (s : State) (x y c half : Nat) : State :=
  let q := quadOf x y
  if s.queuedSeg x y c half || s.isDead x y c then s
  else
    let tries := s.fuseTries x y c
    let run := if s.shortLoaded x y c then tries else 0
    let s := s.setKill (emitter x y c) true
    if 3 ≤ run then (s.bump STRIKE_FUSE_STATUS_FUSE_FAIL).emitterDies x y c 1 tries
    else
      let s := s.putDefect x y c condShort 0 tries
      s.setFuse q (s.fuseQueue q ++ [⟨x, y, c, half, run, false⟩])

/-- A fuse-out can run: the colour's rail and the band's pass switch are live (R108). -/
def State.fuseLive (s : State) (j : FuseJob) : Bool :=
  s.house.mode.emitting && s.flag ⟨ANODE_RAIL_STATUS_OFF, j.ch, 1⟩ && s.flag (bandBit (bandOf j.y) j.ch)

/-- The fuse-out at the head of a quadrant's queue runs in this survey slot (R106). -/
def State.fuseHead (s : State) (q : Nat) : Option FuseJob :=
  match s.fuseQueue q with
  | j :: _ => if !j.verify && s.fuseLive j then some j else none
  | [] => none

/-- A fuse-out's steps 1 to 3: its try is counted, and the next slot verifies it. -/
def State.fuseBlow (s : State) (q : Nat) : State :=
  match s.fuseHead q, s.fuseQueue q with
  | some j, _ :: r =>
    let s := s.setFuse q ({ j with tries := j.tries + 1, verify := true } :: r)
    match s.defect j.x j.y j.ch with
    | some d =>
      let new : Defect := { d with tries := min (j.tries + 1) 3, last := s.frameNo }
      s.setDefects (s.array.defects.map (fun e => if e == d then new else e)) new
    | none => s
  | _, _ => s

/-- CLASS of a drift record, where a class is confirmed (R140). -/
def State.driftClass (s : State) (n cls : Nat) : State :=
  let r := (sget (fun _ => 0#16) s.array.drift n).toNat
  { s with array := { s.array with drift := sput (fun _ => 0#16) s.array.drift n (BitVec.ofNat 16 (setBits r 1 2 cls)) } }

/-- Step 5 of R106: the segment under verification reads open, or does not (R107). A success clears the kill latch and makes
the entry FUSED even where the emitter's other segment is queued as well (notes/assumptions/14.md). -/
def State.fuseVerify (s : State) (q : Nat) (isOpen : Bool) : State :=
  match s.fuseQueue q with
  | j :: r =>
    if isOpen then
      let n := segNo j.x j.y j.ch j.half
      let s := (((s.setFuse q r).openSeg n).driftClass n 2).bump STRIKE_FUSE_STATUS_FUSE_DONE
      if s.array.segOpen.contains (segNo j.x j.y j.ch (1 - j.half)) then
        (s.fault 0x0502 5 (subjPixel j.x j.y j.ch)).emitterDies j.x j.y j.ch 0 j.tries
      else
        let s := s.setKill (emitter j.x j.y j.ch) false
        (s.putDefect j.x j.y j.ch condFused 0 j.tries).fault 0x0502 5 (subjPixel j.x j.y j.ch)
    else if 3 ≤ j.tries then
      ((s.setFuse q r).bump STRIKE_FUSE_STATUS_FUSE_FAIL).emitterDies j.x j.y j.ch 1 j.tries
    else s.setFuse q ({ j with verify := false } :: r)
  | [] => s

/-! ### The survey (R104, R134 to R140) -/

/-- Bit reversal of 7 bits (R134). -/
def rev7 (n : Nat) : Nat := ((List.range 7).map (fun i => n / 2 ^ i % 2 * 2 ^ (6 - i))).sum

/-- The states in which the survey runs (R137). -/
def Mode.surveys : Mode → Bool
  | .dark | .service | .show | .solo | .calibrate => true
  | _ => false

/-- Class of a reading (R104): 0 normal, 1 leaky, 2 open, 3 shorted. A reading that meets the rows of open and leaky is
open, one that meets those of open and shorted by its leakage is shorted (notes/assumptions/14.md). -/
def SegClass (vf leak : Nat) (atCap : Bool) : Nat :=
  if leak = 7 ∨ (vf < 1000 ∧ atCap = false) then 3 else if atCap then 2 else if 3 ≤ leak then 1 else 0

/-- A segment's factory forward voltage, mV (R140). -/
def State.factoryVf (s : State) (n : Nat) : Nat := sget (fun _ => 2800) s.array.factoryVf n

/-- The reading of a segment in this slot: the one brought, or a normal one at its factory voltage. -/
def State.readSeg (s : State) (d : SurveyData) (x y c half : Nat) : SegRead :=
  match d.segs.find? (fun r => r.x == x && r.y == y && r.ch == c && r.half == half) with
  | some r => r
  | none => ⟨x, y, c, half, s.factoryVf (segNo x y c half), 0, false⟩

/-- A drift record's fields (R140). -/
def driftRec (dvf : Int) (leak cls : Nat) (stale : Bool) : BitVec 16 :=
  BitVec.ofNat 16 (twos 10 (clampI (-512) 511 dvf) * 64 + leak * 8 + cls * 2 + bit stale)

/-- A quotient rounded to the nearest whole number, halves away from zero (R140). -/
def rndAway (a : Int) (b : Nat) : Int := if 0 ≤ a then rndI a b else -(rndI (-a) b)

/-- A drift record takes a measurement: DVF moves one eighth of the way, LEAK is the last one (R140). The eighth itself is
rounded (notes/assumptions/14.md). -/
def State.drift (s : State) (n vf leak : Nat) (scheduled : Bool) : State :=
  let r := (sget (fun _ => 0#16) s.array.drift n)
  let old := driftDvf r
  let diff := (vf : Int) - s.factoryVf n
  let stale := !scheduled && r.toNat % 2 == 1
  let v := driftRec (old + rndAway (diff - old) 8) leak (r.toNat / 2 % 4) stale
  { s with array := { s.array with drift := sput (fun _ => 0#16) s.array.drift n v } }

/-- STALE of a drift record whose scheduled measurement was lost (R138). -/
def State.driftStale (s : State) (n : Nat) : State :=
  let r := (sget (fun _ => 0#16) s.array.drift n).toNat
  { s with array := { s.array with drift := sput (fun _ => 0#16) s.array.drift n (BitVec.ofNat 16 (setBits r 0 1 1)) } }

/-- A class that is not known yet needs a confirmation (R104). -/
def State.needsConfirm (s : State) (x y c half cls : Nat) : Bool :=
  if s.queuedSeg x y c half then false
  else if cls = 2 then !s.array.segOpen.contains (segNo x y c half)
  else if cls = 3 then !s.isDead x y c
  else false

/-- One measurement, scheduled or beside a request (R104, R135, R136, R140): the drift record follows; an open or shorted
class asks for its confirmation in the next frame; a normal or leaky class needs none. -/
def State.measureSeg (s : State) (scheduled : Bool) (r : SegRead) : State :=
  let n := segNo r.x r.y r.ch r.half
  let cls := SegClass r.vf r.leak r.atCap
  let s := s.drift n r.vf r.leak scheduled
  if s.needsConfirm r.x r.y r.ch r.half cls then
    { s with array := { s.array with confirm := s.array.confirm ++ [⟨r.x, r.y, r.ch, r.half, cls⟩] } }
  else if cls < 2 then s.driftClass n cls
  else s

/-- A re-measured segment (R104): confirmed with the same class, or discarded. -/
def State.remeasure (s : State) (c : Confirm) (r : SegRead) : State :=
  let n := segNo c.x c.y c.ch c.half
  let s := s.drift n r.vf r.leak false
  if SegClass r.vf r.leak r.atCap != c.cls then s.bump STRIKE_SURVEY_COUNTS_DISCARD
  else
    let s := (s.bump STRIKE_SURVEY_COUNTS_CONFIRM).driftClass n c.cls
    if c.cls = 2 then s.confirmOpen c.x c.y c.ch c.half else s.confirmShort c.x c.y c.ch c.half

/-- Requests of the re-measure group that fit: at most 32 pixels per sector, fuse-outs first, then by y, then x (R136).
Kept requests, and the sectors where some were discarded with how many. -/
def remeasureFit (verify : List (Nat × Nat)) (cs : List Confirm) : List Confirm × List Nat :=
  let sorted := cs.mergeSort (fun a b => decide (a.y * 1024 + a.x ≤ b.y * 1024 + b.x))
  let inSec := fun (sec : Nat) => verify.filter (fun p => sectorOf p.1 p.2 == sec)
  let kept := (List.range 64).flatMap (fun sec =>
    let mine := sorted.filter (fun c => sectorOf c.x c.y == sec)
    let allowed := ((inSec sec ++ mine.map (fun c => (c.x, c.y))).dedup).take 32
    mine.filter (fun c => allowed.contains (c.x, c.y)))
  (kept, (List.range 64).filter (fun sec =>
    let mine := sorted.filter (fun c => sectorOf c.x c.y == sec)
    decide (32 < ((inSec sec ++ mine.map (fun c => (c.x, c.y))).dedup).length)))

/-- A pixel of the re-measure group (R136): all eight of its segments are measured. `jobs` are the fuse-outs under
verification, each with its quadrant, `cs` the confirmations asked for; a segment that neither asks for is measured as any
other. -/
def State.remeasurePixel (s : State) (d : SurveyData) (jobs : List (Nat × FuseJob)) (cs : List Confirm) (p : Nat × Nat) :
    State :=
  (List.range 8).foldl (fun s i =>
    let c := i / 2
    let half := i % 2
    let r := s.readSeg d p.1 p.2 c half
    match jobs.find? (fun j => j.2.of p.1 p.2 c && j.2.half == half) with
    | some j => (s.drift (segNo p.1 p.2 c half) r.vf r.leak false).fuseVerify j.1 (SegClass r.vf r.leak r.atCap == 2)
    | none => match cs.find? (fun k => k.x == p.1 && k.y == p.2 && k.ch == c && k.half == half) with
      | some k => s.remeasure k r
      | none => s.measureSeg false r) s

/-- The re-measure group of a slot (R136): the pixels of fuse-out verifications, then those of confirmations; requests beyond
32 pixels of a sector are discarded, and so are those of a pixel under fuse-out (`under`, R138). -/
def State.remeasureGroup (s : State) (d : SurveyData) (under : List (Nat × Nat)) : State :=
  let jobs := (List.range 4).filterMap (fun q => match s.fuseQueue q with
    | j :: _ => if j.verify then some (q, j) else none
    | [] => none)
  let asked := s.array.confirm.length
  let cs := s.array.confirm.filter (fun c => !under.contains (c.x, c.y))
  let verify := jobs.map (fun p => (p.2.x, p.2.y))
  let fit := remeasureFit verify cs
  let s := { s with array := { s.array with confirm := [] } }
  let s := (verify ++ fit.1.map (fun c => (c.x, c.y))).dedup.foldl (fun s p => s.remeasurePixel d jobs fit.1 p) s
  let s := s.bumpBy STRIKE_SURVEY_COUNTS_DISCARD (asked - fit.1.length)
  fit.2.foldl (fun s sec => (s.latch STRIKE_SURVEY_STATUS_OVERFLOW).fault 0x0505 5 (subj 2 (0xF00 + sec))) s

/-- The scheduled groups of a surveyed frame (R134, R135, R138): local row k of every sector, without the pixels under
fuse-out. Segments that read normal at their factory voltage change nothing where their record is 0. -/
def State.scheduledGroups (s : State) (d : SurveyData) (k : Nat) (under : List (Nat × Nat)) : State :=
  let rows := (List.range 8).map (fun i => 128 * i + k)
  let lost := under.filter (fun p => rows.contains p.2)
  let known : List (Nat × Nat × Nat × Nat) := s.array.drift.filterMap (fun (e : Nat × BitVec 16) =>
    let x := e.1 / 8 % 1024
    let y := e.1 / 8192
    if rows.contains y then some (x, y, e.1 / 2 % 4, e.1 % 2) else none)
  let brought := d.segs.filterMap (fun r => if rows.contains r.y then some (r.x, r.y, r.ch, r.half) else none)
  let s := ((known ++ brought).dedup).foldl (fun s p =>
    if lost.contains (p.1, p.2.1) then s else s.measureSeg true (s.readSeg d p.1 p.2.1 p.2.2.1 p.2.2.2)) s
  lost.foldl (fun s p => (List.range 8).foldl (fun s i => s.driftStale (segNo p.1 p.2 (i / 2) (i % 2))) s) s

/-- The survey of a slot (R104 to R111, R134 to R140). -/
def State.survey (s : State) (d : SurveyData) : State :=
  let run := s.house.mode.surveys
  let s := s.setFlag STRIKE_SURVEY_STATUS_RUN run
  let due := s.house.mode == .calibrate || s.array.frames % 2 ^ s.get STRIKE_SURVEY_CTRL_DIV == 0
  let s := { s with array := { s.array with frames := s.array.frames + 1 } }
  if !run then
    let n := s.array.confirm.length
    ({ s with array := { s.array with confirm := [] } }).bumpBy STRIKE_SURVEY_COUNTS_DISCARD n
  else
    let heads := (List.range 4).filterMap (fun q => s.fuseHead q)
    let s := s.remeasureGroup d (heads.map (fun j => (j.x, j.y)))
    let s := (List.range 4).foldl (fun s q => if heads.any (fun j => quadOf j.x j.y == q) then s.fuseBlow q else s) s
    if !due then s
    else
      let k := rev7 (s.array.surveyed % 128)
      let s := s.scheduledGroups d k (heads.map (fun j => (j.x, j.y)))
      let s := { s with array := { s.array with surveyed := s.array.surveyed + 1 } }
      let s := s.set STRIKE_SURVEY_STATUS_ROW k
      if s.array.surveyed % 128 == 0 then s.count STRIKE_SURVEY_SWEEPS_SWEEPS else s

/-! ### Peek and pattern (R103, R113) -/

/-- PEEK_GO (R113): a write of STRIKE_PEEK_CTRL. Only a write of GO is discarded while BUSY is 1: one without GO changes X, Y
and BACK, which the pending capture reads in its survey slot (notes/assumptions/14.md). -/
def State.peekGo (s : State) (v : Nat) : State :=
  let busy := s.flag STRIKE_PEEK_STATUS_BUSY
  if getBits v 31 1 == 0 then s.setReg STRIKE_PEEK_CTRL_OFF (v &&& 0x43FF03FF)
  else if busy then s
  else
    let s := s.setReg STRIKE_PEEK_CTRL_OFF (v &&& 0x43FF03FF)
    let s := (s.set STRIKE_PEEK_STATUS_DONE 0).set STRIKE_PEEK_STATUS_BUSY 1
    { s with array := { s.array with peekWait := 1 } }

/-- The word of a pixel: front or back. -/
def State.arrayWord (s : State) (back : Bool) (pix : Nat) : Nat :=
  (sget (fun _ => 0#64) (if back then s.array.back else s.array.front) pix).toNat

/-- The capture of R113 in a survey slot. -/
def State.peekCapture (s : State) : State :=
  if !s.flag STRIKE_PEEK_STATUS_BUSY || s.array.peekWait != 0 then s
  else
    let x := s.get STRIKE_PEEK_CTRL_X
    let y := s.get STRIKE_PEEK_CTRL_Y
    let w := s.arrayWord (s.flag STRIKE_PEEK_CTRL_BACK) (1024 * y + x)
    let kill := ((List.range 4).map (fun c => bit (s.killed x y c) * 2 ^ c)).sum
    let s := (s.setReg STRIKE_PEEK_LO_OFF (w % 2 ^ 32)).setReg STRIKE_PEEK_HI_OFF (w / 2 ^ 32)
    let s := (s.setReg STRIKE_PEEK_FRAME_OFF s.frameNo).set STRIKE_PEEK_STATUS_KILL kill
    (s.set STRIKE_PEEK_STATUS_DONE 1).set STRIKE_PEEK_STATUS_BUSY 0

/-- The pattern's staged registers take effect at a capture point at least 50 µs after the last write (R103). -/
def State.capturePattern (s : State) : State :=
  if s.array.patternDirty && decide (50000 + s.array.patternAt ≤ s.now) then
    { s with array := { s.array with
      patternDirty := false
      pattern := ⟨s.flag STRIKE_PATTERN_CTRL_ENABLE, s.get STRIKE_PATTERN_ORIGIN_X0, s.get STRIKE_PATTERN_ORIGIN_Y0,
        s.get STRIKE_PATTERN_END_X1, s.get STRIKE_PATTERN_END_Y1,
        s.reg STRIKE_PATTERN_LO_OFF + 2 ^ 32 * s.reg STRIKE_PATTERN_HI_OFF⟩ } }
  else s

end Sys2Proof.Machine
end

