-- ==== Sys2Proof/Machine/Anode.lean ====
section
/-! DEFINITION. ANODE: the snapshot, headroom tracking, rail protection, temperatures, and the check of the governor's
model (chapter 4, R179). -/

namespace Sys2Proof.Machine

open Reg

/-- Bit c of RUN: a colour's buck runs. -/
def State.buckRuns (s : State) (c : Nat) : Bool := s.flag ⟨ANODE_RAIL_STATUS_OFF, c, 1⟩

/-- A buck stops by itself (R131, R132): its colour's light is gone until a later entry. -/
def State.buckStops (s : State) (c : Nat) : State :=
  let s := { s with anode := { s.anode with
    stopped := if s.anode.stopped.contains c then s.anode.stopped else c :: s.anode.stopped
    limiting := s.anode.limiting.filter (· != c) } }
  let s := (s.set ⟨ANODE_RAIL_STATUS_OFF, c, 1⟩ 0).set ⟨ANODE_RAIL_STATUS_OFF, 4 + c, 1⟩ 0
  (s.set (ANODE_RAIL_V_VSET c) 0).touch.showRailLim

/-- The bucks start on an entry into an emitting state (R123): each rail rises to its wake voltage. A buck stopped by a
fault that is still open stays off (R132). -/
def State.startBucks (s : State) : State :=
  let still := s.anode.stopped.filter (fun _ => (List.range 5).any (fun i => s.flag (openBit ([12, 13, 14, 15, 16].getD i 0))))
  let s := { s with anode := { s.anode with stopped := still, wakeDone := false, diffRun := [], lowRun := [] } }
  (List.range 4).foldl (fun s c =>
    if still.contains c then s
    else (s.set ⟨ANODE_RAIL_STATUS_OFF, c, 1⟩ 1).set (ANODE_RAIL_V_VSET c) (s.vWake c)) s.touch

/-! ### Rail protection (R131) -/

/-- RAIL_CURRENT_LIMIT: a running buck limits its current. -/
def State.railLimit (s : State) (c : Nat) : State :=
  if s.buckRuns c && !s.anode.limiting.contains c then { s with anode := { s.anode with limiting := c :: s.anode.limiting } }
  else s

/-- RAIL_OC_PERSIST: the condition has lasted 20 µs; `ma` is the rail current, mA. -/
def State.railOc (s : State) (c ma : Nat) : State :=
  if 4 ≤ c || !s.buckRuns c then s
  else (s.buckStops c).faultVal 0x0601 6 (subj 8 c) (ma / 10) 9000

/-- RAIL_VOLTAGE_FAULT: overvoltage or undervoltage, `mv` the rail voltage. -/
def State.railVolt (s : State) (c : Nat) (high : Bool) (mv : Nat) : State :=
  if 4 ≤ c || !s.buckRuns c then s
  else
    let set := s.get (ANODE_RAIL_V_VSET c)
    if high then (s.buckStops c).faultVal 0x0604 6 (subj 8 c) mv (min (set + 400) 5500)
    else (s.buckStops c).faultVal 0x0605 6 (subj 8 c) mv (set - 300)

/-- The sum of a colour's 64 sector currents (50 µA) differs from its rail current (10 mA) by more than 2 % of it and 0.20 A
(R131). -/
def railDiffers (secI iFrame : List Nat) (c : Nat) : Bool :=
  let sum := 5 * ((List.range 64).map (fun i => min (secI.getD (4 * i + c) 0) 0xFFFF)).sum
  let rail := 1000 * min (iFrame.getD c 0) 0xFFFF
  decide (rail / 50 + 20000 < sum - rail) || decide (rail / 50 + 20000 < rail - sum)

/-- The measurement window of a frame ends (R125, R131): each colour's run of windows with a mismatch goes on or ends. -/
def State.railWindow (s : State) (d : SurveyData) : State :=
  { s with anode := { s.anode with
    diffRun := (List.range 4).foldl (fun m c =>
      sput (fun _ => 0) m c (if railDiffers d.secI d.iFrame c then sget (fun _ => 0) s.anode.diffRun c + 1 else 0)) [] } }

/-- The averages of a colour's rail current over 1 s, 100 ms and 10 ms, in 10 mA units, are checked, and the mismatch of its
sectors (R131). -/
def State.railAverage1 (s : State) (c i1s i100 i10 : Nat) : State :=
  let s := s.set (ANODE_RAIL_I_I_100MS c) (min i100 0xFFFF)
  let wasHigh := s.anode.high.contains c
  let high := decide (4000 < i100)
  let others := s.anode.high.filter (· != c)
  let s := { s with anode := { s.anode with high := if high then c :: others else others } }
  let s := if high && !wasHigh then
      (s.latch ⟨ANODE_RAIL_STATUS_OFF, 8 + c, 1⟩).faultVal 0x0602 6 (subj 8 c) i100 4000 else s
  if !s.buckRuns c then s
  else if 6000 < i10 then (s.buckStops c).faultVal 0x0601 6 (subj 8 c) i10 6000
  else if 4200 < i1s then (s.buckStops c).faultVal 0x0603 6 (subj 8 c) i1s 4200
  else if 3 ≤ sget (fun _ => 0) s.anode.diffRun c then (s.buckStops c).fault 0x0606 6 (subj 8 c)
  else s

/-- RAIL_AVERAGE_CHECK for one colour. -/
def State.railAverage (s : State) (c i1s i100 i10 : Nat) : State :=
  if c < 4 then (s.railAverage1 c i1s i100 i10).showRailLim else s

/-! ### The snapshot and headroom (R125, R126, R130, R133) -/

/-- Some sink of a band and colour conducts (R30, R125). -/
def State.bandConducts (s : State) (band c : Nat) : Bool :=
  s.litPixels.any (fun p => bandOf (p.1 / 1024) == band && wordDuty p.2 c != 0 && s.carries p.1 c)

/-- The headroom window of a frame opens at its boundary (R125, R127): the bands and colours of which a sink conducts, and
whose pass switch `closed` names as fully closed until then; a switch that begins to close now is not. -/
def State.windowOpens (s : State) (closed : List Nat) : State :=
  { s with anode := { s.anode with window := closed.filter (fun i => s.bandConducts (i / 4) (i % 4)) } }

/-- The closed pass switches, by 4·band + colour. -/
def State.closedBands (s : State) : List Nat := (List.range 64).filter (fun i => s.flag (bandBit (i / 4) (i % 4)))

/-- What the survey slot measures, without the samples that R125 rules out. -/
def State.sampled (s : State) (d : SurveyData) : SurveyData :=
  { d with head := (List.range 64).map (fun i => if s.anode.window.contains i then d.head.getD i none else none) }

/-- Headroom of a band and colour in a survey's data, mV. -/
def SurveyHead (d : SurveyData) (band c : Nat) : Option Nat := d.head.getD (4 * band + c) none

/-- The snapshot of R133. While FREEZE is 1 the registers of the snapshot stay. -/
def State.snapshot (s : State) (d : SurveyData) : State :=
  let s := (List.range 4).foldl (fun s c => s.set (ANODE_RAIL_V_VMEAS c) (min (d.vMeas.getD c 0) 0xFFFF)) s
  let s := (s.set ANODE_IN_VI_VIN (min d.vin 0xFFFF)).set ANODE_IN_VI_IIN (min d.iin 0xFFFF)
  let s := (s.set ANODE_IN_P_PIN (min d.pin 0xFFFF)).set ANODE_IN_P_PIN_AVG (min d.pinAvg 0xFFFF)
  if s.flag ANODE_MEAS_CTRL_FREEZE then s
  else
    let s := (List.range 16).foldl (fun s b => (List.range 4).foldl (fun s c =>
      s.set ⟨ANODE_HEAD_OFF b, 8 * c, 8⟩ (match SurveyHead d b c with | some v => min (v / 5) 254 | none => 255)) s) s
    let s := (List.range 4).foldl (fun s c => s.set (ANODE_RAIL_I_I_FRAME c) (min (d.iFrame.getD c 0) 0xFFFF)) s
    let s := (List.range 256).foldl (fun s i =>
      s.set ⟨ANODE_SECI_OFF (2 * (i / 4) + i % 4 / 2), 16 * (i % 2), 16⟩ (min (d.secI.getD i 0) 0xFFFF)) s
    s.setReg ANODE_MEAS_FRAME_OFF s.frameNo

/-- The least headroom of a colour over the bands that have a sample, mV. -/
def headMin (d : SurveyData) (c : Nat) : Option Nat :=
  match (List.range 16).filterMap (fun b => SurveyHead d b c) with
  | [] => none
  | a :: r => some (r.foldl min a)

/-- A voltage in mV as a set point in 10 mV steps (R122). -/
def setPoint (v : Rat) : Nat :=
  let lo := (Rat.floor (v / 10)).toNat * 10
  if v = (lo : Rat) then lo else if Config.stepUp v then lo + 10 else lo

/-- The headroom target of a colour, mV (R126). -/
def State.headTarget (s : State) (c : Nat) : Nat :=
  300 + (if s.flag (TONE_GREF_SEL 0) then 0 else 5 * min 100 (getBits (s.reg ANODE_RESERVE_OFF) (8 * c) 8))

/-- The set point for the next frame, mV (R126): `pNew` and `pOld` as TONE reports them, `h` the least headroom. -/
def State.nextSet (s : State) (c : Nat) (pNew pOld : Rat) (h : Option Nat) : Rat :=
  let v : Rat := (s.get (ANODE_RAIL_V_VSET c) : Nat)
  let next : Rat :=
    if pNew = 0 then v
    else match h with
      | none => max v (s.vWake c : Nat)
      | some h =>
        if pOld = 0 then max v (s.vWake c : Nat)
        else
          let step : Rat := max (-20) (min 200 (((s.headTarget c : Nat) : Rat) - (h : Nat)))
          let ff : Rat := ((getBits (s.reg ANODE_VF_SLOPE_OFF) (8 * c) 8 : Nat) : Rat) * Config.decibels (pNew / pOld)
          v + step + max 0 (min 300 ff)
  max 2000 (min 5000 next)

/-- The set point of one colour follows the headroom (R126, R130). -/
def State.trackRail (s : State) (d : SurveyData) (pOld : List Rat) (c : Nat) : State :=
  if !s.buckRuns c then s
  else
    let h := headMin d c
    let v := setPoint (s.nextSet c (s.tone.pNew.getD c 0) (pOld.getD c 0) h)
    let s := (if v == s.get (ANODE_RAIL_V_VSET c) then s else s.touch).set (ANODE_RAIL_V_VSET c) v
    let atMax := v == 5000 && (match h with | some h => decide (h < s.headTarget c) | none => false)
    let was := s.flag ⟨ANODE_RAIL_STATUS_OFF, 4 + c, 1⟩
    let s := s.setFlag ⟨ANODE_RAIL_STATUS_OFF, 4 + c, 1⟩ atMax
    if atMax && !was then s.faultVal 0x0607 6 (subj 8 c) v 5000 else s

/-- HEADROOM_LOW of a band and colour (R130): four consecutive frames below 0.20 V. It is recorded at the fourth, and at any
later one that sets HEAD_LOW again. -/
def State.trackLow (s : State) (d : SurveyData) (band c : Nat) : State :=
  let low := match SurveyHead d band c with | some h => decide (h < 200) | none => false
  let i := 4 * band + c
  let run := if low then sget (fun _ => 0) s.anode.lowRun i + 1 else 0
  let s := { s with anode := { s.anode with lowRun := sput (fun _ => 0) s.anode.lowRun i run } }
  let was := s.flag ⟨ANODE_RAIL_STATUS_OFF, 12 + c, 1⟩
  let s := if 4 ≤ run then s.latch ⟨ANODE_RAIL_STATUS_OFF, 12 + c, 1⟩ else s
  if run == 4 || (decide (4 < run) && !was) then
    s.faultVal 0x0608 6 (subj 9 (c * 256 + band))
      (((SurveyHead d band c).getD 0) / 5) 40
  else s

/-- Steps 3 and 4 of R127. -/
def State.track (s : State) (d : SurveyData) (pOld : List Rat) : State :=
  let s := (List.range 4).foldl (fun s c => s.trackRail d pOld c) s
  let s := (List.range 64).foldl (fun s i => s.trackLow d (i / 4) (i % 4)) s
  s.showRailLim

/-! ### The governor's model (R179) -/

/-- The rail current of a colour that the words in force draw, in amperes (R179). -/
def State.railDraw (s : State) (c : Nat) : Rat :=
  let sum := (s.litPixels.map (fun p =>
    let x := p.1 % 1024
    let y := p.1 / 1024
    s.sectorFactor (sectorOf x y) c * s.ratio (quadOf x y) c (wordRange p.2 c) * wordDuty p.2 c)).sum
  ((160 * s.globalCode c * sum : Nat) : Rat) / ((4095 * 4092 * 8388608 * 4096 * 1000000 : Nat) : Rat)

/-- The input power that R179 predicts, W. -/
def State.predictedPower (s : State) : Rat :=
  ((s.toneField TONE_GOV_MODEL_PFIX : Nat) : Rat) / 10
    + ((List.range 4).map (fun c => s.railDraw c * ((s.get (ANODE_RAIL_V_VSET c) : Nat) : Rat) / 1000)).sum / s.effUsed

/-- Every pass switch is closed. -/
def State.allClosed (s : State) : Bool :=
  s.reg GUARD_B_BANDS_RG_OFF == 0xFFFFFFFF && s.reg GUARD_B_BANDS_BL_OFF == 0xFFFFFFFF

/-- GOV_MODEL_CHECK (R179). A frame that is not compared neither counts toward the run nor breaks it. -/
def State.govCheck (s : State) : State :=
  if !s.house.mode.emitting then s
  else if decide (s.now < 1000000 + s.tone.changeAt) || !s.allClosed then s
  else
    let meas : Rat := ((s.get ANODE_IN_P_PIN : Nat) : Rat) / 10
    if meas ≤ s.predictedPower * 105 / 100 then { s with tone := { s.tone with overRun := 0 } }
    else if s.tone.overRun + 1 < 16 then { s with tone := { s.tone with overRun := s.tone.overRun + 1 } }
    else
      let value := s.get ANODE_IN_P_PIN
      let limit := deciWatts s.predictedPower
      let s := { s with tone := { s.tone with overRun := 0, effLow := some (max (7 / 10) (s.effUsed * 99 / 100)) } }
      s.showEff.faultVal 0x0404 6 0 value limit

/-! ### Temperatures (R146 to R148) -/

/-- Group of a sensor (R146): 0 array, 1 cold plate, 2 dies, 3 power stage. -/
def sensorGroup (i : Nat) : Nat := if i < 36 then 0 else if i < 38 then 1 else if i < 41 then 2 else 3

/-- A reading that counts, in 1/16 °C (R148). -/
def validTemp (r : Option Int) : Option Int :=
  match r with
  | some t => if -640 ≤ t ∧ t ≤ 2400 then some t else none
  | none => none

/-- One sensor is read (R148). -/
def State.readSensor (s : State) (i : Nat) (r : Option Int) : State :=
  match validTemp r with
  | some t =>
    let s := { s with anode := { s.anode with badSensor := s.anode.badSensor.filter (· != i) } }
    s.set (ANODE_TEMP_TEMP i) (twos 16 t)
  | none =>
    let first := !s.anode.badSensor.contains i
    let s := if first then { s with anode := { s.anode with badSensor := i :: s.anode.badSensor } } else s
    let s := s.set (ANODE_TEMP_TEMP i) 0x8000
    if first then s.fault 0x060C 6 (subj 10 i) else s

/-- The hottest valid sensor of a group, with its reading. -/
def State.hottest (s : State) (g : Nat) : Option (Nat × Int) :=
  let l := (List.range 45).filterMap (fun i =>
    if sensorGroup i == g && s.get (ANODE_TEMP_TEMP i) != 0x8000 then some (i, signedBits 16 (s.get (ANODE_TEMP_TEMP i))) else none)
  l.foldl (fun m p => match m with
    | none => some p
    | some q => if q.2 < p.2 then some p else some q) none

/-- Threshold `k` of a group, 0 WARN, 1 LIMIT, 2 TRIP, °C. -/
def State.threshold (s : State) (g k : Nat) : Nat := getBits (s.reg (ANODE_TLIM_OFF g)) (8 * k) 8

/-- The reaction to a threshold that is crossed (R147): WARN has none, LIMIT asserts the thermal input, TRIP deasserts the
enables and stops every buck. -/
def State.tempCrossed (s : State) (g k : Nat) (hot : Option (Nat × Int)) : State :=
  let sensor := match hot with | some p => p.1 | none => [0, 36, 38, 41].getD g 0
  let value := match hot with | some p => twos 16 p.2 | none => 0x8000
  let limit := 16 * s.threshold g k
  match k with
  | 0 => s.faultVal 0x0609 6 (subj 10 sensor) value limit
  | 1 => s.faultVal 0x060A 6 (subj 10 sensor) value limit
  | _ => (s.disable.stopBucks).faultVal 0x060B 6 (subj 10 sensor) value limit

/-- One threshold of a group after a reading (R147, R148). -/
def State.tempThreshold (s : State) (g k : Nat) : State :=
  let i := 4 * g + k
  let hot := s.hottest g
  let lim : Int := 16 * s.threshold g k
  let above := match hot with | some p => decide (lim ≤ p.2) | none => k == 2
  let below := match hot with | some p => decide (p.2 ≤ lim - 80) | none => false
  let run := if above then sget (fun _ => 0) s.anode.tempRun i + 1 else 0
  let run := min run 2
  let s := { s with anode := { s.anode with tempRun := sput (fun _ => 0) s.anode.tempRun i run } }
  let set := s.anode.tempSet.contains i
  let crossed := (run == 2 || (hot.isNone && k == 2)) && !set
  if crossed then
    ({ s with anode := { s.anode with tempSet := i :: s.anode.tempSet } }).tempCrossed g k hot
  else if set && below then { s with anode := { s.anode with tempSet := s.anode.tempSet.filter (· != i) } }
  else s

/-- A LIMIT is crossed and has not cleared: the thermal input (R147, R177). -/
def State.showThermal (s : State) : State :=
  s.setFlag TONE_GOV_STATUS_THERMAL (s.anode.tempSet.any (fun i => i % 4 == 1))

/-- TEMP_SAMPLE (R146 to R148): readings in 1/16 °C, none where a sensor does not respond. -/
def State.tempSample (s : State) (raw : List (Option Int)) : State :=
  let s := (List.range 45).foldl (fun s i => s.readSensor i (raw.getD i none)) s
  let s := (List.range 12).foldl (fun s i => s.tempThreshold (i / 3) (i % 3)) s
  s.showThermal

end Sys2Proof.Machine
end

