-- ==== Sys2Proof/Machine/Guards.lean ====
section
/-! DEFINITION. The guards (chapters 11 and 12): terminals, encoders and positions, zones, masks and clamps, the tap check
and the region signatures, SF-OVER and PHOTO, the safety networks and their telegrams, cross-comparison, SAFE and restart. -/

namespace Sys2Proof.Machine

open Reg

/-! ### Views -/

/-- The pair's filtered levels, GUARD_A's then GUARD_B's: 1 is run (R370). -/
def State.levels (s : State) (pair : Nat) : Bool × Bool :=
  if pair = 0 then (s.flag GUARD_A_INPUTS_STOP_A, s.flag ⟨GUARD_B_INPUTS_OFF, 30, 1⟩)
  else (s.flag GUARD_A_INPUTS_ZONE_A, s.flag ⟨GUARD_B_INPUTS_OFF, 28, 1⟩)

/-- A pair is latched discrepant (R373). -/
def State.latched (s : State) (pair : Nat) : Bool := s.flag ⟨GUARD_A_INPUTS_OFF, 16 + pair, 1⟩

/-- A pair demands: a channel is de-energised, or the pair is latched (R371, R373). -/
def State.pairDemand (s : State) (pair : Nat) : Bool :=
  !(s.levels pair).1 || !(s.levels pair).2 || s.latched pair

/-- A safety network at its guard. -/
def State.net (s : State) : Guard → Net
  | .a => s.guards.netA
  | .b => s.guards.netB

/-- The network of a guard changes. -/
def State.setNet (s : State) (g : Guard) (n : Net) : State :=
  match g with
  | .a => { s with guards := { s.guards with netA := n } }
  | .b => { s with guards := { s.guards with netB := n } }

/-- Number of a guard's copy of the network registers, and of its NETWORK subject (R475). -/
def guardNo : Guard → Nat
  | .a => 0
  | .b => 1

/-- The other guard. -/
def otherGuard : Guard → Guard
  | .a => .b
  | .b => .a

/-- LINK_TIMEOUT in ns (R393). -/
def State.linkTimeout (s : State) : Nat := 1000000 * s.get GUARD_A_CFG_LINK_TIMEOUT

/-- A network is fresh at a time (R409). -/
def State.fresh (s : State) (g : Guard) : Bool :=
  match (s.net g).last with
  | none => false
  | some c => decide (s.now ≤ c.at_ + s.linkTimeout)

/-- SF-LINK acts (R393): LINK is 2 or 3. -/
def State.linkActs (s : State) : Bool := decide (2 ≤ s.get GUARD_A_STATUS_LINK)

/-- SF-LINK acts with RESTRICT (R393). -/
def State.restricts (s : State) : Bool := s.get GUARD_A_STATUS_LINK == 2

/-- An encoder of a guard is valid (R375). -/
def State.encValid (s : State) (g : Guard) (i : Nat) : Bool :=
  match g with
  | .a => s.flag (GUARD_A_POS_VALID i)
  | .b => s.flag (GUARD_B_POS_VALID i)

/-- Last valid raw position of an encoder (R375). -/
def State.encRaw (s : State) (g : Guard) (i : Nat) : Nat :=
  match g with
  | .a => s.get (GUARD_A_POS_RAW i)
  | .b => s.get (GUARD_B_POS_RAW i)

/-- The zone table of a guard (R378). -/
def State.zoneTable (s : State) : Guard → Option ZoneTable
  | .a => s.guards.zoneA
  | .b => s.guards.zoneB

/-! ### Positions (R377) -/

/-- The difference of two raw positions as a signed number of BITS bits (R377). -/
def axisDiff (bits a b : Nat) : Int := signedBits bits ((a % 2 ^ bits + 2 ^ bits - b % 2 ^ bits) % 2 ^ bits)

/-- An axis of a zone table. -/
def ZoneTable.axis (z : ZoneTable) (i : Nat) : Axis := z.axes.getD i ⟨24, false, 0, 0⟩

/-- The angle of pan or tilt, 2^-24 degree (R377). -/
def ZoneTable.angle (z : ZoneTable) (i raw : Nat) : Int :=
  axisDiff (z.axis i).bits raw (z.axis i).offset * (z.axis i).scale

/-- Linear interpolation in the focal table, in pixels; beyond the table its nearest point (R377). -/
def focalAt : List (Nat × Nat) → Nat → Rat
  | [], _ => 0
  | [p], _ => (p.2 : Rat) / 256
  | p :: q :: r, z =>
    if z ≤ p.1 then (p.2 : Rat) / 256
    else if z < q.1 then
      ((p.2 : Rat) + ((q.2 : Rat) - p.2) * ((z : Rat) - p.1) / ((q.1 : Rat) - p.1)) / 256
    else focalAt (q :: r) z

/-- The corner angle of a zoom position, 2^-24 degree (R377). -/
def ZoneTable.corner (z : ZoneTable) (raw : Nat) : Int := Config.cornerAngle (focalAt z.focal raw)

/-- The position as a guard reads it from its own set (R377). -/
def State.position (s : State) (g : Guard) : Position :=
  match s.zoneTable g with
  | none => ⟨0, 0, 0, 0⟩
  | some z => ⟨z.angle 0 (s.encRaw g 0), z.angle 1 (s.encRaw g 1), z.corner (s.encRaw g 2), focalAt z.focal (s.encRaw g 2)⟩

/-- An angle of 2^-24 degree, in degrees. -/
def degrees (i : Int) : Rat := (i : Rat) / 16777216

/-- The axes whose angles differ by more than POS_TOL between the two sets (R366, R376). -/
def State.axesApart (s : State) : List Nat :=
  let tol : Rat := match s.guards.zoneA with | some z => (z.posTol : Rat) / 1000 | none => 0
  let p := s.position .a
  let q := s.position .b
  ([(0, p.pan - q.pan), (1, p.tilt - q.tilt), (2, p.corner - q.corner)].filter
    (fun (e : Nat × Int) => decide (tol < degrees e.2.natAbs))).map (·.1)

/-- Every encoder is valid. -/
def State.encodersValid (s : State) : Bool :=
  (List.range 3).all (fun i => s.encValid .a i && s.encValid .b i)

/-! ### Zones (R378 to R382) -/

/-- The sum of the highest rates, in degrees per second. -/
def ZoneTable.rates (z : ZoneTable) : Rat := ((z.wPan + z.wTilt + z.wZoom : Nat) : Rat)

/-- μ_c in degrees (R380). -/
def ZoneTable.coarse (z : ZoneTable) : Rat := z.rates / 2000 + (z.posTol : Rat) / 1000

/-- μ_B in degrees (R380), at the nominal frame period. -/
def State.checkMargin (s : State) (z : ZoneTable) : Rat :=
  let t : Rat := 1001 / (rateMilli s.timer.timing.rate s.timer.timing.pulldown : Rat)
  z.rates * (2 * t + 1 / 10000) + (z.posTol : Rat) / 1000

/-- MASK_MARGIN in degrees. -/
def ZoneTable.fine (z : ZoneTable) : Rat := (z.margin : Rat) / 1000

/-- A vertex of 2^-16 degree, in degrees. -/
def vertexDeg (v : Int × Int) : Rat × Rat := ((v.1 : Rat) / 65536, (v.2 : Rat) / 65536)

/-- The edges of a polygon, each by its two ends. -/
def polyEdges (v : List (Int × Int)) : List ((Rat × Rat) × (Rat × Rat)) :=
  let d := v.map vertexDeg
  d.zip (d.drop 1 ++ d.take 1)

/-- An edge is crossed by the ray of the even-odd rule (R379). -/
def edgeCrosses (a b : Rat) (e : (Rat × Rat) × (Rat × Rat)) : Bool :=
  decide (b < e.1.2) != decide (b < e.2.2)
    && decide (a < (e.2.1 - e.1.1) * (b - e.1.2) / (e.2.2 - e.1.2) + e.1.1)

/-- A direction lies inside a polygon by the even-odd rule (R379). -/
def insidePoly (v : List (Int × Int)) (a b : Rat) : Bool :=
  ((polyEdges v).filter (edgeCrosses a b)).length % 2 == 1

/-- A pixel lies in a zone expanded by a margin (R377, R379, R380). Fewer than three vertices cover nothing. -/
def ZoneTable.covers (t : ZoneTable) (z : Zone) (p : Position) (margin : Rat) (x y : Nat) : Bool :=
  let a := Config.azimuth t.flipX t.flipY p.pan p.tilt p.focal x y
  let b := Config.elevation t.flipX t.flipY p.pan p.tilt p.focal x y
  decide (3 ≤ z.verts.length) && (insidePoly z.verts a b || (polyEdges z.verts).any (fun e =>
    decide (Config.edgeDistance a b e.1.1 e.1.2 e.2.1 e.2.2 ≤ margin + Config.halfDiagonal p.focal)))

/-- A zone of a table. -/
def ZoneTable.zone (t : ZoneTable) (n : Nat) : Zone := t.zones.getD n ⟨0, false, 0, 0, []⟩

/-- A zone is active (R379): enabled, and its condition holds or RESTRICT acts. -/
def State.zoneActive (s : State) (t : ZoneTable) (n : Nat) : Bool :=
  let z := t.zone n
  let pair := s.pairDemand 1
  let tg := s.guards.tgZones / 2 ^ n % 2 == 1
  z.enable && (s.restricts || (match z.act with | 0 => true | 1 => pair | 2 => tg | _ => pair || tg))

/-- The active zones as a guard sees them, in rising order. -/
def State.activeZones (s : State) (g : Guard) : List Nat :=
  match s.zoneTable g with
  | none => []
  | some t => (List.range 32).filter (fun n => s.zoneActive t n)

/-- E_c of a weight set, in W·m⁻²·sr⁻¹ per µA (R378). -/
def ZoneTable.weight (t : ZoneTable) (set c : Nat) : Rat := (((t.weights.getD set []).getD c 0 : Nat) : Rat) / 1000

/-- The sum of E_c of a weight set. -/
def ZoneTable.weightSum (t : ZoneTable) (set : Nat) : Rat := ((List.range 4).map (fun c => t.weight set c)).sum

/-- σ × LIMIT of a zone, in W·m⁻²·sr⁻¹; `sigma2` is σ times two (R381). -/
def Zone.allowed (z : Zone) (sigma2 : Nat) : Rat := (sigma2 : Rat) / 2 * (z.limit : Rat) / 10

/-- The level of a zone (R382): σ × LIMIT / (160 µA × Σ E_c), limited to 1. -/
def ZoneTable.level (t : ZoneTable) (z : Zone) (sigma2 : Nat) : Rat :=
  if z.limit = 0 then 0
  else if t.weightSum z.wset = 0 then 1
  else min 1 (z.allowed sigma2 / (160 * t.weightSum z.wset))

/-- Some pixel of a tile lies in a zone expanded by a margin (R380). -/
def ZoneTable.meetsTile (t : ZoneTable) (z : Zone) (p : Position) (margin : Rat) (tile : Nat) : Bool :=
  (List.range 256).any (fun i => t.covers z p margin (tile % 64 * 16 + i % 16) (tile / 64 * 16 + i / 16))

/-- The tiles of a sector. -/
def sectorTiles (sec : Nat) : List Nat :=
  (List.range 64).map (fun i => (sec / 8 * 8 + i / 8) * 64 + sec % 8 * 8 + i % 8)

/-- The active zones that a sector meets at μ_c, as a guard sees them (R382). -/
def State.sectorZones (s : State) (g : Guard) (sec : Nat) : List Nat :=
  match s.zoneTable g with
  | none => []
  | some t => (s.activeZones g).filter (fun n => (sectorTiles sec).any (fun i => t.meetsTile (t.zone n) (s.position g) t.coarse i))

/-- σ of a guard, times two. -/
def State.sigma2 (s : State) : Guard → Nat
  | .a => s.guards.sigmaA
  | .b => s.guards.sigmaB

/-- A sector's level a(s) as a guard computes it (R382). -/
def State.sectorLevel (s : State) (g : Guard) (sec : Nat) : Rat :=
  match s.zoneTable g with
  | none => 1
  | some t => (s.sectorZones g sec).foldl (fun a n => min a (t.level (t.zone n) (s.sigma2 g))) 1

/-- The cap of a level (R382); none where the sector is gated dark. -/
def capOf (a : Rat) : Option Nat :=
  if 1 ≤ a then some 1023
  else if 1 / 4 ≤ a then some (Rat.floor ((4092 * a - 1023) / 3)).toNat
  else none

/-- The lower of two caps. -/
def lowerCap : Option Nat → Option Nat → Option Nat
  | some a, some b => some (min a b)
  | _, _ => none

/-- The cap of a sector: the lower of both guards' (R366, R382), and of LINK_LEVEL under RESTRICT (R393). -/
def State.sectorCap (s : State) (sec : Nat) : Option Nat :=
  let c := lowerCap (capOf (s.sectorLevel .a sec)) (capOf (s.sectorLevel .b sec))
  if s.restricts then lowerCap c (capOf ((s.get GUARD_A_CFG_LINK_LEVEL : Rat) / 1023)) else c

/-! ### The coarse clamp (R383) -/

/-- The drift D of a mask, in degrees (R383). -/
def State.drift_ (s : State) (m : Mask) : Rat :=
  let p := s.position .a
  degrees (p.pan - m.pos.pan).natAbs + degrees (p.tilt - m.pos.tilt).natAbs + degrees (p.corner - m.pos.corner).natAbs

/-- A mask meets the first two conditions of R383. -/
def State.maskMeets (s : State) (m : Mask) : Bool :=
  let room : Rat := match s.guards.zoneA with | some z => z.fine - z.coarse | none => 0
  m.sigma2 == s.guards.sigmaA && m.zones == s.activeZones .a && decide (s.drift_ m ≤ room)

/-- The mask in use is valid (R383). Under RESTRICT the clamp of R393 stands whatever the mask. -/
def State.maskValid (s : State) : Bool :=
  (match s.guards.inUse with | some m => s.maskMeets m | none => false)
    && (match s.guards.next with | some m => s.maskMeets m | none => false) && !s.restricts

/-- One sector under the clamp (R383): its cap in CLAMP, or the DARK gate of every colour. -/
def State.clampSector (s : State) (sec : Nat) : State :=
  let was := s.flag (GUARD_A_CAP_CLAMPED sec)
  match s.sectorCap sec with
  | none =>
    let s := (s.set (GUARD_A_CAP_CLAMPED sec) 1).set (GUARD_A_CAP_DARK sec) 1
    let s := (List.range 4).foldl (fun s c => s.gate .clamp (4 * sec + c)) s
    if was then s else s.safetyEvent .a 2 1 0xFF sec 0 0x3FF (s.get GUARD_A_STATUS_CAUSE)
  | some k =>
    let s := (List.range 4).foldl (fun (s : State) c =>
      (if s.get (TONE_SREF_CLAMP (4 * sec + c)) == k then s else s.touch).set (TONE_SREF_CLAMP (4 * sec + c)) k) s
    if k == 1023 then s
    else
      let s := s.set (GUARD_A_CAP_CLAMPED sec) 1
      if was then s else s.safetyEvent .a 2 1 0xFF sec k 0x3FF (s.get GUARD_A_STATUS_CAUSE)

/-- The caps of R382 as GUARD_A_CAP shows them. A sector that is gated dark shows cap 0 (notes/assumptions/30.md). -/
def State.showCap (s : State) (sec : Nat) : State :=
  let s := s.setFlag (GUARD_A_CAP_ZONE sec) (s.sectorZones .a sec != [])
  s.set (GUARD_A_CAP_CAP sec) ((s.sectorCap sec).getD 0)

/-- GUARD_A's evaluation of every 100 µs (R383). -/
def State.zoneEval (s : State) : State :=
  let bits := ((s.activeZones .a).map (fun n => 2 ^ n)).sum
  let s := s.set GUARD_A_ZONE_ACTIVE_ACTIVE bits
  let ok := s.maskValid
  let s := s.setFlag GUARD_A_STATUS_MASK_VALID ok
  let s := match s.guards.inUse with
    | none => s
    | some m => s.set GUARD_A_MASK_DRIFT_DRIFT (min (Rat.floor (s.drift_ m * 1000)).toNat 0xFFFF)
  let s := (List.range 64).foldl (fun (s : State) c => s.showCap c) s
  if ok then s else (List.range 64).foldl (fun (s : State) c => s.clampSector c) s

/-- The clamp is released after the strike that makes a valid mask active (R383). -/
def State.clampRelease (s : State) : State :=
  if !s.maskValid then s
  else
    let s := (s.setFlag GUARD_A_STATUS_MASK_VALID true).ungate (fun g => g.1 == .clamp)
    (List.range 64).foldl (fun (s : State) c =>
      let s := (s.set (GUARD_A_CAP_CLAMPED c) 0).set (GUARD_A_CAP_DARK c) 0
      (List.range 4).foldl (fun (s : State) k =>
        (if s.get (TONE_SREF_CLAMP (4 * c + k)) == 1023 then s else s.touch).set (TONE_SREF_CLAMP (4 * c + k)) 1023) s) s

/-! ### The mask (R219, R384 to R386) -/

/-- GB_c of the calibration image (R384); 1 where the image carries none. -/
def State.gainBound (s : State) (c : Nat) : Rat := s.guards.gb.getD c 1

/-- B_c(k) (R384). -/
def State.maskBound (s : State) (c k : Nat) : Rat := min 1 ((maskGain k : Rat) / 65536 * s.gainBound c) + 1 / 1024

/-- The mask code of a zone (R384): the largest k whose light stays within 0.97 × σ × LIMIT, 0 where none does. -/
def State.zoneCode (s : State) (t : ZoneTable) (z : Zone) : Nat :=
  ((List.range 16).reverse.find? (fun k => k == 0 || decide
    (160 * ((List.range 4).map (fun c => t.weight z.wset c * s.maskBound c k)).sum ≤ 97 / 100 * z.allowed s.guards.sigmaA))).getD 0

/-- The mask code of an array pixel (R384): the least over the active zones that hold it, otherwise 15. -/
def State.pixelMask (s : State) (t : ZoneTable) (zones : List Nat) (p : Position) (x y : Nat) : Nat :=
  zones.foldl (fun k n => if t.covers (t.zone n) p t.fine x y then min k (s.zoneCode t (t.zone n)) else k) 15

/-- The bank that WARP names for an output frame (R249, R385). -/
def State.bankFor (s : State) (e : Nat) : Nat :=
  if s.flag WARP_MESH_STATUS_PENDING && decide (0 ≤ frameDiff e (s.reg WARP_MESH_TARGET_OFF)) then
    s.get WARP_MESH_STATUS_PEND_BANK
  else s.get WARP_MESH_STATUS_IN_USE

/-- All the pixels of the array. -/
def allPixels : List (Nat × Nat) := (List.range 1048576).map (fun i => (i % 1024, i / 1024))

/-- The canvas codes of a mask (R386): each canvas point takes the least code of the pixels whose footprints hold it. -/
def State.canvasCodes (s : State) (t : ZoneTable) (zones : List Nat) (p : Position) (bank : Nat) : List (Nat × Nat) :=
  allPixels.foldl (fun m q =>
    let k := s.pixelMask t zones p q.1 q.2
    if k == 15 then m
    else (s.footprint bank q.1 q.2).foldl (fun m f =>
      if onCanvas f.1 f.2.1 then
        let i := 1024 * f.2.1.toNat + f.1.toNat
        sput (fun _ => 15) m i (min k (sget (fun _ => 15) m i))
      else m) m) []

/-- The tile map of a mask (R386): tiles with a pixel whose footprint holds a point with a code below 15. A point off
the canvas counts with code 0 (R243). -/
def State.markedTiles (s : State) (codes : List (Nat × Nat)) (bank : Nat) : List Nat :=
  (List.range 4096).filter (fun tile => (List.range 256).any (fun i =>
    (s.footprint bank (tile % 64 * 16 + i % 16) (tile / 64 * 16 + i / 16)).any (fun f =>
      !onCanvas f.1 f.2.1 || decide (sget (fun _ => 15) codes (1024 * f.2.1.toNat + f.1.toNat) < 15))))

/-- MASK_SAMPLE (R385): GUARD_A samples the positions for the mask of frame E = FRAME_NO + 2. Filling the buffer that is
not in use withdraws a publication that still waits (R219). -/
def State.maskSample (s : State) : State :=
  let e := frameAdd s.frameNo 2
  let zones := s.activeZones .a
  let p := s.position .a
  let bank := s.bankFor e
  let codes := match s.guards.zoneA with
    | none => []
    | some t => if zones == [] then [] else s.canvasCodes t zones p bank
  let m : Mask := ⟨e, s.guards.sigmaA, zones, p, codes, s.markedTiles codes bank⟩
  let s := { s with braid := { s.braid with waiting := none } }
  { s.set BRAID_PROT_STATUS_PUBLISHED 0 with guards := { s.guards with deriving_ := some m } }

/-- A word of a mask buffer (R216). -/
def Mask.word (m : Mask) (i : Nat) : Nat :=
  ((List.range 8).map (fun j => sget (fun _ => 15) m.codes (8 * i + j) * 16 ^ j)).sum

/-- SUM of a mask buffer (R219). -/
def Mask.checkSum (m : Mask) : Nat :=
  (List.range 131072).foldl (fun a i => (a + (m.word i ^^^ i)) % 2 ^ 32) 0

/-- MASK_PUBLISH (R219, R385). -/
def State.maskPublish (s : State) : State :=
  match s.guards.deriving_ with
  | none => s
  | some m =>
    let s := { s with guards := { s.guards with deriving_ := none } }
    { s.setReg GUARD_A_MASK_FRAME_OFF m.target with
      braid := { s.braid with waiting := some ⟨m, m.checkSum, s.now, false⟩ } }

/-- MASK_VERIFY (R219): the sum that BRAID's read-back gives, and whether it met an uncorrectable error. -/
def State.maskVerify (s : State) (readSum : Nat) (uncorrectable : Bool) : State :=
  match s.braid.waiting with
  | none => s
  | some p =>
    if p.verified then s
    else if readSum % 2 ^ 32 == p.sum && !uncorrectable then
      { s.set BRAID_PROT_STATUS_PUBLISHED 1 with braid := { s.braid with waiting := some { p with verified := true } } }
    else
      let s := { s with braid := { s.braid with waiting := none } }
      (s.bump BRAID_PROT_COUNTS_VERIFY_FAIL).fault 0x0203 2 0

/-- A strike that transfers makes the mask of its frame active (R383), and the tile map follows (R386). -/
def State.maskStrike (s : State) : State :=
  let s := { s with guards := { s.guards with inUse := s.guards.next, next := s.braid.prot } }
  let tiles := match s.guards.inUse with | some m => m.tiles | none => []
  (List.range 128).foldl (fun (s : State) w => s.setReg (GUARD_A_TILEMAP_OFF w)
    ((tiles.filter (fun t => t / 32 == w)).map (fun t => 2 ^ (t % 32))).sum) s

/-! ### GUARD_B's scan: tap check and ceilings (R387, R389) -/

/-- u_c of a pixel for one zone (R389). -/
def ZoneTable.share (t : ZoneTable) (z : Zone) (sigma2 c : Nat) : Rat :=
  if t.weight z.wset c = 0 then (if z.limit = 0 then 0 else 1)
  else min 1 (z.allowed sigma2 / (160 * t.weight z.wset c))

/-- The pixels of a sector. -/
def sectorPixels (sec : Nat) : List (Nat × Nat) :=
  (List.range 16384).map (fun i => (sec % 8 * 128 + i % 128, sec / 8 * 128 + i / 128))

/-- The ceiling of a sector and colour in mA (R389, R393). -/
def State.ceiling (s : State) (sec c : Nat) : Rat :=
  let base : Rat := if s.restricts then (s.get GUARD_A_CFG_LINK_LEVEL : Rat) / 1023 else 1
  match s.guards.zoneB with
  | none => 160 * 16384 * base / 1000
  | some t =>
    let zones := s.activeZones .b
    if zones == [] then 160 * 16384 * base / 1000
    else
      let p := s.position .b
      let mu := s.checkMargin t
      160 * ((sectorPixels sec).map (fun q => zones.foldl (fun u n =>
        if t.covers (t.zone n) p mu q.1 q.2 then min u (t.share (t.zone n) s.guards.sigmaB c) else u) base)).sum / 1000

/-- GUARD_B starts the check of a scan: it takes its set's position and zones, and the ceilings (R387, R389). -/
def State.scanStart (s : State) : State :=
  let cs := (List.range 256).map (fun i => s.ceiling (i / 4) (i % 4))
  let ma := fun (i : Nat) => min (Rat.floor (cs.getD i 0)).toNat 0xFFFF
  let s := { s with guards := { s.guards with
    scanPos := some (s.position .b), scanZones := s.activeZones .b, ceilings := cs, tapBands := [] } }
  (List.range 128).foldl (fun (s : State) n =>
    (s.set (GUARD_B_CEIL_LOW n) (ma (2 * n))).set (GUARD_B_CEIL_HIGH n) (ma (2 * n + 1))) s

/-- W of a pixel's word under a weight set, in W·m⁻²·sr⁻¹ (R387). -/
def ZoneTable.tapLight (t : ZoneTable) (set w : Nat) : Rat :=
  160 * ((List.range 4).map (fun c => t.weight set c * Config.ratioHigh (wordRange w c) * (wordDuty w c : Rat) / 4096)).sum

/-- The first zone pixel of a tile that fails the tap check, as its light and limit (R387). -/
def State.tapTile (s : State) (t : ZoneTable) (p : Position) (tile : Nat) : Option (Rat × Rat) :=
  let mu := s.checkMargin t
  (List.range 256).findSome? (fun i =>
    let x := tile % 64 * 16 + i % 16
    let y := tile / 64 * 16 + i / 16
    let w := (sget (fun _ => 0#64) s.array.tap (1024 * y + x)).toNat
    s.guards.scanZones.findSome? (fun n =>
      let z := t.zone n
      let l := z.allowed s.guards.sigmaB
      if t.covers z p mu x y && decide (l < t.tapLight z.wset w) then some (t.tapLight z.wset w, l) else none))

/-- A tile fails the tap check: its band is opened, and the fault is recorded once per run (R387). -/
def State.tapFails (s : State) (tile : Nat) (e : Rat × Rat) : State :=
  let band := tile / 256
  let first := s.guards.tapBands == []
  let s := if first then s.bump GUARD_B_TAP_FAIL_FRAMES else s
  let s := s.set GUARD_B_TAP_TILE tile
  let s := { s with guards := { s.guards with
    tapBands := if s.guards.tapBands.contains band then s.guards.tapBands else band :: s.guards.tapBands } }
  let s := (List.range 4).foldl (fun (s : State) c => s.hold .tap band c) s
  let tenth := fun (r : Rat) => (Rat.floor (r * 10)).toNat % 2 ^ 32
  let s := s.safetyEvent .b 3 2 0xFF tile (tenth e.1) (tenth e.2) (s.get GUARD_A_STATUS_CAUSE)
  if first && !s.guards.tapRun then s.faultVal 0x0B04 11 (subj 3 tile) (tenth e.1) (tenth e.2) else s

/-- The tap check of the frame that has been scanned (R387). -/
def State.tapCheck (s : State) : State :=
  if !s.house.mode.emitting then s
  else match s.guards.zoneB, s.guards.scanPos with
    | some t, some p =>
      if s.guards.scanZones == [] then s
      else (List.range 4096).foldl (fun (s : State) tile => match s.tapTile t p tile with
        | some e => s.tapFails tile e
        | none => s) s
    | _, _ => s

/-- The strike of a frame releases the tap-check holds of the bands whose check passed in it (R387). -/
def State.tapStrike (s : State) : State :=
  let bad := s.guards.tapBands
  { s with guards := { s.guards with
    holds := s.guards.holds.filter (fun h => !(h.1 == .tap && !bad.contains h.2.1))
    tapRun := bad != [] } }

/-! ### Region signatures (R225 to R229) -/

/-- The rectangle of a region: TX0, TY0, TW, TH. -/
def State.regionRect (s : State) (r : Nat) : Nat × Nat × Nat × Nat :=
  (s.get (GUARD_B_REGION_RECT_TX0 r), s.get (GUARD_B_REGION_RECT_TY0 r), s.get (GUARD_B_REGION_RECT_TW r),
   s.get (GUARD_B_REGION_RECT_TH r))

/-- A region's rectangle extends beyond tile 63 (R225). -/
def State.regionBad (s : State) (r : Nat) : Bool :=
  let q := s.regionRect r
  decide (64 < q.1 + q.2.2.1) || decide (64 < q.2.1 + q.2.2.2)

/-- The mode of a region as it is checked (R225): 0 not checked, 1 EXPECTED, 2 PARTNER. -/
def State.regionMode (s : State) (r : Nat) : Nat :=
  let q := s.regionRect r
  let m := s.get (GUARD_B_REGION_RECT_MODE r)
  if q.2.2.1 = 0 ∨ q.2.2.2 = 0 ∨ s.regionBad r = true ∨ m = 3 then 0 else m

/-- The word at the STRIKE tap of a pixel. -/
def State.tapWord (s : State) (x y : Nat) : Nat := (sget (fun _ => 0#64) s.array.tap (1024 * y + x)).toNat

/-- The signature of a region in EXPECTED mode (R226). -/
def State.regionExpected (s : State) (r : Nat) : Nat :=
  let q := s.regionRect r
  crc32c ((List.range 512).flatMap (fun k => [k, 512 + k].flatMap (fun y =>
    if q.2.1 * 16 ≤ y ∧ y < (q.2.1 + q.2.2.2) * 16 then
      (List.range (q.2.2.1 * 16)).flatMap (fun i => toBytes 8 (s.tapWord (q.1 * 16 + i) y))
    else [])))

/-- Bits packed least significant first into bytes. -/
def packLow : List Bool → List Nat
  | a :: b :: c :: d :: e :: f :: g :: h :: r =>
    (bit a + 2 * bit b + 4 * bit c + 8 * bit d + 16 * bit e + 32 * bit f + 64 * bit g + 128 * bit h) :: packLow r
  | [] => []
  | l => [(l.zipIdx.map (fun p => bit p.1 * 2 ^ p.2)).sum]

/-- A tile is dark at the tap: every word of it is 0 (R227). -/
def State.tileDark (s : State) (tx ty : Nat) : Bool :=
  (List.range 256).all (fun i => s.tapWord (tx * 16 + i % 16) (ty * 16 + i / 16) == 0)

/-- The signature of a region in PARTNER mode (R227). -/
def State.regionPartner (s : State) (r : Nat) : Nat :=
  let q := s.regionRect r
  let cols := (List.range q.2.2.1).map (fun i => q.1 + i)
  let cols := if s.flag (GUARD_B_REGION_RECT_MIRROR r) then cols.reverse else cols
  crc32c (packLow ((List.range q.2.2.2).flatMap (fun j => cols.map (fun tx => s.tileDark tx (q.2.1 + j)))))

/-- The bands that a region overlaps. -/
def State.regionBands (s : State) (r : Nat) : List Nat :=
  let q := s.regionRect r
  (List.range 16).filter (fun b => decide (q.2.1 < 4 * b + 4) && decide (4 * b < q.2.1 + q.2.2.2))

/-- SIG_BANDS follows the REACT holds (R388). -/
def State.showSigBands (s : State) : State :=
  s.set GUARD_B_SIG_BANDS_OPEN (((List.range 16).filter (fun b => s.guards.holds.any (fun h =>
    (match h.1 with | .react _ => true | _ => false) && h.2.1 == b))).map (fun b => 2 ^ b)).sum

/-- A region's result is fixed (R228, R229): 0 MATCH, 1 MISMATCH, 2 UNCHECKED. -/
def State.regionResult (s : State) (r result sig want : Nat) : State :=
  let was := s.get (GUARD_B_REGION_COUNT_RESULT r)
  let s := (s.set (GUARD_B_REGION_COUNT_RESULT r) result).setReg (GUARD_B_REGION_LAST_OFF r) sig
  let s := if result = 0 then s.cvuPass 4 sig else if result = 1 then s.cvuFail 4 sig want else s
  if result != 1 then s
  else
    let s := s.bump (GUARD_B_REGION_COUNT_MISMATCH r)
    let s := if s.flag (GUARD_B_REGION_RECT_REACT r) then
        (s.regionBands r).foldl (fun (s : State) b => (List.range 4).foldl (fun (s : State) c => s.hold (.react r) b c) s) s
      else s
    let s := s.showSigBands
    if was == 1 then s else (s.faultVal 0x0B05 11 (subj 7 r) sig want).raise 1

/-- The registers that hold the results of a frame (R228, R229): those of the regions checked, the frame and the counts. -/
def State.regionRegs (s : State) : List Nat :=
  [GUARD_B_SIG_FRAME_OFF, GUARD_B_SIG_COUNTS_OFF] ++ ((List.range 256).filter (fun r => s.regionMode r != 0)).flatMap (fun r =>
    [GUARD_B_REGION_LAST_OFF r, GUARD_B_REGION_COUNT_OFF r])

/-- A suppressed strike discards the frame's results and leaves the switches as they are (R229). -/
def State.regionsDiscard (s : State) : State :=
  let s := s.guards.sigOld.foldl (fun (s : State) e => s.setReg e.1 e.2) s
  { s with guards := { s.guards with sigOld := [] } }

/-- The EXPECTED results of a scan (R228); the regions that are not checked read OFF. -/
def State.regionsExpected (s : State) (bad : List Nat) : State :=
  let s := { s with guards := { s.guards with sigOld := s.regionRegs.map (fun off => (off, s.reg off)) } }
  let news := bad.filter (fun r => !s.guards.sigBad.contains r && s.regionMode r != 0)
  let s := { s with guards := { s.guards with sigBad := bad } }
  let s := news.foldl (fun (s : State) r => s.fault 0x0B06 11 (subj 7 r)) s
  let s := s.setReg GUARD_B_SIG_FRAME_OFF s.frameNo
  (List.range 256).foldl (fun (s : State) r => match s.regionMode r with
    | 0 => s.set (GUARD_B_REGION_COUNT_RESULT r) 3
    | 1 =>
      let sig := s.regionExpected r
      let want := s.get (GUARD_B_REGION_EXPECT_VALUE r)
      s.regionResult r (if sig == want && !bad.contains r then 0 else 1) sig want
    | _ => s.setReg (GUARD_B_REGION_LAST_OFF r) (s.regionPartner r)) s

/-- The PARTNER results at the start of the quiet interval, and the frame's counts (R228). -/
def State.regionsPartner (s : State) : State :=
  let frame := s.reg GUARD_B_SIG_FRAME_OFF
  let vals := match s.guards.peerSigs with
    | some (f, l) => if f == frame && s.twinEn && s.spliceUp then l else []
    | none => []
  let s := (List.range 256).foldl (fun (s : State) r =>
    if s.regionMode r != 2 then s
    else
      let sig := s.reg (GUARD_B_REGION_LAST_OFF r)
      match vals.find? (fun e => e.1 == r) with
      | none => s.regionResult r (if s.guards.sigBad.contains r then 1 else 2) sig 0
      | some e => s.regionResult r (if e.2 == sig && !s.guards.sigBad.contains r then 0 else 1) sig e.2) s
  let got := fun (s : State) (k : Nat) => (List.range 256).any (fun r => s.get (GUARD_B_REGION_COUNT_RESULT r) == k)
  let s := if got s 1 then s.bump GUARD_B_SIG_COUNTS_MISMATCH_FRAMES else s
  if got s 2 then s.bump GUARD_B_SIG_COUNTS_UNCHECKED_FRAMES else s

/-- The PARTNER values of a scan, as SCAN carries them: region number and value (R227). -/
def State.regionValues (s : State) : List (Nat × Nat) :=
  ((List.range 256).filter (fun r => s.regionMode r == 2)).map (fun r => (r, s.reg (GUARD_B_REGION_LAST_OFF r)))

/-- The strike of a frame releases the REACT holds of the regions whose result in it is MATCH or UNCHECKED (R229). -/
def State.regionsStrike (s : State) : State :=
  let s := { s with guards := { s.guards with sigOld := [] } }
  (s.unhold (fun h => match h with
    | .react r => s.get (GUARD_B_REGION_COUNT_RESULT r) == 0 || s.get (GUARD_B_REGION_COUNT_RESULT r) == 2
    | _ => false)).showSigBands

/-- The pass switches without a hold close at a strike (R388). -/
def State.closeSwitches (s : State) : State :=
  (List.range 64).foldl (fun (s : State) i =>
    if s.guards.holds.any (fun h => h.2.1 == i / 4 && h.2.2 == i % 4) then s
    else (if s.flag (bandBit (i / 4) (i % 4)) then s else s.touch).set (bandBit (i / 4) (i % 4)) 1) s

/-! ### SF-OVER and PHOTO (R390, R391) -/

/-- The limit of a sector and colour in mA (R390): its ceiling with the margin, and 6 mA. -/
def State.overLimit (s : State) (i : Nat) : Rat :=
  s.guards.ceilings.getD i (160 * 16384 / 1000) * (1 + (clampN 3 25 (s.get GUARD_B_OVER_MARGIN) : Rat) / 100) + 6

/-- A sample of the sector currents, mA by sector and colour (R390). -/
def State.sectorCurrent (s : State) (ma : List (List Nat)) : State :=
  if !s.house.mode.running then s
  else
    let ceil := fun (i : Nat) => s.guards.ceilings.getD i (160 * 16384 / 1000)
    let cur := fun (i : Nat) => (ma.getD (i / 4) []).getD (i % 4) 0
    let exceeding := (List.range 256).filter (fun i => decide (s.overLimit i < (cur i : Rat)))
    let runs := exceeding.map (fun i => (i, sget (fun _ => 0) s.guards.overRun i + 1))
    let trip := runs.find? (fun e => e.2 == clampN 1 16 (s.get GUARD_B_OVER_N_TRIP))
    let s := { s with guards := { s.guards with overRun := runs } }
    match trip with
    | none => s
    | some (i, _) =>
      let limit := min (Rat.floor (ceil i)).toNat 0xFFFF
      let s := (s.set GUARD_B_OVER_SECTOR (i / 4)).set GUARD_B_OVER_COLOUR (i % 4)
      let s := (s.setReg GUARD_B_OVER_MEAS_OFF (min (cur i) 0xFFFF)).setReg GUARD_B_OVER_CEIL_OFF limit
      let s := (s.ownPaths .b).enterSafe .b 3
      let s := s.safetyEvent .b 4 2 (i % 4) (i / 4) (cur i) limit (s.get GUARD_B_STATUS_CAUSE)
      s.faultVal 0x0B01 11 (subj 2 (i % 4 * 256 + i / 4)) (cur i) limit

/-- The range of R391: 0.05 V to 2.45 V in steps of 2.5 V / 4,096. -/
def photoInRange (code : Nat) : Bool := decide (82 ≤ code) && decide (code ≤ 4014)

/-- A sample of PHOTO (R391). -/
def State.photoSample (s : State) (code : Nat) : State :=
  if !s.flag GUARD_B_PHOTO_FITTED || !s.house.mode.running then s
  else
    let code := min code 4095
    let lim := s.get GUARD_B_PHOTO_MAX
    let s := s.set GUARD_B_PHOTO_VALUE code
    let s := if photoInRange code then s.set GUARD_B_PHOTO_FAULT 0 else s
    let run := if lim < code then s.guards.photoRun + 1 else 0
    let s := { s with guards := { s.guards with photoRun := run } }
    if run != 10 then s
    else
      let s := (s.ownPaths .b).enterSafe .b 4
      let s := s.safetyEvent .b 9 2 0xFF 0 code lim (s.get GUARD_B_STATUS_CAUSE)
      s.faultVal 0x0B02 11 0 code lim

/-- PHOTO has been out of its range for 1 ms (R391). -/
def State.photoFault (s : State) : State :=
  if !s.flag GUARD_B_PHOTO_FITTED || !s.house.mode.running || photoInRange (s.get GUARD_B_PHOTO_VALUE)
      || s.flag GUARD_B_PHOTO_FAULT then s
  else
    let s := ((s.set GUARD_B_PHOTO_FAULT 1).ownPaths .b).enterSafe .b 10
    let v := s.get GUARD_B_PHOTO_VALUE
    let s := s.safetyEvent .b 9 2 0xFF 0 v (s.get GUARD_B_PHOTO_MAX) (s.get GUARD_B_STATUS_CAUSE)
    s.faultVal 0x0B03 11 0 v 0

/-! ### The guards' status (GUARD_A_STATUS, GUARD_B_STATUS) -/

/-- STOP, ZONE_DEMAND, ENC_OK, LINK and FRESH follow what the guards hold. -/
def State.showGuards (s : State) : State :=
  let fa := s.fresh .a
  let fb := s.fresh .b
  let s := (s.setFlag (GUARD_NET_STATUS_FRESH 0) fa).setFlag (GUARD_NET_STATUS_FRESH 1) fb
  let link := if s.linkActs then s.get GUARD_A_STATUS_LINK else if fa && fb then 0 else 1
  let both := fun (s : State) (lsb width v : Nat) =>
    (s.set ⟨GUARD_A_STATUS_OFF, lsb, width⟩ v).set ⟨GUARD_B_STATUS_OFF, lsb, width⟩ v
  let s := both s 28 2 link
  let s := both s 30 1 (bit (s.pairDemand 0 || s.guards.tgStop))
  let s := both s 27 1 (bit (s.pairDemand 1))
  both s 25 1 (bit (s.encodersValid && s.axesApart == []))

/-- A STOP demand acts (R368, R371, R392): the guard's own paths, SAFE, and the STOP_DEMAND event. -/
def State.stopDemand (s : State) (g : Guard) (cause : Nat) : State :=
  let s := s.showGuards
  if !s.house.mode.running then s
  else
    let s := (s.ownPaths g).enterSafe g cause
    s.safetyEvent g 1 g.chan 0xFF 0 0 0 (s.get GUARD_A_STATUS_CAUSE)

/-! ### Terminals and discrepancy (R370 to R373) -/

/-- T_DISC in ns. -/
def State.tDisc (s : State) : Nat := 1000000 * s.get GUARD_A_CFG_IN_T_DISC

/-- The uncertainty of the measured interval (R372): 0.15 ms and 0.5 % of T_DISC. -/
def State.discSlack (s : State) : Nat := 150000 + s.tDisc / 200

/-- A pair latches discrepant (R372, R373). -/
def State.latchPair (s : State) (pair interval : Nat) : State :=
  let tenths := fun (n : Nat) => n / 100000
  let s := (s.set ⟨GUARD_A_INPUTS_OFF, 16 + pair, 1⟩ 1).set GUARD_A_INPUTS_DISC_LAST (min (tenths interval) 0xFFFF)
  let l := s.levels pair
  let s := { s with guards := { s.guards with
    discSince := s.guards.discSince.filter (fun e => e.1 / 4 != pair)
    discBoth := if !l.1 && !l.2 then pair :: s.guards.discBoth.filter (· != pair) else s.guards.discBoth.filter (· != pair)
    discFirst := serase s.guards.discFirst pair } }
  let s := s.showGuards
  let s := if pair = 0 then s.enterSafe .a 6 else s
  let s := s.safetyEvent .a 7 3 0xFF pair (tenths interval) (tenths s.tDisc) (s.get GUARD_A_STATUS_CAUSE)
  s.faultVal 0x0705 7 (subj 12 pair) (tenths interval) (tenths s.tDisc)

/-- A latched pair's channel has changed: the latch clears once both channels have held the demand level together and
then released within T_DISC of each other (R373). -/
def State.unlatch (s : State) (pair : Nat) : State :=
  let l := s.levels pair
  let both := s.guards.discBoth.contains pair
  let first := s.guards.discFirst.find? (fun e => e.1 == pair)
  if !s.latched pair then s
  else if !l.1 && !l.2 then
    { s with guards := { s.guards with
      discBoth := pair :: s.guards.discBoth.filter (· != pair), discFirst := serase s.guards.discFirst pair } }
  else if !both then s
  else if l.1 && l.2 then
    let s : State := { s with guards := { s.guards with
      discBoth := s.guards.discBoth.filter (· != pair), discFirst := serase s.guards.discFirst pair } }
    match first with
    | some e => if s.now ≤ e.2 + s.tDisc then s.set ⟨GUARD_A_INPUTS_OFF, 16 + pair, 1⟩ 0 else s
    | none => s.set ⟨GUARD_A_INPUTS_OFF, 16 + pair, 1⟩ 0
  else if first.isNone then
    { s with guards := { s.guards with discFirst := sinsert s.guards.discFirst pair s.now } }
  else s

/-- The interval between the channels of a pair (R372): a channel's new level ends the interval that waited for it, and
starts one where the other channel does not have that level. -/
def State.discTimes (s : State) (g : Guard) (pair : Nat) (level : Bool) : State :=
  let mine := 4 * pair + 2 * guardNo g + bit level
  let wait := 4 * pair + 2 * guardNo (otherGuard g) + bit level
  let other := match g with | .a => (s.levels pair).2 | .b => (s.levels pair).1
  let ended := s.guards.discSince.find? (fun e => e.1 == wait)
  let l := serase s.guards.discSince wait
  let l := if other == level || l.any (fun e => e.1 == mine) then l else sinsert l mine s.now
  let s : State := { s with guards := { s.guards with discSince := l } }
  match ended with
  | none => s
  | some e =>
    let d := s.now - e.2
    if s.tDisc + s.discSlack < d then s.latchPair pair d
    else s.set GUARD_A_INPUTS_DISC_LAST (min (d / 100000) 0xFFFF)

/-- A terminal input's filtered level changes (R370, R371). -/
def State.terminal (s : State) (g : Guard) (zonePin level : Bool) : State :=
  let pair := bit zonePin
  let v := bit level
  let old := match g with | .a => (s.levels pair).1 | .b => (s.levels pair).2
  let s := match g with
    | .a => (s.set ⟨GUARD_A_INPUTS_OFF, 31 - 2 * pair, 1⟩ v).set ⟨GUARD_A_INPUTS_OFF, 30 - 2 * pair, 1⟩ v
    | .b => (s.set ⟨GUARD_B_INPUTS_OFF, 31 - 2 * pair, 1⟩ v).set ⟨GUARD_B_INPUTS_OFF, 30 - 2 * pair, 1⟩ v
  if old == level then s
  else if !s.house.mode.running then s.showGuards
  else
    let s := s.discTimes g pair level
    let s := (s.unlatch pair).showGuards
    if !level && !zonePin then s.stopDemand g 1 else s

/-- DISCREPANCY (R372): the other channel has not followed within T_DISC. -/
def State.discrepancy (s : State) (pair : Nat) : State :=
  match s.guards.discSince.find? (fun e => e.1 / 4 == pair && decide (s.tDisc ≤ (s.now - e.2) + s.discSlack)) with
  | some e => if s.house.mode.running then s.latchPair pair (s.now - e.2) else s
  | none => s

/-! ### Encoders (R374, R375) -/

/-- A number from bits, most significant first. -/
def msbNat (l : List Bool) : Nat := l.foldl (fun a b => 2 * a + bit b) 0

/-- The number that a Gray code stands for. -/
def grayNat (l : List Bool) : Nat :=
  msbNat (l.foldl (fun (a : List Bool × Bool) b => (a.1 ++ [b != a.2], b != a.2)) ([], false)).1

/-- A position jumps from the last valid one by more than the axis's limit (R375). -/
def ZoneTable.jumps (t : ZoneTable) (i old new : Nat) : Bool :=
  if i < 2 then
    let d : Nat := (axisDiff (t.axis i).bits new old).natAbs
    let w : Rat := ((if i = 0 then t.wPan else t.wTilt : Nat) : Rat)
    decide (5 / 4 * w * 50 / 1000000 * 16777216 < ((d : Rat) - 2) * ((t.axis i).scale.natAbs : Rat))
  else
    let step := fun (r : Nat) => (t.corner r - t.corner old).natAbs
    let lim : Rat := 5 / 4 * (t.wZoom : Rat) * 50 / 1000000 + degrees (max (step (old + 2)) (step (old - 2)))
    decide (lim < degrees (t.corner new - t.corner old).natAbs)

/-- The raw position that the 24 position bits of an SSI frame give (R374, R378). -/
def State.encReading (s : State) (g : Guard) (i : Nat) (bits : List Bool) : Nat :=
  let a := match s.zoneTable g with | some t => t.axis i | none => ⟨24, false, 0, 0⟩
  let field := (bits.take 24).drop (24 - a.bits)
  if a.gray then grayNat field else msbNat field

/-- The check value of an SSI frame is right (R374). -/
def encCrcOk (bits : List Bool) : Bool := msbNat ((bits.drop 26).take 8) == crc8 (bits.take 26)

/-- An SSI frame is valid (R375): the line was ready, the check value is right, ERROR is not set, and the position is within
reach of the last valid one. -/
def State.encAccepts (s : State) (g : Guard) (i : Nat) (bits : List Bool) (lineHigh : Bool) : Bool :=
  let jump := match s.zoneTable g, sget (fun _ => none) (s.guards.encRaw.map (fun e => (e.1, some e.2))) (3 * guardNo g + i) with
    | some t, some old => t.jumps i old (s.encReading g i bits)
    | _, _ => false
  !lineHigh && encCrcOk bits && !bits.getD 24 false && !jump

/-- An SSI frame (R374, R375): 24 position bits, ERROR, WARN and the CRC-8 over them. -/
def State.encoderFrame (s : State) (g : Guard) (i : Nat) (bits : List Bool) (lineHigh : Bool) : State :=
  let unit := match g with | .a => 10 | .b => 11
  let val := match g with | .a => GUARD_A_POS_VALID i | .b => GUARD_B_POS_VALID i
  let warnF := match g with | .a => GUARD_A_POS_WARN i | .b => GUARD_B_POS_WARN i
  let rawF := match g with | .a => GUARD_A_POS_RAW i | .b => GUARD_B_POS_RAW i
  let crcF := match g with | .a => GUARD_A_ENC_ERR_CRC_ERR | .b => GUARD_B_ENC_ERR_CRC_ERR
  let invF := match g with | .a => GUARD_A_ENC_ERR_INVALID | .b => GUARD_B_ENC_ERR_INVALID
  let key := 3 * guardNo g + i
  let crc := crc8 (bits.take 26)
  let ev := fun (s : State) => s.safetyEvent g 8 g.chan 0xFF i (s.encRaw .a i) (s.encRaw .b i) (s.get GUARD_A_STATUS_CAUSE)
  let crcOk := encCrcOk bits
  let ok := s.encAccepts g i bits lineHigh
  let raw := s.encReading g i bits
  let s := if lineHigh then s else if crcOk then s.cvuPass unit crc else s.cvuFail unit crc (msbNat ((bits.drop 26).take 8))
  if ok then
    let warn := bits.getD 25 false
    let was := s.flag warnF
    let s := ((s.set rawF raw).set val 1).setFlag warnF warn
    let s := { s with guards := { s.guards with
      encBad := serase s.guards.encBad key, encRaw := sinsert s.guards.encRaw key raw } }
    let s := s.showGuards
    if warn && !was then ev s else s
  else
    let s := if !lineHigh && !crcOk then s.bump crcF else s.bump invF
    let n := sget (fun _ => 0) s.guards.encBad key + 1
    let s := { s with guards := { s.guards with encBad := sinsert s.guards.encBad key n } }
    if n != 3 then s
    else
      let s := (s.set val 0).showGuards
      if !s.house.mode.running then s
      else
        let s := (s.ownPaths g).enterSafe g 7
        (ev s).fault 0x0703 (guardIsland g) (subj 11 (256 * guardNo g + i))

/-! ### Telegrams (R392, R393, R402 to R413) -/

/-- A frame arrives at a MAC (R401, R403). -/
def State.netFrame (s : State) (g : Guard) (destOk : Bool) (ethertype tags len : Nat) (fcsOk : Bool) (bytes : List Nat) : State :=
  let n := guardNo g
  let m := s.net g
  if m.phyReset then s
  else if len < 64 || 1522 < len then s
  else if !fcsOk then s.bump (GUARD_NET_OTHER_FCS_ERR n)
  else if !destOk || ethertype != s.get (GUARD_NET_TYPE_ETHERTYPE n) || 1 < tags then s
  else if 8 ≤ m.buffer.length then
    (s.bump (GUARD_NET_DISC_HIGH n 2)).set (GUARD_NET_STATUS_LAST_DISCARD n) 1
  else s.setNet g { m with buffer := m.buffer ++ [(bytes.take 32, s.now)] }

/-- DEMAND of a copy. -/
def Copy.demand (c : Copy) : Nat := c.bytes.getD 16 0
/-- SEQ of a copy. -/
def Copy.seq (c : Copy) : Nat := field c.bytes 4 4
/-- TIME of a copy, ns. -/
def Copy.time (c : Copy) : Nat := field c.bytes 8 8
/-- ZONES of a copy. -/
def Copy.zones (c : Copy) : Nat := field c.bytes 20 4
/-- A copy carries STOP. -/
def Copy.stop (c : Copy) : Bool := c.demand % 2 == 1
/-- A copy counts as RESET set (R412). -/
def Copy.reset (c : Copy) : Bool := c.demand / 2 % 2 == 1 && !c.stop

/-- The format check of R406. -/
def copyFormat (b : List Nat) : Bool :=
  b.getD 0 0 == 1 && decide (b.getD 16 0 < 4) && b.getD 17 0 + b.getD 16 0 == 255 && field b 18 2 == 0
    && field b 20 4 + field b 24 4 == 2 ^ 32 - 1

/-- TG_PERIOD and TS_TOL of a network, ns. -/
def State.tgPeriod (s : State) (g : Guard) : Nat := 10000 * s.get (GUARD_NET_TIMING_PERIOD (guardNo g))
def State.tsTol (s : State) (g : Guard) : Nat := 10000 * s.get (GUARD_NET_TIMING_TS_TOL (guardNo g))

/-- The timing check of R407 fails. -/
def State.copyLate (s : State) (g : Guard) (last c : Copy) : Bool :=
  let da : Int := ((c.at_ / 1000 * 1000 : Nat) : Int) - ((last.at_ / 1000 * 1000 : Nat) : Int)
  let dt : Int := (c.time : Int) - (last.time : Int)
  if c.at_ ≤ last.at_ + s.linkTimeout then
    decide (dt ≤ 0) || decide (2 * da < (s.tgPeriod g : Int)) || decide ((s.tsTol g) < (dt - da).natAbs)
  else decide (dt ≤ 0)

/-- The code of R406 for a copy; 7 stands for FOREIGN. -/
def State.copyCode (s : State) (g : Guard) (b : List Nat) (c : Copy) : Nat :=
  let n := guardNo g
  if crc32c (b.take 28) != field b 28 4 then 2
  else if !copyFormat b then 3
  else if b.getD 1 0 != s.get (GUARD_NET_CFG_GROUP n) && b.getD 1 0 != 255 then 7
  else if field b 2 2 != s.get (GUARD_NET_CFG_SOURCE_ID n) then 4
  else match (s.net g).last with
    | none => 0
    | some l => if decide (frameDiff c.seq l.seq ≤ 0) then 5 else if s.copyLate g l c then 6 else 0

/-- STOP and ZONES as the fresh networks' latest copies give them (R411). -/
def State.combine (s : State) : State :=
  let cs := ([Guard.a, Guard.b].filter (fun g => s.fresh g)).filterMap (fun g => (s.net g).last)
  if cs == [] then s
  else
    let stop := cs.any Copy.stop
    let zones := cs.foldl (fun a c => a ||| c.zones) 0
    let differ := match cs with | [a, b] => a.seq == b.seq && a.bytes != b.bytes | _ => false
    { s with guards := { s.guards with
      tgStop := stop || (differ && s.guards.tgStop), tgZones := if differ then zones ||| s.guards.tgZones else zones } }

/-- SF-LINK stops acting (R393, R397). -/
def State.linkClears (s : State) : State :=
  let s := (s.set GUARD_A_STATUS_LINK 0).set ⟨GUARD_B_STATUS_OFF, 28, 2⟩ 0
  s.showGuards.safetyEvent .a 6 3 0xFF 0 0 0 (s.get GUARD_A_STATUS_CAUSE)

/-- A valid copy counts toward the end of RESTRICT (R393); BLACKOUT stops acting once a network is fresh
(notes/assumptions/31.md). -/
def State.linkRecovers (s : State) (g : Guard) (c : Copy) : State :=
  match s.get GUARD_A_STATUS_LINK with
  | 3 => s.linkClears
  | 2 =>
    let u := s.guards
    if u.recoverSeq == some c.seq then s
    else
      let n := if 0 < u.recover && decide (c.at_ ≤ u.recoverAt + s.tgPeriod g + s.tsTol g) then u.recover + 1 else 1
      let s := { s with guards := { u with recover := n, recoverSeq := some c.seq, recoverAt := c.at_ } }
      if n < 3 then s
      else ({ s with guards := { s.guards with recover := 0, recoverSeq := none } }).linkClears
  | _ => s

/-- A discarded copy is counted under its code (R406). -/
def State.copyDiscard (s : State) (g : Guard) (code : Nat) : State :=
  let n := guardNo g
  let f := match code with
    | 2 => GUARD_NET_DISC_HIGH n 0
    | 3 => GUARD_NET_DISC_LOW n 0
    | 4 => GUARD_NET_DISC_LOW n 2
    | 5 => GUARD_NET_DISC_HIGH n 1
    | _ => GUARD_NET_DISC_LOW n 1
  (s.bump f).set (GUARD_NET_STATUS_LAST_DISCARD n) code

/-- A valid copy acts (R392, R411, R412). -/
def State.copyActs (s : State) (g : Guard) (c : Copy) : State :=
  let n := guardNo g
  let m := s.net g
  let edge := match m.last with
    | some l => if c.reset && !l.reset then some (c.seq, s.now) else m.edge
    | none => m.edge
  let s := if edge == m.edge then s else s.setReg (GUARD_NET_RESET_OFF n) c.seq
  let s := s.setNet g { m with last := some c, edge := edge, staleSeen := false }
  let s := (s.setReg (GUARD_NET_SEQ_OFF n) c.seq).set (GUARD_NET_DEMAND_DEMAND n) c.demand
  let s := (s.setReg (GUARD_NET_ZONES_OFF n) c.zones).count (GUARD_NET_VALID_COUNT n)
  let was := s.guards.tgStop
  let s := (s.combine.linkRecovers g c).showGuards
  if c.stop && !was then s.stopDemand g 2 else s

/-- TELEGRAM_CHECK (R406): the oldest copy in the buffer. -/
def State.telegramCheck (s : State) (g : Guard) : State :=
  let m := s.net g
  match m.buffer with
  | [] => s
  | (b, at_) :: rest =>
    let c : Copy := ⟨b.take 28, at_⟩
    let code := s.copyCode g b c
    let crc := crc32c (b.take 28)
    let s := if code == 2 then s.cvuFail (guardNo g) crc (field b 28 4) else s.cvuPass (guardNo g) crc
    let s := s.setNet g { m with buffer := rest, crcRun := code == 2 }
    if code == 0 then s.copyActs g c
    else if code == 7 then s.bump (GUARD_NET_OTHER_FOREIGN (guardNo g))
    else
      let s := s.copyDiscard g code
      if code == 2 && !m.crcRun then s.fault 0x070C (guardIsland g) (subj 13 (guardNo g)) else s

/-- TELEGRAM_SINGLE (R410): no copy with the SEQ of this network's last copy has come on the other one. -/
def State.telegramSingle (s : State) (g : Guard) : State :=
  let m := s.net g
  match m.last with
  | none => s
  | some c =>
    let other := match (s.net (otherGuard g)).last with | some d => d.seq == c.seq | none => false
    if m.compared == some c.seq || other || decide (s.now < c.at_ + s.tgPeriod g) then s
    else
      let s := s.setNet g { m with compared := some c.seq }
      (s.bump (GUARD_NET_COMPARE_SINGLE 0)).bump (GUARD_NET_COMPARE_SINGLE 1)

/-- SF-LINK acts with LINK_MODE (R393). -/
def State.linkStarts (s : State) : State :=
  let v := if s.flag GUARD_A_CFG_LINK_MODE then 2 else 3
  let s := (s.set GUARD_A_STATUS_LINK v).set ⟨GUARD_B_STATUS_OFF, 28, 2⟩ v
  let age := fun (s : State) (g : Guard) => s.age16 ((s.net g).last.map (·.at_))
  let s := { s with guards := { s.guards with recover := 0, recoverSeq := none } }
  let s := s.safetyEvent .a 5 3 0xFF 0 (age s .a) (age s .b) (s.get GUARD_A_STATUS_CAUSE)
  s.fault 0x0707 7 0

/-- LINK_TIMEOUT (R393): the age of a network has passed LINK_TIMEOUT. -/
def State.linkTimeoutPasses (s : State) (g : Guard) : State :=
  let m := s.net g
  if s.fresh g || !s.house.mode.running then s
  else
    let s := s.showGuards
    if !s.fresh (otherGuard g) && s.house.mode.emitting then
      let s := s.setNet g { m with staleSeen := true }
      if s.linkActs then s else s.linkStarts
    else if m.staleSeen then s
    else (s.setNet g { m with staleSeen := true }).fault 0x0708 (guardIsland g) (subj 13 (guardNo g))

/-- PHY_POLL (R402): the PHY's answer, link, 100 Mb/s and full duplex, or none. -/
def State.phyPoll (s : State) (g : Guard) (answer : Option (Bool × Bool × Bool)) : State :=
  let n := guardNo g
  let m := s.net g
  if m.phyReset then s
  else match answer with
    | some (link, fast, full) =>
      let s := s.setNet g { m with phyMiss := 0 }
      (((s.setFlag (GUARD_NET_STATUS_PHY_LINK n) link).setFlag (GUARD_NET_STATUS_SPEED100 n) fast).setFlag
        (GUARD_NET_STATUS_FULL_DUPLEX n) full).set (GUARD_NET_STATUS_PHY_FAULT n) 0
    | none =>
      let s := s.setNet g { m with phyMiss := m.phyMiss + 1 }
      if m.phyMiss + 1 != 3 then s
      else (s.set (GUARD_NET_STATUS_PHY_FAULT n) 1).fault 0x070E (guardIsland g) (subj 13 n)

/-! ### SAFE and restart (R396), cross-comparison (R366, R367) -/

/-- The open bit of the fault behind a SAFE cause (R395, R467). -/
def causeBit : Nat → Option Nat
  | 3 => some 34
  | 4 => some 35
  | 5 => some 22
  | 6 => some 20
  | 7 => some 18
  | 8 => some 19
  | 9 => some 24
  | 10 => some 36
  | 11 => some 25
  | _ => none

/-- The first condition of R396 from 1 to 6 that does not hold, none where all do. -/
def State.restartFails (s : State) : Option Nat :=
  let l := s.levels 0
  if !l.1 || !l.2 || s.guards.tgStop then some 1
  else if s.latched 0 || s.latched 1 then some 2
  else if s.linkActs then some 3
  else if !s.encodersValid || s.axesApart != [] then some 4
  else if s.guards.overRun != [] || s.guards.photoRun != 0 || s.flag GUARD_B_PHOTO_FAULT then some 5
  else match causeBit (s.get GUARD_A_STATUS_CAUSE) with
    | some b => if s.flag (openBit b) then some 6 else none
    | none => none

/-- SAFE is left for DARK (R396). -/
def State.leaveSafe (s : State) : State :=
  let s := (s.unhold (fun h => h == .safe)).ungate (fun g => g.1 == .stop)
  let s := (s.setCause false 0).enter .dark 9 0
  let s : State := { s with house := { s.house with overlayDue := some 1 } }
  s.safetyEvent .a 0x0B 3 0xFF 0 0 0 0

/-- A reset demand is recognised (R412): every fresh network has delivered an edge within 2 × TG_PERIOD of the first. -/
def State.resetRecognised (s : State) : Bool :=
  let fs := [Guard.a, Guard.b].filter (fun g => s.fresh g)
  let es := fs.filterMap (fun g => (s.net g).edge)
  let ts := es.map (·.2)
  fs != [] && es.length == fs.length
    && ts.all (fun a => ts.all (fun b => decide (a ≤ b + 2 * s.tgPeriod .a)))

/-- The evaluation of a recognised reset demand at a record (R396, R412). -/
def State.resetEvaluate (s : State) : State :=
  let s := { s with guards := { s.guards with resetSeen := false } }
  if s.house.mode != .safe then s
  else match s.restartFails with
    | some n => s.safetyEvent .a 0x0C 3 0xFF n 0 0 (s.get GUARD_A_STATUS_CAUSE)
    | none =>
      if s.guards.restartRun < 3 then s.safetyEvent .a 0x0C 3 0xFF 8 0 0 (s.get GUARD_A_STATUS_CAUSE)
      else s.leaveSafe

/-- The restart's part of a record (R396, R412), taken at GUARD_A's records. -/
def State.restartRecord (s : State) : State :=
  let ok := s.house.mode == .safe && s.restartFails == none
  let s := { s with guards := { s.guards with restartRun := if ok then s.guards.restartRun + 1 else 0 } }
  if s.guards.resetSeen then s.resetEvaluate
  else if s.resetRecognised then
    let clear := fun (n : Net) => { n with edge := none }
    { s with guards := { s.guards with
      resetSeen := true, netA := clear s.guards.netA, netB := clear s.guards.netB } }
  else s

/-- The comparison of the two guards' last copies (R410). -/
def State.compareCopies (s : State) (g : Guard) : State :=
  match (s.net .a).last, (s.net .b).last with
  | some a, some b =>
    let m := s.net g
    if a.seq != b.seq || m.compared == some a.seq then s
    else
      let s := s.setNet g { m with compared := some a.seq }
      if a.bytes == b.bytes then { s with guards := { s.guards with differRun := false } }
      else
        let s := s.bump (GUARD_NET_COMPARE_DIFFER (guardNo g))
        if s.guards.differRun then s
        else ({ s with guards := { s.guards with differRun := true } }).fault 0x070D (guardIsland g) 0
  | _, _ => s

/-- An item that only time explains (R366): true where it has differed for more than two records. -/
def State.itemLasts (s : State) (g : Guard) (item : Nat) (differs : Bool) : Bool × State :=
  let key := 16 * guardNo g + item
  let n := sget (fun _ => 0) s.guards.itemRun key
  if differs then (decide (2 ≤ n), { s with guards := { s.guards with itemRun := sinsert s.guards.itemRun key (n + 1) } })
  else (false, { s with guards := { s.guards with itemRun := serase s.guards.itemRun key } })

/-- Encoder positions in a record (R366, R376): three records apart in a row are ENC_DISAGREE. -/
def State.compareAxes (s : State) (g : Guard) : State :=
  let apart := s.axesApart
  let runs := apart.map (fun i => (i, sget (fun _ => 0) s.guards.encDiff i + 1))
  let s := { s with guards := { s.guards with encDiff := runs } }
  (runs.filter (fun e => e.2 == 3)).foldl (fun (s : State) e =>
    let s := (s.ownPaths g).enterSafe g 8
    let s := s.safetyEvent g 8 3 0xFF e.1 (s.encRaw .a e.1) (s.encRaw .b e.1) (s.get GUARD_A_STATUS_CAUSE)
    s.fault 0x0704 (guardIsland g) (subj 11 (256 * guardNo g + e.1))) s

/-- The record that a guard sends: its filtered terminals, raw positions, hash, σ, safe-state decision and enables, and
its last copy (R366, R410). -/
def State.guardRecord (s : State) (g : Guard) : List Nat :=
  let copy := match (s.net g).last with | some c => c.bytes | none => []
  let own := match g with
    | .a => [s.reg GUARD_A_INPUTS_OFF, s.get GUARD_A_ZONE_HASH_HASH, s.reg GUARD_A_STATUS_OFF]
    | .b => [s.reg GUARD_B_INPUTS_OFF, s.get GUARD_B_ZONE_HASH_HASH, s.reg GUARD_B_STATUS_OFF]
  own ++ (List.range 3).map (fun i => s.encRaw g i) ++ copy

/-- XCMP_CYCLE (R366): a guard sends its record, which the other receives, and compares the record it has received. -/
def State.xcmpCycle (s : State) (g : Guard) : State :=
  if !s.house.mode.running then s
  else
    let s := s.emit (.guardLink (guardIsland g) (s.guardRecord g))
    let s : State := match g with
      | .a => { s with guards := { s.guards with recAtB := s.now } }
      | .b => { s with guards := { s.guards with recAtA := s.now } }
    let l := (s.levels 0, s.levels 1)
    let s := match g with
      | .a => ((s.setFlag GUARD_A_INPUTS_STOP_B l.1.2).setFlag GUARD_A_INPUTS_ZONE_B l.2.2).count GUARD_A_XCMP_RECORDS
      | .b => s
    let s := if g == .a then s.compareAxes g else s
    let hash := s.get GUARD_A_ZONE_HASH_HASH != s.get GUARD_B_ZONE_HASH_HASH
    let r4 := s.itemLasts g 4 (s.guards.sigmaA != s.guards.sigmaB)
    let safe := s.flag GUARD_A_STATUS_SAFE != s.flag ⟨GUARD_B_STATUS_OFF, 31, 1⟩
      || s.get GUARD_A_STATUS_CAUSE != s.get GUARD_B_STATUS_CAUSE
      || s.get GUARD_A_STATUS_EN_A != s.get GUARD_B_STATUS_EN_B
    let r7 := r4.2.itemLasts g 7 safe
    let item := if hash then some 3 else if r4.1 then some 4 else if r7.1 then some 7 else none
    let s := r7.2.compareCopies g
    let ok := item == none && s.axesApart == []
    let s := match g with
      | .a => s.setFlag GUARD_A_STATUS_XCMP_OK ok
      | .b => s.setFlag ⟨GUARD_B_STATUS_OFF, 26, 1⟩ ok
    let s := s.combine.showGuards
    match item with
    | some n =>
      (s.set GUARD_A_XCMP_ITEM n).faultVal 0x0701 (guardIsland g) (subj 14 (guardIsland g)) n 0
    | none => if g == .a then s.restartRecord else s

/-- XCMP_LOST (R367): no valid record for 300 µs. -/
def State.xcmpLost (s : State) (g : Guard) : State :=
  let at_ := match g with | .a => s.guards.recAtA | .b => s.guards.recAtB
  if !s.house.mode.running || decide (s.now < 300000 + at_) then s
  else
    let s := s.ownPaths g
    let s := s.hold .xcmp 0 0
    let s := match g with
      | .a => s.set GUARD_A_STATUS_XCMP_OK 0
      | .b => s.set ⟨GUARD_B_STATUS_OFF, 26, 1⟩ 0
    s.fault 0x0702 (guardIsland g) (subj 14 (guardIsland g))

/-- GUARD_DECISION_MESSAGE (R364): a guard that has not yet acted on the other's decision acts on its own paths. -/
def State.guardFollows (s : State) (g : Guard) : State :=
  let safe := match g with | .a => s.flag GUARD_A_STATUS_SAFE | .b => s.flag ⟨GUARD_B_STATUS_OFF, 31, 1⟩
  let cause := match g with | .a => s.get GUARD_B_STATUS_CAUSE | .b => s.get GUARD_A_STATUS_CAUSE
  if s.house.mode != .safe || safe then s else (s.ownPaths g).setSafe g true cause

/-! ### The guards' own checks (R33, R469, R486) -/

/-- GUARD_INTERNAL (R469): the guard's own paths at once, SAFE with cause 11. -/
def State.guardInternal (s : State) (g : Guard) (value : Nat) : State :=
  let s := if s.house.mode.running then s.ownPaths g else s
  s.faultVal 0x070B (guardIsland g) (subj 14 (guardIsland g)) value 0

/-- CLOCK_CHECK_WINDOW (R33): the deviation that a whole window shows, in units of 0.01 %. Every window above 0.5 % in a state
other than SAFE takes the module to SAFE, also one of a deviation that an earlier window has shown. -/
def State.clockCheck (s : State) (g : Guard) (deviation : Nat) : State :=
  let bad := decide (50 < deviation)
  let known := s.guards.clockBad.contains (guardNo g)
  let rest := s.guards.clockBad.filter (· != guardNo g)
  let s := { s with guards := { s.guards with clockBad := if bad then guardNo g :: rest else rest } }
  if !bad || !s.house.mode.running || (known && s.house.mode == .safe) then s
  else
    let s := (s.ownPaths g).enterSafe g 9
    s.faultVal 0x070A (guardIsland g) (subj 14 (guardIsland g)) deviation 50

/-- GUARD_WATCHDOG_EXPIRY (R469). -/
def State.guardWatchdog (s : State) (g : Guard) : State :=
  let l := s.guards.watchdog
  ({ s with guards := { s.guards with watchdog := if l.contains (guardNo g) then l else guardNo g :: l } }).guardInternal g 4

/-- A test of a guard ends (R486, R422): kinds 0 a detector, 1 the enables, 2 the pass switches, 16 + n check-value
unit n. -/
def State.guardTestEnds (s : State) (g : Guard) (kind : Nat) (passed : Bool) : State :=
  let key := 64 * guardNo g + kind
  let rest := s.guards.failedTest.filter (· != key)
  if passed then
    let s : State := { s with guards := { s.guards with failedTest := rest } }
    let s := if 16 ≤ kind then s.set (CVU_UNIT_CFG_SELFTEST_OK (kind - 16)) 1 else s
    s.count KEEPER_INJ_STATUS_GUARD_TESTS
  else
    let s : State := { s with guards := { s.guards with failedTest := key :: rest } }
    let s := s.guardInternal g 3
    if 16 ≤ kind then
      (s.set (CVU_UNIT_CFG_SELFTEST_OK (kind - 16)) 0).report ⟨0x0904, guardIsland g, subj 15 (kind - 16), 0, 0, 0, 2⟩
    else s

/-- A master holds LOCK_10. -/
def State.testLocked (s : State) : Bool := s.hk.holder.any (fun h => h.1 == 10)

/-- A guard takes LOCK_10 for a test and gives it back (R357, R486). -/
def State.testLock (s : State) : State :=
  let s := s.count (LOCK_PEEK_COUNT 10)
  s.set (LOCK_COUNT 10) (s.get (LOCK_PEEK_COUNT 10))

/-- GUARD_TEST (R486, R422). A test that another master's hold of LOCK_10 keeps waiting for 60 s runs without the lock. -/
def State.guardTest (s : State) (g : Guard) (kind : Nat) (passed : Bool) : State :=
  (if s.testLocked then s.fault 0x0905 9 0 else s.testLock).guardTestEnds g kind passed

/-- The pass-switch test of an entry into an emitting state (R486, R494). -/
def State.passTest (s : State) (passed : Bool) : State :=
  (if s.testLocked then s else s.testLock).guardTestEnds .b 2 passed

/-- The guards begin to evaluate their inputs (R365): what is present at that moment acts at once. -/
def State.guardsEvaluate (s : State) : State :=
  let s := { s with guards := { s.guards with recAtA := s.now, recAtB := s.now, itemRun := [], encDiff := [] } }
  let s := s.showGuards
  let start := fun (s : State) (pair : Nat) =>
    let l := s.levels pair
    if l.1 == l.2 then s
    else { s with guards := { s.guards with
      discSince := sinsert s.guards.discSince (4 * pair + (if l.1 then 2 else 0)) s.now } }
  let s := start (start s 0) 1
  let s := if !(s.levels 0).1 then s.stopDemand .a 1 else s
  let s := if !(s.levels 0).2 then s.stopDemand .b 1 else s
  let s := if s.guards.tgStop then s.stopDemand .a 2 else s
  (List.range 6).foldl (fun (s : State) k =>
    let g := if k < 3 then Guard.a else Guard.b
    if 3 ≤ sget (fun _ => 0) s.guards.encBad k then
      (((s.ownPaths g).enterSafe g 7)).fault 0x0703 (guardIsland g) (subj 11 (256 * guardNo g + k % 3))
    else s) s

/-- The conditions of R365 for an entry into an emitting state. -/
def State.guardsAllow (s : State) : Bool :=
  !s.pairDemand 0 && !s.guards.tgStop && s.house.mode != .safe
    && !(s.linkActs && !s.flag GUARD_A_CFG_LINK_MODE)
    && (s.flag GUARD_A_CFG_LINK_MODE || s.fresh .a || s.fresh .b)
    && s.guards.zoneA.isSome && s.guards.zoneB.isSome && s.encodersValid
    && s.flag GUARD_A_STATUS_XCMP_OK && s.flag ⟨GUARD_B_STATUS_OFF, 26, 1⟩

/-- SF-LINK at an entry with both networks stale under RESTRICT (R365). -/
def State.linkEntry (s : State) : State :=
  if s.fresh .a || s.fresh .b || s.linkActs || !s.flag GUARD_A_CFG_LINK_MODE then s else s.linkStarts

end Sys2Proof.Machine
end

