-- ==== Sys2Proof/Machine/Twin.lean ====
section
/-! DEFINITION. Twin operation (chapter 13): the LIGHT pair and the step, TICK, SPLICE frames, pairing, the belay token,
mirroring, set-level events, joins and planned hand-overs. -/

namespace Sys2Proof.Machine

open Reg

/-! ### The partner as it is heard -/

/-- The twin links run: the module is a twin and its frame timer runs (R424, R433, R437). -/
def State.twinRuns (s : State) : Bool := s.twinEn && s.timerRuns

/-- The partner's latest heartbeat, of the two paths (R434, R437). -/
def State.heartbeat (s : State) : Option Heartbeat :=
  match s.twin.beatTick, s.twin.beatStatus with
  | some a, some b => some (if b.at_ ≤ a.at_ then a else b)
  | some a, none => some a
  | none, b => b

/-- The partner's latest heartbeat reports JOIN. -/
def State.peerJoins (s : State) : Bool :=
  match s.heartbeat with
  | some h => h.join
  | none => false

/-- A path is silent: nothing valid has arrived on it for 30 ms (R443, R446). -/
def State.pathSilent (s : State) (at_ : Option Nat) : Bool :=
  match at_ with
  | none => true
  | some x => decide (30000000 + x ≤ s.now)

/-- Both heartbeat paths have been silent for 30 ms. -/
def State.bothSilent (s : State) : Bool := s.pathSilent s.twin.tickAt && s.pathSilent s.twin.spliceAt

/-! ### Share and step (R118, R428 to R432) -/

/-- SEL of the four colours: 1 FULL_CODE, 0 HALF_CODE (R118). -/
def State.setSel (s : State) (full : Bool) : State :=
  (List.range 4).foldl (fun (s : State) c => s.setFlag (TONE_GREF_SEL c) full) s.touch

/-- The firmware's part of a step (R429, items 3 and 4): STEPPED, the SHARE_STEP event, and SOLO at the first frame boundary
at least 50 µs later. A requested change is superseded (R493). -/
def State.stepFollows (s : State) : State :=
  let s := (s.set SPLICE_STATUS_STEPPED 1).count SPLICE_COUNTS_STEPS
  let s := { s with twin := { s.twin with stepAt := some s.now } }
  let s := s.twinEvent 0x08 true s.beat
  (s.abandon 0x0E 0x8A).setChange (some ⟨.solo, 3, none, 50000 + s.now, none, false, some 3⟩)

/-- The step of R429 acts in ANODE and TONE: an armed twin in SHOW that has not stepped. -/
def State.stepNow (s : State) : State :=
  if s.house.mode == .show && s.flag SPLICE_STATUS_ARMED && !s.flag SPLICE_STATUS_STEPPED then (s.setSel true).stepFollows
  else s

/-- A guard's receiver reads valid dark. -/
def State.guardDark (s : State) : Guard → Bool
  | .a => s.flag GUARD_A_INPUTS_LIGHT_VALID && s.flag GUARD_A_INPUTS_LIGHT_DARK
  | .b => s.flag GUARD_B_INPUTS_LIGHT_VALID && s.flag GUARD_B_INPUTS_LIGHT_DARK

/-- A guard steps σ to 1.0 on its own valid dark reading, while the step is armed in SHOW (R381, R429). -/
def State.guardStep (s : State) (g : Guard) : State :=
  if s.house.mode == .show && s.flag SPLICE_STATUS_ARMED && s.guardDark g then s.setShare g 2 else s

/-- STEP_ARM (R428): in SHOW, JOIN clear at both twins, and ANODE's receiver valid emitting for 4.0 µs. -/
def State.stepArm (s : State) : State :=
  if s.twinEn && s.house.mode == .show && !s.flag SPLICE_STATUS_JOIN && !s.peerJoins
      && s.get SPLICE_STATUS_LIGHT_IN == 0 && decide (s.twin.lightSince + 4000 ≤ s.now) then
    ((s.set SPLICE_STATUS_ARMED 1).guardStep .a).guardStep .b
  else s

/-- JOIN_FAIL (R428): the step is still unarmed 100 µs after JOIN cleared. -/
def State.joinFail (s : State) : State :=
  match s.twin.joinEndAt with
  | none => s
  | some x =>
    if s.house.mode == .show && !s.flag SPLICE_STATUS_JOIN && !s.flag SPLICE_STATUS_ARMED && decide (100000 + x ≤ s.now) then
      let s := { s with twin := { s.twin with joinEndAt := none } }
      let s := (s.setSel true).fault 0x0803 8 0
      (s.twinEvent 0x0B true 1).stepFollows
    else s

/-- The time from which R432 counts a module's share of 1.0. -/
def State.shareTime (s : State) : Nat := s.twin.stepAt.getD s.now

/-- Evidence at share 1.0 that the partner is lit (R432): 1 by its LIGHT pair, 2 by a heartbeat, 0 none. -/
def State.litEvidence (s : State) : Nat :=
  let share := (s.house.mode == .show && s.flag SPLICE_STATUS_STEPPED) || s.house.mode == .solo || s.house.mode == .calibrate
  if !s.twinEn || !share then 0
  else match s.heartbeat with
    | none => 0
    | some h =>
      if s.get SPLICE_STATUS_LIGHT_IN == 0 && decide (s.now ≤ 1000000 + h.at_) && !h.join then 1
      else if decide (100000 + s.shareTime < h.at_) && h.lit && !h.join then 2
      else 0

/-- The evidence of R432 is looked at: since when it has lasted. -/
def State.noteEvidence (s : State) : State :=
  let since := if s.litEvidence == 0 then none else match s.twin.conflictSince with
    | some x => some x
    | none => some s.now
  { s with twin := { s.twin with conflictSince := since } }

/-- LIGHT_CONFLICT (R432): evidence has lasted 200 µs; the enables go, the module leaves for DARK, and the fault is
recorded. -/
def State.lightConflict (s : State) : State :=
  let s := s.noteEvidence
  match s.twin.conflictSince with
  | none => s
  | some x =>
    let kind := s.litEvidence
    let leaving := match s.house.change with
      | some c => c.cause == 7
      | none => false
    if kind == 0 || leaving || s.now < 200000 + x then s
    else
      let s := s.disable.abandon 0x0E 0x8A
      let s := s.setChange (some ⟨.dark, 7, none, 0, none, false, some 1⟩)
      (s.twinEvent 0x0D false kind).fault 0x0802 8 0

/-- The hand-over by heartbeat (R431): while the reading is invalid, a heartbeat that completed after it became so
reports the partner unlit in a state other than SHOW and SOLO; SHOW goes to SOLO at the next boundary. -/
def State.heartbeatHandover (s : State) (h : Heartbeat) : State :=
  let mine := match s.house.change with
    | some c => c.cause == 3 || c.cause == 4 || c.cause == 7
    | none => false
  if s.house.mode == .show && s.get SPLICE_STATUS_LIGHT_IN == 2 && decide (s.twin.lightSince < h.at_) && !h.lit
      && h.state != 2 && h.state != 3 && !mine then
    (s.abandon 0x0E 0x8A).setChange (some ⟨.solo, 4, none, s.now, none, false, some 3⟩)
  else s

/-- A heartbeat is taken: PARTNER_STATE, the hand-over of R431, the evidence of R432. -/
def State.heartbeatTaken (s : State) (h : Heartbeat) : State :=
  ((s.set SPLICE_STATUS_PARTNER_STATE h.state).heartbeatHandover h).noteEvidence

/-- What a receiver's level pair reads (R427): 0 emitting, 1 dark, 2 invalid. -/
def lightReading (p n : Bool) : Nat := if p && !n then 0 else if !p && n then 1 else 2

/-- ANODE's receiver qualifies a reading (R427, R429, R431). -/
def State.lightAnode (s : State) (p n : Bool) : State :=
  let new := lightReading p n
  let old := s.get SPLICE_STATUS_LIGHT_IN
  let tw := s.twin
  let raw := 2 * bit p + bit n
  if new == old && raw == tw.lightRaw then s
  else
    let noted := tw.lightNoted && !(old != 2 && new == 2 && decide (1000000 + tw.lightValidAt ≤ s.now))
    let s := { s with twin := { tw with
      lightRaw := raw
      lightSince := if new == old then tw.lightSince else s.now
      lightValidAt := if old == 2 && new != 2 then s.now else tw.lightValidAt
      lightNoted := noted } }
    let s := s.set SPLICE_STATUS_LIGHT_IN new
    (if new == 1 then s.stepNow else s).noteEvidence

/-- LIGHT_INPUT_QUALIFIED (R427): receiver 0 is ANODE's, 1 GUARD_A's, 2 GUARD_B's. -/
def State.lightInput (s : State) (receiver : Nat) (p n : Bool) : State :=
  let new := lightReading p n
  if !s.twinEn then s
  else match receiver with
    | 0 => s.lightAnode p n
    | 1 => ((s.setFlag GUARD_A_INPUTS_LIGHT_VALID (new != 2)).setFlag GUARD_A_INPUTS_LIGHT_DARK (new == 1)).guardStep .a
    | 2 => ((s.setFlag GUARD_B_INPUTS_LIGHT_VALID (new != 2)).setFlag GUARD_B_INPUTS_LIGHT_DARK (new == 1)).guardStep .b
    | _ => s

/-- LIGHT_INVALID (R431): the reading has been invalid for 100 µs without a break. -/
def State.lightInvalid (s : State) : State :=
  if s.twinEn && s.get SPLICE_STATUS_LIGHT_IN == 2 && !s.twin.lightNoted && decide (100000 + s.twin.lightSince ≤ s.now) then
    let s := { s with twin := { s.twin with lightNoted := true } }
    (s.fault 0x0801 8 0).twinEvent 0x0C false s.twin.lightRaw
  else s

/-! ### The dark decision (R426) -/

/-- The beat count of a time within the frame, by its actual period; none in the strike (R56, R57, R61). -/
def State.beatCount (s : State) : Option Nat :=
  let beats := s.framePeriod - 1000
  let k := 131072 * (s.now - s.timer.boundaryAt) / max 1 beats
  if 131072 ≤ k then none else some (k % 4096)

/-- Expected current of one channel over a step of 64 beat counts, A·10^6 × 4,095 × 4,092 × 2^23 × 64 (R85, R89, R114). -/
def State.expectChannel (s : State) (pix c w step : Nat) : Nat :=
  let sec := sectorOf (pix % 1024) (pix / 1024)
  let off := if s.timer.stagger then 64 * sec else 0
  let start := (64 * step + off) % 4096
  160 * s.globalCode c * s.sectorFactor sec c * s.ratio (quadOf (pix % 1024) (pix / 1024)) c (wordRange w c)
    * min 64 (wordDuty w c - start)

/-- The expected total anode current at this moment, in mA, exactly (R426): of the struck words, the codes in force and
SEL, in steps of 64 beat counts; 0 in a strike. -/
def State.expectedMa (s : State) : Rat :=
  match s.beatCount with
  | none => 0
  | some k =>
    let sum := s.litPixels.foldl (fun a p => (List.range 4).foldl (fun a c => a + s.expectChannel p.1 c p.2 (k / 64)) a) 0
    (sum : Rat) / ((4095 * 4092 * 8388608 * 64 * 1000 : Nat) : Rat)

/-- SELF_DARK follows a dark decision (R394): in SHOW, and in a twin's SOLO and CALIBRATE, unless the module already leaves
its state under R432 or under the exit sequence of R495. -/
def State.darkFollows (s : State) : State :=
  let leaving := match s.house.change with
    | some c => c.cause == 7 || (s.house.mode != .show && !c.target.emitting)
    | none => false
  if (s.house.mode == .show || s.twinEn) && !leaving then s.selfDark else s

/-- ANODE_CURRENT_SAMPLE (R426): an average over 1.0 µs, mA. -/
def State.anodeCurrent (s : State) (measuredMa : Nat) : State :=
  let low := s.house.mode.emitting && decide ((measuredMa : Rat) + 200 < s.expectedMa / 2)
  let run := if low then s.twin.lowRun + 1 else 0
  let s := { s with twin := { s.twin with lowRun := run } }
  if run < 4 || s.twin.darkMade then s
  else
    let s := { s with twin := { s.twin with darkMade := true } }
    (s.driveLight.fault 0x060D 6 0).darkFollows

/-! ### TICK (R433, R434, R439) -/

/-- The exclusive-or of the six nibbles of bits [27:4] (R434). -/
def tickCheck (w : Nat) : Nat := (List.range 6).foldl (fun a i => a ^^^ getBits w (4 * i + 4) 4) 0

/-- The 28 data cells of a TICK word (R434), most significant first in time. -/
def State.tickCells (s : State) (renew : Bool) (state : Nat) : Nat :=
  let w := 2 ^ 20 * (s.get SPLICE_EPOCH_EPOCH % 256) + 2 ^ 18 * s.role + 2 ^ 17 * bit s.house.lightOut + 2 ^ 16 * bit renew
    + 2 ^ 12 * state + s.get SPLICE_STATUS_JOIN * 2 ^ 11 + s.twin.tickCount % 128 * 16
  w + tickCheck w

/-- A TICK word goes out (R433): a wake word while some are due (R439), else the state. `renew` renews the lease. -/
def State.sendTick (s : State) (renew : Bool) : State :=
  if !s.twinRuns || s.twin.tickStopped then s
  else
    let wake := s.twin.wakeTicks != 0
    let w := s.tickCells (renew || s.twin.ackTick) (if wake then 15 else s.house.mode.num)
    let s := { s with twin := { s.twin with
      tickCount := (s.twin.tickCount + 1) % 128, wakeTicks := s.twin.wakeTicks - 1, ackTick := false } }
    s.emit (.tick w)

/-- TICK_LIVENESS_TIMEOUT (R433): the words stop and the pair idles. -/
def State.tickLiveness (s : State) : State :=
  if s.twinRuns then { s with twin := { s.twin with tickStopped := true } } else s

/-- An invalid or aborted word (R434, R462): TICK_ERR at the sixteenth within 1 s. -/
def State.tickBad (s : State) (aborted : Bool) : State :=
  let s := s.bump (if aborted then SPLICE_TICK_ERR_ABORTED else SPLICE_TICK_ERR_CHECK)
  let l := s.now :: s.twin.tickBad.filter (fun x => decide (s.now < 1000000000 + x))
  if l.length < 16 then { s with twin := { s.twin with tickBad := l } }
  else ({ s with twin := { s.twin with tickBad := [] } }).fault 0x0809 8 0

/-! ### Lease, roles and epochs (R444 to R450) -/

/-- A renewal reaches the follower on a path (R445): the lease restarts; the first copy is acknowledged on both paths. -/
def State.renewal (s : State) : State :=
  if s.role != 2 then s
  else
    let copy := match s.twin.renewSeenAt with
      | some x => decide (s.now ≤ 5000000 + x)
      | none => false
    let tw := { s.twin with renewAt := some s.now }
    if copy then { s with twin := tw }
    else { s with twin := { tw with renewSeenAt := some s.now, ackStatus := true, ackTick := true } }

/-- A twin takes a role at an epoch; the frame timer's source follows (R65, R450). -/
def State.takeRole (s : State) (role epoch : Nat) : State :=
  let changed := s.role != role
  let s := (s.set SPLICE_STATUS_ROLE role).setReg SPLICE_EPOCH_OFF epoch
  let s : State := { s with twin := { s.twin with renewAt := (if role == 2 then some s.now else none), renewSeenAt := none } }
  let s := if s.timerRuns then s.relock else s
  if changed then s.raise 2 else s

/-- A new leader goes on with SET_SEQ after the highest value it has seen, and swings in 15 minutes (R446, R447). -/
def State.leads (s : State) : State :=
  let s := if s.get SPLICE_SET_SEQ_NEXT ≤ s.twin.lastSetSeq then s.set SPLICE_SET_SEQ_NEXT (s.twin.lastSetSeq + 1) else s
  { s with twin := { s.twin with swingDueAt := some (900000000000 + s.now) } }

/-- A resynchronisation starts (R455). -/
def State.resync (s : State) : State :=
  ({ s with twin := { s.twin with resyncAt := none, diffRun := 0 } }).set SPLICE_STATUS_RESYNC 1

/-- A higher epoch is heard (R448, R450): a leader demotes itself, a follower adopts the epoch; it resynchronises. -/
def State.higherEpoch (s : State) (epoch : Nat) : State :=
  let old := s.get SPLICE_EPOCH_EPOCH
  if s.role == 1 then
    let s := match s.twin.joining with
      | some j => s.answer j.waiter 0x09 0
      | none => s
    let tw := { s.twin with
      joining := none, swing := none, swingDueAt := none
      unacked := s.twin.unacked.filter (fun u => u.type != 5 && u.type != 6 && u.type != 7) }
    let s := ({ s with twin := tw }).showChange
    let s := (s.takeRole 2 epoch).count SPLICE_COUNTS_DEMOTIONS
    (s.twinEvent 0x05 false old).resync
  else if s.role == 2 then ({ s with twin := { s.twin with swing := none } }).takeRole 2 epoch |>.resync
  else s

/-- A follower takes the token (R446). -/
def State.takeover (s : State) : State :=
  let old := s.get SPLICE_EPOCH_EPOCH
  let s := ({ s with twin := { s.twin with swing := none } }).set SPLICE_STATUS_RESYNC 0
  let s := ((s.takeRole 1 ((old + 1) % 2 ^ 32)).leads).count SPLICE_COUNTS_TAKEOVERS
  s.twinEvent 0x04 true old

/-- LEASE_EXPIRY (R446): both paths silent for 30 ms and the lease expired, while the frame timer runs. -/
def State.leaseExpiry (s : State) : State :=
  let expired := match s.twin.renewAt with
    | none => true
    | some x => decide (50000000 + x ≤ s.now)
  if s.twinRuns && s.role == 2 && s.bothSilent && expired then s.takeover else s

/-- PARTNER_LOST (R443): both paths silent for 30 ms. -/
def State.partnerLost (s : State) : State :=
  if s.twinRuns && s.get SPLICE_STATUS_PAIR == 2 && s.bothSilent then
    let ages := 2 ^ 16 * s.age16 s.twin.spliceAt + s.age16 s.twin.tickAt
    let s := { s with twin := { s.twin with swingDueAt := none } }
    ((s.setPair 4).fault 0x0805 8 0).twinEvent 0x03 false ages
  else s

/-- TICK_WORD (R434): the 28 data cells of a word of the partner, or an aborted word. In STOWED sixteen consecutive words
with STATE 15 are a wake event (R439, R501), which the caller starts; the answer tells it. -/
def State.tickWord (s : State) (w : Nat) (aborted : Bool) : Bool × State :=
  let good := !aborted && tickCheck w == w % 16
  let state := getBits w 12 4
  if !s.twinEn then (false, s)
  else if s.house.mode == .stowed then
    let n := if good && state == 15 then s.twin.wakeSeen + 1 else 0
    if 16 ≤ n then (true, { s with twin := { s.twin with wakeSeen := 0 } })
    else (false, { s with twin := { s.twin with wakeSeen := n } })
  else if !s.timerRuns then (false, s)
  else if !good then (false, s.tickBad aborted)
  else
    let h : Heartbeat := ⟨state, w.testBit 17, w.testBit 11, false, false, s.now⟩
    let role := getBits w 18 2
    let s := { s with twin := { s.twin with tickAt := some s.now, beatTick := some h, peerRole := role } }
    let d := signedBits 8 ((getBits w 20 8 + 256 - s.get SPLICE_EPOCH_EPOCH % 256) % 256)
    let s := if s.role == 1 && role == 1 && decide (0 < d) then
        s.higherEpoch ((s.get SPLICE_EPOCH_EPOCH + d.toNat) % 2 ^ 32)
      else s
    let s := if w.testBit 16 && role == 1 then s.renewal else s
    (false, s.heartbeatTaken h)

/-! ### STATUS, the lease's renewals and the link (R435, R437, R445) -/

/-- The lanes that this twin receives ALIGNED, bit 0 lane 8 (R435). -/
def State.lanesAligned (s : State) : Nat := bit (s.get (laneLink 8) == 4) + 2 * bit (s.get (laneLink 9) == 4)

/-- READY of a joiner (R459): the rails at V_WAKE, the enables asserted, and a mask in use. -/
def State.joinReady (s : State) : Bool :=
  s.flag SPLICE_STATUS_JOIN && s.anode.wakeDone && s.get GUARD_A_STATUS_EN_A != 0 && s.get GUARD_B_STATUS_EN_B != 0
    && !s.flag BRAID_PROT_STATUS_BLOCKED_ALL

/-- A STATUS message goes out (R437). -/
def State.sendStatus (s : State) (renew : Bool) : State :=
  if !s.twinRuns then s
  else
    let flags := bit s.house.lightOut + 2 * s.get SPLICE_STATUS_JOIN + 4 * bit s.joinReady + 8 * bit renew
      + 16 * bit s.twin.ackStatus + 32 * s.get SPLICE_STATUS_ARMED
    let q := if s.role == 1 then s.get SPLICE_SET_SEQ_NEXT else 0
    let s := s.sendSplice 2 none 0 ([s.house.mode.num, flags, s.lanesAligned, 0] ++ toBytes 4 q ++ List.replicate 8 0)
    { s with twin := { s.twin with ackStatus := false } }

/-- LEASE_RENEW (R445): the leader renews on both paths at once. -/
def State.leaseRenew (s : State) : State :=
  if s.twinRuns && s.role == 1 then
    let s := (s.sendStatus true).sendTick true
    { s with twin := { s.twin with renewAt := some s.now } }
  else s

/-- The words of timing values as STRIKE_RATE, STRIKE_SYNC_CTRL and STRIKE_SYNC_PHASE lay them out. -/
def Timing.words (v : Timing) : List Nat :=
  [bit v.pulldown * 16 + v.rate,
   2 ^ 20 * v.holdLimit + v.mult * 2 ^ 8 + bit v.jump * 8 + bit v.edge * 4 + v.source, v.phaseNs]

/-- Timing values from those words. -/
def timingOf (w : List Nat) : Timing :=
  let r := w.getD 0 0
  let c := w.getD 1 0
  ⟨getBits r 0 2, r.testBit 4, getBits c 0 2, c.testBit 2, c.testBit 3, getBits c 8 5, getBits c 20 12, w.getD 2 0⟩

/-- The unique identifier of the module. -/
def State.uid (s : State) : Nat := 2 ^ 32 * s.reg FUSE_UID_HI_OFF + s.reg FUSE_UID_LO_OFF

/-- The epoch that a role holds: 0 without a role (R442). -/
def heldEpoch (role epoch : Nat) : Nat := if role == 0 then 0 else epoch

/-- The CAPS payload (R440). -/
def State.capsPayload (s : State) : List Nat :=
  toBytes 8 s.uid ++ [s.get FUSE_ORDER_ORDER, 1, 0, 0] ++ toBytes 4 (s.get HOUSE_FW_VERSION)
    ++ toBytes 4 (s.get SPLICE_EPOCH_EPOCH) ++ [s.role, s.house.mode.num, 0, 0]
    ++ bytesOf s.timer.timing.words ++ toBytes 4 (s.reg GUARD_A_ZONE_HASH_OFF) ++ List.replicate 24 0

/-- A CAPS message goes out (R437). -/
def State.sendCaps (s : State) : State := s.sendSplice 1 (some .whileUp) 0 s.capsPayload

/-- SPLICE comes up (R435, R443): pairing starts again, or an established pair checks CAPS anew. -/
def State.linkUp (s : State) : State :=
  let s := s.set SPLICE_STATUS_LINK_UP 1
  let s : State := { s with
    twin := { s.twin with acted := [], lastTiming := none }
    timer := { s.timer with refAt := none } }
  let s := if s.get SPLICE_STATUS_PAIR == 2 then s else s.setPair 1
  s.sendCaps.relock

/-- SPLICE goes down (R554, R65): nothing is resent any more, and the timer falls back to its configured source. -/
def State.linkDown (s : State) : State :=
  let s := s.set SPLICE_STATUS_LINK_UP 0
  let s : State := { s with
    twin := { s.twin with unacked := [] }
    timer := { s.timer with peerValid := false } }
  if s.timerRuns then s.relock else s

/-- SPLICE is up or down by R435: a receive lane is ALIGNED, and a STATUS of the last 3.0 ms reports a lane ALIGNED. -/
def State.linkRefresh (s : State) : State :=
  let recent := match s.twin.peerLanesAt with
    | some x => decide (s.now ≤ 3000000 + x)
    | none => false
  let up := s.twinRuns && s.lanesAligned != 0 && recent && s.twin.peerLanes % 4 != 0
  if up == s.spliceUp then s else if up then s.linkUp else s.linkDown

/-! ### Receiving a SPLICE frame (R436 to R438, R444, R448, R554) -/

/-- A received SPLICE frame, its fields and its payload. -/
structure RxFrame where
  type    : Nat
  ackReq  : Bool
  seq     : Nat
  epoch   : Nat
  frame   : Nat
  ackSeq  : Nat
  data    : List Nat
  deriving DecidableEq, Repr

/-- The fields of a frame (R436). -/
def rxFrame (b : List Nat) : RxFrame :=
  ⟨b.getD 0 0, b.getD 1 0 % 2 == 1, field b 4 4, field b 8 4, field b 12 4, field b 20 4, (b.drop 24).take (field b 16 4)⟩

/-- A frame is well laid out: its TYPE is known and its LEN agrees with its length (R436). -/
def rxLaidOut (b : List Nat) : Bool :=
  decide (b.getD 0 0 ≤ 8) && decide (field b 16 4 ≤ 16384) && b.length == (28 + field b 16 4 + 7) / 8 * 8

/-- A frame fails CVU_03, or is counted as if it did (R418, R420, R436, R438). -/
def State.spliceFails (s : State) (b : List Nat) : State :=
  let n := b.length - 4
  let s := s.cvuFail 3 (crc32c (b.take n)) (field b n 4)
  if s.twin.crcRun then s else ({ s with twin := { s.twin with crcRun := true } }).fault 0x080A 8 (subj 15 3)

/-- An ACK of a frame (R437). -/
def State.sendAck (s : State) (seq : Nat) : State := s.sendSplice 0 none seq []

/-- A SPLICE frame arrives in a step of TYPE `type`: CVU_03's check, the age and epoch of the path, the acknowledgement,
and the frame if it is to be acted on. -/
def State.spliceIn (s : State) (type : Nat) (b : List Nat) : Option RxFrame × State :=
  if !s.twinRuns || !s.flag (CVU_UNIT_CFG_SELFTEST_OK 3) then (none, s)
  else if b.length < 28 || field b (b.length - 4) 4 != crc32c (b.take (b.length - 4)) || !rxLaidOut b then
    (none, s.spliceFails b)
  else
    let f := rxFrame b
    let s := s.cvuPass 3 (field b (b.length - 4) 4)
    let s := { s with twin := { s.twin with crcRun := false, spliceAt := some s.now } }
    let s := s.setReg SPLICE_PEER_EPOCH_OFF f.epoch
    let s := if s.role != 0 && s.get SPLICE_EPOCH_EPOCH < f.epoch then s.higherEpoch f.epoch else s
    if f.type != type then (none, s)
    else if 3 ≤ f.type && f.epoch < s.get SPLICE_EPOCH_EPOCH then (none, s)
    else if !f.ackReq then (some f, s)
    else
      let s := s.sendAck f.seq
      if s.twin.acted.contains f.seq then (none, s)
      else (some f, { s with twin := { s.twin with acted := (f.seq :: s.twin.acted).take 256 } })

/-- ACK (R554): the frame acknowledged is resent no more; a join, a hand-over or a set-wide change learns of it. -/
def State.ackIn (s : State) (b : List Nat) : State :=
  match s.spliceIn 0 b with
  | (none, s) => s
  | (some f, s) =>
    let tw := s.twin
    let join := tw.joining.map (fun j => { j with
      enterAcked := j.enterAcked || j.enterSeq == f.ackSeq
      switchAcked := j.switchAcked || (j.switch.isSome && j.switchSeq == f.ackSeq) })
    let hand := tw.handover.map (fun h => { h with acked := h.acked || (h.frame.isSome && h.seq == f.ackSeq) })
    { s with twin := { tw with
      unacked := tw.unacked.filter (fun u => u.seq != f.ackSeq), joining := join, handover := hand } }

/-- A frame that waits for its ACK is no longer resent (R554). -/
def State.deadlinePassed (s : State) (u : TxFrame) : Bool :=
  match u.until_ with
  | .whileUp => !s.spliceUp
  | .frame n => decide (0 ≤ frameDiff s.frameNo n)
  | .time x => decide (x ≤ s.now)

/-- SPLICE_RESEND (R554): frames without ACK for 200 µs go out again, as they were. -/
def State.spliceResend (s : State) : State :=
  let keep := s.twin.unacked.filter (fun u => !s.deadlinePassed u)
  let due := keep.filter (fun u => decide (200000 + u.sentAt ≤ s.now))
  let s := { s with twin := { s.twin with
    unacked := keep.map (fun u => if 200000 + u.sentAt ≤ s.now then { u with sentAt := s.now } else u) } }
  due.foldl (fun (s : State) u => (s.emit (.splice u.bytes)).cvuPass 2 (field u.bytes (u.bytes.length - 4) 4)) s

/-! ### Pairing (R440 to R443) -/

/-- The fields of a CAPS payload (R440). -/
def capsOf (p : List Nat) : Caps :=
  ⟨field p 0 8, p.getD 8 0, p.getD 9 0, p.getD 10 0, field p 12 4, field p 16 4, p.getD 20 0, p.getD 21 0,
   wordsOf ((p.drop 24).take 12), field p 36 4⟩

/-- The first failure of R441, 0 where none. -/
def State.capsReason (s : State) (c : Caps) : Nat :=
  let wantId := 2 ^ 32 * s.reg SPLICE_EXPECT_ID_HI_OFF + s.reg SPLICE_EXPECT_ID_LO_OFF
  let wantZone := s.reg SPLICE_EXPECT_ZONE_OFF
  if c.order != s.get FUSE_ORDER_ORDER then 1
  else if c.protoMaj != 1 then 2
  else if c.timing != s.timer.timing.words then 3
  else if wantZone != 0 && wantZone != c.zoneHash then 4
  else if wantId != 0 && wantId != c.uid then 5
  else if c.uid == s.uid then 6
  else 0

/-- Pairing fails (R441): MISMATCH, no role. -/
def State.mismatch (s : State) (reason : Nat) : State :=
  if s.get SPLICE_STATUS_PAIR == 3 && s.get SPLICE_STATUS_REASON == reason then s
  else
    let s := ((s.setPair 3).set SPLICE_STATUS_REASON reason).set SPLICE_STATUS_ROLE 0
    let s := { s with twin := { s.twin with swing := none, swingDueAt := none } }
    let s := if s.timerRuns then s.relock else s
    (s.faultVal 0x0804 8 0 reason 0).twinEvent 0x02 false reason

/-- The role and epoch of R442, from the two CAPS. -/
def State.pairRole (s : State) (c : Caps) : Nat × Nat :=
  let mine := heldEpoch s.role (s.get SPLICE_EPOCH_EPOCH)
  let theirs := heldEpoch c.role c.epoch
  let byUid := if s.uid < c.uid then 1 else 2
  if mine != theirs then (if theirs < mine then 1 else 2, max mine theirs)
  else if mine == 0 then (byUid, 1)
  else if (s.role == 1) != (c.role == 1) then (s.role, mine)
  else (byUid, (mine + 1) % 2 ^ 32)

/-- Both CAPS pass (R442): the twins are PAIRED with their roles; the delay of the link is measured, which the spec
leaves to the cable, so it is a free value (notes/assumptions/32.md). -/
def State.paired (s : State) (c : Caps) : State :=
  let (role, epoch) := s.pairRole c
  let (delay, s) := s.free
  let s := (s.set SPLICE_LINK_DELAY_NS delay).set SPLICE_STATUS_REASON 0
  let s := (s.setPair 2).takeRole role epoch
  let s := { s with twin := { s.twin with lastTiming := none, peerRole := 3 - role } }
  let s := if role == 1 then s.leads else s.resync
  if role == 1 then s.twinEvent 0x01 true c.fw else s

/-- The content of a CAPS whose change starts the check again: all but the role, epoch and state. -/
def Caps.ident (c : Caps) : Caps := { c with epoch := 0, role := 0, state := 0 }

/-- CAPS (R440 to R443). -/
def State.capsIn (s : State) (b : List Nat) : State :=
  match s.spliceIn 1 b with
  | (none, s) => s
  | (some f, s) =>
    let c := capsOf f.data
    let changed := match s.twin.caps with
      | some o => o.ident != c.ident
      | none => true
    let s := { s with twin := { s.twin with caps := some c, peerRole := c.role } }
    let s := (s.setReg SPLICE_PEER_ID_LO_OFF (c.uid % 2 ^ 32)).setReg SPLICE_PEER_ID_HI_OFF (c.uid / 2 ^ 32)
    let s := ((s.set SPLICE_PEER_INFO_FW c.fw).set SPLICE_PEER_INFO_PROTO c.protoMaj).set SPLICE_PEER_INFO_ORDER c.order
    let pair := s.get SPLICE_STATUS_PAIR
    let s := if (pair == 3 || pair == 4) && changed && s.spliceUp then (s.setPair 1).sendCaps else s
    if s.get SPLICE_STATUS_PAIR != 1 && s.get SPLICE_STATUS_PAIR != 2 then s
    else
      let reason := s.capsReason c
      if reason != 0 then s.mismatch reason
      else
        let s := if changed && (c.fw != s.get HOUSE_FW_VERSION || c.protoMin != 0) then s.twinEvent 0x0F false c.fw else s
        if s.get SPLICE_STATUS_PAIR == 2 then s else s.paired c

/-- STATUS (R437): the heartbeat, the lanes, the lease and the partner's state. -/
def State.statusIn (s : State) (b : List Nat) : State :=
  match s.spliceIn 2 b with
  | (none, s) => s
  | (some f, s) =>
    let flags := f.data.getD 1 0
    let h : Heartbeat :=
      ⟨f.data.getD 0 0, flags.testBit 0, flags.testBit 1, flags.testBit 2, flags.testBit 5, s.now⟩
    let s := { s with twin := { s.twin with
      beatStatus := some h, peerLanes := f.data.getD 2 0, peerLanesAt := some s.now } }
    let s := s.linkRefresh
    let s := if flags.testBit 3 && f.epoch == s.get SPLICE_EPOCH_EPOCH then s.renewal else s
    s.heartbeatTaken h

/-! ### SCAN (R178, R227) -/

/-- The SCAN message of a finished scan goes out (R437). -/
def State.sendScan (s : State) : State :=
  if s.twinRuns && s.spliceUp then
    s.sendSplice 3 none 0 (toBytes 4 s.frameNo ++ toBytes 4 s.tone.sOwn
      ++ s.regionValues.flatMap (fun e => toBytes 2 e.1 ++ [0, 0] ++ toBytes 4 e.2))
  else s

/-- SCAN: the partner's s_app and region values of a frame. -/
def State.scanIn (s : State) (b : List Nat) : State :=
  match s.spliceIn 3 b with
  | (none, s) => s
  | (some f, s) =>
    let n := field f.data 0 4
    let rest := f.data.drop 8
    let vals := (List.range (rest.length / 8)).map (fun i => (field rest (8 * i) 2, field rest (8 * i + 4) 4))
    { s with
      tone := { s.tone with partnerS := some (field f.data 4 4, n) }
      guards := { s.guards with peerSigs := some (n, vals) } }

/-! ### Mirrored commits (R456) -/

/-- The least frame whose boundary lies at least two frame periods from now (R456, BLOCK 1). -/
def State.applyBoundary (s : State) : Nat :=
  let T := s.nextPeriod
  frameAdd s.frameNo (1 + (s.now + 2 * T + T - 1 - s.nextBoundaryAt) / T)

/-- The least output frame whose capture point lies at least two frame periods from now (R456, BLOCKS 2, 3 and 5). -/
def State.applyCapture (s : State) : Nat :=
  let T := s.nextPeriod
  frameAdd s.nextCapture ((s.now + 2 * T + T - 1 - s.nextCaptureAt) / T)

/-- The application point of a frame lies at least 50 µs ahead (R456). -/
def State.applyInTime (s : State) (block frame : Nat) : Bool :=
  let T := s.nextPeriod
  if block == 1 then
    decide (50000 + (s.now : Int) ≤ (s.nextBoundaryAt : Int) + (frameDiff frame s.frameNo - 1) * T)
  else decide (50000 + (s.now : Int) ≤ (s.nextCaptureAt : Int) + frameDiff frame s.nextCapture * T)

/-- The leader mirrors a commit to its partner (R456). -/
def State.sendCommit (s : State) (block frame : Nat) (values : List Nat) : State :=
  if s.spliceUp then
    s.sendSplice 5 (some (.frame (frameAdd frame (if block == 1 then 8 else 7)))) 0
      ([block, 0, 0, 0] ++ toBytes 4 frame ++ bytesOf values)
  else s

/-- The frame at which a commit applies: in a twin set the one the leader chooses (R75, R153, R199, R200). -/
def State.applyFrame (s : State) (block : Nat) : Option Nat :=
  if s.role == 1 then some (if block == 1 then s.applyBoundary else s.applyCapture) else none

/-- TIMING_COMMIT (R74, R75): the staged values, rejected or accepted and mirrored. -/
def State.timingCommit (s : State) : State :=
  if s.timingRejected then (s.latch STRIKE_SYNC_STATUS_COMMIT_REJ).raise 5
  else
    let frame := s.applyFrame 1
    let v := s.stagedTiming
    let s := s.timingAccept v frame
    match frame with
    | some f => s.sendCommit 1 f v.words
    | none => s

/-- The staged TONE values as a COMMIT message lays them out (notes/assumptions/33.md). -/
def State.toneWords (s : State) : List Nat := toneStaged.map (fun o => s.reg o)

/-- TONE_COMMIT (R152, R153). -/
def State.toneCommit (s : State) : State :=
  if s.toneRejected then s.latch TONE_STATUS_COMMIT_REJ
  else
    let frame := s.applyFrame 2
    let s1 := s.toneAccept s.toneValues frame
    match frame with
    | some f => s1.sendCommit 2 f s.toneWords
    | none => s1

/-- The layers of a mask with their settings and the filters of their scalers, as a COMMIT message lays them out. -/
def LayerCommit.words (c : LayerCommit) : List Nat :=
  [c.mask, c.filters.length] ++ c.filters.flatMap (fun f => [f.1, f.2]) ++ c.cfgs.flatMap (fun e => e.2)

/-- A layer commit from those words. -/
def layerCommitOf (w : List Nat) (goAt frame : Nat) : LayerCommit :=
  let mask := w.getD 0 0
  let k := w.getD 1 0
  let rest := w.drop (2 + 2 * k)
  let ls := (List.range 15).filter (fun l => mask / 2 ^ l % 2 == 1)
  ⟨mask, ls.zipIdx.map (fun e => (e.1, (rest.drop (10 * e.2)).take 10)),
   (List.range k).map (fun i => (w.getD (2 + 2 * i) 0, w.getD (3 + 2 * i) 0)), goAt, some frame, 0, none⟩

/-- A commit of layers, by BRAID_LAYER_COMMIT or a descriptor: its code where rejected (R197 to R199). -/
def State.layerCommitSet (s : State) (mask : Nat) : Option (Nat × Nat) × State :=
  let mask := mask % 2 ^ 15
  if mask == 0 then (none, s)
  else match s.commitCode mask with
    | some (code, l) => (some (code, l), s.layerRejected code l)
    | none =>
      let frame := s.applyFrame 3
      let s := s.layerAccept mask frame
      match frame, s.braid.commit with
      | some f, some c => (none, s.sendCommit 3 f c.words)
      | _, _ => (none, s)

/-- A move of a layer that is neither rejected nor refused (R200). -/
def State.moveSet (s : State) (l dst out alpha : Nat) : State :=
  let frame := s.applyFrame 5
  let s := s.moveAccept l dst out alpha frame
  match frame with
  | some f => s.sendCommit 5 f [l, dst, out, alpha % 2 ^ 16]
  | none => s

/-- A write of WARP_MESH_SELECT (R248, R249): true where it is not rejected. -/
def State.meshSelectSet (s : State) (bank : Nat) : Bool × State :=
  if s.selectIdle bank && !s.follows then (true, s)
  else if s.selectRejected bank then (false, s.latch WARP_MESH_STATUS_SEL_REJ)
  else
    let e := s.captureAfter 3
    let s := s.selectAccept bank e
    (true, if s.role == 1 then s.sendCommit 4 e [bank] else s)

/-- A mirrored selection reaches the follower (R250). -/
def State.selectMirrored (s : State) (bank e : Nat) : State :=
  if bank < 2 && !s.flag ⟨WARP_MESH_STATUS_OFF, 8 + bank, 1⟩ then
    (s.latch WARP_MESH_STATUS_UNPAIRED).fault 0x0302 3 0
  else s.selectAccept bank e

/-- A mirrored commit takes its place in its block (R456). -/
def State.commitMirrored (s : State) (block frame : Nat) (w : List Nat) : State :=
  match block with
  | 1 => s.timingAccept (timingOf w) (some frame)
  | 2 => s.toneAccept ((toneStaged.zip w).foldl (fun m (e : Nat × Nat) => sput (fun _ => 0) m e.1 e.2) []) (some frame)
  | 3 => ({ s with braid := { s.braid with commit := some (layerCommitOf w s.now frame) } }).set BRAID_STATUS_COMMIT_PENDING 1
  | 4 => s.selectMirrored (w.getD 0 0) frame
  | 5 => if w.getD 0 0 < 15 then s.moveAccept (w.getD 0 0) (w.getD 1 0) (w.getD 2 0) (w.getD 3 0) (some frame) else s
  | _ => s

/-- COMMIT (R444, R456): the follower takes it at the same epoch; a late one applies at the first point it can. -/
def State.commitIn (s : State) (b : List Nat) : State :=
  match s.spliceIn 5 b with
  | (none, s) => s
  | (some f, s) =>
    if s.role != 2 || f.epoch != s.get SPLICE_EPOCH_EPOCH then s
    else
      let block := f.data.getD 0 0
      let frame := field f.data 4 4
      let w := wordsOf (f.data.drop 8)
      if block == 0 || 5 < block then s
      else if s.applyInTime block frame then s.commitMirrored block frame w
      else
        let T := s.nextPeriod
        let late := if block == 1 then frameAdd s.frameNo (1 + (50000 + s.now + T - 1 - s.nextBoundaryAt) / T)
          else s.captureAfter 1
        ((s.bump SPLICE_MIRROR_LATE_COMMITS).fault 0x0808 8 0).commitMirrored block late w

/-! ### The MIRROR record (R453 to R455) -/

/-- A list of bytes filled up with zeros to a length. -/
def padTo (n : Nat) (l : List Nat) : List Nat := l ++ List.replicate (n - l.length) 0

/-- The Layers section. -/
def State.recLayers (s : State) : List Nat :=
  (List.range 15).flatMap (fun l =>
    let y := s.layer l
    let move := match s.braid.moves.find? (fun v => v.layer == l) with
      | some v => 2 ^ 31 + v.alpha
      | none => 0
    padTo 64 (bytesOf ((List.range 10).map (fun i => layerWord y.cfg i) ++ [move])))

/-- The Warp section. -/
def State.recWarp (s : State) : List Nat :=
  padTo 32 (bytesOf [s.get WARP_MESH_STATUS_IN_USE,
    2 ^ 31 * s.get WARP_MESH_STATUS_PENDING + s.get WARP_MESH_STATUS_PEND_BANK, s.reg WARP_MESH_TARGET_OFF,
    s.reg (WARP_BANK_SUM_OFF 0), s.reg (WARP_BANK_SUM_OFF 1)])

/-- The Timing section. -/
def State.recTiming (s : State) : List Nat :=
  let p := match s.timer.pending with
    | some v => 1 :: v.1.words
    | none => [0, 0, 0, 0]
  padTo 32 (bytesOf (s.timer.timing.words ++ p))

/-- The registers of the Tone section, in its order. -/
def recToneRegs : List Nat :=
  [TONE_CTRL_OFF, TONE_PQ_OFF, TONE_CONCEAL_OFF] ++ (List.range 12).map (fun i => TONE_MATRIX_OFF i)
    ++ [TONE_GOV_BUDGET_OFF, TONE_GOV_SHAPE_OFF, TONE_GOV_MODEL_OFF, TONE_GOV_IMAX_OFF]

/-- The Tone section. -/
def State.recTone (s : State) : List Nat := padTo 128 (bytesOf (recToneRegs.map (fun o => s.toneForce o)))

/-- A non-negative number in 1/65,536. -/
def fix16 (r : Rat) : Nat := (Rat.floor (r * 65536)).toNat

/-- The Governor section. -/
def State.recGovernor (s : State) : List Nat :=
  padTo 32 (bytesOf [s.get TONE_GOV_STATUS_S, fix16 (s.tone.sPrev.getD 0), s.get TONE_GOV_DERATE_D, fix16 s.effUsed])

/-- The Rings section. -/
def State.recRings (s : State) : List Nat :=
  (List.range 64).flatMap (fun n => bytesOf [s.get (RING_CFG_CLASS n), s.ringState n, s.reg (RING_HEAD_OFF n), s.reg (RING_INDEX_OFF n)])

/-- The Safety section. -/
def State.recSafety (s : State) : List Nat :=
  padTo 64 (bytesOf [s.reg GUARD_A_ZONE_HASH_OFF, s.reg GUARD_B_ZONE_HASH_OFF, s.reg GUARD_A_ZONE_ACTIVE_OFF,
    s.guards.sigmaA, s.reg GUARD_A_STATUS_OFF, s.reg GUARD_B_STATUS_OFF])

/-- The Regions section. -/
def State.recRegions (s : State) : List Nat :=
  (List.range 256).flatMap (fun r => bytesOf [s.reg (GUARD_B_REGION_LAST_OFF r), s.get (GUARD_B_REGION_COUNT_RESULT r)])

/-- The record of the frame that has just ended (R453), sections in order; no firmware section. -/
def State.mirrorRecord (s : State) : List Nat :=
  padTo 64 ([1, 0, 0, 0] ++ toBytes 4 s.frameNo ++ toBytes 4 (s.get SPLICE_EPOCH_EPOCH) ++ toBytes 4 4400)
    ++ s.recLayers ++ s.recWarp ++ s.recTiming ++ s.recTone ++ s.recGovernor ++ s.recRings ++ s.recSafety ++ s.recRegions
    ++ padTo 16 (toBytes 4 (s.get SPLICE_SET_SEQ_NEXT) ++ toBytes 4 s.twin.lastSetSeq)

/-- The leader sends its TIMING block and its record at a boundary (R439, R453). -/
def State.sendBoundary (s : State) : State :=
  if !(s.twinRuns && s.role == 1 && s.spliceUp) then s
  else
    let n := toBytes 4 s.frameNo
    let s := s.emit (.timing ([0x2D] ++ n ++ [n.foldl (fun a b => a ^^^ b) 0, 0xA5, 0x3C]))
    let r := s.mirrorRecord
    let s := s.sendSplice 4 none 0 (toBytes 4 s.frameNo ++ toBytes 4 0 ++ toBytes 4 r.length ++ [0, 0, 0, 0] ++ r)
    s.setReg SPLICE_MIRROR_FRAME_OFF s.frameNo

/-- The record that segments of one frame make up, where they cover it without a gap (R453). -/
def joinSegs (total : Nat) : List (Nat × List Nat) → List Nat → Option (List Nat)
  | [], acc => if acc.length == total then some acc else none
  | (off, d) :: r, acc => if off ≤ acc.length then joinSegs total r (acc.take off ++ d ++ acc.drop (off + d.length)) else none

/-- The lowest of the Layers, Warp, Timing and Tone sections that differs from the twin's own, by its place in the record
(R454, R461); 0 where none does. -/
def State.recordDiffers (s : State) (r : List Nat) : Nat :=
  if (r.drop 64).take 960 != s.recLayers then 1
  else if (r.drop 1024).take 32 != s.recWarp then 2
  else if (r.drop 1056).take 32 != s.recTiming then 3
  else if (r.drop 1088).take 128 != s.recTone then 4
  else 0

/-- The Layers section becomes the staged values of all fifteen layers, and a commit of them for a frame (R455). -/
def State.stageLayers (s : State) (r : List Nat) (e : Nat) : State :=
  let cfgs := (List.range 15).map (fun l => (l, wordsOf ((r.drop (64 + 64 * l)).take 40)))
  let s := cfgs.foldl (fun (s : State) (c : Nat × List Nat) =>
    (List.range 10).foldl (fun (s : State) i => s.setReg (layerOff c.1 i) (c.2.getD i 0)) s) s
  ({ s with braid := { s.braid with commit := some ⟨0x7FFF, cfgs, [], s.now, some e, 0, none⟩ } }).set BRAID_STATUS_COMMIT_PENDING 1

/-- The follower takes a record for its resynchronisation (R455). -/
def State.resyncTake (s : State) (r : List Nat) : State :=
  let e := frameAdd (field r 4 4) 3
  let s := s.stageLayers r e
  let bank := field r 1024 4 % 4
  let s := if bank == s.get WARP_MESH_STATUS_IN_USE then s else s.selectMirrored bank e
  let t := wordsOf ((r.drop 1056).take 12)
  let s := ((s.setReg STRIKE_RATE_OFF (t.getD 0 0)).setReg STRIKE_SYNC_CTRL_OFF (t.getD 1 0)).setReg STRIKE_SYNC_PHASE_OFF (t.getD 2 0)
  let s := if timingOf t == s.timer.timing then s else s.timingAccept (timingOf t) (some e)
  let w := wordsOf ((r.drop 1088).take 76)
  let s := (recToneRegs.zip w).foldl (fun (s : State) (x : Nat × Nat) => s.setReg x.1 x.2) s
  let s := s.toneAccept s.toneValues (some e)
  let s := s.setReg SPLICE_SET_SEQ_OFF (field r 4384 4)
  { s with twin := { s.twin with resyncAt := some e, lastSetSeq := field r 4388 4 } }

/-- The capture point of a resynchronisation has passed: it ends (R455). -/
def State.captureResync (s : State) (e : Nat) : State :=
  match s.twin.resyncAt with
  | some f =>
    if 0 ≤ frameDiff e f then ({ s with twin := { s.twin with resyncAt := none } }).set SPLICE_STATUS_RESYNC 0 else s
  | none => s

/-- A complete record reaches the follower (R454, R455). -/
def State.recordTaken (s : State) (r : List Nat) : State :=
  let s := s.setReg SPLICE_MIRROR_FRAME_OFF (field r 4 4)
  let s := (List.range 64).foldl (fun (s : State) n => s.setReg (SPLICE_PEER_HEAD_OFF n) (field r (1248 + 16 * n + 8) 4)) s
  let zone := field r 2272 4
  let want := s.reg SPLICE_EXPECT_ZONE_OFF
  if want != 0 && want != zone then s.mismatch 4
  else if s.flag SPLICE_STATUS_RESYNC then
    if s.twin.resyncAt.isSome then s else s.resyncTake r
  else if field r 4 4 != s.frameNo then s
  else
    let d := s.recordDiffers r
    let run := if d == 0 then 0 else s.twin.diffRun + 1
    let s := { s with twin := { s.twin with diffRun := run } }
    if run < 3 then s
    else (((s.bump SPLICE_MIRROR_DIFF_FRAMES).fault 0x0807 8 0).twinEvent 0x0E false d).resync

/-- Segments in rising order of offset. -/
def insertSeg (x : Nat × List Nat) : List (Nat × List Nat) → List (Nat × List Nat)
  | [] => [x]
  | y :: r => if x.1 ≤ y.1 then x :: y :: r else y :: insertSeg x r

/-- MIRROR (R453 to R455). -/
def State.mirrorIn (s : State) (b : List Nat) : State :=
  match s.spliceIn 4 b with
  | (none, s) => s
  | (some f, s) =>
    if s.role != 2 then s
    else
      let n := field f.data 0 4
      let total := field f.data 8 4
      let seg := (n, field f.data 4 4, f.data.drop 16)
      let segs := seg :: s.twin.segs.filter (fun x => x.1 == n && s.twin.segTotal == total)
      let sorted := segs.foldl (fun l (x : Nat × Nat × List Nat) => insertSeg x.2 l) []
      match joinSegs total sorted [] with
      | some r => ({ s with twin := { s.twin with segs := [], segTotal := 0 } }).recordTaken r
      | none => { s with twin := { s.twin with segs := segs, segTotal := total } }

/-! ### Set-level events (R457) -/

/-- The words of an EVENT payload as an event; SOURCE is this twin's own. -/
def eventOf (p : List Nat) (seq : Nat) : Event :=
  let w := field p 4 4
  let type := getBits w 24 8
  ⟨type, getBits w 0 16, if type == 5 then 10 else 8, w.testBit 18, w.testBit 17, true, seq, wordsOf ((p.drop 8).take 36)⟩

/-- EVENT (R457): the follower writes the leader's record; the leader numbers the follower's and sends it back. -/
def State.eventIn (s : State) (b : List Nat) : State :=
  match s.spliceIn 8 b with
  | (none, s) => s
  | (some f, s) =>
    if s.role == 1 then s.setEvent (eventOf f.data 0)
    else if s.role == 2 then
      let q := field f.data 0 4
      let s := s.set SPLICE_SET_SEQ_NEXT ((q + 1) % 2 ^ 32)
      let s := { s with twin := { s.twin with lastSetSeq := q } }
      let e := eventOf f.data q
      let s := s.event e
      if e.type == 4 then s.raise 2 else s
    else s

/-! ### TIMING blocks (R439) -/

/-- A TIMING block is well formed: eight bytes, type 0x2D, its check byte and its two constants. -/
def timingValid (b : List Nat) : Bool :=
  b.length == 8 && b.getD 0 0 == 0x2D && b.getD 6 0 == 0xA5 && b.getD 7 0 == 0x3C
    && b.getD 5 0 == ((b.drop 1).take 4).foldl (fun a x => a ^^^ x) 0

/-- TIMING (R439): the follower's reference event, and a reload where the numbers differ. -/
def State.timingIn (s : State) (b : List Nat) : State :=
  let n := field b 1 4
  let qualifies := match s.twin.lastTiming with
    | none => true
    | some l => decide (0 < frameDiff n l)
  if !s.timerRuns || s.activeSource != 3 || !timingValid b || !qualifies then s
  else
    let ref := s.now - s.get SPLICE_LINK_DELAY_NS
    let T := s.framePeriod
    let err := centred ((s.timer.boundaryAt : Int) - ref) T
    let nom := s.nominal16
    let base := match s.timer.refAt with
      | some (k, at_) => 16 * (ref - at_) / (frameDiff n k).toNat
      | none => 0
    let past := decide ((ref : Int) - s.timer.boundaryAt < T - (T / 2 : Nat))
    let own := if past then s.frameNo else frameAdd s.frameNo 1
    let next := if past then frameAdd n 1 else n
    let s : State := { s with
      twin := { s.twin with lastTiming := some n }
      timer := { s.timer with
        peerValid := true, refAt := some (n, ref), reload := if own == n then s.timer.reload else some next } }
    (s.relock).phaseEvent err (if base == 0 then 0 else clampN (nom - nom / 333) (nom + nom / 333) base)

/-- TIMING_BLOCK_MISSING (R439): the third consecutive block is missing. -/
def State.timingMissing (s : State) : State :=
  if s.activeSource != 3 || !s.timerRuns then s
  else ({ s with timer := { s.timer with peerValid := false, refAt := none } }).relock

/-! ### The token swing (R447) -/

/-- A SWING message goes out: OP 1 OFFER, 2 ACCEPT, 3 DECLINE. -/
def State.sendSwing (s : State) (op epoch frame : Nat) : State :=
  s.sendSplice 7 (some (.frame frame)) 0 ([op, 0, 0, 0] ++ toBytes 4 epoch ++ toBytes 4 frame)

/-- The leader offers the token (R447). -/
def State.swingOffer (s : State) : State :=
  let epoch := (s.get SPLICE_EPOCH_EPOCH + 1) % 2 ^ 32
  let f := frameAdd s.frameNo 4
  ({ s with twin := { s.twin with swing := some ⟨epoch, f, false⟩, swingDueAt := none } }).sendSwing 1 epoch f

/-- SWING_DUE (R447). -/
def State.swingDue (s : State) : State :=
  match s.twin.swingDueAt with
  | none => s
  | some x =>
    if s.twinRuns && s.role == 1 && s.get SPLICE_STATUS_PAIR == 2 && s.spliceUp && s.twin.swing.isNone && decide (x ≤ s.now)
    then s.swingOffer else s

/-- A requested hand-over or set-wide change is refused (R458, R459, R553). -/
def State.refuseHandover (s : State) (detail : Nat) : State :=
  match s.twin.handover with
  | none => s
  | some h =>
    let s := s.answer h.waiter 0x0E detail
    ({ s with twin := { s.twin with handover := none }, house := { s.house with change := none } }).showChange

/-- A hand-over that waited for the swing is refused with SWING_FAILED (R458). -/
def State.swingEnds (s : State) : State :=
  match s.twin.handover with
  | some h => if h.frame.isNone then s.refuseHandover 0xA3 else s
  | none => s

/-- SWING_OFFER (R447): the follower accepts, or declines. -/
def State.swingOfferIn (s : State) (b : List Nat) : State :=
  match s.spliceIn 7 b with
  | (none, s) => s
  | (some f, s) =>
    if s.role != 2 || f.epoch != s.get SPLICE_EPOCH_EPOCH || f.data.getD 0 0 != 1 then s
    else
      let epoch := field f.data 4 4
      let frame := field f.data 8 4
      let same := match s.heartbeat with
        | some h => h.state == s.house.mode.num
        | none => false
      if s.get SPLICE_STATUS_PAIR == 2 && same && !s.flag SPLICE_STATUS_RESYNC && !s.anyOpen then
        ({ s with twin := { s.twin with swing := some ⟨epoch, frame, true⟩ } }).sendSwing 2 epoch frame
      else s.sendSwing 3 epoch frame

/-- SWING_ACCEPT (R447): the leader becomes follower at F. -/
def State.swingAcceptIn (s : State) (b : List Nat) : State :=
  match s.spliceIn 7 b with
  | (none, s) => s
  | (some f, s) =>
    match s.twin.swing with
    | none => s
    | some w =>
      if s.role == 1 && f.data.getD 0 0 == 2 && field f.data 4 4 == w.newEpoch then
        { s with twin := { s.twin with swing := some { w with agreed := true } } }
      else s

/-- SWING_DECLINE (R447): the swing is cancelled, and tried again 60 s later. -/
def State.swingDeclineIn (s : State) (b : List Nat) : State :=
  match s.spliceIn 7 b with
  | (none, s) => s
  | (some f, s) =>
    match s.twin.swing with
    | none => s
    | some w =>
      if s.role == 1 && f.data.getD 0 0 == 3 && field f.data 4 4 == w.newEpoch then
        let s := { s with twin := { s.twin with swing := none, swingDueAt := some (60000000000 + s.now) } }
        (s.twinEvent 0x07 false 1).swingEnds
      else s

/-- The boundary of a swing's F (R447): the roles change, or a leader without ACCEPT cancels it. -/
def State.swingBoundary (s : State) : State :=
  match s.twin.swing with
  | none => s
  | some w =>
    if frameDiff s.frameNo w.frame < 0 then s
    else
      let old := s.get SPLICE_EPOCH_EPOCH
      let s := { s with twin := { s.twin with swing := none } }
      if s.role == 2 then
        let s := ((s.takeRole 1 w.newEpoch).leads).count SPLICE_COUNTS_SWINGS
        s.twinEvent 0x06 true old
      else if s.role == 1 && w.agreed then (s.takeRole 2 w.newEpoch).count SPLICE_COUNTS_SWINGS
      else if s.role == 1 then
        let s := { s with twin := { s.twin with swingDueAt := some (60000000000 + s.now) } }
        ((s.fault 0x0806 8 0).twinEvent 0x07 false 2).swingEnds
      else s

/-! ### Joins, hand-overs and set-wide changes (R458, R459, R553) -/

/-- A MODE message goes out (R437, R553). -/
def State.sendMode (s : State) (op target reason frame : Nat) (keep : Deadline) : State :=
  s.sendSplice 6 (some keep) 0 ([op, target, reason, 0] ++ toBytes 4 frame)

/-- The frame before a frame. -/
def frameBefore (f : Nat) : Nat := frameAdd f (2 ^ 32 - 1)

/-- The leader calls the joiners for a frame two ahead (R459). -/
def State.joinCall (s : State) (j : Join) : State :=
  let f := frameAdd s.frameNo 2
  let seq := s.twin.txSeq
  let s := if j.peer then s.sendMode 1 2 0 f (.frame (frameBefore f)) else s
  let s := { s with twin := { s.twin with joining := some { j with
    frame := f, enterSeq := seq, enterAcked := !j.peer, switch := none, switchAcked := false } } }
  if j.own && s.house.mode == .dark then s.setChange (some ⟨.show, 1, none, 0, some f, false, some 2⟩) else s.showChange

/-- A join starts (R459): of this twin, of the partner, or of both. -/
def State.joinStart (s : State) (waiter : Option (Nat × Nat)) (own peer : Bool) : State :=
  s.joinCall ⟨waiter, s.now, own, peer, 0, 0, false, none, 0, false⟩

/-- Every joiner reports READY (R459). -/
def State.joinersReady (s : State) (j : Join) : Bool :=
  (!j.own || s.joinReady) && (!j.peer || (match s.twin.beatStatus with
    | some h => h.ready && h.join
    | none => false))

/-- This twin's JOIN phase ends at a switch frame (R459). -/
def State.joinEnds (s : State) : State :=
  if s.flag SPLICE_STATUS_JOIN then
    ({ s with twin := { s.twin with joinSince := none, joinEndAt := some s.now } }).set SPLICE_STATUS_JOIN 0
  else s

/-- The leader's part of a join at a boundary (R459, R553). -/
def State.joinBoundary (s : State) : State :=
  match s.twin.joining with
  | none => s
  | some j =>
    let n := s.frameNo
    if !j.enterAcked then (if 0 ≤ frameDiff n (frameBefore j.frame) then s.joinCall j else s)
    else if frameDiff n j.frame < 0 then s
    else
      let j := match j.switch with
        | some f => if !j.switchAcked && decide (0 ≤ frameDiff n (frameBefore f)) then { j with switch := none } else j
        | none => j
      match j.switch with
      | none =>
        if !s.joinersReady j then { s with twin := { s.twin with joining := some j } }
        else
          let f := frameAdd n 2
          let seq := s.twin.txSeq
          let s := if j.peer then s.sendMode 2 2 0 f (.frame (frameBefore f)) else s
          { s with twin := { s.twin with joining := some { j with switch := some f, switchSeq := seq, switchAcked := !j.peer } } }
      | some f =>
        if frameDiff n f < 0 then s
        else
          let s := ({ s with twin := { s.twin with joining := none } }).joinEnds
          let s := if s.house.mode == .solo || s.house.mode == .calibrate then
              s.setChange (some ⟨.show, 1, none, 0, some f, false, some 2⟩)
            else s.showChange
          (s.twinEvent 0x0A true f).answer j.waiter 0 0

/-- A follower's JOIN phase ends at the boundary of F_s (R459). -/
def State.switchBoundary (s : State) : State :=
  match s.twin.switchAt with
  | none => s
  | some f => if frameDiff s.frameNo f < 0 then s else ({ s with twin := { s.twin with switchAt := none } }).joinEnds

/-- A joiner returns to DARK (R459). -/
def State.joinReturns (s : State) : State :=
  if s.house.mode == .show && s.flag SPLICE_STATUS_JOIN then
    (s.abandon 0x0E 0x8A).setChange (some ⟨.dark, 11, none, s.now, none, false, some 1⟩)
  else match s.house.change with
    | some c => if c.target == .show && c.cause == 1 then s.setChange none else s
    | none => s

/-- JOIN_TIMEOUT (R459, R553): the leader abandons the join; a joiner returns to DARK on its own. -/
def State.joinTimeout (s : State) : State :=
  match s.twin.joining with
  | some j =>
    if j.switch.isSome || s.now < 5000000000 + j.since then s
    else
      let s := { s with twin := { s.twin with joining := none } }
      let s := if j.peer then s.sendMode 5 1 0xA4 0 (.time (100000000 + s.now)) else s
      let s := (if j.own then s.joinReturns else s).showChange
      ((s.answer j.waiter 0x0E 0xA4).fault 0x0803 8 0).twinEvent 0x0B true 2
  | none => match s.twin.joinSince with
    | some x => if s.now < 5000000000 + x then s else s.joinReturns
    | none => s

/-- The leaving twin announces its hand-over for a frame two ahead (R459). -/
def State.handoverSend (s : State) (h : Handover) : State :=
  let f := frameAdd s.frameNo 2
  let seq := s.twin.txSeq
  let s := s.sendMode 3 h.target.num 0 f (.frame (frameBefore f))
  let s := { s with twin := { s.twin with handover := some { h with frame := some f, acked := false, seq := seq } } }
  let stow := h.target == .stowed
  let t : Mode := if stow then .dark else h.target
  s.setChange (some ⟨t, 0, h.waiter, 0, some f, stow, some t.num⟩)

/-- The partner is armed in SHOW, by its latest STATUS (R459). -/
def State.partnerArmed (s : State) : Bool :=
  match s.twin.beatStatus with
  | some h => h.state == 2 && h.armed
  | none => false

/-- A planned hand-over is requested (R458, R459): with SPLICE down it happens at the next boundary; a leader swings
the token first. -/
def State.handoverStart (s : State) (target : Mode) (waiter : Option (Nat × Nat)) : State :=
  let stow := target == .stowed
  let t : Mode := if stow then .dark else target
  if !s.spliceUp then s.setChange (some ⟨t, 0, waiter, s.now, none, stow, some t.num⟩)
  else if !s.partnerArmed then s.answer waiter 0x0E 0xA5
  else
    let h : Handover := ⟨none, target, waiter, false, 0, false⟩
    if s.role == 1 then
      if s.get SPLICE_STATUS_PAIR != 2 then s.answer waiter 0x0E 0xA3
      else
        let s := { s with twin := { s.twin with handover := some h } }
        (if s.twin.swing.isSome then s else s.swingOffer).showChange
    else s.handoverSend h

/-- The leader announces a set-wide change for a frame two whole periods ahead (R458, R553). -/
def State.setChangeStart (s : State) (target : Mode) (waiter : Option (Nat × Nat)) : State :=
  let f := s.applyBoundary
  let seq := s.twin.txSeq
  let s := s.sendMode 4 target.num 0 f (.frame (frameBefore f))
  let s := { s with twin := { s.twin with handover := some ⟨some f, target, waiter, false, seq, true⟩ } }
  let stow := target == .stowed && s.house.mode.emitting
  let t : Mode := if stow then .dark else target
  s.setChange (some ⟨t, 1, waiter, 0, some f, stow, if t == .stowed then none else some t.num⟩)

/-- The announced change at a boundary (R459, R553): refused without its ACK by FB(F − 1); a hand-over that waited for
the swing is announced once this twin follows; at F it has run its course here. -/
def State.handoverBoundary (s : State) : State :=
  match s.twin.handover with
  | none => s
  | some h => match h.frame with
    | none => if s.role == 2 then (if s.partnerArmed then s.handoverSend h else s.refuseHandover 0xA5) else s
    | some f =>
      if !h.acked && decide (0 ≤ frameDiff s.frameNo (frameBefore f)) then s.refuseHandover 0xA5
      else if 0 ≤ frameDiff s.frameNo f then { s with twin := { s.twin with handover := none } }
      else s

/-- A MODE message that this twin may act on: its target, REASON and frame, where its OP is the step's and its EPOCH the
twin's own (R444). -/
def State.modeIn (s : State) (op : Nat) (b : List Nat) : Option (Nat × Nat) × State :=
  match s.spliceIn 6 b with
  | (none, s) => (none, s)
  | (some f, s) =>
    if f.epoch == s.get SPLICE_EPOCH_EPOCH && f.data.getD 0 0 == op then (some (f.data.getD 1 0, field f.data 4 4), s)
    else (none, s)

/-- SWITCH (R459): joiners end their JOIN phase at the boundary of F_s. -/
def State.switchIn (s : State) (b : List Nat) : State :=
  match s.modeIn 2 b with
  | (some (_, f), s) =>
    if s.role == 2 && s.flag SPLICE_STATUS_JOIN then { s with twin := { s.twin with switchAt := some f } } else s
  | (none, s) => s

/-- HANDOVER (R459): the partner of the leaving twin enters SOLO at the boundary of F. -/
def State.handoverIn (s : State) (b : List Nat) : State :=
  match s.modeIn 3 b with
  | (some (_, f), s) =>
    let mine := match s.house.change with
      | some c => c.cause == 3 || c.cause == 4 || c.cause == 7
      | none => false
    if s.house.mode == .show && !mine then
      (s.abandon 0x0E 0x8A).setChange (some ⟨.solo, 1, none, 0, some f, false, some 3⟩)
    else s
  | (none, s) => s

/-- The state of a target number of a set-wide change (R553). -/
def setTarget : Nat → Option Mode
  | 0 => some .stowed
  | 1 => some .dark
  | 5 => some .service
  | _ => none

/-- SET_CHANGE (R458): the follower changes with the leader at the boundary of F. -/
def State.setChangeIn (s : State) (b : List Nat) : State :=
  match s.modeIn 4 b with
  | (none, s) => s
  | (some (t, f), s) =>
    match setTarget t with
    | none => s
    | some target =>
      let ok := s.house.mode.emitting || s.house.mode == .dark || s.house.mode == .service
      if s.role != 2 || !ok || target == s.house.mode then s
      else
        let stow := target == .stowed && s.house.mode.emitting
        let m : Mode := if stow then .dark else target
        (s.abandon 0x0E 0x8A).setChange
          (some ⟨m, 1, none, 0, some f, stow, if m == .stowed then none else some m.num⟩)

/-- JOIN_ABORT (R553). -/
def State.joinAbortIn (s : State) (b : List Nat) : State :=
  match s.modeIn 5 b with
  | (some _, s) => if s.role == 2 then s.joinReturns else s
  | (none, s) => s

/-- The twin's part of a boundary, FRAME_NO being the new one. -/
def State.twinBoundary (s : State) : State :=
  s.swingBoundary.joinBoundary.switchBoundary.handoverBoundary.sendBoundary

end Sys2Proof.Machine
end

