-- ==== Sys2Proof/Machine/Host.lean ====
section
/-! DEFINITION. The HOST island (chapter 9): resets and Bus Master Enable, the doorbell watcher, rings and their states,
the fetch, admission and completion of descriptors, interrupts, and MW2. -/

namespace Sys2Proof

/-- KIND of a failed host request (HOST_DMA_ERR_INFO), 0 for a good one. -/
def HostRead.kind {α : Type} : HostRead α → Nat
  | .data _ => 0
  | .unsupported => 1
  | .completerAbort => 2
  | .timeout => 3
  | .poisoned => 4

end Sys2Proof

namespace Sys2Proof.Machine

open Reg

/-! ### Descriptors (R307) -/

/-- OPCODE. -/
def Desc.op (d : Desc) : Nat := getBits (d.words.getD 0 0) 24 8
/-- FENCE. -/
def Desc.fence (d : Desc) : Bool := getBits (d.words.getD 0 0) 19 1 == 1
/-- IRQ. -/
def Desc.irq (d : Desc) : Bool := getBits (d.words.getD 0 0) 18 1 == 1
/-- TAG. -/
def Desc.tag (d : Desc) : Nat := getBits (d.words.getD 0 0) 0 16
/-- PARAM0 (k = 0) and PARAM1 (k = 1). -/
def Desc.param (d : Desc) (k : Nat) : Nat := d.words.getD (1 + k) 0
/-- Payload word P0 to P11. -/
def Desc.p (d : Desc) (k : Nat) : Nat := d.words.getD (4 + k) 0

/-- A field of a descriptor: its word, lowest bit and width. -/
abbrev DescField := Nat × Nat × Nat

/-- Payload words from P(k) up as whole fields. -/
def payloadFrom (k : Nat) : List DescField := (List.range (12 - k)).map (fun i => (4 + k + i, 0, 32))

/-- The byte offset of the first field of a list that is not 0 (R320): the byte that holds the field's lowest bit. -/
def Desc.firstSet (d : Desc) (fs : List DescField) : Option Nat :=
  (fs.find? (fun f => getBits (d.words.getD f.1 0) f.2.1 f.2.2 != 0)).map (fun f => 4 * f.1 + f.2.1 / 8)

/-- The reserved fields of word 0 (R307). -/
def headerReserved : List DescField := [(0, 16, 2), (0, 20, 4)]

/-- The reserved field of word 3 (R307). -/
def word3Reserved : List DescField := [(3, 0, 31)]

/-- The reserved fields of PARAM0 and PARAM1 and of the payload, by class and opcode (R202, R322 to R330, R458). -/
def opReserved (cls op : Nat) : List DescField × List DescField :=
  match cls, op with
  | 0, 0x10 => ([(1, 0, 32), (2, 0, 32)], [(4, 4, 4), (4, 9, 23), (15, 0, 32)])
  | 0, 0x11 => ([(1, 0, 32), (2, 0, 32)], [(4, 4, 4), (4, 9, 23)] ++ payloadFrom 4)
  | 0, 0x12 => ([(1, 15, 17), (2, 0, 32)], payloadFrom 0)
  | 0, 0x18 => ([(1, 3, 29), (2, 0, 32)], payloadFrom 10)
  | 0, 0x20 => ([(1, 2, 30), (2, 0, 32)], payloadFrom 3)
  | 0, 0x21 => ([(1, 2, 30), (2, 0, 32)], payloadFrom 0)
  | 0, 0x30 => ([(1, 4, 4), (1, 9, 23), (2, 0, 32)], payloadFrom 0)
  | 0, 0x38 => ([(2, 0, 32)], payloadFrom 0)
  | 1, 3 => ([(1, 15, 17), (2, 0, 32)], [(4, 0, 32), (5, 0, 32), (7, 1, 31), (8, 24, 8), (9, 16, 16)] ++ payloadFrom 9)
  | 1, _ => ([(1, 15, 17), (2, 0, 32)], [(7, 1, 31), (8, 24, 8), (9, 16, 16)] ++ payloadFrom 8)
  | 2, _ => ([(1, 0, 32), (2, 0, 32)], payloadFrom 3)
  | 3, _ => ([], payloadFrom 3)
  | _, _ => ([], [])

/-- The byte offset of the first reserved field that is not 0 (R320). -/
def Desc.reserved (d : Desc) (cls : Nat) : Option Nat :=
  let r := opReserved cls d.op
  d.firstSet (headerReserved ++ r.1 ++ word3Reserved ++ r.2)

/-- The opcode is defined for the class (R321). -/
def opDefined (cls op : Nat) : Bool :=
  match cls with
  | 0 => [0x01, 0x10, 0x11, 0x12, 0x18, 0x20, 0x21, 0x30, 0x38].contains op
  | 1 => decide (1 ≤ op) && decide (op ≤ 4)
  | 2 => op == 1
  | 3 => decide (1 ≤ op) && decide (op ≤ 6)
  | _ => false

/-- The state accepts the opcode (R321). -/
def opAccepted (cls op : Nat) (m : Mode) : Bool :=
  match cls with
  | 0 => if op == 0x01 then true else if op == 0x30 then m != .fatal else m.running
  | 1 | 2 => m != .fatal
  | _ => true

/-- CLASS of a ring (R300). -/
def State.ringClass (s : State) (n : Nat) : Nat := s.get (RING_CFG_CLASS n)

/-- The descriptor in flight on a ring with an index, class and opcode whose work has not ended. -/
def State.flyingAt (s : State) (n index cls op : Nat) : Option Desc :=
  if s.ringClass n == cls then (s.ring n).inflight.find? (fun d => d.index == index && d.op == op && d.done.isNone) else none

/-- The same on a COMMAND or CALIBRATE ring, which runs one descriptor at a time (R310). -/
def State.flying (s : State) (n cls op : Nat) : Option Desc :=
  if s.ringClass n == cls then (s.ring n).inflight.find? (fun d => d.op == op && d.done.isNone) else none

/-- Every descriptor of the ring before an index has ended its work, so that the effects of this one follow theirs (R310). -/
def State.turnOf (s : State) (n index : Nat) : Bool :=
  ((s.ring n).inflight.takeWhile (fun d => d.index != index)).all (fun d => d.done.isSome)

/-- A descriptor in flight is changed. -/
def State.setDesc (s : State) (n index : Nat) (f : Desc → Desc) : State :=
  let r := s.ring n
  s.setRing n { r with inflight := r.inflight.map (fun d => if d.index == index then f d else d) }

/-- The first failure of a list of checks in the order of the status codes: code and detail (R320). -/
def firstFailure : List (Bool × Nat × Nat) → Option (Nat × Nat)
  | [] => none
  | (bad, code, detail) :: r => if bad then some (code, detail) else firstFailure r

/-- The checks that every descriptor shares around its own of E_LENGTH to E_RANGE: E_RESERVED before, E_MODE after. -/
def State.descFails (s : State) (cls : Nat) (d : Desc) (own : List (Bool × Nat × Nat)) : Option (Nat × Nat) :=
  firstFailure ([((d.reserved cls).isSome, 2, (d.reserved cls).getD 0)] ++ own
    ++ [(!opAccepted cls d.op s.house.mode, 8, s.house.mode.num)])

/-! ### Failed requests, HALT, OFF (R303, R312 to R315) -/

/-- A request to the host has failed (R303, R328): HOST_DMA_ERR and the cause RING_ERR. -/
def State.dmaError (s : State) (addr kind n : Nat) (line : Bool) : State :=
  let s := (s.setReg HOST_DMA_ERR_LO_OFF (addr % 2 ^ 32)).setReg HOST_DMA_ERR_HI_OFF (addr / 2 ^ 32)
  let s := (s.bump HOST_DMA_ERR_INFO_COUNT).set HOST_DMA_ERR_INFO_KIND kind
  ((s.setFlag HOST_DMA_ERR_INFO_DBELL line).set HOST_DMA_ERR_INFO_RING n).raise 6

/-- A ring goes to HALT (R312, R314): HALT_ERR, the cause RING_ERR, a RING event. -/
def State.haltRing (s : State) (n err : Nat) : State :=
  if s.ringState n == 1 || s.ringState n == 2 then
    let s := (s.set (RING_STATUS_HALT_ERR n) err).setRingState n 3
    let r := s.ring n
    let s := s.setRing n { r with fetching := [] }
    (s.raise 6).event ⟨7, n, 1, false, false, false, 0, [err]⟩
  else s

/-- What waits for a completion of a ring waits no longer: a mode change has no request to answer (R315), and the 50 µs of
R188 and R322 run from now. -/
def State.forgetRing (s : State) (n : Nat) : State :=
  let ours : Option (Nat × Nat) → Option (Nat × Nat) := fun w => match w with
    | some x => if x.1 == n then none else some x
    | none => none
  let h := s.house
  let s : State := { s with
    house := { h with change := h.change.map (fun c => { c with waiter := ours c.waiter })
                      stop := h.stop.map (fun q => { q with waiter := ours q.waiter }) }
    twin := { s.twin with joining := s.twin.joining.map (fun j => { j with waiter := ours j.waiter })
                          handover := s.twin.handover.map (fun h => { h with waiter := ours h.waiter }) } }
  s

/-- The commits and moves that a ring's completion lets go: their 50 µs run from now (R188, R322). The moves stand in the
order in which their commands completed (R201). -/
def State.releaseCommits (s : State) (n : Nat) : State :=
  let b := s.braid
  let free := (b.moves.filter (fun v => v.ringOf == some n)).map (fun v => { v with ringOf := none, goAt := s.now })
  let s : State := { s with braid := { b with
    commit := b.commit.map (fun c => if c.ringOf == some n then { c with ringOf := none, goAt := s.now } else c)
    moves := b.moves.filter (fun v => v.ringOf != some n) ++ free } }
  if s.ringClass n == 2 && s.tone.calGo == some none then
    { s with tone := { s.tone with calGo := some (some s.now) } } else s

/-- A ring reaches OFF (R312): its descriptors are gone, ENABLE reads 0. -/
def State.ringOff (s : State) (n : Nat) : State :=
  let s := (s.forgetRing n).releaseCommits n
  let s := (s.setRing n (s.ring n).stopped).set (RING_CTRL_ENABLE n) 0
  ((s.set (RING_STATUS_IN_FLIGHT n) 0).set (RING_STATUS_PHASE n) 0).setRingState n 0

/-- The mesh load of a ring stops: the bank stays invalid and LOADING clears (R315). -/
def State.stopLoad (s : State) (n : Nat) : State :=
  match s.warp.load with
  | some l => if l.ring == n then ({ s with warp := { s.warp with load := none } }).set WARP_MESH_STATUS_LOADING 0 else s
  | none => s

/-- Every ring goes to OFF at once, with no completion written (R298, R312). -/
def State.ringsOff (s : State) : State :=
  (List.range 64).foldl (fun (s : State) n =>
    if s.ringState n == 0 then s else (s.stopLoad n).ringOff n) s

/-- The kinds of descriptor in flight that a RESET ends (R315): all but those handed to their island and the NOP. -/
def resetEnds (cls op : Nat) : Bool :=
  if cls == 0 then op == 0x20 || op == 0x30 || op == 0x38 else true

/-- RESET of a ring (R312, R315). -/
def State.ringReset (s : State) (n : Nat) : State :=
  if s.ringState n == 0 || s.ringState n == 4 then s
  else
    let cls := s.ringClass n
    let s := (s.forgetRing n).stopLoad n
    let r := s.ring n
    let s := s.setRing n { r with
      fetched := []
      fetching := []
      inflight := r.inflight.map (fun d =>
        if resetEnds cls d.op && d.done.isNone then { d with done := some (15, 0, 0) } else d) }
    s.setRingState n 4

/-- The reset work of a ring has ended (R315): OFF, once every completion is written. -/
def State.ringResetDone (s : State) (n : Nat) : State :=
  if s.ringState n == 4 && (s.ring n).inflight == [] then s.ringOff n else s

/-- ENABLE written to 1 (R312, R313). BASE is always aligned: its register holds bits [63:12] only, so code 3 cannot
arise. -/
def State.ringEnable (s : State) (n : Nat) : State :=
  let cls := s.ringClass n
  let lg := s.get (RING_CFG_LOG2SIZE n)
  let code := if s.ringState n != 0 then 5
    else if 5 ≤ cls then 1
    else if lg < 4 || 16 < lg then 2
    else if !s.flag HOST_DBELL_LO_VALID then 4
    else if s.house.mode == .boot then 6
    else 0
  let s := s.set (RING_STATUS_CFG_ERR n) code
  if code != 0 then s
  else
    let s := (s.setRing n (s.ring n).stopped).set (RING_CTRL_ENABLE n) 1
    let s := (s.set (RING_HEAD_HEAD n) 0).set (RING_INDEX_INDEX n) 0
    let s := ((s.set (RING_STATUS_HALT_ERR n) 0).set (RING_STATUS_PHASE n) 1).set (RING_STATUS_IN_FLIGHT n) 0
    let s := (s.setRingState n 1).set HOST_WATCH_STATUS_FAST 1
    { s with host := { s.host with idleRounds := 0 } }

/-- ENABLE written to 0 (R312): RUN drains, and is OFF at once where nothing is in flight. -/
def State.ringDisable (s : State) (n : Nat) : State :=
  let s := s.set (RING_CTRL_ENABLE n) 0
  if s.ringState n != 1 then s
  else
    let r := s.ring n
    let s := (s.setRing n { r with fetched := [], fetching := [] }).setRingState n 2
    if r.inflight == [] then s.ringOff n else s

/-- A write of HOST_RING_nn_CTRL: RESET, then ENABLE. -/
def State.ringCtrl (s : State) (n v : Nat) : State :=
  let s := if v / 2 % 2 == 1 then s.ringReset n else s
  if v % 2 == 1 then s.ringEnable n else s.ringDisable n

/-! ### The watcher (R302 to R306) -/

/-- Address of a line of the doorbell page (R302). -/
def State.lineAddr (s : State) (g : Nat) : Nat :=
  2 ^ 32 * s.get HOST_DBELL_HI_ADDR + 4096 * s.get HOST_DBELL_LO_ADDR + 64 * g

/-- The watcher reads a line that serves a ring in RUN, DRAIN or HALT (R303). -/
def State.lineActive (s : State) (g : Nat) : Bool := s.flag ⟨HOST_WATCH_STATUS_OFF, g, 1⟩

/-- A read of a line is issued, where the line is active. -/
def State.askLine (s : State) (g : Nat) : State :=
  if !s.lineActive g then s
  else
    let s : State := { s with host := { s.host with linesOut := g :: s.host.linesOut } }
    s.toHost (.hostRead (s.lineAddr g) 64)

/-- A round reads a line, where no read of it is outstanding. -/
def State.readLine (s : State) (g : Nat) : State := if s.host.linesOut.contains g then s else s.askLine g

/-- A polling interval ends (R303): FAST falls to SLOW once IDLE rounds have ended without a change, and a new round reads the
active lines. While Bus Master Enable is 0 the watcher stands still (R299). -/
def State.watchPoll (s : State) : State :=
  if !s.mayMaster then s
  else
    let k := s.host.idleRounds
    let slow := max 1 (s.get HOST_WATCH_IDLE) ≤ k
    let s : State :=
      if !s.flag HOST_WATCH_STATUS_FAST then s
      else if slow then ({ s with host := { s.host with idleRounds := 0 } }).set HOST_WATCH_STATUS_FAST 0
      else { s with host := { s.host with idleRounds := k + 1 } }
    (List.range 8).foldl (fun s g => s.readLine g) s

/-- The watcher is FAST again (R303). -/
def State.watchFast (s : State) : State :=
  ({ s with host := { s.host with idleRounds := 0 } }).set HOST_WATCH_STATUS_FAST 1

/-- A write of HOST_NUDGE (R304): each line named is read after it, whatever reads of it are outstanding. -/
def State.nudge (s : State) (v : Nat) : State :=
  let s := s.watchFast
  if !s.mayMaster then s
  else
    let groups := if v % 256 == 0 then 255 else v % 256
    (List.range 8).foldl (fun s g => if groups / 2 ^ g % 2 == 1 then s.askLine g else s) s

/-- The slots from the next one up to INDEX are fetched (R305). -/
def State.fetchTo (s : State) (n index : Nat) : State :=
  let r := s.ring n
  let k := (2 ^ 32 + index - r.nextIdx) % 2 ^ 32
  let idx := (List.range k).map (fun i => (r.nextIdx + i) % 2 ^ 32)
  let s := s.setRing n { r with nextIdx := index, fetching := r.fetching ++ idx }
  idx.foldl (fun s i => s.toHost (.hostRead (s.slotAddr n i) 64)) s

/-- An INDEX is taken from the doorbell page (R303, R305, R306). -/
def State.takeIndex (s : State) (n v : Nat) : State :=
  let old := s.get (RING_INDEX_INDEX n)
  if (s.ringState n != 1 && s.ringState n != 2) || v == old then s
  else
    let done := s.get (RING_HEAD_HEAD n)
    let s := (s.set (RING_INDEX_INDEX n) v).watchFast
    if s.ringClass n == 4 then
      if 0 < frameDiff v done then s.haltRing n 1 else s.overflow n
    else if frameDiff v old < 0 || s.ringSize n < (2 ^ 32 + v - done) % 2 ^ 32 then s.haltRing n 1
    else if s.ringState n == 1 then s.fetchTo n v else s

/-- The read of a line ends (R303): its entries are taken, or the read is retried twice, and after the third failure every
ring of the line halts. -/
def State.lineRead (s : State) (g : Nat) (r : HostRead (List Nat)) : State :=
  if !s.host.linesOut.contains g then s
  else
    let s : State := { s with host := { s.host with linesOut := s.host.linesOut.erase g } }
    let fails := sget (fun _ => 0) s.host.lineFails g
    let put := fun (s : State) (k : Nat) =>
      { s with host := { s.host with lineFails := sput (fun _ => 0) s.host.lineFails g k } }
    match r with
    | .data w => (List.range 8).foldl (fun s k => s.takeIndex (8 * g + k) (w.getD (2 * k) 0 % 2 ^ 32)) (put s 0)
    | _ =>
      let s := (s.dmaError (s.lineAddr g) r.kind (8 * g) true).bump HOST_WATCH_STATUS_READ_FAIL
      if fails < 2 then (put s (fails + 1)).askLine g
      else (List.range 8).foldl (fun s k => s.haltRing (8 * g + k) 3) (put s 0)

/-- A fetched descriptor takes its place in index order. -/
def insertDesc (d : Desc) : List Desc → List Desc
  | [] => [d]
  | e :: r => if frameDiff d.index e.index < 0 then d :: e :: r else e :: insertDesc d r

/-- The read of a slot ends (R305, R314). -/
def State.descFetch (s : State) (n index : Nat) (r : HostRead (List Nat)) : State :=
  let q := s.ring n
  if !q.fetching.contains index then s
  else
    let q := { q with fetching := q.fetching.filter (fun i => i != index) }
    match r with
    | .data w => s.setRing n { q with fetched := insertDesc ⟨index, w, 0, 0, false, none, 0⟩ q.fetched }
    | _ => ((s.setRing n q).dmaError (s.slotAddr n index) r.kind n false).haltRing n 2

/-! ### Admission and completion (R307 to R310, R316, R318) -/

/-- The descriptor moves DRAM bytes (R316). -/
def movesBytes (cls : Nat) (d : Desc) : Bool :=
  match cls with
  | 0 => d.op == 0x20
  | 1 => d.p 4 % 2 ^ 24 != 0 && d.p 5 % 2 ^ 16 != 0
  | 2 => decide (32 < d.p 2)
  | _ => decide (1 ≤ d.op) && decide (d.op ≤ 4) && d.param 1 != 0

/-- A range of memory: host memory or module DRAM, from an address up to an address. -/
structure Span where
  host : Bool
  lo   : Nat
  hi   : Nat
  deriving DecidableEq, Repr

/-- The destination and source ranges of a SURFACE descriptor, none where it moves nothing (R310, R327). -/
def Desc.spans (d : Desc) : Option (Span × List Span) :=
  let rb := d.p 4 % 2 ^ 24
  let rows := d.p 5 % 2 ^ 16
  if rb == 0 || rows == 0 then none
  else
    let ha := d.p 0 + 2 ^ 32 * d.p 1
    let ma := d.p 2 + 2 ^ 32 * (d.p 3 % 2)
    let h : Bool → Span := fun host => ⟨host, ha, ha + (rows - 1) * d.p 6 + rb⟩
    let m : Span := ⟨false, ma, ma + (rows - 1) * d.p 7 + rb⟩
    match d.op with
    | 1 => some (m, [h true])
    | 2 => some (h true, [m])
    | 3 => some (m, [])
    | _ => some (m, [h false])

/-- Two ranges overlap. -/
def Span.meets (a b : Span) : Bool := a.host == b.host && decide (a.lo < b.hi) && decide (b.lo < a.hi)

/-- The destination of a descriptor overlaps a range of an earlier one (R310). -/
def Desc.clashes (d e : Desc) : Bool :=
  match d.spans, e.spans with
  | some (x, _), some (y, ys) => (y :: ys).any (fun z => x.meets z)
  | _, _ => false

/-- The most descriptors of a ring that may be in flight (R300, R316). -/
def State.inflightCap (s : State) (n : Nat) : Nat :=
  let q := min 256 (s.get (RING_QUOTA_INFLIGHT n))
  if s.ringClass n == 0 || s.ringClass n == 2 then min q 1 else q

/-- The generation counter of a dump (R331). -/
def State.dumpGen (s : State) (op : Nat) : Nat :=
  match op with
  | 1 => s.tone.updates % 2 ^ 16
  | 2 => s.array.surveyed % 2 ^ 16
  | 3 => (s.get TONE_CAL_STATUS_GEN + s.tone.wearSteps) % 2 ^ 16
  | 4 => s.get STRIKE_DEFECT_COUNT_GEN
  | 5 => s.reg ANODE_MEAS_FRAME_OFF % 2 ^ 16
  | _ => s.get KEEPER_SEQ_NEXT % 2 ^ 16

/-- The island that does the work of an opcode, where it is one that the stop sequence may have stopped. -/
def opIsland (cls op : Nat) : Nat :=
  match cls with
  | 0 => if 0x10 ≤ op && op ≤ 0x12 then 2 else if op == 0x20 || op == 0x21 then 3 else 1
  | 2 => 4
  | _ => 1

/-- The next descriptor of a ring may be admitted: order, FENCE, overlap, and the quotas (R307, R310, R316). -/
def State.admissible (s : State) (n : Nat) (d : Desc) : Bool :=
  let r := s.ring n
  let cls := s.ringClass n
  s.ringState n == 1 && !s.house.pllUnlocked.contains 1 && d.index == (s.get (RING_HEAD_HEAD n) + r.inflight.length) % 2 ^ 32
    && decide (r.inflight.length < s.inflightCap n) && !(d.fence && r.inflight != [])
    && !(cls == 1 && r.inflight.any (fun e => d.clashes e))
    && !s.islandStopped (opIsland cls d.op) && (!movesBytes cls d || decide (s.ringUse n < 10000 * s.get (RING_QUOTA_BW n)))

/-- A fetched descriptor is admitted (R316, R317). An opcode that is not of the class ends at once (R320). -/
def State.descAdmit (s : State) (n : Nat) : State :=
  let r := s.ring n
  match r.fetched with
  | [] => s
  | d :: rest =>
    if !s.admissible n d then s
    else
      let bw := s.get (RING_QUOTA_BW n)
      let d := { d with bw := bw, gen := s.dumpGen d.op }
      let s := s.setRing n { r with fetched := rest, inflight := r.inflight ++ [d] }
      let s := s.set (RING_STATUS_IN_FLIGHT n) (r.inflight.length + 1)
      if opDefined (s.ringClass n) d.op then s else s.finish n d.index 1 0 0

/-- DETAIL of a completion (R320): of a dump that ended OK the generation counter as the completion is written (R331); for
TEL_SENSORS, whose two values are always equal, that of the snapshot dumped (notes/assumptions/17.md). -/
def State.completionDetail (s : State) (n : Nat) (d : Desc) (r : Nat × Nat × Nat) : Nat :=
  if s.ringClass n == 3 && r.1 == 0 && d.op != 5 then s.dumpGen d.op else r.2.1

/-- The completion record's words of a descriptor (R308). -/
def State.completionWords (s : State) (n : Nat) (d : Desc) (r : Nat × Nat × Nat) : List Nat :=
  let role := if s.twinEn then s.role % 4 else 0
  [2 ^ 24 * d.op + d.tag, 2 ^ 16 * (s.completionDetail n d r % 2 ^ 16) + r.1, s.frameNo,
   2 ^ 31 * s.phaseOf n d.index + 2 ^ 29 * role + r.2.2 % 2 ^ 16]

/-- The completion of a ring's oldest descriptor in flight is written, once its work has ended (R308 to R310): words 0 to 2,
then word 3 in a later write. The ring's vector follows (R338). -/
def State.descCompletion (s : State) (n : Nat) : State :=
  let r := s.ring n
  match r.inflight with
  | [] => s
  | d :: rest =>
    match d.done with
    | none => s
    | some res =>
      if !s.mayMaster then s
      else
        let words := s.completionWords n d res
        let s := (s.emit (.hostWords (s.slotAddr n d.index) (words.take 3))).emit
          (.hostWords (s.slotAddr n d.index + 12) (words.drop 3))
        let s := s.setRing n { r with inflight := rest }
        let s := (s.set (RING_HEAD_HEAD n) (d.index + 1)).set (RING_STATUS_IN_FLIGHT n) rest.length
        let s := s.set (RING_STATUS_PHASE n) (s.phaseOf n ((d.index + 1) % 2 ^ 32))
        let s := if res.1 != 0 then s.bump (RING_DROPPED_ERRORS n) else s
        let s := s.releaseCommits n
        let s := if d.irq then s.ringMsg n else s
        if s.ringState n == 2 && rest == [] then s.ringOff n else s

/-! ### Interrupts (R337 to R339) -/

/-- A ring's holdoff ends (R338). -/
def State.holdoffEnds (s : State) (n : Nat) : State :=
  let r := s.ring n
  if r.msgWaits && (match r.lastMsg with | some t => decide (t + s.get (RING_CFG_HOLDOFF n) * 1000 ≤ s.now) | none => true)
  then (s.setRing n { r with lastMsg := some s.now, msgWaits := false }).msix n else s

/-- A write of HOST_IRQ_EN (R339): a message for each enable that becomes 1 while its cause is set. -/
def State.irqEnable (s : State) (v : Nat) : State :=
  let old := s.get HOST_IRQ_EN_EN
  let s := s.set HOST_IRQ_EN_EN v
  (List.range 8).foldl (fun s k =>
    if v / 2 ^ k % 2 == 1 && old / 2 ^ k % 2 == 0 && s.flag ⟨HOST_IRQ_CAUSE_OFF, k, 1⟩ then s.msix (64 + k) else s) s

/-- A vector's mask bit is written (R337): unmasking sends a pending message. -/
def State.msixCtrl (s : State) (v w : Nat) : State :=
  let s := s.set (MSIX_CTRL_MASK v) w
  let pend : Field := ⟨MSIX_PBA_OFF (v / 32), v % 32, 1⟩
  if w % 2 == 0 && s.flag pend then (s.set pend 0).toHost (.msix v) else s

/-! ### Resets and Bus Master Enable (R298, R299, R527) -/

/-- The host writes the configuration space (R295, R299): where the module may issue requests again, what waited goes out in
order, a message whose vector has been masked since becoming pending (R337). -/
def State.busMaster (s : State) (bme : Bool) (conf : PcieConf) : State :=
  let s := (s.setFlag HOST_LINK_BME bme)
  let s : State := { s with host := { s.host with conf := conf } }
  if !s.mayMaster then s
  else
    let waits := s.host.stalled.reverse
    let s : State := { s with host := { s.host with stalled := [] } }
    waits.foldl (fun s o => match o with
      | .msix v => s.msix v
      | o => s.emit o) s

/-- The offsets of the HOST block's registers. -/
def hostBlock (off : Nat) : Bool := off / 65536 == 2

/-- The registers of the HOST block return to their cold values: configured ones to those of the base configuration (R27,
R298). The module event SEQ runs on (notes/assumptions/34.md). -/
def State.hostCold (s : State) : State :=
  let s : State := { s with
    regs := s.regs.filter (fun e => !hostBlock e.1)
    host := { rings := [], eventSeq := s.host.eventSeq, stalled := [], lineFails := [], idleRounds := 0, linesOut := [],
              conf := .cold, mw2Debt := 0, mw2Wait := [], frameRun := 0 }
    shadows := s.shadows.filter (fun e => e.1 != .host) }
  (s.house.config.filter (fun e => hostBlock e.1)).foldl (fun (s : State) e => s.setReg e.1 e.2) s

/-- A host message is discarded (R345). -/
def State.mboxDrop (s : State) (n : Nat) (f : Field) : State :=
  let m := s.mbox n
  ((s.setMbox n { m with txPart := [] }).latch f).bump MBOX_ERR_DISCARDS

/-- An incomplete host message is discarded (R345). -/
def State.mboxTear (s : State) (n : Nat) : State :=
  if (s.mbox n).txPart == [] then s else s.mboxDrop n (MBOX_TX_STATUS_TORN n)

/-- A hot reset, a link-down or a function-level reset (R298): HOST alone is reset. `linkUp` tells whether the link is
still up afterwards, with its width and speed. Incomplete host messages are discarded (R345). -/
def State.hostReset (s : State) (linkUp : Bool) : State :=
  let link := s.reg HOST_LINK_OFF
  let s := s.ringsOff.hostCold
  let s := if linkUp then ((s.setReg HOST_LINK_OFF link).set HOST_LINK_BME 0).set HOST_LINK_PTM 0 else s
  let s := (List.range 8).foldl (fun s n => s.mboxTear n) s
  (s.fault 0x0101 1 0).forceLocks (fun m => m == .host)

/-- Vendor ID, Device ID and class code of the endpoint (R295). -/
def pcieIds : Nat × Nat × Nat := (0x1D7A, 0xF124, 0x048000)

/-- Subsystem ID (R3, R295): 0x000A for ILN-F1024-A, 0x000B for ILN-F1024-B, which FUSE_ORDER.ORDER names with 0 and 1. -/
def State.subsystemId (s : State) : Nat := 0x000A + s.get FUSE_ORDER_ORDER

/-- Link training completes (R295, R527). -/
def State.pcieUp (s : State) (width speed : Nat) (ptm : Bool) : State :=
  if !s.powered || s.house.perstLow || s.flag HOST_LINK_UP then s
  else (((s.set HOST_LINK_UP 1).set HOST_LINK_WIDTH width).set HOST_LINK_SPEED speed).setFlag HOST_LINK_PTM ptm

/-- PERST_N changes (R527): its assertion acts as a link-down. -/
def State.perst (s : State) (asserted : Bool) : State :=
  let was := s.house.perstLow
  let s : State := { s with house := { s.house with perstLow := asserted } }
  if asserted && !was && s.powered then s.hostReset false else s

/-! ### MW2 (R50, R297, R319) -/

/-- A request through MW2 joins those that wait in the endpoint, and all run that the bucket lets run (R319). -/
def State.mw2 (s : State) (write : Bool) (addr : Nat) (data : List Nat) (len : Nat) : State :=
  let n := if write then data.length else len
  if !s.reaches .host || dramSize < addr + n then s
  else ({ s with host := { s.host with mw2Wait := s.host.mw2Wait ++ [(write, addr, if write then data else [], n)] } }).mw2Run

end Sys2Proof.Machine
end

