-- ==== Sys2Proof/Machine/Mbox.lean ====
section
/-! DEFINITION. Mailboxes, doorbell bits and lock registers (chapter 10), the recovery of the housekeeping cores, and the
boot-flash services (R514 to R516). -/

namespace Sys2Proof.Machine

open Reg

/-! ### Queues (R341 to R347) -/

/-- LEN of a header (R342). -/
def msgLen (h : Nat) : Nat := h % 8
/-- CODE of a header. -/
def msgCode (h : Nat) : Nat := h / 2 ^ 16 % 2 ^ 16
/-- SEQ of a header. -/
def msgSeq (h : Nat) : Nat := h / 2 ^ 8 % 2 ^ 8
/-- A reserved bit of a header is set. -/
def msgReserved (h : Nat) : Bool := h / 8 % 32 != 0

/-- The host pushes a word (R343 to R345). -/
def State.mboxPush (s : State) (n w : Nat) : State :=
  let m := s.mbox n
  if m.txCount == 8 then s.mboxDrop n (MBOX_TX_STATUS_DROP n)
  else
    let part := m.txPart ++ [w]
    let since := if m.txPart == [] then s.now else m.txSince
    if part.length == msgLen (part.getD 0 0) + 1 then
      (s.setMbox n { m with tx := m.tx ++ [part], txPart := [], txSince := since, spoken := true }).notifyFw n
    else s.setMbox n { m with txPart := part, txSince := since }

/-- 10 ms have passed since the header of an incomplete message (R345). -/
def State.mboxTorn (s : State) (n : Nat) : State :=
  if 10000000 + (s.mbox n).txSince ≤ s.now then s.mboxTear n else s

/-- Firmware messages that wait go into the RX queue while it has room (R346, R347). -/
def State.mboxFlush (s : State) (n : Nat) : Nat → State
  | 0 => s
  | k + 1 =>
    let m := s.mbox n
    match m.rxWait with
    | [] => s
    | (w, _) :: rest =>
      if m.rxCount + w.length ≤ 8 then
        ((s.setMbox n { m with rx := m.rx ++ [w], rxWait := rest }).notifyHost n).mboxFlush n k
      else s

/-- The host reads the next word of the head message (R343): the word, or 0 and UNDER. -/
def State.mboxRead (s : State) (n : Nat) : Nat × State :=
  let m := s.mbox n
  match m.rx with
  | (w :: r) :: rest =>
    let m := { m with rx := if r == [] then rest else r :: rest, rxWait := m.rxWait.map (fun x => (x.1, s.now)) }
    (w, (s.setMbox n m).mboxFlush n m.rxWait.length)
  | _ => (0, s.latch (MBOX_RX_STATUS_UNDER n))

/-- The oldest waiting firmware message has found no room for 10 ms (R347): LOST, and MBOX_TIMEOUT. -/
def State.mboxReplyTimeout (s : State) (n : Nat) : State :=
  let m := s.mbox n
  match m.rxWait with
  | [] => s
  | (_, t) :: rest =>
    if s.now < 10000000 + t then s
    else
      let s := s.setMbox n { m with rxWait := rest.map (fun x => (x.1, s.now)) }
      let s := ((s.bump (MBOX_RX_STATUS_LOST n)).bump MBOX_ERR_TIMEOUTS).fault 0x0A01 10 (subj 17 n)
      s.mboxFlush n rest.length

/-- A channel is reset (R356). -/
def State.mboxReset (s : State) (n v : Nat) : State :=
  if v % 2 == 0 then s
  else
    let s := s.setMbox n Mbox.empty
    let s := (s.set ⟨MBOX_DBELL_OFF, n, 1⟩ 0).set ⟨MBOX_DBELL_OFF, 8 + n, 1⟩ 0
    { s with hk := { s.hk with
      resets := sput (fun _ => 0) s.hk.resets n (sget (fun _ => 0) s.hk.resets n + 1) } }

/-- A write of MBOX_DBELL_SET (R355): only the bits of 24 to 31 set and notify. -/
def State.dbellSet (s : State) (v : Nat) : State :=
  ([24, 25, 26, 27, 28, 29, 30, 31].filter (fun b => v / 2 ^ b % 2 == 1)).foldl (fun s b => s.bell b) s

/-! ### Firmware replies (R349) -/

/-- The boot ROM serves the mailboxes: BOOT_HALT (R512). -/
def State.romServes (s : State) : Bool := s.house.mode == .boot && s.flag HOUSE_BOOT_HALT

/-- Module firmware, or the boot ROM, answers host messages. -/
def State.serves (s : State) : Bool := s.flag MBOX_STATUS_FW_READY || s.romServes

/-- A request has a code that is answered here, no reserved bit, and the LEN that its table gives (R349, R512, R514). -/
def State.goodRequest (s : State) (msg : List Nat) : Bool :=
  let h := msg.getD 0 0
  let len := match msgCode h with
    | 0x0000 => some none
    | 0x0001 => if s.romServes then none else some none
    | 0x0100 => some (some 0)
    | 0x0101 => some (some 4)
    | 0x0102 => some (some 1)
    | 0x0103 => some (some 1)
    | _ => (none : Option (Option Nat))
  match len with
  | none => false
  | some l => !msgReserved h && (match l with | none => true | some k => msgLen h == k)

/-- The oldest message of a channel that is not answered: one that firmware has read already, else the head of the TX
queue. -/
def Mbox.oldest (m : Mbox) : Option (List Nat) :=
  match m.got, m.tx with
  | msg :: _, _ => some msg
  | [], msg :: _ => some msg
  | [], [] => none

/-- The channel without that message. -/
def Mbox.served (m : Mbox) : Mbox := if m.got == [] then { m with tx := m.tx.drop 1 } else { m with got := m.got.drop 1 }

/-- The oldest message of a channel, where it is a good request of a code; firmware takes it. -/
def State.takeRequest (s : State) (n code : Nat) : Option (List Nat) × State :=
  let m := s.mbox n
  match m.oldest with
  | none => (none, s)
  | some msg =>
    if s.serves && s.goodRequest msg && msgCode (msg.getD 0 0) == code then (some msg, s.setMbox n m.served)
    else (none, s)

/-- A reply's header: the request's CODE with bit 15 set, and its SEQ (R349). -/
def replyHeader (h len : Nat) : Nat := 2 ^ 16 * (2 ^ 15 + msgCode h % 2 ^ 15) + 2 ^ 8 * msgSeq h + len

/-- The reply to a request is sent on its channel. -/
def State.reply (s : State) (n : Nat) (msg : List Nat) (data : List Nat) : State :=
  s.fwSend n (replyHeader (msg.getD 0 0) data.length :: data)

/-- PING. -/
def State.ping (s : State) (n : Nat) : State :=
  match s.takeRequest n 0x0000 with
  | (none, s) => s
  | (some msg, s) => s.reply n msg []

/-- VERSION. -/
def State.version (s : State) (n : Nat) : State :=
  match s.takeRequest n 0x0001 with
  | (none, s) => s
  | (some msg, s) => s.reply n msg [s.get HOUSE_FW_VERSION, s.get HOUSE_BOOT_SLOT]

/-- An unknown or malformed request is answered with BAD_MESSAGE. -/
def State.badMessage (s : State) (n : Nat) : State :=
  let m := s.mbox n
  match m.oldest with
  | none => s
  | some msg =>
    if !s.serves || s.goodRequest msg then s
    else (s.setMbox n m.served).fwSend n [0xFFFF * 2 ^ 16 + 2 ^ 8 * msgSeq (msg.getD 0 0) + 1, msg.getD 0 0]

/-! ### Locks (R357 to R361) -/

/-- The holder of a lock. -/
def State.holder (s : State) (n : Nat) : Option Master := (s.hk.holder.find? (fun h => h.1 == n)).map (·.2)

/-- LOCK_n as a read by a master returns it: BUSY, OWNER, COUNT (R357). -/
def State.lockWord (s : State) (n : Nat) (busy : Bool) : Nat :=
  2 ^ 31 * bit busy + 2 ^ 24 * s.get (LOCK_PEEK_OWNER n) + s.get (LOCK_PEEK_COUNT n) * 2 ^ 8

/-- A waiting command reads LOCK_n in the present cycle of HOUSE, by a master that may acquire it (R359, R360). -/
def State.contends (s : State) (n : Nat) : Instr → Option Master
  | .lockRead t lock r =>
    if lock == n && sameCycle (LOCK_OFF n) (max s.now t) s.now && !(12 ≤ n && r.master == .host) && s.reaches r.master
    then some r.master else none
  | _ => none

/-- Who acquires LOCK_n among the reads of one cycle (R359): the reader, or the highest-ranked master that contends. -/
def State.lockWinner (s : State) (n : Nat) (m : Master) : Master :=
  (s.pending.filterMap (s.contends n)).foldl (fun w c => if w.rank < c.rank then c else w) m

/-- A master acquires a lock (R357). -/
def State.acquire (s : State) (n : Nat) (m : Master) : State :=
  let s := { s with hk := { s.hk with holder := (n, m) :: s.hk.holder } }
  let s := (s.count (LOCK_PEEK_COUNT n)).set (LOCK_PEEK_OWNER n) m.owner
  let s := (s.set (LOCK_PEEK_HELD n) 1).set (LOCK_OWNER n) m.owner
  let s := s.set (LOCK_COUNT n) (s.get (LOCK_PEEK_COUNT n))
  (s.set ⟨LOCK_STATUS_OFF, n, 1⟩ 1).setFlag ⟨LOCK_STATUS_OFF, 16 + n, 1⟩ (m == .host)

/-- A read of LOCK_n by a master (R357, R359, R360): the value read, and the lock acquired where it is free. -/
def State.lockRead (s : State) (n : Nat) (m : Master) : Nat × State :=
  if 12 ≤ n && m == .host then (s.lockWord n true, s)
  else match s.holder n with
    | some h => (s.lockWord n (h != m), s)
    | none =>
      let w := s.lockWinner n m
      let s := s.acquire n w
      (s.lockWord n (w != m), s)

/-- A write of LOCK_n (R357). -/
def State.lockRelease (s : State) (n : Nat) (m : Master) (v : Nat) : State :=
  if s.holder n == some m then (if v % 2 == 1 then s.freeLock n else s)
  else s.bump LOCK_ERR_MISRELEASE

/-! ### Recovery (R351 to R354) -/

/-- The housekeeping watchdog expires (R351): the cores restart, their locks are released, replies not yet in a queue and
messages read but not answered are lost with the firmware that held them (notes/assumptions/10.md), and recovery begins. -/
def State.fwWatchdog (s : State) : State :=
  if !s.powered || !(s.flag MBOX_STATUS_FW_READY || s.flag MBOX_STATUS_RECOVERY) then s
  else
    let s := (s.set MBOX_STATUS_RECOVERY 1).set MBOX_STATUS_FW_READY 0
    let s := (List.range 8).foldl (fun (s : State) n => s.setMbox n { s.mbox n with rxWait := [], got := [] }) s
    let s := (s.mboxMode.bell 17).fault 0x0A09 10 (subj 14 10)
    s.forceLocks Master.isFw

/-- Module firmware is ready, after the firmware step of BOOT or a recovery (R351, R354). -/
def State.fwReady (s : State) : State :=
  if !s.powered || s.romServes || s.flag MBOX_STATUS_FW_READY then s
  else
    let was := s.flag MBOX_STATUS_RECOVERY
    let s := ((s.set MBOX_STATUS_FW_READY 1).set MBOX_STATUS_RECOVERY 0).bell 16
    let s : State := { s with
      twin := { s.twin with tickStopped := false }
      hk := { s.hk with hkc1On := true } }
    let s := s.mboxMode
    if was then s.notice 0xC003 [] else s

/-! ### Boot-flash services (R514 to R516) -/

/-- An empty slot. -/
def Slot.empty : Slot := ⟨0xFFFFFFFF, 0xFFFFFFFF, false, none, []⟩

/-- A slot of the boot flash. -/
def State.slot (s : State) (n : Nat) : Slot := sget (fun _ => Slot.empty) s.house.slots n

/-- A slot changes. -/
def State.setSlot (s : State) (n : Nat) (x : Slot) : State :=
  { s with house := { s.house with slots := sput (fun _ => Slot.empty) s.house.slots n x } }

/-- The services are answered: SERVICE, or BOOT_HALT (R514). -/
def State.slotState (s : State) : Bool := s.house.mode == .service || s.romServes

/-- The slot tried first under BOOT_SEL NORMAL (R510): that of the valid activation record of higher COUNT, else slot 0. -/
def State.preferred (s : State) : Nat :=
  match (s.slot 0).activation, (s.slot 1).activation with
  | some a, some b => if a < b then 1 else 0
  | none, some _ => 1
  | _, none => 0

/-- SLOT_INFO. In another state word 1 is status 1 and the other words are 0 (notes/assumptions/35.md). -/
def State.slotInfo (s : State) (n : Nat) : State :=
  match s.takeRequest n 0x0100 with
  | (none, s) => s
  | (some msg, s) =>
    let a := s.slot 0
    let b := s.slot 1
    if !s.slotState then s.reply n msg [1, 0, 0, 0, 0]
    else s.reply n msg [s.get HOUSE_BOOT_SLOT + 4 * s.preferred + 16 * bit a.verified + 32 * bit b.verified,
      a.generation, b.generation, a.fwVersion, b.fwVersion]

/-- FLASH_DONE (R516): DBELL_18, and the notice on the request's channel. -/
def State.flashNotice (s : State) (n status code result : Nat) : State :=
  let s := s.bell 18
  if (s.mbox n).spoken then s.fwSend n [0xC001 * 2 ^ 16 + 2, 2 ^ 16 * status + code, result] else s

/-- The status of a SLOT_WRITE request (R514): slot, offset, surface-pool address, length. -/
def State.slotWriteStatus (s : State) (slot off addr len : Nat) : Nat :=
  if !s.slotState then 1
  else if s.get HOUSE_BOOT_SLOT == slot && !s.romServes then 2
  else if off % 65536 != 0 || addr % 65536 != 0 || len % 4096 != 0 || 0x400000 < off + len || modRegion < addr + len then 3
  else if s.house.flashOp.isSome then 4
  else 0

/-- SLOT_WRITE. A length of 0 sends FLASH_DONE at once and changes nothing (R515). -/
def State.slotWrite (s : State) (n : Nat) : State :=
  match s.takeRequest n 0x0101 with
  | (none, s) => s
  | (some msg, s) =>
    let w := msg.getD 1 0
    let slot := w % 2
    let addr := msg.getD 3 0 + 2 ^ 32 * (w / 2 ^ 8 % 2)
    let len := msg.getD 4 0
    let st := s.slotWriteStatus slot (msg.getD 2 0) addr len
    let s := s.reply n msg [st]
    if st != 0 then s
    else if len == 0 then s.flashNotice n 0 0x0101 0
    else
      let s := s.setSlot slot { s.slot slot with verified := false, activation := none }
      { s with house := { s.house with flashOp := some ⟨n, 0x0101, slot, msg.getD 2 0, addr, len⟩ } }

/-- SLOT_VERIFY. -/
def State.slotVerify (s : State) (n : Nat) : State :=
  match s.takeRequest n 0x0102 with
  | (none, s) => s
  | (some msg, s) =>
    let st := if !s.slotState then 1 else if s.house.flashOp.isSome then 4 else 0
    let s := s.reply n msg [st]
    if st != 0 then s
    else { s with house := { s.house with flashOp := some ⟨n, 0x0102, msg.getD 1 0 % 2, 0, 0, 0⟩ } }

/-- SLOT_ACTIVATE: the state, and whether the module restarts. The record's COUNT is one higher than the other slot's;
1 where that has none. -/
def State.slotActivate (s : State) (n : Nat) : Bool × State :=
  match s.takeRequest n 0x0103 with
  | (none, s) => (false, s)
  | (some msg, s) =>
    let slot := msg.getD 1 0 % 2
    let st := if !s.slotState then 1 else if s.house.flashOp.isSome then 4 else if !(s.slot slot).verified then 5 else 0
    let s := s.reply n msg [st]
    if st != 0 then (false, s)
    else
      let count := match (s.slot (1 - slot)).activation with
        | some c => (c + 1) % 2 ^ 32
        | none => 1
      (msg.getD 1 0 / 2 ^ 8 % 2 == 1, s.setSlot slot { s.slot slot with activation := some count })

/-- The bytes of a slot after a SLOT_WRITE: whole 64 KiB blocks are erased to 0xFF, then the range is programmed. -/
def programmed (old : List (Nat × BitVec 8)) (off len : Nat) (data : List Nat) : List (Nat × BitVec 8) :=
  let top := 65536 * ((65535 + off + len) / 65536)
  let kept := old.filter (fun e => e.1 < off || top ≤ e.1)
  data.zipIdx.foldl (fun m e => sput (fun _ => 0xFF#8) m (off + e.2) (BitVec.ofNat 8 e.1)) kept

/-- A 32-bit word of a slot's bytes. -/
def flashWord (m : List (Nat × BitVec 8)) (a : Nat) : Nat :=
  leBytes ((List.range 4).map (fun i => (sget (fun _ => 0xFF#8) m (a + i)).toNat))

/-- A flash operation ends (R515, R516). `result` is the HOUSE_BOOT code of the checks of R510 for SLOT_VERIFY. -/
def State.flashDone (s : State) (ok : Bool) (result : Nat) : State :=
  match s.house.flashOp with
  | none => s
  | some f =>
    let s : State := { s with house := { s.house with flashOp := none } }
    if f.code == 0x0101 then
      let b := programmed (s.slot f.slot).bytes f.off f.len (Mem.reads s.dram f.addr f.len)
      let x := s.slot f.slot
      let x := { x with bytes := b }
      let x := if f.off == 0 then { x with generation := flashWord b 8, fwVersion := flashWord b 12 } else x
      if ok then (s.setSlot f.slot x).flashNotice f.channel 0 f.code 0 else s.flashNotice f.channel 6 f.code 0
    else
      let r := if ok then result else 2
      let s := if r == 1 then s.setSlot f.slot { s.slot f.slot with verified := true } else s
      s.flashNotice f.channel (if r == 1 then 0 else 6) f.code r

end Sys2Proof.Machine
end

