-- ==== Sys2Proof/Machine/Keeper.lean ====
section
/-! DEFINITION. KEEPER's commands (chapter 14): reports from the islands, the clearing of open bits, the history window,
the fault journal, and fault injection. -/

namespace Sys2Proof.Machine

open Reg

/-! ### Reports that arrive together (R478) -/

/-- The order in which reports of one cycle are accepted: FT, CC, CE, then the lower CODE. -/
def Report.before (a b : Report) : Bool :=
  decide (b.class_ < a.class_) || (a.class_ == b.class_ && decide (a.code ≤ b.code))

/-- A report takes its place in that order. -/
def insertReport (r : Report) : List Report → List Report
  | [] => [r]
  | q :: rest => if Report.before r q then r :: q :: rest else q :: insertReport r rest

/-- Reports that reach KEEPER in one cycle. -/
def State.reports (s : State) (rs : List Report) : State :=
  if !s.powered then s
  else (rs.foldl (fun l r => insertReport r l) []).foldl (fun s r =>
    if (faultRow r.code).isSome then s.accept r true (s.injecting r) false true else s) s

/-! ### Clearing open bits (R471) -/

/-- The condition under which a fault's open bit stays set. -/
def State.staysOpen (s : State) (code : Nat) : Bool :=
  match code with
  | 0x0006 => (List.range 8).any (fun m => !s.flag (INTAKE_STR_STATUS_UP m) && s.streamUsed m)
  | 0x0204 => s.flag BRAID_PROT_STATUS_STALE
  | 0x0507 => s.flag STRIKE_STATUS_DARK_CLAMP
  | 0x060B => (List.range 4).any (fun g => match s.hottest g with
      | some p => decide ((16 * s.threshold g 2 : Int) - 80 ≤ p.2)
      | none => true)
  | 0x0703 => !s.encodersValid
  | 0x0704 => s.axesApart != []
  | 0x0705 => s.latched 0 || s.latched 1
  | 0x0706 => s.guards.zoneA.isNone || s.guards.zoneB.isNone
  | 0x0707 => s.linkActs
  | 0x070A => s.guards.clockBad != []
  | 0x070B => s.house.pllUnlocked.contains 7 || s.guards.watchdog != [] || s.guards.failedTest != []
  | 0x0B03 => s.flag GUARD_B_PHOTO_FAULT
  | 0x0804 => s.get SPLICE_STATUS_PAIR == 3
  | 0x0B06 => s.guards.sigBad != []
  | 0x0903 => s.house.pllUnlocked.any (fun i => i != 7 && i != 10)
  | 0x0A09 => s.flag MBOX_STATUS_RECOVERY
  | 0x0A05 => true
  | 0x0A06 => true
  | _ => false

/-- The fault of an open bit. -/
def openCode (b : Nat) : Nat := ((faultList.find? (fun r => r.bit == some b)).map (·.code)).getD 0

/-- The guard that reports the fault of an open bit: GUARD_A for codes 0x07xx, GUARD_B for codes 0x0Bxx. -/
def guardOf (b : Nat) : Option Guard :=
  match openCode b / 256 with
  | 7 => some .a
  | 11 => some .b
  | _ => none

/-- Bits are decided: cleared, or added to those refused. -/
def State.clearBits (s : State) (bits refused : List Nat) : State × List Nat :=
  bits.foldl (fun (x : State × List Nat) b =>
    if x.1.flag (openBit b) && x.1.staysOpen (openCode b) then (x.1, x.2 ++ [b]) else (x.1.set (openBit b) 0, x.2)) (s, refused)

/-- All named bits have been handled: DONE, and the first refused bit. -/
def State.clearDone (s : State) (refused : List Nat) : State :=
  let s := ({ s with keeper := { s.keeper with clearing := none } }).set KEEPER_CLEAR_STATUS_DONE 1
  let s := match refused with
    | [] => (s.set KEEPER_CLEAR_STATUS_REFUSED 0).set KEEPER_CLEAR_STATUS_BIT 0
    | b :: r => (s.set KEEPER_CLEAR_STATUS_REFUSED 1).set KEEPER_CLEAR_STATUS_BIT (r.foldl min b)
  s.driveErr

/-- A write of KEEPER_CLEAR. Bits of faults that a guard reports wait for that guard's next cross-comparison cycle, while
the guards compare. -/
def State.keeperClear (s : State) (v : Nat) : State :=
  let bits := if v / 2 ^ 31 % 2 == 1 then List.range 40 else if v % 64 < 40 then [v % 64] else []
  if bits == [] then s
  else
    let was := s.keeper.clearing.getD ([], [])
    let waits := fun b => (guardOf b).isSome && s.house.mode.running && s.flag (openBit b)
    let later := was.1 ++ (bits.filter waits).filter (fun b => !was.1.contains b)
    let s := ((s.set KEEPER_CLEAR_STATUS_DONE 0).set KEEPER_CLEAR_STATUS_REFUSED 0).set KEEPER_CLEAR_STATUS_BIT 0
    let x := s.clearBits (bits.filter (fun b => !waits b)) was.2
    if later == [] then x.1.clearDone x.2
    else ({ x.1 with keeper := { x.1.keeper with clearing := some (later, x.2) } }).driveErr

/-- A guard's cross-comparison cycle decides the bits that wait for it (R471). -/
def State.guardConfirms (s : State) (g : Guard) : State :=
  match s.keeper.clearing with
  | none => s
  | some (bits, refused) =>
    let x := s.clearBits (bits.filter (fun b => guardOf b == some g)) refused
    let rest := bits.filter (fun b => guardOf b != some g)
    if rest == [] then x.1.clearDone x.2
    else ({ x.1 with keeper := { x.1.keeper with clearing := some (rest, x.2) } }).driveErr

/-! ### The history window and the journal (R477, R479) -/

/-- The eight words of a slot of the history queue. -/
def State.histWords (s : State) (slot : Nat) : List Nat :=
  match s.keeper.hist.find? (fun h => h.seq % 32 == slot) with
  | some h => h.words
  | none => List.replicate 8 0

/-- A write of KEEPER_HIST_INDEX: the slot is copied within 1.0 µs. -/
def State.histIndex (s : State) (v : Nat) : State :=
  let s := s.set KEEPER_HIST_INDEX_SLOT v
  let w := s.histWords (v % 32)
  let s := (List.range 8).foldl (fun (s : State) i => s.setReg (KEEPER_HIST_DATA_OFF i) (w.getD i 0)) s
  s.set KEEPER_HIST_INDEX_READY 1

/-- Module firmware writes the fault journal (R479). HOUSE without its PLL runs no firmware. -/
def State.faultJournal (s : State) : State :=
  if s.flag KEEPER_STATUS_FATAL && s.flag MBOX_STATUS_FW_READY && !s.house.pllUnlocked.contains 10 then
    { s with keeper := { s.keeper with
      journal := some (s.get KEEPER_STATUS_FATAL_CODE, s.hours, s.keeper.hist) } }
  else s

/-! ### Fault injection (R483 to R485) -/

/-- The index of a subject is one of its kind (R475). -/
def subjectIndex (kind i : Nat) : Bool :=
  match kind with
  | 0 => i == 0
  | 1 => decide (i < 2 ^ 22)
  | 2 => decide (i < 2 ^ 12) && i / 64 % 4 == 0 && (decide (i / 256 < 4) || i / 256 == 15)
  | 3 => decide (i < 4096)
  | 4 => decide (i < 8) || i == 15
  | 5 => decide (i < 8)
  | 6 => decide (i < 16)
  | 7 => decide (i < 256)
  | 8 => decide (i < 4)
  | 9 => decide (i % 256 < 16) && decide (i / 256 < 4)
  | 10 => decide (i < 45)
  | 11 => decide (i % 256 < 3) && decide (i / 256 < 2)
  | 12 => decide (i < 2)
  | 13 => decide (i < 2)
  | 14 => decide (i < 12)
  | 15 => decide (i < 12)
  | 16 => decide (i < 4)
  | 17 => decide (i < 8)
  | 18 => decide (i < 16)
  | _ => i == 0

/-- The report of an injected fault: its source is the island of its CODE, or the guard that its subject names; its class,
where conditions give it, is that of a real occurrence now (R484). -/
def State.injected (s : State) (code subject : Nat) : Report :=
  let i := subject % 2 ^ 24
  let island := code / 256
  let source := if island == 7 && subject / 2 ^ 24 == 14 && i == 11 then 11 else island
  let cls := if code == 0x0006 then (if s.streamUsed i then 1 else 0) else if code == 0x0904 then (if onGuardDie i then 2 else 1)
    else 0
  ⟨code, source, subject, 0, 0, 0, cls⟩

/-- The source's own containment of a fault, as its chapter states it (R484 with REACT at 1). Faults whose containment is
the module reaction, and those that need none, change nothing here. -/
def State.contain (s : State) (code subject : Nat) : State :=
  let i := subject % 2 ^ 24
  match code with
  | 0x0006 => (s.set (INTAKE_STR_STATUS_UP i) 0).set ⟨INTAKE_STATUS_OFF, 8 + i, 1⟩ 0
  | 0x0204 => match s.braid.prot with
    | some m => s.gateSectors .stale m.sectors
    | none => s
  | 0x0301 => s.gateSectors .footprint [i / 512 * 8 + i % 64 / 8]
  | 0x0302 => s.latch WARP_MESH_STATUS_UNPAIRED
  | 0x0503 => s.toneState (emitter (i % 1024) (i / 1024 % 1024) (i / 2 ^ 20 % 4)) 2
  | 0x0507 => ((List.range 256).foldl (fun (s : State) k => s.set (TONE_SREF_STRIKE_DARK k) 1) s).set STRIKE_STATUS_DARK_CLAMP 1
  | 0x0601 | 0x0603 | 0x0604 | 0x0605 | 0x0606 => s.buckStops i
  | 0x060B => s.disable.stopBucks
  | 0x0705 => (s.set ⟨GUARD_A_INPUTS_OFF, 16 + i, 1⟩ 1).showGuards
  | 0x0706 => { s with guards := { s.guards with
      zoneA := if i == 7 then none else s.guards.zoneA, zoneB := if i == 11 then none else s.guards.zoneB } }
  | 0x0707 =>
    let v := if s.flag GUARD_A_CFG_LINK_MODE then 2 else 3
    (s.set GUARD_A_STATUS_LINK v).set ⟨GUARD_B_STATUS_OFF, 28, 2⟩ v
  | 0x0804 => s.setPair 3
  | 0x0904 => s.set (CVU_UNIT_CFG_SELFTEST_OK i) 0
  | 0x0A09 => ((s.set MBOX_STATUS_RECOVERY 1).set MBOX_STATUS_FW_READY 0).mboxMode
  | 0x0B04 => (List.range 4).foldl (fun (s : State) c => s.hold .tap (i / 256) c) s
  | 0x0B05 => if s.flag (GUARD_B_REGION_RECT_REACT i) then
      (s.regionBands i).foldl (fun (s : State) b => (List.range 4).foldl (fun (s : State) c => s.hold (.react i) b c) s) s
    else s
  | _ => s

/-- The change to DARK that a fault's own rule makes beside its reaction of the fault list (R394, R432). -/
def State.containDark (s : State) (code : Nat) : State :=
  match code with
  | 0x0709 => if s.house.mode.emitting then (s.disable.stopBucks.abandon 0x0E 0x8A).enter .dark 5 0 else s
  | 0x0802 => if s.house.mode == .solo || s.house.mode == .calibrate then
      (s.disable.abandon 0x0E 0x8A).setChange (some ⟨.dark, 7, none, 0, none, false, some 1⟩) else s
  | _ => s

/-- REJ_CODE of a GO (R483). -/
def State.injectCode (s : State) (code subject : Nat) (react : Bool) : Nat :=
  match faultRow code with
  | none => 1
  | some f =>
    if subject / 2 ^ 24 != f.kind || !subjectIndex f.kind (subject % 2 ^ 24) then 2
    else if (s.injected code subject).class_ == 2 && react && s.house.mode != .service then 3
    else if s.keeper.inj.isSome then 4
    else 0

/-- A write of GO by the holder of LOCK_10 (R483, R484). -/
def State.injectGo (s : State) (m : Master) : State :=
  let code := s.get KEEPER_INJ_CTRL_CODE
  let subject := s.reg KEEPER_INJ_SUBJECT_OFF
  let react := s.flag KEEPER_INJ_CTRL_REACT
  let rej := s.injectCode code subject react
  let s := s.set KEEPER_INJ_STATUS_REJ_CODE rej
  if rej != 0 then s
  else
    let hold := s.get KEEPER_INJ_HOLD_US
    let ends := if hold == 0 then s.now + 10 else s.now + 1000 * hold
    let s := { s with keeper := { s.keeper with inj := some ⟨code, subject, react, m.owner, ends⟩ } }
    let s := (s.set KEEPER_INJ_STATUS_ACTIVE 1).set KEEPER_INJ_STATUS_OWNER m.owner
    let r := s.injected code subject
    let s := if react then s.contain code subject else s
    let s := s.accept r false true react false
    if react then s.containDark code else s

/-- A write to an injection register (R483): discarded and counted in DENIED but from the holder of LOCK_10. In a write of
KEEPER_INJ_CTRL, STOP acts before GO. -/
def State.injWrite (s : State) (m : Master) (off v : Nat) : State :=
  if s.holder 10 != some m then s.bump KEEPER_INJ_STATUS_DENIED
  else if off == KEEPER_INJ_SUBJECT_OFF then s.setReg off v
  else if off == KEEPER_INJ_HOLD_OFF then s.set KEEPER_INJ_HOLD_US v
  else
    let s := (s.set KEEPER_INJ_CTRL_CODE v).set KEEPER_INJ_CTRL_REACT (v / 2 ^ 29)
    let s := if v / 2 ^ 30 % 2 == 1 && s.keeper.inj.isSome then s.endInjection else s
    if v / 2 ^ 31 % 2 == 1 then s.injectGo m else s

/-- HOLD has ended (R483). -/
def State.injectExpiry (s : State) : State :=
  match s.keeper.inj with
  | some i => if i.endsAt ≤ s.now then s.endInjection else s
  | none => s

end Sys2Proof.Machine
end

