-- ==== Sys2Proof/Machine/RegAccess.lean ====
section
/-! DEFINITION. Writes and reads of MW0 (R17 to R24, R546 to R551): the access codes, the registers whose write does
more than store a value, the values that follow the time, and the reads with side effects. -/

namespace Sys2Proof.Machine

open Reg

/-! ### Writes -/

/-- The access that a master has to a field (R19, R548, R549). A guard sets the registers of its own block; firmware
clears and masks its own doorbell bits only (R354, R355). -/
def accessOf (m : Master) (off : Nat) (f : FieldDef) : Access :=
  if m.isGuard && (off / 65536 == 9 || off / 65536 == 10) then .rw
  else if m.isFw && off == MBOX_DBELL_OFF then (if f.acc == .w1c then .ro else .w1c)
  else if m.isFw && off == MBOX_DBELL_MASK_OFF then (if f.acc == .rw then .ro else .rw)
  else match f.acc with
    | .grd => if m == .guardA then .rw else .ro
    | a => if m == .guardA && off / 65536 == 6 then .ro else a

/-- The bits of a register that their events have set in the present cycle of its island (R20). -/
def State.freshBits (s : State) (off : Nat) : Nat :=
  (s.access.marks.filter (fun e => e.1 == off && sameCycle off e.2.2 s.now)).foldl (fun w e => w ||| 2 ^ e.2.1) 0

/-- One field of a register after a write of `new` over `old` (R19, R20, R23): a W1C bit whose event comes in the same cycle
(`fresh`) stays set. -/
def fieldAfter (m : Master) (off old new fresh : Nat) (f : FieldDef) : Nat :=
  let o := getBits old f.lsb f.width
  let n := getBits new f.lsb f.width
  match accessOf m off f with
  | .rw => n
  | .w1c => (o - (o &&& n)) ||| (o &&& getBits fresh f.lsb f.width)
  | _ => o

/-- A register that holds its value and has no behaviour of its own takes a write (R19). -/
def State.plainWrite (s : State) (m : Master) (off v : Nat) : State :=
  let old := s.reg off
  s.setReg off ((fieldsAt off).foldl (fun w f => setBits w f.lsb f.width (fieldAfter m off old v (s.freshBits off) f)) old)

/-- Every ring is OFF. -/
def State.allOff (s : State) : Bool := (List.range 64).all (fun n => s.ringState n == 0)

/-- The pixel-path traffic without one stream, bytes per second (R52, R287). -/
def State.trafficBut (s : State) (m : Nat) : Nat :=
  s.layersTraffic + s.otherTraffic - (if s.flag (INTAKE_STR_CFG_ENABLE m) then s.streamTraffic m else 0)

/-- A write of INTAKE_STR_m_CFG (R287); the admitted traffic follows (R288). -/
def State.writeStream (s : State) (m v : Nat) : State := (s.streamConfig m v (s.trafficBut m)).showAdmit

/-- A write of INTAKE_LANE_n_ERR_CLEAR (R267). -/
def State.laneErrClear (s : State) (n v : Nat) : State :=
  if v % 2 == 1 then s.setReg (INTAKE_LANE_ERR_OFF n) 0 else s

/-- A write of SPLICE_LANE_CLEAR: bit n clears the counters of lane 8 + n. -/
def State.spliceClear (s : State) (v : Nat) : State :=
  let s := if v % 2 == 1 then s.setReg (SPLICE_LANE_ERR_OFF 0) 0 else s
  if v / 2 % 2 == 1 then s.setReg (SPLICE_LANE_ERR_OFF 1) 0 else s

/-- A write of INTAKE_STR_m_CLEAR (R292): both counters to 0 and MIN to its starting value. -/
def State.streamClear (s : State) (m v : Nat) : State :=
  if v % 2 == 0 then s
  else
    let s := (s.setReg (INTAKE_STR_FRAMES_OFF m) 0).setReg (INTAKE_STR_SKIPS_OFF m) 0
    s.set (INTAKE_STR_MARGIN_MIN m) 0xFFFF

/-- A write of STRIKE_ROW_ERR_CLEAR (R94). -/
def State.rowErrClear (s : State) (v : Nat) : State := if v % 2 == 1 then s.setReg STRIKE_ROW_ERR_OFF 0 else s

/-- A write of CVU_CLEAR (R421): the counters of the units named, but for the guard units. -/
def State.cvuClear (s : State) (v : Nat) : State :=
  [2, 3, 5, 6, 7].foldl (fun (s : State) n =>
    if v / 2 ^ n % 2 == 0 then s
    else (s.setReg (CVU_UNIT_PASS_OFF n) 0).setReg (CVU_UNIT_FAIL_OFF n) 0) s

/-- The copy of a register in a series, where the offset is one of them. -/
def copyAt (base count stride off : Nat) : Option Nat :=
  if base ≤ off && (off - base) % stride == 0 && decide ((off - base) / stride < count) then some ((off - base) / stride)
  else none

/-- A pattern register is written (R103). -/
def State.patternWrite (s : State) (m : Master) (off v : Nat) : State :=
  let s := s.plainWrite m off v
  { s with array := { s.array with patternAt := s.now, patternDirty := true } }

/-- A threshold register is written (R147): a field above its configured value takes the configured one. -/
def State.tlimWrite (s : State) (m : Master) (g v : Nat) : State :=
  let cold := s.anode.tlimCold.getD g 0
  let cut := fun (k : Nat) => min (getBits v (8 * k) 8) (getBits cold (8 * k) 8)
  s.plainWrite m (ANODE_TLIM_OFF g) (cut 0 + 2 ^ 8 * cut 1 + 2 ^ 16 * cut 2)

/-- A write of HOST_IRQ_CAUSE (R339): the causes written with 1 clear, and with a cause the pending bit that its masked vector
holds for it (R337). -/
def State.causeClear (s : State) (m : Master) (v : Nat) : State :=
  let s := s.plainWrite m HOST_IRQ_CAUSE_OFF v
  (List.range 8).foldl (fun (s : State) k =>
    if s.flag ⟨HOST_IRQ_CAUSE_OFF, k, 1⟩ then s else s.set ⟨MSIX_PBA_OFF 2, k, 1⟩ 0) s

/-- A write to the blocks HOUSE, KEEPER and HOST. -/
def State.writeHost (s : State) (m : Master) (off v : Nat) : State :=
  if off == KEEPER_CLEAR_OFF then s.keeperClear v
  else if off == KEEPER_HIST_INDEX_OFF then s.histIndex v
  else if off == KEEPER_INJ_CTRL_OFF || off == KEEPER_INJ_SUBJECT_OFF || off == KEEPER_INJ_HOLD_OFF then s.injWrite m off v
  else if off == HOST_NUDGE_OFF then s.nudge v
  else if off == HOST_DBELL_LO_OFF || off == HOST_DBELL_HI_OFF then if s.allOff then s.plainWrite m off v else s
  else if off == HOST_IRQ_EN_OFF then s.irqEnable v
  else if off == HOST_IRQ_CAUSE_OFF then s.causeClear m v
  else match copyAt (MSIX_CTRL_OFF 0) 72 16 off with
    | some k => s.msixCtrl k v
    | none => match copyAt (RING_CTRL_OFF 0) 64 64 off with
      | some n => s.ringCtrl n v
      | none =>
        let held := fun (b : Nat) => match copyAt b 64 64 off with | some n => s.ringState n != 0 | none => false
        if held (RING_BASE_LO_OFF 0) || held (RING_BASE_HI_OFF 0) || held (RING_CFG_OFF 0) then s else s.plainWrite m off v

/-- A write to the block INTAKE. -/
def State.writeIntake (s : State) (m : Master) (off v : Nat) : State :=
  if off == INTAKE_EYE_CTRL_OFF then s.eyeStart v
  else match copyAt (INTAKE_LANE_PWR_OFF 0) 8 64 off with
    | some n => s.laneRequest n (v % 4)
    | none => match copyAt (INTAKE_LANE_ERR_CLEAR_OFF 0) 8 64 off with
      | some n => s.laneErrClear n v
      | none => match copyAt (INTAKE_STR_CFG_OFF 0) 8 64 off with
        | some k => s.writeStream k v
        | none => match copyAt (INTAKE_STR_SIZE_OFF 0) 8 64 off with
        | some k => s.streamSize k v
        | none => match copyAt (INTAKE_STR_CLEAR_OFF 0) 8 64 off with
          | some k => s.streamClear k v
          | none => s.plainWrite m off v

/-- A write of TONE_SREF_i (R120, R121): GUARD_A's CLAMP acts at once, and so does its setting of DARK; the gate that it
clears ends at the next strike that transfers, where nothing else in GUARD_A holds it. -/
def State.srefWrite (s : State) (m : Master) (i v : Nat) : State :=
  if m != .guardA then s.plainWrite m (TONE_SREF_OFF i) v
  else
    let k := getBits v 16 10
    let s := if s.get (TONE_SREF_CLAMP i) == k then s else s.touch.set (TONE_SREF_CLAMP i) k
    if getBits v 28 1 == 1 then s.gate .register i else s.ungate (fun g => g.1 == .register && g.2 == i)

/-- A write to the blocks BRAID, WARP and TONE. -/
def State.writePath (s : State) (m : Master) (off v : Nat) : State :=
  if off == BRAID_LAYER_COMMIT_OFF then (s.layerCommitSet v).2
  else if off == BRAID_PROT_INDEX_OFF then s.protIndex v
  else if off == WARP_MESH_SELECT_OFF then (s.meshSelectSet (v % 4)).2
  else if 0x51000 ≤ off && off < 0x52000 then s.coefWrite off v
  else if off == TONE_COMMIT_OFF then if v % 2 == 1 then s.toneCommit else s
  else match copyAt (TONE_SREF_OFF 0) 256 4 off with
    | some i => s.srefWrite m i v
    | none => s.plainWrite m off v

/-- A write to the blocks STRIKE and ANODE. -/
def State.writeStrike (s : State) (m : Master) (off v : Nat) : State :=
  if off == STRIKE_COMMIT_OFF then if v % 2 == 1 then s.timingCommit else s
  else if off == STRIKE_FRAME_LOAD_OFF then s.frameLoad v
  else if off == STRIKE_LATE_CLEAR_OFF then s.lateClear v
  else if off == STRIKE_ROW_ERR_CLEAR_OFF then s.rowErrClear v
  else if off == STRIKE_TIME_OFFSET_OFF then s.timeOffset v
  else if off == STRIKE_TIME_TRIM_OFF then s.timeTrim v
  else if off == STRIKE_PEEK_CTRL_OFF then s.peekGo v
  else if off == STRIKE_DEFECT_INDEX_OFF then s.defectIndex v
  else if STRIKE_PATTERN_CTRL_OFF ≤ off && off ≤ STRIKE_PATTERN_HI_OFF then s.patternWrite m off v
  else match copyAt (ANODE_TLIM_OFF 0) 4 4 off with
    | some g => s.tlimWrite m g v
    | none => s.plainWrite m off v

/-- A write to the blocks GUARD_A to FUSE. -/
def State.writeHouse (s : State) (m : Master) (off v : Nat) : State :=
  if off == SPLICE_LANE_CLEAR_OFF then s.spliceClear v
  else if off == MBOX_DBELL_SET_OFF then s.dbellSet v
  else if off == CVU_CLEAR_OFF then s.cvuClear v
  else match copyAt (MBOX_TX_OFF 0) 8 4096 off with
    | some n => s.mboxPush n v
    | none => match copyAt (MBOX_CH_CTRL_OFF 0) 8 4096 off with
      | some n => s.mboxReset n v
      | none => match copyAt (LOCK_OFF 0) 16 4 off with
        | some n => s.lockRelease n m v
        | none => s.plainWrite m off v

/-- The register asks an island for new work while the stop sequence has stopped that island (R498). -/
def State.commitStopped (s : State) (off : Nat) : Bool :=
  (off == BRAID_LAYER_COMMIT_OFF && s.islandStopped 2) || (off == WARP_MESH_SELECT_OFF && s.islandStopped 3)
    || (off == TONE_COMMIT_OFF && s.islandStopped 4)
    || ((off == STRIKE_COMMIT_OFF || off == STRIKE_FRAME_LOAD_OFF) && s.islandStopped 5)

/-- A 32-bit write that reaches its island (R37): by the access codes, and with the behaviour that the register has of its
own. -/
def State.regTakes (s : State) (m : Master) (off v : Nat) : State :=
  if s.commitStopped off then s
  else match off / 65536 with
  | 0 | 1 | 2 => s.writeHost m off v
  | 3 => s.writeIntake m off v
  | 4 | 5 | 6 => s.writePath m off v
  | 7 | 8 => s.writeStrike m off v
  | _ => s.writeHouse m off v

/-- The register holds a value of which the last one written stands; it is no command and no W1C status (R38). -/
def holdsValue (off : Nat) : Bool :=
  off == STRIKE_FRAME_LOAD_OFF || (fieldsAt off).any (fun f => f.acc == .rw || f.acc == .grd)

/-- A master of a higher rank has written the register in the present cycle of its island, so that its value stands (R38). -/
def State.outranked (s : State) (m : Master) (off : Nat) : Bool :=
  holdsValue off && s.access.wrote.any (fun w => w.1 == off && decide (m.rank < w.2.1.rank) && sameCycle off w.2.2 s.now)

/-- A write has reached its register. -/
def State.wroteNow (s : State) (m : Master) (off : Nat) : State :=
  { s with access := { s.access with
    wrote := (off, m, s.now) :: s.access.wrote.filter (fun w => decide (s.now ≤ w.2.2 + 10)) } }

/-- A 32-bit write at its island: the value of a higher rank of the same cycle stands (R38). -/
def State.regLands (s : State) (m : Master) (off v : Nat) : State :=
  if s.outranked m off then s else (s.regTakes m off v).wroteNow m off

/-- A write of a master to an MW0 offset (R17, R18, R22, R548, R549): one narrower than 32 bits, one to an offset without
a register and one without access are discarded. At an island without its PLL it waits (R32). -/
def State.regWrite (s : State) (m : Master) (off bytes v : Nat) : State :=
  if bytes == 4 && off % 4 == 0 && s.writes m off && (regAt off).isSome then
    if s.stalls off then s.stall ⟨m, off, some v, 0, 4⟩ else s.regLands m off v
  else s

/-! ### Reads -/

/-- Seconds to the next swing (SPLICE_LEASE.SWING_DUE). -/
def State.swingSeconds (s : State) : Nat :=
  match s.twin.swingDueAt with
  | some t => min ((999999999 + (t - s.now)) / 1000000000) 0xFFFF
  | none => 0

/-- Bit n is set where `p n` holds, for eight channels. -/
def bits8 (p : Nat → Bool) : Nat := ((List.range 8).map (fun n => bit (p n) * 2 ^ n)).sum

/-- The value that a register shows (R19): the stored one, or the one that follows the time. -/
def State.view (s : State) (off : Nat) : Nat :=
  let v := s.reg off
  if off == HOUSE_HOURS_OFF then s.hours
  else if off == STRIKE_BEAT_OFF then
    if s.timerRuns && s.timer.planned != 0 && decide (s.timer.boundaryAt + s.timer.planned / 16 ≤ s.now + 1000) then 256 + 31 else v
  else if off == STRIKE_TIME_LO_OFF then (s.moduleTime % (2 ^ 32 : Nat)).toNat
  else if off == STRIKE_TIME_HI_OFF then (s.moduleTime / (2 ^ 32 : Nat) % (2 ^ 32 : Nat)).toNat
  else if off == TONE_WEAR_STATUS_OFF then
    setBits (setBits v 8 8 (min ((s.now - s.tone.ckptAt) / 60000000000) 255)) 0 1 (bit (s.timerRuns && !s.islandStopped 4))
  else if off == HOST_BW_POOL_OFF then 2 ^ 16 * min s.rateSum 0xFFFF + s.pool
  else if off == GUARD_A_LINK_AGE_OFF then
    2 ^ 16 * s.age16 ((s.net .b).last.map (·.at_)) + s.age16 ((s.net .a).last.map (·.at_))
  else if off == SPLICE_STATUS_OFF then
    let v := setBits v 25 1 (bit (!s.pathSilent s.twin.tickAt))
    let v := setBits v 24 1 (bit (!s.pathSilent s.twin.spliceAt))
    setBits v 23 1 (bit (s.role == 1 || (s.role == 2 && match s.twin.renewAt with
      | some t => decide (s.now < 50000000 + t) | none => false)))
  else if off == SPLICE_AGE_OFF then 2 ^ 16 * s.age16 s.twin.spliceAt + s.age16 s.twin.tickAt
  else if off == SPLICE_LEASE_OFF then 2 ^ 16 * s.age16 s.twin.renewAt + s.swingSeconds
  else if off == MBOX_STATUS_OFF then
    let v := setBits v 8 8 (bits8 (fun n => (s.mbox n).tx != []))
    setBits v 0 8 (bits8 (fun n => (s.mbox n).rx != []))
  else match copyAt (RING_BW_MEAS_OFF 0) 64 64 off with
    | some n => min (s.ringUse n / 10000) 0xFFFF
    | none => v

/-- The lower registers of the 64-bit pairs of R551. -/
def pairLower : List Nat :=
  [STRIKE_TIME_LO_OFF, STRIKE_PEEK_LO_OFF, HOST_DMA_ERR_LO_OFF, SPLICE_PEER_ID_LO_OFF, FUSE_UID_LO_OFF]

/-- A master's shadow of an upper register. -/
def State.shadow (s : State) (m : Master) (off : Nat) : Option Nat :=
  (s.shadows.find? (fun e => e.1 == m && e.2.1 == off)).map (·.2.2)

/-- A master's shadow of an upper register is used up. -/
def State.dropShadow (s : State) (m : Master) (off : Nat) : State :=
  { s with shadows := s.shadows.filter (fun e => !(e.1 == m && e.2.1 == off)) }

/-- A master's shadow of an upper register takes a value. -/
def State.setShadow (s : State) (m : Master) (off v : Nat) : State :=
  { s.dropShadow m off with shadows := (m, off, v) :: (s.dropShadow m off).shadows }

/-- The bits of a register that a read returns: write-only fields read 0 (R19). -/
def readMask (off : Nat) : Nat :=
  (fieldsAt off).foldl (fun w f => if f.acc == .wo then w else setBits w f.lsb f.width (2 ^ f.width - 1)) 0

/-- A read of an MW0 offset by a master (R18, R19, R24, R78, R550): the value, and the state after its side effects. -/
def State.regRead (s : State) (m : Master) (off : Nat) : Nat × State :=
  if !s.reaches m || (regAt off).isNone then (0, s)
  else match copyAt (LOCK_OFF 0) 16 4 off with
    | some n => s.lockRead n m
    | none => match copyAt (MBOX_RX_OFF 0) 8 4096 off with
      | some n => s.mboxRead n
      | none =>
        if pairLower.contains off then (s.view off, s.setShadow m (off + 4) (s.view (off + 4)))
        else if off == STRIKE_FRAME_NO_OFF then (s.view off, s.setShadow m STRIKE_BEAT_OFF (s.view STRIKE_BEAT_OFF))
        else match s.shadow m off with
          | some v => (v, s.dropShadow m off)
          | none => (s.view off &&& readMask off, s)

/-- The addressed bytes of a register (R17): `bytes` of them from byte `sub` up. -/
def cutRead (sub bytes v : Nat) : Nat := v / 2 ^ (8 * sub) % 2 ^ (8 * bytes)

/-- A read of MW0 whose data leave the module (R17): the bytes asked for of the register at an offset, with the side effects
of a full read. -/
def State.readNow (s : State) (r : Reader) (off : Nat) : State :=
  let v := s.regRead r.master off
  v.2.emit (.readData (cutRead r.sub r.bytes v.1))

/-- A read of MW0 (R17). At an island without its PLL it waits (R32; notes/assumptions/9.md). -/
def State.readOut (s : State) (r : Reader) (off : Nat) : State :=
  if !s.reaches r.master then s
  else if s.stalls off && (regAt off).isSome then s.stall ⟨r.master, off, none, r.sub, r.bytes⟩
  else s.readNow r off

/-! ### Islands that regain their PLL (R32) -/

/-- A waiting access reaches its island. -/
def State.resume (s : State) (w : Waiting) : State :=
  match w.value with
  | some v => s.regLands w.master w.off v
  | none => s.readNow ⟨w.master, w.sub, w.bytes⟩ w.off

/-- The accesses that wait for an island reach it in their order. -/
def State.resumeIsland (s : State) (island : Nat) : State :=
  let mine := s.access.waiting.filter (fun w => islandOf w.off == island)
  let s : State := { s with access := { s.access with waiting := s.access.waiting.filter (fun w => islandOf w.off != island) } }
  mine.foldl (fun s w => s.resume w) s

end Sys2Proof.Machine
end

