-- ==== Sys2Proof/Machine/Descr.lean ====
section
/-! DEFINITION. What the descriptors of the submission rings do (R320 to R332): the checks in the order of the status
codes, the bursts of a ring that its bucket lets start, and the effect of each opcode but MODE_REQUEST. -/

namespace Sys2Proof.Machine

open Reg

/-! ### Bursts (R316, R317) -/

/-- Bytes that a ring may move now in bursts of 512 while its bucket stays above 0 (R317). -/
def State.burstBytes (s : State) (n : Nat) : Nat :=
  512 * (Rat.ceil ((bucketMax - (s.ring n).debt) / 512)).toNat

/-- A descriptor in flight has moved more bytes, which its ring is debited. -/
def State.moved (s : State) (n index bytes : Nat) : State :=
  (s.debit n bytes).setDesc n index (fun d => { d with used := d.used + bytes })

/-- A descriptor in flight has begun. -/
def State.begins (s : State) (n index : Nat) : State := s.setDesc n index (fun d => { d with started := true })

/-- As many of a descriptor's `total` bytes move as its ring may move now; true when all have moved. -/
def State.moveFor (s : State) (n total : Nat) (d : Desc) : Bool × State :=
  let k := min (total - d.used) (s.burstBytes n)
  (decide (total ≤ d.used + k), if k == 0 then s else s.moved n d.index k)

/-! ### COMMAND rings (R322 to R326) -/

/-- NOP (R332). -/
def State.nop (s : State) (n : Nat) : State :=
  match s.flying n 0 0x01 with
  | none => s
  | some d => match s.descFails 0 d [] with
    | some (c, x) => s.finish n d.index c x 0
    | none => s.finish n d.index 0 0 0

/-- A commit or move that a descriptor staged outside a twin set waits for its completion (R322). -/
def State.bindRing (s : State) (n : Nat) : State :=
  let b := s.braid
  { s with braid := { b with
    commit := b.commit.map (fun c => if c.frame.isNone && c.goAt == s.now && c.waits == 0 && c.ringOf.isNone
      then { c with ringOf := some n } else c) } }

/-- The newest move that a descriptor staged outside a twin set waits for its completion (R322). -/
def State.bindMove (s : State) (n : Nat) : State :=
  match s.braid.moves.reverse with
  | v :: r => if v.frame.isNone then { s with braid := { s.braid with moves := ({ v with ringOf := some n } :: r).reverse } } else s
  | [] => s

/-- BRAID rejects a descriptor: E_LAYER with its code, and BRAID_STATUS as for a register write (R322, R552). -/
def State.layerError (s : State) (n index code l : Nat) : State :=
  (s.layerRejected code l).finish n index 0x0A code 0

/-- The staged registers of a layer take ten words (R202). -/
def State.stageLayer (s : State) (l : Nat) (words : List Nat) : State :=
  (List.range 10).foldl (fun (s : State) i => s.plainWrite .host (layerOff l i) (words.getD i 0)) s

/-- LAYER_SET (R202, R322, R552). -/
def State.layerSetDesc (s : State) (n : Nat) : State :=
  match s.flying n 0 0x10 with
  | none => s
  | some d => match s.descFails 0 d [] with
    | some (c, x) => s.finish n d.index c x 0
    | none =>
      let l := d.p 0 % 16
      if l == 15 then s.layerError n d.index 1 15
      else
        let staged := s.stageLayer l ((List.range 10).map (fun i => d.p (1 + i)))
        if s.follows then
          match staged.commitCode (2 ^ l) with
          | some (code, k) => s.layerError n d.index code k
          | none => s.finish n d.index 0 0 0
        else if getBits (d.p 0) 8 1 == 0 then staged.finish n d.index 0 0 0
        else match staged.layerCommitSet (2 ^ l) with
          | (some (code, _), s) => s.finish n d.index 0x0A code 0
          | (none, s) => (s.bindRing n).finish n d.index 0 0 0

/-- LAYER_MOVE (R200, R322, R552). -/
def State.layerMoveDesc (s : State) (n : Nat) : State :=
  match s.flying n 0 0x11 with
  | none => s
  | some d => match s.descFails 0 d [] with
    | some (c, x) => s.finish n d.index c x 0
    | none =>
      let l := d.p 0 % 16
      if l == 15 then s.layerError n d.index 1 15
      else if s.follows then s.layerError n d.index 8 l
      else ((s.moveSet l (d.p 1) (d.p 2) (d.p 3)).bindMove n).finish n d.index 0 0 0

/-- LAYER_COMMIT (R322, R552). -/
def State.layerCommitDesc (s : State) (n : Nat) : State :=
  match s.flying n 0 0x12 with
  | none => s
  | some d => match s.descFails 0 d [] with
    | some (c, x) => s.finish n d.index c x 0
    | none =>
      let mask := d.param 0 % 2 ^ 15
      if mask == 0 then s.finish n d.index 0 0 0
      else match s.layerCommitSet mask with
        | (some (code, _), s) => s.finish n d.index 0x0A code 0
        | (none, s) => (s.bindRing n).finish n d.index 0 0 0

/-- The blocks that a REG_WRITE may write (R323): INTAKE, BRAID, WARP, TONE, STRIKE, ANODE; 4-byte aligned. -/
def regWriteOk (off : Nat) : Bool := off % 4 == 0 && decide (3 ≤ off / 65536) && decide (off / 65536 ≤ 8)

/-- The pairs of a REG_WRITE of `count` from the `k`-th on take effect in order, each as the same host write, up to one whose
island has no PLL and stalls it (R32, R323): the number of pairs that have taken effect. -/
def State.regPairs (s : State) (d : Desc) (count : Nat) : Nat → Nat → Nat × State
  | 0, k => (k, s)
  | fuel + 1, k =>
    let off := d.p (2 * k)
    if count ≤ k then (k, s)
    else if (regAt off).isNone then s.regPairs d count fuel (k + 1)
    else if s.stalls off then (k, s)
    else (s.regLands .host off (d.p (2 * k + 1))).regPairs d count fuel (k + 1)

/-- REG_WRITE (R323): every pair is checked, then each takes effect in order as the same host write. A descriptor that stalls
goes on from the pair that it reached. -/
def State.regWriteDescr (s : State) (n : Nat) : State :=
  match s.flying n 0 0x18 with
  | none => s
  | some d =>
    let count := d.param 0 % 8
    match (if d.started then none else s.descFails 0 d [(decide (5 < count), 3, 0)]) with
    | some (c, x) => s.finish n d.index c x 0
    | none =>
      match (List.range count).find? (fun k => !regWriteOk (d.p (2 * k))) with
      | some k => s.finish n d.index 0x0D k 0
      | none =>
        let r := (s.begins n d.index).regPairs d count count d.used
        if count ≤ r.1 then r.2.finish n d.index 0 0 0 else r.2.setDesc n d.index (fun e => { e with used := r.1 })

/-- FRAME_WAIT (R326): a target already reached completes at once; otherwise the boundary of STRIKE looks again. -/
def State.frameWaitDesc (s : State) (n : Nat) : State :=
  match s.flying n 0 0x38 with
  | none => s
  | some d => match s.descFails 0 d [(!s.timerRuns, 8, s.house.mode.num)] with
    | some (c, x) => s.finish n d.index c x 0
    | none => if 0 ≤ frameDiff s.frameNo (d.param 0) then s.finish n d.index 0 0 0 else s.begins n d.index

/-- The waits that have begun, by ring. -/
def State.waits (s : State) : List (Nat × Desc) :=
  (List.range 64).filterMap (fun n => match s.flying n 0 0x38 with
    | some d => if d.started then some (n, d) else none
    | none => none)

/-- A frame boundary ends the waits whose frame is reached (R326). -/
def State.frameWaits (s : State) : State :=
  s.waits.foldl (fun (s : State) e =>
    if 0 ≤ frameDiff s.frameNo (e.2.param 0) then s.finish e.1 e.2.index 0 0 0 else s) s

/-- The frame timer stops: the waits complete E_MODE (R326). -/
def State.waitsStop (s : State) : State :=
  s.waits.foldl (fun (s : State) e => s.finish e.1 e.2.index 8 s.house.mode.num 0) s

/-! ### Meshes (R247, R324) -/

/-- Bytes of a mesh image. -/
def meshBytes : Nat := 33832

/-- A host read for a descriptor fails (R328): HOST_DMA_ERR, and E_HOSTMEM. -/
def State.hostReadFails (s : State) (n index addr kind : Nat) : State :=
  (s.dmaError addr kind n false).finish n index 6 0 0

/-- A bank whose load begins has no valid contents any more (R247). -/
def State.dropBank (s : State) (bank : Nat) : State :=
  if s.bankBusy bank then s else s.set ⟨WARP_MESH_STATUS_OFF, 8 + bank, 1⟩ 0

/-- MESH_LOAD (R247, R324): the bank is invalidated and the image fetched; the checks end with MESH_CHECK_DONE. -/
def State.meshLoadDesc (s : State) (n : Nat) (image : HostRead (List Nat)) : State :=
  match s.flying n 0 0x20 with
  | none => s
  | some d =>
    let bank := d.param 0 % 4
    match s.descFails 0 d [(d.p 2 != meshBytes, 3, 0), (d.p 0 % 4 != 0, 4, 0)] with
    | some (c, x) => s.finish n d.index c x 0
    | none =>
      if 2 ≤ bank then (s.loadResult 1 0 bank).finish n d.index 0x0B 1 0
      else if (match s.warp.load with | some l => l.ring != n || l.index != d.index | none => false) || !s.mayMaster then s
      else match image with
        | .data w =>
          if d.started then (s.moveFor n meshBytes d).2
          else match s.loadStart w bank n d.index with
            | (0, s) => ((s.begins n d.index).moveFor n meshBytes d).2
            | (e, s) => s.finish n d.index 0x0B e 0
        | _ =>
          let s := if d.started then s.stopLoad n else s.dropBank bank
          s.hostReadFails n d.index (d.p 0 + 2 ^ 32 * d.p 1) image.kind

/-- MESH_CHECK_DONE (R246, R247): the checks of an image that has been fetched whole end. -/
def State.meshCheckDone (s : State) : State :=
  match s.warp.load with
  | none => s
  | some l => match s.flyingAt l.ring l.index 0 0x20 with
    | some d => if meshBytes ≤ d.used then s.loadEnds else s
    | none => s

/-- MESH_SELECT (R324). -/
def State.meshSelectDesc (s : State) (n : Nat) : State :=
  match s.flying n 0 0x21 with
  | none => s
  | some d => match s.descFails 0 d [] with
    | some (c, x) => s.finish n d.index c x 0
    | none =>
      let follower := s.follows
      match s.meshSelectSet (d.param 0 % 4) with
      | (true, s) => s.finish n d.index 0 0 (s.reg WARP_MESH_TARGET_OFF % 2 ^ 16)
      | (false, s) => s.finish n d.index (if follower then 9 else 0x0B) 0 0

/-! ### SURFACE rings (R327, R328) -/

/-- HOST_ADDR, and the source of a SURF_COPY. -/
def Desc.hostAddr (d : Desc) : Nat := d.p 0 + 2 ^ 32 * d.p 1
/-- MOD_ADDR. -/
def Desc.modAddr (d : Desc) : Nat := d.p 2 + 2 ^ 32 * (d.p 3 % 2)
/-- ROW_BYTES. -/
def Desc.rowBytes (d : Desc) : Nat := d.p 4 % 2 ^ 24
/-- ROWS. -/
def Desc.rows (d : Desc) : Nat := d.p 5 % 2 ^ 16

/-- A range of rows from an address extends beyond the surface pool (R328). -/
def Desc.outside (d : Desc) (addr stride : Nat) : Bool :=
  decide (modRegion < addr + (d.rows - 1) * stride + d.rowBytes)

/-- The checks of R328 on a SURFACE descriptor: code and detail of the first failure. -/
def State.surfFails (s : State) (d : Desc) : Option (Nat × Nat) :=
  if d.rows == 0 || d.rowBytes == 0 then s.descFails 1 d []
  else
    let short : Nat → Bool := fun x => decide (1 < d.rows) && decide (x < d.rowBytes)
    let host := d.op != 3
    s.descFails 1 d [
      ((host && short (d.p 6)) || short (d.p 7), 3, 0),
      (d.op == 3 && (d.modAddr % 4 != 0 || d.rowBytes % 4 != 0), 4, 0),
      (d.outside d.modAddr (d.p 7) || (d.op == 4 && d.outside d.hostAddr (d.p 6)), 5, 0)]

/-- The address in module DRAM of the byte at place `p` of a transfer: rows in increasing order, and the bytes of a row
(R328). -/
def Desc.modByte (d : Desc) (p : Nat) : Nat := d.modAddr + p / d.rowBytes * d.p 7 + p % d.rowBytes

/-- The address on the other side: host memory, or the source of a SURF_COPY. -/
def Desc.hostByte (d : Desc) (p : Nat) : Nat := d.hostAddr + p / d.rowBytes * d.p 6 + p % d.rowBytes

/-- The bytes of the burst that begins at place `p`: as far as they lie in one aligned block of 512 bytes of module DRAM, or
of 256 for a SURF_COPY, which reads as many as it writes (R317). No 64-byte line is written by two bursts (R311). -/
def Desc.burstLen (d : Desc) (p : Nat) : Nat :=
  let block := if d.op == 4 then 256 else 512
  ((List.range block).takeWhile (fun k =>
    decide (p + k < d.rowBytes * d.rows) && d.modByte (p + k) / block == d.modByte p / block)).length

/-- Bytes written one after another, each to its own address. -/
def Mem.scatter (m : List Host.Cell) (at_ : Nat → Nat) : Nat → List Nat → List Host.Cell
  | _, [] => m
  | k, b :: bs => Mem.scatter (Mem.write m (at_ k) (BitVec.ofNat 8 b)) at_ (k + 1) bs

/-- Bytes copied within module DRAM one after another, from place `p` on (R328). -/
def Mem.copy (m : List Host.Cell) (dst src : Nat → Nat) (p : Nat) : Nat → List Host.Cell
  | 0 => m
  | k + 1 => Mem.copy (Mem.write m (dst p) (Mem.read m (src p))) dst src (p + 1) k

/-- Surface bytes go to the host row by row. -/
def State.sendRows (s : State) (d : Desc) (p : Nat) : Nat → Nat → State
  | 0, _ => s
  | _, 0 => s
  | fuel + 1, len + 1 =>
    let k := min (len + 1) (d.rowBytes - p % d.rowBytes)
    (s.emit (.hostBytes (d.hostByte p) (Mem.reads s.dram (d.modByte p) k) s.host.conf.relaxed)).sendRows d (p + k) fuel (len + 1 - k)

/-- One burst of a SURFACE descriptor: `len` bytes from place `p` on; `data` are the bytes it takes from the host. -/
def State.burst (s : State) (d : Desc) (p len : Nat) (data : List Nat) : State :=
  match d.op with
  | 1 => { s with dram := Mem.scatter s.dram d.modByte p data }
  | 2 => s.sendRows d p len len
  | 3 =>
    let fill := (List.range len).map (fun k => d.p 8 / 256 ^ ((p + k) % d.rowBytes % 4) % 256)
    { s with dram := Mem.scatter s.dram d.modByte p fill }
  | _ => { s with dram := Mem.copy s.dram d.modByte d.hostByte p len }

/-- Whether the bursts of a descriptor have ended: still to go, all moved, or a host read failed at an address. -/
inductive BurstEnd where
  | more
  | all
  | failed (addr kind : Nat)
  deriving DecidableEq, Repr

/-- The bursts of a SURFACE descriptor from byte `used` on, while the ring's bucket stays above 0 (R317, R328). `data` are
the host's bytes from `used` on, `failed` the place from `used` at which a host read fails, and its KIND. -/
def State.bursts (s : State) (n : Nat) (d : Desc) (used : Nat) (data : List Nat) (failed : Option (Nat × Nat)) :
    Nat → BurstEnd × State
  | 0 => (.more, s)
  | k + 1 =>
    if d.rowBytes * d.rows ≤ used then (.all, s)
    else if !s.mayBurst n then (.more, s)
    else
      let len := d.burstLen used
      let bad : Option Nat := if d.op == 1 then
          match failed with
          | some x => if x.1 < len then some x.2 else none
          | none => none
        else none
      match bad with
      | some kind => (.failed (d.hostByte used) kind, s)
      | none =>
        if d.op == 1 && decide (data.length < len) then (.more, s)
        else
          let s := (s.burst d used len (data.take len)).debit n (if d.op == 4 then 2 * len else len)
          s.bursts n d (used + len) (data.drop len) (failed.map (fun x => (x.1 - len, x.2))) k

/-- The bytes of a descriptor that have moved at the end of a run of bursts follow from the debit of its ring. -/
def State.burstsUsed (d : Desc) (before after : Rat) : Nat :=
  d.used + (Rat.floor (after - before)).toNat / (if d.op == 4 then 2 else 1)

/-- A SURFACE descriptor runs as far as its ring's bucket and the host's bytes let it (R317, R327, R328), after those before it
(R310). While Bus Master Enable is 0 it stands still (R299). -/
def State.surfRun (s : State) (n index op : Nat) (data : List Nat) (failed : Option (Nat × Nat)) : State :=
  match s.flyingAt n index 1 op with
  | none => s
  | some d =>
    match (if d.started then none else s.surfFails d) with
    | some (c, x) => s.finish n index c x 0
    | none =>
      let s := s.begins n index
      if d.rows == 0 || d.rowBytes == 0 then s.finish n index 0 0 0
      else if !s.mayMaster || !s.turnOf n index then s
      else
        let before := (s.ring n).debt
        let r := s.bursts n d d.used data failed 65537
        let s := r.2.setDesc n index (fun e => { e with used := State.burstsUsed d before (r.2.ring n).debt })
        match r.1 with
        | .more => s
        | .all => s.finish n index 0 0 0
        | .failed addr kind => s.hostReadFails n index addr kind

/-! ### CALIBRATE rings (R329) -/

/-- CAL_BLOCK (R185 to R188, R329): the length, the header, and TONE's checks; the entries move at the ring's rate. -/
def State.calBlockDesc (s : State) (n : Nat) (block : HostRead (List Nat)) : State :=
  match s.flying n 2 0x01 with
  | none => s
  | some d =>
    let len := d.p 2
    match s.descFails 2 d [(decide (len < 32) || len % 4 != 0, 3, 0), (d.p 0 % 4 != 0, 4, 0)] with
    | some (c, x) => s.finish n d.index c x 0
    | none =>
      if !s.mayMaster then s
      else match block with
        | .data w =>
          let count := w.getD 2 0
          if len != 32 + 4 * count then s.finish n d.index 3 0 0
          else
            let go := if s.calCode w != 0 then (true, s) else s.moveFor n (4 * count) d
            if !go.1 then go.2
            else
              let r := go.2.calBlock w
              if r.1 != 0 then r.2.finish n d.index 0x0C r.1 0
              else
                let gen := r.2.get TONE_CAL_STATUS_GEN + getBits (w.getD 4 0) 0 1
                r.2.finish n d.index 0 0 (gen % 2 ^ TONE_CAL_STATUS_GEN.width % 2 ^ 16)
        | _ => s.hostReadFails n d.index (d.p 0 + 2 ^ 32 * d.p 1) block.kind

/-! ### TELEMETRY rings (R330, R331) -/

/-- Entries of a dump and the bytes of each (R330). -/
def dumpTable : Nat → Nat × Nat
  | 1 => (4194304, 4) | 2 => (4194304, 4) | 3 => (4194304, 4) | 4 => (16384, 16) | 5 => (1, 1024) | _ => (32, 32)

/-- The two drift records of an emitter as TEL_DRIFT gives them (R140, R330). -/
def State.driftWord (s : State) (e : Nat) : Nat :=
  let r := fun (k : Nat) => (sget (fun _ => 0#16) s.array.drift k).toNat
  if Config.driftSwap e then r (2 * e + 1) + 2 ^ 16 * r (2 * e) else r (2 * e) + 2 ^ 16 * r (2 * e + 1)

/-- The words of an entry of a dump (R330). -/
def State.dumpEntry (s : State) (op i : Nat) : List Nat :=
  match op with
  | 1 => [sget (fun _ => 0) s.tone.charge i]
  | 2 => [s.driftWord i]
  | 3 => [s.calWord i]
  | 4 => s.defectWords i
  | 5 => (List.range 128).map (fun k => s.reg (0x80000 + 4 * k)) ++ (List.range 128).map (fun k => s.reg (0x81000 + 4 * k))
  | _ => s.histWords i

/-- A TELEMETRY descriptor moves as many bytes as its ring's bucket lets it (R317, R330, R331). -/
def State.telRun (s : State) (n index op : Nat) : State :=
  match s.flyingAt n index 3 op with
  | none => s
  | some d =>
    let size := (dumpTable op).2
    let count := d.param 1
    match s.descFails 3 d [(decide (d.p 2 < count * size), 3, 0), (d.p 0 % 4 != 0, 4, 0),
        (decide ((dumpTable op).1 < d.param 0 + count), 5, 0)] with
    | some (c, x) => s.finish n index c x 0
    | none =>
      let ends := fun (s : State) => s.finish n index 0 (s.dumpGen op) (if op == 5 then s.dumpGen op else d.gen)
      if count == 0 then ends s
      else if !s.mayMaster || !s.turnOf n index then s
      else
        let total := count * size
        let k := if 5 ≤ op then total else min (total - d.used) (s.burstBytes n)
        let s := s.begins n index
        if k == 0 then s
        else
          let words := (List.range (k / size)).flatMap (fun i => s.dumpEntry op (d.param 0 + d.used / size + i))
          let s := s.emit (.hostWords (d.hostAddr + d.used) words)
          let s := if 5 ≤ op then s.setDesc n index (fun e => { e with used := k }) else s.moved n index k
          if total ≤ d.used + k then ends s else s

/-! ### The commands -/

/-- NOP. -/
def execNop (t ring : Nat) (s : State) : Host.Outcome State Fault Refusal := .next (s.run t fun s => s.nop ring)

/-- LAYER_SET. -/
def execLayerSet (t ring : Nat) (s : State) : Host.Outcome State Fault Refusal := .next (s.run t fun s => s.layerSetDesc ring)

/-- LAYER_MOVE. -/
def execLayerMove (t ring : Nat) (s : State) : Host.Outcome State Fault Refusal := .next (s.run t fun s => s.layerMoveDesc ring)

/-- LAYER_COMMIT. -/
def execLayerCommit (t ring : Nat) (s : State) : Host.Outcome State Fault Refusal := .next (s.run t fun s => s.layerCommitDesc ring)

/-- REG_WRITE. -/
def execRegWriteDesc (t ring : Nat) (s : State) : Host.Outcome State Fault Refusal := .next (s.run t fun s => s.regWriteDescr ring)

/-- FRAME_WAIT. -/
def execFrameWait (t ring : Nat) (s : State) : Host.Outcome State Fault Refusal := .next (s.run t fun s => s.frameWaitDesc ring)

/-- MESH_LOAD. -/
def execMeshLoad (t ring : Nat) (image : HostRead (List Nat)) (s : State) : Host.Outcome State Fault Refusal :=
  .next (s.run t fun s => s.meshLoadDesc ring image)

/-- MESH_CHECK_DONE. -/
def execMeshCheck (t : Nat) (s : State) : Host.Outcome State Fault Refusal := .next (s.run t fun s => s.meshCheckDone)

/-- MESH_SELECT. -/
def execMeshSelect (t ring : Nat) (s : State) : Host.Outcome State Fault Refusal := .next (s.run t fun s => s.meshSelectDesc ring)

/-- SURF_WRITE. -/
def execSurfWrite (t ring index : Nat) (data : List Nat) (failed : Option (Nat × Nat)) (s : State) :
    Host.Outcome State Fault Refusal := .next (s.run t fun s => s.surfRun ring index 1 data failed)

/-- SURF_READ. -/
def execSurfRead (t ring index : Nat) (s : State) : Host.Outcome State Fault Refusal :=
  .next (s.run t fun s => s.surfRun ring index 2 [] none)

/-- SURF_FILL. -/
def execSurfFill (t ring index : Nat) (s : State) : Host.Outcome State Fault Refusal :=
  .next (s.run t fun s => s.surfRun ring index 3 [] none)

/-- SURF_COPY. -/
def execSurfCopy (t ring index : Nat) (s : State) : Host.Outcome State Fault Refusal :=
  .next (s.run t fun s => s.surfRun ring index 4 [] none)

/-- CAL_BLOCK. -/
def execCalBlock (t ring : Nat) (block : HostRead (List Nat)) (s : State) : Host.Outcome State Fault Refusal :=
  .next (s.run t fun s => s.calBlockDesc ring block)

/-- TEL_CHARGE. -/
def execTelCharge (t ring index : Nat) (s : State) : Host.Outcome State Fault Refusal := .next (s.run t fun s => s.telRun ring index 1)

/-- TEL_DRIFT. -/
def execTelDrift (t ring index : Nat) (s : State) : Host.Outcome State Fault Refusal := .next (s.run t fun s => s.telRun ring index 2)

/-- TEL_CALWORD. -/
def execTelCalword (t ring index : Nat) (s : State) : Host.Outcome State Fault Refusal := .next (s.run t fun s => s.telRun ring index 3)

/-- TEL_DEFECT. -/
def execTelDefect (t ring index : Nat) (s : State) : Host.Outcome State Fault Refusal := .next (s.run t fun s => s.telRun ring index 4)

/-- TEL_SENSORS. -/
def execTelSensors (t ring index : Nat) (s : State) : Host.Outcome State Fault Refusal := .next (s.run t fun s => s.telRun ring index 5)

/-- TEL_HISTORY. -/
def execTelHistory (t ring index : Nat) (s : State) : Host.Outcome State Fault Refusal := .next (s.run t fun s => s.telRun ring index 6)

end Sys2Proof.Machine
end

