-- ==== Sys2Proof/Machine/Modes.lean ====
section
/-! DEFINITION. Mode requests, the entry and exit sequences, the overlays and the stop sequence (R325, R458, R460, R472,
R490 to R499), and what a frame boundary does with a change that is due. -/

namespace Sys2Proof.Machine

open Reg

/-! ### Overlays (R496, R497) -/

/-- A register whose overlay entries a follower skips (R497). -/
def followerSkips (off : Nat) : Bool :=
  [STRIKE_RATE_OFF, STRIKE_SYNC_CTRL_OFF, STRIKE_SYNC_PHASE_OFF, STRIKE_COMMIT_OFF, TONE_COMMIT_OFF,
   BRAID_LAYER_COMMIT_OFF, WARP_MESH_SELECT_OFF].contains off || toneStaged.contains off
    || (decide (layerOff 0 0 ≤ off) && decide (off < layerOff 15 0))

/-- The pairs of the overlay of a state number; none where the configuration holds no overlay for it (R496). -/
def State.overlayPairs (s : State) (mode : Nat) : List (Nat × Nat) :=
  match s.house.overlays.find? (fun o => o.mode == mode) with
  | some o => o.entries
  | none => []

/-- The overlay of a mode is applied: its entries in order, each with the effect of the same host write, which waits at an
island without its PLL (R32); HOUSE_OVERLAY counts those written and those skipped (R497). -/
def State.applyOverlay (s : State) (mode : Nat) : State :=
  let es := s.overlayPairs mode
  let skip := fun (e : Nat × Nat) => s.follows && followerSkips e.1
  let s' := (es.filter (fun e => !skip e)).foldl (fun (s : State) e =>
    if s.stalls e.1 then s.stall ⟨.host, e.1, some e.2, 0, 4⟩ else s.regTakes .host e.1 e.2) s
  ((s'.set HOUSE_OVERLAY_MODE mode).set HOUSE_OVERLAY_WRITTEN (es.filter (fun e => !skip e)).length).set
    HOUSE_OVERLAY_SKIPPED (es.filter skip).length

/-- An overlay that is still to be applied is (R464, R494, R495, R497): the frame boundary of its change lies at least
100 µs later, where the change names no other time. -/
def State.runOverlay (s : State) : State :=
  let s : State := match s.house.change with
    | some c => (match c.overlay with
      | some m => (s.applyOverlay m).setChange (some { c with
          overlay := none
          notBefore := if c.notBefore == 0 && c.atFrame.isNone then 100000 + s.now else c.notBefore })
      | none => s)
    | none => s
  match s.house.overlayDue with
  | some m => ({ s with house := { s.house with overlayDue := none } }).applyOverlay m
  | none => s

/-! ### Grounds of refusal (R365, R460, R472, R491) -/

/-- A fault that is open keeps the module out of the emitting states (R472). -/
def State.faultBlocks (s : State) : Bool :=
  faultList.any (fun r => match r.bit, r.react with
    | some b, .dark => s.flag (openBit b)
    | some b, .safe _ => s.flag (openBit b)
    | some b, .link => s.flag (openBit b) && !s.flag GUARD_A_CFG_LINK_MODE
    | _, _ => false)

/-- A safety function demands (R365): SF-STOP, a latched discrepancy, SF-LINK under BLACKOUT, or BLACKOUT with no fresh
network. -/
def State.safetyDemand (s : State) : Bool :=
  s.pairDemand 0 || s.latched 0 || s.latched 1 || s.guards.tgStop || s.house.mode == .safe
    || (!s.flag GUARD_A_CFG_LINK_MODE && (s.linkActs || (!s.fresh .a && !s.fresh .b)))

/-- Cross-comparison agrees at both guards. -/
def State.guardsAgree (s : State) : Bool := s.flag GUARD_A_STATUS_XCMP_OK && s.flag ⟨GUARD_B_STATUS_OFF, 26, 1⟩

/-- The ground that keeps the module out of an emitting state, as DETAIL (R472, R365, R491). -/
def State.entryGround (s : State) : Option Nat :=
  if s.faultBlocks then some 0x81
  else if s.safetyDemand then some 0x82
  else if s.guards.zoneA.isNone || s.guards.zoneB.isNone then some 0x83
  else if !s.encodersValid || s.axesApart != [] then some 0x84
  else if !s.guardsAgree then some 0x85
  else none

/-- The ground of R460 on a twin that would enter SOLO or CALIBRATE: 0xA0 PARTNER_LIT or 0xA6 PARTNER_UNKNOWN. -/
def State.partnerGround (s : State) : Option Nat :=
  let pair := s.get SPLICE_STATUS_LIGHT_IN
  let told := match s.heartbeat with
    | some h => decide (s.now ≤ 10000000 + h.at_) && !h.lit && h.state != 2 && h.state != 3
    | none => false
  if pair == 1 then none
  else if pair == 2 && told then none
  else if pair == 0 then some 0xA0
  else some 0xA6

/-- The transitions that a MODE_REQUEST may ask for (R490). -/
def Mode.mayRequest : Mode → Mode → Bool
  | .dark, .show | .dark, .solo | .dark, .calibrate | .dark, .service | .dark, .stowed
  | .service, .dark | .service, .stowed
  | .show, .dark | .show, .service | .show, .stowed
  | .solo, .dark | .solo, .service | .solo, .stowed | .solo, .calibrate
  | .calibrate, .dark | .calibrate, .service | .calibrate, .stowed | .calibrate, .solo => true
  | _, _ => false

/-- The module runs the twin set's changes: a twin in the role of leader. -/
def State.leadsSet (s : State) : Bool := s.twinEn && s.role == 1

/-- The ground on which a request is refused when it arrives, as DETAIL (R458, R460, R491); none where it is accepted. -/
def State.requestGround (s : State) (target : Mode) (set : Bool) : Option Nat :=
  let m := s.house.mode
  if target == .show && !s.twinEn then some 0x86
  else if set && s.twinEn && (target == .solo || target == .calibrate) then some 0xA2
  else if set && target == .show then
    if s.role != 1 || s.get SPLICE_STATUS_PAIR != 2 then some 0xA1
    else if m == .show then none
    else if m == .dark || m == .solo || m == .calibrate then s.entryGround
    else some 0x80
  else if target == .show && s.get SPLICE_STATUS_PAIR == 3 then some 0xA1
  else if !m.mayRequest target then some 0x80
  else if target.emitting then
    match s.entryGround with
    | some g => some g
    | none => if s.twinEn && target != .show then s.partnerGround else none
  else none

/-! ### The stop sequence (R498, R499) -/

/-- The stop sequence starts (R498): the defect journal is written, and the islands are asked once the newest wear
checkpoint is less than 10 minutes old. -/
def State.startStop (s : State) (waiter : Option (Nat × Nat)) (cause : Nat) : State :=
  let recent := s.tone.ckpts != 0 && decide (s.now < 600000000000 + s.tone.ckptAt)
  let s := s.defectJournal
  ({ s with house := { s.house with stop := some ⟨waiter, cause, recent, 0⟩ } }).showChange

/-! ### Changes at a frame boundary (R459, R494, R495) -/

/-- Step 4 of the entry sequence (R494) from a state without emission: the state, the bucks, the mask of the last emission dropped
(R222), SF-LINK under RESTRICT (R365), and the JOIN phase of a set-wide entry into SHOW (R459). -/
def State.enterEmission (s : State) (target : Mode) (cause : Nat) : State :=
  let s := s.enter target cause 0
  let s : State := { s with
    braid := { s.braid with prot := none }
    guards := { s.guards with next := none, inUse := none, enableDue := true } }
  let s := s.set BRAID_PROT_STATUS_VALID 0
  let s := s.startBucks.linkEntry
  if target == .show && cause == 1 then
    ({ s with twin := { s.twin with joinSince := some s.now } }).set SPLICE_STATUS_JOIN 1
  else s

/-- A change takes effect (R490, R494, R495): the state changes, the request that waits for it is answered, or the stop
sequence follows. -/
def State.takeChange (s : State) (c : Change) : State :=
  let m := s.house.mode
  if c.target == .stowed then s.startStop c.waiter c.cause
  else if c.target == m then s.answer c.waiter 0 0
  else if m.emitting && !c.target.emitting then
    let s := s.disable.stopBucks.enter c.target c.cause 0
    if c.thenStowed then s.startStop c.waiter c.cause else s.answer c.waiter 0 0
  else if m.emitting then
    let s := s.enter c.target c.cause 0
    let s := if c.target == .show && s.role == 2 then
        ({ s with twin := { s.twin with joinSince := some s.now } }).set SPLICE_STATUS_JOIN 1
      else s
    let s := match m, c.target, c.cause, c.atFrame with
      | .show, .solo, 1, some f => s.twinEvent 0x09 true f
      | _, _, _, _ => s
    s.answer c.waiter 0 0
  else if c.target.emitting then (s.enterEmission c.target c.cause).answer c.waiter 0 0
  else (s.enter c.target c.cause 0).answer c.waiter 0 0

/-- The change in progress takes effect at this boundary where it is due. -/
def State.boundaryChange (s : State) : State :=
  match s.house.change with
  | none => s
  | some c =>
    let due := match c.atFrame with
      | some f => decide (0 ≤ frameDiff s.frameNo f)
      | none => c.overlay.isNone && decide (c.notBefore ≤ s.now)
    if !due then s
    else
      let s := match c.overlay with
        | some m => s.applyOverlay m
        | none => s
      (s.setChange none).takeChange c

/-! ### Requests (R325, R458) -/

/-- The state of a target number (R325). -/
def modeOf : Nat → Mode
  | 0 => .stowed
  | 1 => .dark
  | 2 => .show
  | 3 => .solo
  | 4 => .calibrate
  | _ => .service

/-- The request asks for what is in force (R325): its own state, and for a set-wide SHOW the partner's as well (R458). -/
def State.inForce (s : State) (target : Mode) (set : Bool) : Bool :=
  s.house.mode == target && !(set && s.leadsSet && target == .show && s.get SPLICE_STATUS_PARTNER_STATE != 2)

/-- The pass-switch test of an entry from DARK, and what follows a test that passes; a failed one has entered SAFE, which
refuses the request (R486, R493, R494). -/
def State.tested (s : State) (waiter : Option (Nat × Nat)) (passed : Bool) (go : State → State) : State :=
  let s := s.passTest passed
  if passed then go s else s.answer waiter 0x0E 0x89

/-- An accepted request starts its sequence. -/
def State.startRequest (s : State) (target : Mode) (set : Bool) (waiter : Option (Nat × Nat)) (passed : Bool) : State :=
  let m := s.house.mode
  let simple := fun (s : State) (t : Mode) (after : Nat) (stow : Bool) =>
    (s.applyOverlay t.num).setChange (some ⟨t, 0, waiter, s.now + after, none, stow, none⟩)
  if set && s.leadsSet then
    if target == .show then
      let peer := s.get SPLICE_STATUS_PARTNER_STATE != 2
      if m == .dark then s.tested waiter passed (fun s => s.joinStart waiter true peer)
      else s.joinStart waiter false peer
    else s.setChangeStart target waiter
  else if m == .show then s.handoverStart target waiter
  else if target.emitting && m == .dark then s.tested waiter passed (fun s => simple s target 100000 false)
  else if target.emitting then simple s target 0 false
  else if m.emitting then
    if target == .stowed then simple s .dark 100000 true else simple s target 100000 false
  else if target == .stowed then s.startStop waiter 0
  else simple s target 0 false

/-- A leader that is asked for a set-wide SHOW while its partner is silent wakes it with sixteen wake words (R439). -/
def State.wakePartner (s : State) (target : Mode) (set : Bool) : State :=
  if set && s.leadsSet && target == .show && s.get SPLICE_STATUS_PAIR == 4 then
    { s with twin := { s.twin with wakeTicks := 16 } }
  else s

/-- A MODE_REQUEST descriptor with SET as the command names it (R325, R458, R493). -/
def State.modeRequestDesc (s : State) (n : Nat) (set passed : Bool) : State :=
  match s.flying n 0 0x30 with
  | none => s
  | some d =>
    if d.started || (d.param 0 / 256 % 2 == 1) != set then s
    else
      let tn := d.param 0 % 16
      match s.descFails 0 d [(decide (5 < tn), 3, 0)] with
      | some (c, x) => s.finish n d.index c x 0
      | none =>
        let target := modeOf tn
        if s.inForce target set then s.finish n d.index 0 0 0
        else if s.twinEn && s.follows && (set || target == .show) then s.finish n d.index 9 0 0
        else if s.changing then s.finish n d.index 0x0E 0x88 0
        else match s.requestGround target set with
          | some g => (s.wakePartner target set).finish n d.index 0x0E g 0
          | none => (s.begins n d.index).startRequest target set (some (n, d.index)) passed

/-- MODE_REQUEST. -/
def execModeRequest (t ring : Nat) (passTestOk : Bool) (s : State) : Host.Outcome State Fault Refusal :=
  .next (s.run t fun s => s.modeRequestDesc ring false passTestOk)

/-- SET_MODE_REQUEST. -/
def execSetModeRequest (t ring : Nat) (passTestOk : Bool) (s : State) : Host.Outcome State Fault Refusal :=
  .next (s.run t fun s => s.modeRequestDesc ring true passTestOk)

/-- JOIN_ENTER (R459): a joining follower enters SHOW with JOIN at the boundary of F, under the checks and the test of
R494. -/
def State.joinEnterIn (s : State) (b : List Nat) (passed : Bool) : State :=
  match s.modeIn 1 b with
  | (none, s) => s
  | (some (_, f), s) =>
    let other := match s.house.change with
      | some c => c.target != .show || c.cause != 1
      | none => s.house.stop.isSome
    let change : Change := ⟨.show, 1, none, 0, some f, false, some 2⟩
    if s.role != 2 || other || s.entryGround.isSome then s
    else if s.house.mode == .dark then
      if s.house.change.isSome then s.setChange (some change)
      else s.tested none passed (fun s => s.setChange (some change))
    else if s.house.mode == .solo || s.house.mode == .calibrate then s.setChange (some change)
    else s

/-- JOIN_ENTER. -/
def execJoinEnter (t : Nat) (bytes : List Nat) (passTestOk : Bool) (s : State) : Host.Outcome State Fault Refusal :=
  .next (s.run t fun s => s.joinEnterIn bytes passTestOk)

/-- SWITCH. -/
def execSwitch (t : Nat) (bytes : List Nat) (s : State) : Host.Outcome State Fault Refusal :=
  .next (s.run t fun s => s.switchIn bytes)

/-- HANDOVER. -/
def execHandover (t : Nat) (bytes : List Nat) (s : State) : Host.Outcome State Fault Refusal :=
  .next (s.run t fun s => s.handoverIn bytes)

/-- SET_CHANGE. -/
def execSetChange (t : Nat) (bytes : List Nat) (s : State) : Host.Outcome State Fault Refusal :=
  .next (s.run t fun s => s.setChangeIn bytes)

/-- JOIN_ABORT. -/
def execJoinAbort (t : Nat) (bytes : List Nat) (s : State) : Host.Outcome State Fault Refusal :=
  .next (s.run t fun s => s.joinAbortIn bytes)

/-- JOIN_TIMEOUT. -/
def execJoinTimeout (t : Nat) (s : State) : Host.Outcome State Fault Refusal :=
  .next (s.run t fun s => s.joinTimeout)

end Sys2Proof.Machine
end

