-- ==== Sys2Proof/Machine/Power.lean ====
section
/-! DEFINITION. Input power, the wake sequence, RESET_N, the management port, the stop sequence, a restart, and the PLLs
(R32, R487 to R489, R498 to R505, R515). -/

namespace Sys2Proof.Machine

open Reg

/-! ### What stays through a power-down (R26, R500, R513) -/

/-- The counters that return to 0 only at a cold start though their tables name no warm value (R27): PASS and FAIL of the
guard units (R421), and the counters of the safety networks. -/
def coldCounter (off : Nat) : Bool :=
  [0, 1, 4, 8, 9, 10, 11].any (fun n => off == CVU_UNIT_PASS_OFF n || off == CVU_UNIT_FAIL_OFF n)
    || [0, 1].any (fun g => off == GUARD_NET_VALID_OFF g || off == GUARD_NET_OTHER_OFF g || off == GUARD_NET_COMPARE_OFF g
      || (List.range 3).any (fun k => off == GUARD_NET_DISC_OFF g k))

/-- The bits of a register that a power-down keeps: 'warm: unchanged' and fuse fields; through STOWED those whose warm
value is 0 as well. FUSE_STATUS and HOUSE_START belong to HOUSE's always-on logic, and TWIN_EN as last configured lets
the partner wake the module (R501). The doorbell bits are kept through STOWED (R351). -/
def keepMask (stow : Bool) (off : Nat) : Nat :=
  if off == FUSE_STATUS_OFF || off == HOUSE_START_OFF || coldCounter off then 0xFFFFFFFF
  else if off == SPLICE_CFG_OFF then 0x80000000
  else if off == MBOX_DBELL_OFF then (if stow then 0xFFFFFFFF else 0)
  else (fieldsAt off).foldl (fun a f =>
    let stays := match f.keep with
      | .kept | .fuse => true
      | .stow => stow
      | .cold | .config => false
    if stays then a + (2 ^ f.width - 1) * 2 ^ f.lsb else a) 0

/-- The registers after a power-down: the kept bits stay, the others take their cold value. -/
def keptRegs (stow : Bool) (regs : List (Nat × BitVec 32)) : List (Nat × BitVec 32) :=
  regs.foldr (fun e m =>
    let mask := BitVec.ofNat 32 (keepMask stow e.1)
    rwrite m e.1 ((e.2 &&& mask) ||| (coldReg e.1 &&& ~~~mask))) []

/-- The logic-die stages go down (R498, R505, R515). HOUSE keeps the fields that have a warm value, KEEPER's queue and the
operating hours; through STOWED (`stow`) also the mailbox queues and doorbell bits. A SAFE latch stays with GUARD_B; the
boot flash, and what the outside holds, stay as they are. -/
def State.powerDown (s : State) (stow : Bool) : State :=
  let z := State.reset
  let h := s.house
  let safe := s.get GUARD_B_STATUS_CAUSE
  let latch := s.flag ⟨GUARD_B_STATUS_OFF, 31, 1⟩
  let net := fun (n : Net) => { z.guards.netA with last := n.last }
  let keep := fun (m : Mbox) => if stow then { m with rxWait := [], got := [] } else Mbox.empty
  let t : State := { z with
    now := s.now, pending := s.pending, freeCtr := s.freeCtr, out := s.out, regs := keptRegs stow s.regs
    house := { z.house with
      mode := .stowed, heldWake := h.heldWake, brownMark := h.brownMark, coldPending := h.coldPending
      resetLow := h.resetLow, perstLow := h.perstLow, i2cPtr := h.i2cPtr, bootSel := h.bootSel, addrSel := h.addrSel
      errPin := h.errPin, errSince := h.errSince, errHeld := h.errPin == .fault, wakeFail := h.wakeFail
      slots := h.slots
      hoursNs := if s.powered then h.hoursNs + (s.now - h.upSince) else h.hoursNs }
    keeper := { z.keeper with hist := s.keeper.hist, journal := s.keeper.journal }
    hk := { z.hk with
      mbox := (s.hk.mbox.map (fun e => (e.1, keep e.2))).filter (fun e => e.2 != Mbox.empty)
      wakes := s.hk.wakes, bells := s.hk.bells, resets := s.hk.resets }
    tone := { z.tone with
      store0 := s.tone.store0, store1 := s.tone.store1, ckptAt := s.tone.ckptAt, ckpts := s.tone.ckpts
      effLow := s.tone.effLow }
    array := { z.array with journal := s.array.journal }
    guards := { z.guards with netA := net s.guards.netA, netB := net s.guards.netB, units := keptRegs stow s.guards.units }
    twin := { z.twin with lastSetSeq := s.twin.lastSetSeq } }
  let t := t.set HOUSE_STATE_STATE 0
  let t := if latch then (t.set ⟨GUARD_B_STATUS_OFF, 31, 1⟩ 1).set GUARD_B_STATUS_CAUSE safe else t
  let t := if stow then (List.range 8).foldl (fun (t : State) n => t.setMbox n (t.mbox n)) t else t
  t.driveErr.driveLight

/-- The module without input power: what the boot flash holds and what lies outside the module stay (R488). -/
def State.unpowered (s : State) : State :=
  let z := State.reset
  let slots := s.house.slots.foldl (fun m e => sput (fun _ => Slot.empty) m e.1 { e.2 with verified := false }) []
  { z with
    now := s.now, pending := s.pending, freeCtr := s.freeCtr, out := s.out
    house := { z.house with perstLow := s.house.perstLow, resetLow := s.house.resetLow, slots := slots }
    keeper := { z.keeper with journal := s.keeper.journal }
    tone := { z.tone with
      store0 := s.tone.store0, store1 := s.tone.store1, ckptAt := s.tone.ckptAt, ckpts := s.tone.ckpts }
    array := { z.array with journal := s.array.journal } }

/-! ### The wake sequence (R501 to R504) -/

/-- The wake sequence starts with a source and a KIND (HOUSE_START). -/
def State.wakeStart (s : State) (source kind : Nat) : State :=
  let s := ((s.set HOUSE_START_SOURCE source).set HOUSE_START_KIND kind).set HOUSE_START_ATTEMPTS 1
  let s := s.set HOUSE_START_FAIL_STAGE 0
  { s with house := { s.house with waking := some 0, retryWait := false, heldWake := none } }

/-- A wake event (R493, R501): it starts the wake sequence in STOWED, is held during the stop sequence, and is ignored
while RESET_N is held and during a wake sequence. A later round after WAKE_FAIL keeps the KIND of the start that failed. -/
def State.wakeEvent (s : State) (source : Nat) : State :=
  if s.flag HOUSE_START_HELD then s
  else if s.house.stop.isSome then
    (if s.house.heldWake.isSome then s else { s with house := { s.house with heldWake := some source } })
  else if s.house.mode == .stowed && s.house.waking.isNone && !s.house.retryWait then
    s.wakeStart source (if s.house.wakeFail then s.get HOUSE_START_KIND else 3)
  else s

/-- Number of a stage (R503). -/
def stageNo : Stage → Nat
  | .regulator => 0 | .oscillator => 1 | .memory => 2 | .logic => 3

/-- The end of the Logic stage (R503): BOOT, and what HOUSE has latched is recorded (R489, R504, R511). -/
def State.enterBoot (s : State) : State :=
  let brown := s.house.brownMark
  let failed := s.house.wakeFail
  let s : State := { s with house := { s.house with mode := .boot, waking := none, brownMark := false, wakeFail := false, upSince := s.now } }
  let s := (s.set HOUSE_STATE_STATE 8).set SPLICE_CFG_TWIN_EN 0
  let s := s.mboxMode.driveErr
  let s := if brown then s.fault 0x0A07 10 0 else s
  let s := if failed then s.fault 0x0A06 10 0 else s
  if s.flag FUSE_STATUS_CORRUPT then s.fault 0x0A08 10 0 else s

/-- A stage reports ready (R503). -/
def State.stageReady (s : State) (g : Stage) : State :=
  if s.house.waking != some (stageNo g) then s
  else if g == .logic then s.enterBoot
  else { s with house := { s.house with waking := some (stageNo g + 1) } }

/-- A stage has not reported ready in time (R504). -/
def State.stageTimeout (s : State) (g : Stage) : State :=
  if s.house.waking != some (stageNo g) then s
  else
    let s := s.set HOUSE_START_FAIL_STAGE (stageNo g + 1)
    if s.get HOUSE_START_ATTEMPTS < 4 then { s with house := { s.house with waking := none, retryWait := true } }
    else ({ s with house := { s.house with waking := none, wakeFail := true } }).driveErr

/-- The wait of 10 ms after a failed attempt has passed (R504). -/
def State.retryDelay (s : State) : State :=
  if !s.house.retryWait then s
  else
    let s := s.set HOUSE_START_ATTEMPTS (s.get HOUSE_START_ATTEMPTS + 1)
    { s with house := { s.house with waking := some 0, retryWait := false } }

/-! ### Input power (R487 to R489, R511) -/

/-- The fuses load (R511, step 2): pairs of an offset in the FUSE block and a value, the bits corrected, and whether a word
is beyond correction. -/
def State.loadFuses (s : State) (fuses : List (Nat × Nat)) (corrected : Nat) (corrupt : Bool) : State :=
  let s := fuses.foldl (fun (s : State) p =>
    (fieldsAt p.1).foldl (fun (s : State) f =>
      if f.keep == .fuse then s.set ⟨p.1, f.lsb, f.width⟩ (p.2 / 2 ^ f.lsb % 2 ^ f.width) else s) s) s
  ((s.set FUSE_STATUS_LOADED 1).set FUSE_STATUS_CORRECTED corrected).setFlag FUSE_STATUS_CORRUPT corrupt

/-- The newest of some wear checkpoints (R169). -/
def newerStore (l : List WearStore) : Option WearStore :=
  l.foldl (fun m w => match m with
    | some v => if v.order < w.order then some w else some v
    | none => some w) none

/-- The newest wear checkpoint in the boot flash. -/
def State.newestStore (s : State) : Option WearStore := newerStore ([s.tone.store0, s.tone.store1].filterMap id)

/-- A cold start from an unpowered module: fuses, straps, operating hours from the newest checkpoint (R513), and the wake
sequence with source input power, or the wait for RESET_N (R505). -/
def State.coldStart (s : State) (resetLow brown : Bool) (fuses : List (Nat × Nat)) (corrected : Nat)
    (corrupt : Bool) : State :=
  let s := s.unpowered
  let hours := match s.newestStore with
    | some w => 3600000000000 * w.hours
    | none => 0
  let s : State := { s with house := { s.house with
    mode := .stowed, brownMark := brown, resetLow := resetLow, hoursNs := hours } }
  let s := (s.set HOUSE_STATE_STATE 0).loadFuses fuses corrected corrupt
  if resetLow then
    (({ s with house := { s.house with coldPending := true } }).set HOUSE_START_HELD 1).driveErr
  else s.wakeStart 3 (if brown then 1 else 0)

/-- POWER_GOOD (R487, R511). -/
def State.powerGood (s : State) (resetLow : Bool) (fuses : List (Nat × Nat)) (corrected : Nat) (corrupt : Bool) : State :=
  if s.house.mode != .off then s else s.coldStart resetLow false fuses corrected corrupt

/-- BROWN_OUT (R489): the housekeeping regulator resets HOUSE in STOWED. -/
def State.brownOut (s : State) (resetLow : Bool) (fuses : List (Nat × Nat)) (corrected : Nat) (corrupt : Bool) : State :=
  if s.house.mode != .stowed then s else s.coldStart resetLow true fuses corrected corrupt

/-- LOCK_OUT (R488). -/
def State.lockOut (s : State) : State :=
  if s.house.mode == .off then s else s.unpowered

/-! ### RESET_N (R505) -/

/-- RESET_N_ASSERT. The module is held: dark, the ERR pair at fault; the locks are released (R361). -/
def State.resetAssert (s : State) : State :=
  let held := s.flag HOUSE_START_HELD
  let s : State := { s with house := { s.house with resetLow := true } }
  if s.house.mode == .off || s.house.mode == .fatal || held then s
  else
    let s := s.forceLocks (fun _ => true)
    if s.house.mode == .fatal then s
    else
      let s := (s.set HOUSE_START_HELD 1).driveErr
      let s : State := { s with house := { s.house with heldWake := none } }
      s.powerDown false

/-- RESET_N_RELEASE. -/
def State.resetRelease (s : State) : State :=
  let s : State := { s with house := { s.house with resetLow := false } }
  if !s.flag HOUSE_START_HELD then s
  else
    let kind := if !s.house.coldPending then 2 else if s.house.brownMark then 1 else 0
    let s : State := { s with house := { s.house with coldPending := false } }
    ((s.set HOUSE_START_HELD 0).wakeStart 2 kind).driveErr

/-! ### The management port (R502) -/

/-- A write of the management port: a register number, then data from that number upward. Only WAKE takes a write. -/
def State.i2cWrite (s : State) (reg : Nat) (data : List Nat) : State :=
  if s.house.mode == .off then s
  else
    let s : State := { s with house := { s.house with i2cPtr := (reg + data.length) % 256 } }
    let wake := data.zipIdx.any (fun p => (reg + p.2) % 256 == 2 && p.1 % 256 == 1)
    if wake && s.house.mode == .stowed then s.wakeEvent 1 else s

/-- WAKE (R501): an I²C write of 1 to WAKE. -/
def State.wakeI2c (s : State) : State := s.i2cWrite 2 [1]

/-- What a management register reads (R502). -/
def State.i2cRead (s : State) (reg : Nat) : Nat :=
  if reg == 0 then 0xF1
  else if reg == 1 then (if s.house.errPin == .healthy then 0 else 128) + s.house.mode.num
  else if reg == 3 then s.get HOUSE_START_SOURCE * 16 + s.get HOUSE_START_KIND
  else if reg == 4 then s.get HOUSE_START_ATTEMPTS * 16 + s.get HOUSE_START_FAIL_STAGE
  else if reg == 5 then s.get HOUSE_START_HELD
  else if 8 ≤ reg && reg < 12 then s.reg FUSE_UID_LO_OFF / 2 ^ (8 * (reg - 8)) % 256
  else if 12 ≤ reg && reg < 16 then s.reg FUSE_UID_HI_OFF / 2 ^ (8 * (reg - 12)) % 256
  else 0

/-! ### The stop sequence (R498, R499) -/

/-- The checkpoint of step 1 is written: HOUSE asks the first island. The journal of the defect map was written with it. -/
def State.stopCheckpoint (s : State) : State :=
  match s.house.stop with
  | none => s
  | some q =>
    if q.asking || s.house.pllUnlocked.contains 10 then s
    else
      let s := (s.checkpoint s.hours).defectJournal
      { s with house := { s.house with stop := some { q with asking := true } } }

/-- An island refuses while work of its own goes on (R498); `waiter` is the ring of the request. -/
def State.stopRefuses (s : State) (island : Nat) (waiter : Option (Nat × Nat)) : Bool :=
  match island with
  | 3 => s.flag WARP_MESH_STATUS_LOADING
  | 2 => s.braid.commit.isSome
  | 4 => s.flag TONE_STATUS_COMMIT_PENDING || s.flag TONE_STATUS_CAL_PENDING
  | 5 => s.timer.pending.isSome || s.timer.load.isSome
  | 8 => s.twin.unacked != []
  | 7 | 11 => s.hk.holder.any (fun h => h.1 == 10 && h.2.isGuard)
  | 9 => s.keeper.inj.isSome
  | 1 => s.host.rings.any (fun e =>
      e.2.inflight.any (fun d => waiter != some (e.1, d.index)) || s.ringState e.1 == 2 || s.ringState e.1 == 4)
  | _ => false

/-- INTAKE stops (R498): frames in progress are discarded. -/
def State.stopIntake (s : State) : State :=
  let s : State := (List.range 8).foldl (fun (s : State) m => if (s.stream m).frame.isSome then s.discard m 9 else s) s
  { s with intake := { s.intake with stopped := true } }

/-- The stop sequence is refused by an island (R499). -/
def State.stopRefused (s : State) (q : StopSeq) (island : Nat) : State :=
  let s := ((s.set HOUSE_STOP_REFUSED 1).set HOUSE_STOP_ISLAND island).bump HOUSE_STOP_COUNT
  let s := s.answer q.waiter 0x0E island
  ({ s with
    house := { s.house with stop := none, heldWake := none }
    intake := { s.intake with stopped := false } }).showChange

/-- Step 3 of the stop sequence (R498): the MODE event and the completion, HOST and the frame timer, the locks, whose holders
go down (R361), the stages, and a wake event that was held. -/
def State.stow (s : State) (q : StopSeq) : State :=
  let s := s.set HOUSE_STOP_REFUSED 0
  let s : State := ({ s with house := { s.house with stop := none } }).showChange
  let s := (s.enter .stowed q.cause 0).answer q.waiter 0 0
  let s := match q.waiter with
    | some w => s.descCompletion w.1
    | none => s
  let held := s.house.heldWake
  let s := s.ringsOff.timerStop
  let s := (List.range 8).foldl (fun (s : State) n => s.mboxTear n) s
  let s := (s.forceLocks (fun _ => true)).powerDown true
  match held with
  | some source => s.wakeStart source 3
  | none => s

/-- ISLAND_STOP_ANSWER: the island that HOUSE has asked answers. It can accept only where no ground of R498 holds. -/
def State.stopAnswer (s : State) (accept : Bool) : State :=
  match s.house.stop with
  | none => s
  | some q =>
    if !q.asking then s
    else
      let island := stopOrder.getD q.stopped 0
      if !accept || s.stopRefuses island q.waiter then s.stopRefused q island
      else
        let s := if island == 0 then s.stopIntake else s
        let q := { q with stopped := q.stopped + 1 }
        if q.stopped < 11 then { s with house := { s.house with stop := some q } } else s.stow q

/-! ### Restart (R515) and the PLLs (R32, R468) -/

/-- SLOT_ACTIVATE. With RESTART at 1 the module restarts after the reply and a wear checkpoint. -/
def State.activate (s : State) (ch : Nat) : State :=
  match s.slotActivate ch with
  | (false, s) => s
  | (true, s) =>
    let s := (s.checkpoint s.hours).forceLocks (fun _ => true)
    (s.powerDown false).wakeStart 0 4

/-- PLL_LOCK_LOSS: the PLL of an island loses or regains lock; the accesses that waited for it then go on (R32). -/
def State.pllLock (s : State) (island : Nat) (locked : Bool) : State :=
  let was := s.house.pllUnlocked.contains island
  if !s.powered || 12 ≤ island || was == !locked then s
  else if locked then
    let s : State := { s with house := { s.house with pllUnlocked := s.house.pllUnlocked.filter (· != island) } }
    ((if island == 9 then s.driveLight.fault 0x0903 9 (subj 14 9) else s).driveErr).resumeIsland island
  else
    let s : State := { s with house := { s.house with pllUnlocked := s.house.pllUnlocked ++ [island] } }
    let s := match island with
      | 7 => s.guardInternal .a 1
      | 11 => s.guardInternal .b 1
      | 10 => s.fault 0x0A0A 10 (subj 14 10)
      | 9 => s.driveLight
      | n => s.fault 0x0903 n (subj 14 n)
    s.driveErr

/-! ### Commands -/

/-- POWER_GOOD. -/
def execPowerGood (t : Nat) (resetLow : Bool) (fuses : List (Nat × Nat)) (corrected : Nat) (corrupt : Bool) (s : State) :
    Host.Outcome State Fault Refusal := .next (s.run t fun s => s.powerGood resetLow fuses corrected corrupt)

/-- LOCK_OUT. -/
def execLockOut (t : Nat) (s : State) : Host.Outcome State Fault Refusal := .next (s.run t fun s => s.lockOut)

/-- BROWN_OUT. -/
def execBrownOut (t : Nat) (resetLow : Bool) (fuses : List (Nat × Nat)) (corrected : Nat) (corrupt : Bool) (s : State) :
    Host.Outcome State Fault Refusal := .next (s.run t fun s => s.brownOut resetLow fuses corrected corrupt)

/-- RESET_N_ASSERT. -/
def execResetAssert (t : Nat) (s : State) : Host.Outcome State Fault Refusal := .next (s.run t fun s => s.resetAssert)

/-- RESET_N_RELEASE. -/
def execResetRelease (t : Nat) (s : State) : Host.Outcome State Fault Refusal := .next (s.run t fun s => s.resetRelease)

/-- I2C_WRITE. -/
def execI2cWrite (t reg : Nat) (data : List Nat) (s : State) : Host.Outcome State Fault Refusal :=
  .next (s.run t fun s => s.i2cWrite reg data)

/-- WAKE. -/
def execWake (t : Nat) (s : State) : Host.Outcome State Fault Refusal := .next (s.run t fun s => s.wakeI2c)

/-- WAKE_STAGE_READY. -/
def execStageReady (t : Nat) (stage : Stage) (s : State) : Host.Outcome State Fault Refusal :=
  .next (s.run t fun s => s.stageReady stage)

/-- WAKE_STAGE_TIMEOUT. -/
def execStageTimeout (t : Nat) (stage : Stage) (s : State) : Host.Outcome State Fault Refusal :=
  .next (s.run t fun s => s.stageTimeout stage)

/-- WAKE_RETRY_DELAY. -/
def execRetryDelay (t : Nat) (s : State) : Host.Outcome State Fault Refusal := .next (s.run t fun s => s.retryDelay)

/-- STOP_CHECKPOINT_DONE. -/
def execStopCheckpoint (t : Nat) (s : State) : Host.Outcome State Fault Refusal := .next (s.run t fun s => s.stopCheckpoint)

/-- ISLAND_STOP_ANSWER. -/
def execStopAnswer (t : Nat) (accept : Bool) (s : State) : Host.Outcome State Fault Refusal :=
  .next (s.run t fun s => s.stopAnswer accept)

/-- ISLAND_STOP_TIMEOUT: no answer counts as REFUSE. -/
def execStopTimeout (t : Nat) (s : State) : Host.Outcome State Fault Refusal := .next (s.run t fun s => s.stopAnswer false)

/-- SLOT_ACTIVATE. -/
def execSlotActivate (t ch : Nat) (s : State) : Host.Outcome State Fault Refusal := .next (s.run t fun s => s.activate ch)

/-- PLL_LOCK_LOSS. -/
def execPllLock (t island : Nat) (locked : Bool) (s : State) : Host.Outcome State Fault Refusal :=
  .next (s.run t fun s => s.pllLock island locked)

/-- TICK_WORD: a word of the partner; sixteen wake words in a row are a wake event in STOWED (R439, R501). -/
def execTickWord (t word : Nat) (aborted : Bool) (s : State) : Host.Outcome State Fault Refusal :=
  .next (s.run t fun s => match s.tickWord word aborted with
    | (true, s) => s.wakeEvent 4
    | (false, s) => s)

end Sys2Proof.Machine
end

