-- ==== Sys2Proof/Machine/Boot.lean ====
section
/-! DEFINITION. The start from BOOT to the release (R422, R508 to R512): the choice of the slot, the configuration and its
check, the calibration image, the journals and stores, and the release into DARK or SAFE. -/

namespace Sys2Proof.Machine

open Reg

/-! ### The configuration section (R508) -/

/-- A record of the configuration section: TYPE, LEN and its words. -/
structure CfgRecord where
  type  : Nat
  len   : Nat
  words : List Nat
  deriving DecidableEq, Repr

/-- The length that a record's content asks for (notes/assumptions/50.md). -/
def CfgRecord.lenOk (r : CfgRecord) : Bool :=
  match r.type with
  | 1 | 2 => r.len % 8 == 0
  | 3 => r.len == 4868
  | 4 => r.len == 2048
  | 5 => r.len == 33832
  | 6 => r.len == 16 + 8 * getBits (r.words.getD 0 0) 16 16
  | 7 => r.len == 16
  | _ => false

/-- `n` records from the words that remain; the second part is the index of the first record that is malformed. -/
def cfgRecords : Nat → Nat → List Nat → List CfgRecord × Option Nat
  | 0, _, _ => ([], none)
  | n + 1, k, type :: len :: rest =>
    let words := (len + 3) / 4
    let r : CfgRecord := ⟨type, len, rest.take words⟩
    if rest.length < words || !r.lenOk then ([], some k)
    else
      let next := cfgRecords n (k + 1) (rest.drop words)
      (r :: next.1, next.2)
  | _ + 1, k, _ => ([], some k)

/-- The records of a configuration section. -/
def cfgParse (words : List Nat) : List CfgRecord × Option Nat :=
  let h := words.getD 0 0
  if words.length < 4 || getBits h 8 8 != 1 then ([], some 0)
  else cfgRecords (getBits h 16 16) 0 (words.drop 4)

/-- Pairs of an offset and a value from words. -/
def cfgPairs : List Nat → List (Nat × Nat)
  | off :: v :: rest => (off, v) :: cfgPairs rest
  | _ => []

/-! ### The configuration check (R509) -/

/-- Index of the first record that satisfies a test. -/
def cfgFind (rs : List CfgRecord) (p : CfgRecord → Bool) : Option Nat :=
  (rs.zipIdx.find? (fun e => p e.1)).map (·.2)

/-- The blocks whose "config" fields a REGISTERS record may give (notes/assumptions/50.md). -/
def registersMay (off : Nat) : Bool := [2, 3, 5, 6, 7, 8, 11, 12].contains (off / 65536)

/-- The blocks that a GUARD record may name. -/
def guardMay (off : Nat) : Bool := [9, 10].contains (off / 65536)

/-- A record breaks check 4. -/
def cfgOffsetBad (r : CfgRecord) : Bool :=
  match r.type with
  | 1 => (cfgPairs r.words).any (fun p => p.1 % 4 != 0 || !registersMay p.1)
  | 2 => (cfgPairs r.words).any (fun p => p.1 % 4 != 0 || !guardMay p.1)
  | 6 =>
    let h := r.words.getD 0 0
    let n := getBits h 16 16
    decide (5 < getBits h 0 8) || getBits h 8 8 != 1 || decide (256 < n) || (getBits h 0 8 == 0 && n != 0)
      || (cfgPairs (r.words.drop 4)).any (fun p => !regWriteOk p.1)
  | _ => false

/-- A record repeats an earlier one where only one may stand (check 3). -/
def cfgDuplicate (rs : List CfgRecord) : Option Nat :=
  (rs.zipIdx.find? (fun e => (rs.take e.2).any (fun q => q.type == e.1.type
    && ([3, 4, 5, 7].contains q.type
      || (q.type == 6 && getBits (q.words.getD 0 0) 0 8 == getBits (e.1.words.getD 0 0) 0 8))))).map (·.2)

/-- The "config" fields of a register take a value. -/
def State.configReg (s : State) (off v : Nat) : State :=
  (fieldsAt off).foldl (fun (s : State) f =>
    if f.keep == .config then s.set ⟨off, f.lsb, f.width⟩ (getBits v f.lsb f.width) else s) s

/-- The configuration defaults that the chapters state; every other field is 0 (R508). -/
def cfgDefaults : List (Nat × Nat) :=
  [(TONE_GOV_BUDGET_OFF, 4200), (GUARD_A_CFG_IN_OFF, 50 * 2 ^ 16 + 40), (GUARD_B_OVER_OFF, 4 * 2 ^ 16 + 5 * 2 ^ 8),
   (GUARD_NET_TIMING_OFF 0, 100 * 2 ^ 16), (GUARD_NET_TIMING_OFF 1, 100 * 2 ^ 16), (GUARD_NET_TYPE_OFF 0, 0x88B5),
   (GUARD_NET_TYPE_OFF 1, 0x88B5), (ANODE_TLIM_OFF 0, 110 * 2 ^ 16 + 100 * 2 ^ 8 + 90),
   (ANODE_TLIM_OFF 1, 65 * 2 ^ 16 + 55 * 2 ^ 8 + 50), (ANODE_TLIM_OFF 2, 115 * 2 ^ 16 + 105 * 2 ^ 8 + 95),
   (ANODE_TLIM_OFF 3, 120 * 2 ^ 16 + 110 * 2 ^ 8 + 100)]

/-- A state whose registers hold what the GUARD records give. -/
def guardTrial (rs : List CfgRecord) : State :=
  (cfgDefaults ++ (rs.filter (fun r => r.type == 2)).flatMap (fun r => cfgPairs r.words)).foldl
    (fun (s : State) p => s.configReg p.1 p.2) State.reset

/-- Check 5 (R408): the times of both networks in units of 10 µs, and SOURCE_ID. -/
def linkBad (s : State) : Bool :=
  [0, 1].any (fun n =>
    decide (100 * s.get GUARD_A_CFG_LINK_TIMEOUT < 2 * s.get (GUARD_NET_TIMING_PERIOD n) + s.get (GUARD_NET_TIMING_TS_TOL n))
      || s.get (GUARD_NET_CFG_SOURCE_ID n) == 0 || s.get (GUARD_NET_CFG_SOURCE_ID n) == 65535)

/-- A number lies outside a range. -/
def outside (lo hi v : Nat) : Bool := decide (v < lo) || decide (hi < v)

/-- Check 6 on the guards' values: the ranges that their registers state. -/
def guardRangeBad (s : State) : Bool :=
  outside 20 150 (s.get GUARD_A_CFG_IN_FILT) || outside 1 500 (s.get GUARD_A_CFG_IN_T_DISC)
    || outside 2 100 (s.get GUARD_A_CFG_LINK_TIMEOUT) || outside 1 16 (s.get GUARD_B_OVER_N_TRIP)
    || outside 3 25 (s.get GUARD_B_OVER_MARGIN)
    || [0, 1].any (fun n => outside 100 5000 (s.get (GUARD_NET_TIMING_PERIOD n))
      || outside 10 1000 (s.get (GUARD_NET_TIMING_TS_TOL n)))

/-- Check 6 on a pair of a REGISTERS record: a value that its block would reject (R75, R153, R248). -/
def registersRangeBad (p : Nat × Nat) : Bool :=
  let value := fun (f : Field) => getBits p.2 f.lsb f.width
  (p.1 == STRIKE_SYNC_CTRL_OFF && timingBad (value STRIKE_SYNC_CTRL_SOURCE) (value STRIKE_SYNC_CTRL_MULT))
    || (p.1 == TONE_CTRL_OFF && value TONE_CTRL_LIME_RULE == 3)
    || (p.1 == WARP_MESH_SELECT_OFF && value WARP_MESH_SELECT_BANK == 3)

/-- The check of R509: its code and the index of the failing record; code 0 where all pass. A failure that no single record
makes names the first GUARD record, or index 0 (notes/assumptions/50.md). -/
def cfgCheck (words : List Nat) : Nat × Nat :=
  match cfgParse words with
  | (_, some k) => (1, k)
  | (rs, none) =>
    let trial := guardTrial rs
    let guard := (cfgFind rs (fun r => r.type == 2)).getD 0
    if !rs.any (fun r => r.type == 3) || !rs.any (fun r => r.type == 2) then (2, 0)
    else match cfgDuplicate rs with
      | some k => (3, k)
      | none => match cfgFind rs cfgOffsetBad with
        | some k => (4, k)
        | none =>
          if linkBad trial then (5, guard)
          else match cfgFind rs (fun r => r.type == 1 && (cfgPairs r.words).any registersRangeBad) with
            | some k => (6, k)
            | none => if guardRangeBad trial then (6, guard) else (0, 0)

/-! ### The choice of the slot (R510) -/

/-- The slots that a strap value tries, in order; `first` is the one preferred under NORMAL. -/
def bootOrder (sel first : Nat) : List Nat :=
  match sel with
  | 0 => [first, 1 - first]
  | 1 => [0]
  | 2 => [1]
  | _ => []

/-- The image of a slot as the boot ROM finds it. -/
def imageOf (b : BootData) (n : Nat) : SlotImage := if n == 0 then b.slot0 else b.slot1

/-- CVU_05 checks a span of the boot flash (R419, R420). The values are those of the flash's contents, which no rule gives:
free values. -/
def State.flashCheck (s : State) (ok : Bool) : State :=
  let a := s.free
  let b := a.2.free
  if ok then a.2.cvuPass 5 a.1 else b.2.cvuFail 5 a.1 b.1

/-- CVU_05's spans of a slot up to its first failure: the manifest, the firmware section, the configuration section
(notes/assumptions/51.md). -/
def slotSpans (result : Nat) : List Bool :=
  match result with
  | 2 => []
  | 3 => [false]
  | 4 | 5 => [true]
  | 6 => [true, false]
  | _ => [true, true, true]

/-- A calibration image is checked (R506, R510): true where it verifies. -/
def State.calibrationCheck (s : State) (fail : Nat) : State :=
  let s := s.flashCheck (fail != 1)
  if fail == 0 then s else s.fault (if fail == 1 then 0x0A03 else 0x0A04) 10 0

/-- A slot is tried: its result, the slot whose calibration image is taken, and the records of what fails. -/
def State.trySlot (s : State) (b : BootData) (n : Nat) : Nat × Nat × State :=
  let img := imageOf b n
  let s := (slotSpans img.result).foldl (fun (s : State) ok => s.flashCheck ok) s
  if img.result != 1 then
    let s := match img.result with
      | 3 | 6 => s.fault 0x0A03 10 0
      | 4 | 5 | 7 => s.fault 0x0A04 10 0
      | _ => s
    (img.result, 3, s)
  else
    let c := cfgCheck img.config
    let s := (s.set HOUSE_CFG_CHECK_CODE c.1).set HOUSE_CFG_CHECK_WHERE c.2
    if c.1 != 0 then (8, 3, s)
    else
      let s := s.calibrationCheck img.calFail
      if img.calFail == 0 then (1, n, s)
      else
        let other := (imageOf b (1 - n)).calFail
        let s := s.calibrationCheck other
        if other == 0 then (1, 1 - n, s) else (9, 3, s)

/-- The slots of an order are tried until one is usable: that slot and the state. -/
def State.trySlots (s : State) (b : BootData) : List Nat → Option Nat × State
  | [] => (none, s)
  | n :: rest =>
    match s.trySlot b n with
    | (r, cal, s) =>
      let s := s.set (if n == 0 then HOUSE_BOOT_SLOT0_RESULT else HOUSE_BOOT_SLOT1_RESULT) r
      if r == 1 then (some n, (s.set HOUSE_BOOT_SLOT n).set HOUSE_BOOT_CAL_SLOT cal) else s.trySlots b rest

/-- What the boot ROM reads of a slot that nothing has written since the model knows it: its activation record and its
manifest's numbers. -/
def State.seeSlot (s : State) (b : BootData) (n : Nat) : State :=
  if s.house.slots.any (fun e => e.1 == n) then s
  else s.setSlot n { s.slot n with
    generation := (imageOf b n).generation, fwVersion := (imageOf b n).fwVersion, activation := (imageOf b n).activation }

/-! ### The zone table (R378, R379) -/

/-- The zone table of the section's bytes. -/
def decodeZones (b : List Nat) : ZoneTable :=
  let axis := fun i => (⟨field b (16 + 16 * i) 1, field b (17 + 16 * i) 1 == 1, field b (20 + 16 * i) 4,
    signedBits 32 (field b (24 + 16 * i) 4)⟩ : Axis)
  let zone := fun z =>
    let at_ := 256 + 144 * z
    let flags := field b (at_ + 1) 1
    (⟨flags % 4, flags / 4 % 2 == 1, flags / 16 % 4, field b (at_ + 4) 4,
      (List.range (field b at_ 1 % 32)).map (fun i =>
        (signedBits 32 (field b (at_ + 16 + 8 * i) 4), signedBits 32 (field b (at_ + 20 + 8 * i) 4)))⟩ : Zone)
  { flipX := field b 1 1 % 2 == 1, flipY := field b 1 1 / 2 % 2 == 1
    posTol := field b 4 2, margin := field b 6 2, wPan := field b 8 2, wTilt := field b 10 2, wZoom := field b 12 2
    axes := (List.range 3).map axis
    focal := (List.range 16).map (fun i => (field b (64 + 8 * i) 4, field b (68 + 8 * i) 4))
    weights := (List.range 4).map (fun k => (List.range 4).map (fun c => field b (192 + 16 * k + 4 * c) 4))
    zones := (List.range 32).map zone }

/-- A guard checks its copy of the zone table (R378): its hash, and the table where the copy passes. A copy that did not
reach the guard without error has a hash that no rule gives: a free value. -/
def State.takeZones (s : State) (g : Guard) (words : List Nat) (reached : Bool) : State :=
  let bytes := bytesOf (words.take 1216)
  let want := words.getD 1216 0
  let f := s.free
  let (hash, s) := if reached then (crc32c bytes, s) else f
  let ok := reached && hash == want
  let s := s.setReg (match g with | .a => GUARD_A_ZONE_HASH_OFF | .b => GUARD_B_ZONE_HASH_OFF) hash
  let unit := match g with | .a => 8 | .b => 9
  let table := if ok then some (decodeZones bytes) else none
  let s : State := { s with guards := match g with
    | .a => { s.guards with zoneA := table }
    | .b => { s.guards with zoneB := table } }
  if ok then s.cvuPass unit hash
  else (s.cvuFail unit hash want).fault 0x0706 (guardIsland g) (subj 14 (guardIsland g))

/-! ### Loading (R511, steps 8 and 9) -/

/-- Entries of a table in canonical form. -/
def tableOf {α : Type} [DecidableEq α] (dflt : Nat → α) (l : List (Nat × α)) : List (Nat × α) :=
  l.foldl (fun m e => sput dflt m e.1 e.2) []

/-- The calibration image: drive ratios, of which range 15 is exactly 1 (R84), governor gains, lime factors, presets, sector codes, one-segment factors, the wear
model, calibration words without a STATE, factory voltages and gain bounds. -/
def State.loadCalibration (s : State) (c : CalImage) : State :=
  let put := fun (s : State) (off : Nat → Nat) (l : List Nat) =>
    l.zipIdx.foldl (fun (s : State) e => s.configReg (off e.2) e.1) s
  let rstep := (List.range 256).map (fun i => if i % 16 = 15 then 8388608 else c.rstep.getD i 0)
  let s := put (put (put s STRIKE_RSTEP_OFF rstep) TONE_GOV_GNOM_OFF c.gnom) TONE_LIME_SUB_OFF c.limeSub
  let s : State := { s with
    tone := { s.tone with
      presets := tableOf presetDefault c.presets, sector := tableOf (fun _ => 1023) c.sector
      oneseg := tableOf (fun _ => 32768) c.oneseg, eta := tableOf (fun _ => 32768) c.eta
      kappa := tableOf (fun _ => (0 : Int)) c.kappa }
    array := { s.array with factoryVf := tableOf (fun _ => 2800) c.vf0 }
    guards := { s.guards with gb := c.gb } }
  c.cal.foldl (fun (s : State) e => s.setCal e.1 (e.2.toNat / 4 * 4)) s

/-- The defect map from the journal, with its kill latches and TONE's STATE (R110, R143, R164). -/
def State.loadDefects (s : State) : State :=
  let s : State := { s with array := { s.array with defects := s.array.journal } }
  let s := s.array.journal.foldl (fun (s : State) d =>
    let e := emitter d.x d.y d.ch
    let s := if stateOf d.cond == 2 then s.setKill e true else s
    s.toneState e (stateOf d.cond)) s
  s.showDefects

/-- The delivered-charge counts from the newer of the two checkpoints that passes its check; none passes where neither slot
holds one (R169). -/
def State.loadWear (s : State) (b : BootData) : State :=
  let read := [(s.tone.store0, b.slot0.wearFlips), (s.tone.store1, b.slot1.wearFlips)].filterMap (fun p =>
    p.1.map (fun w => (w.readBack p.2, w.passes p.2)))
  let s := read.foldl (fun (s : State) p => s.flashCheck p.2) s
  match newerStore (((read.filter (fun p => p.2)).map (fun p => p.1))) with
  | some w => { s with tone := { s.tone with
      charge := tableOf (fun _ => 0) (w.codes.map (fun e => (e.1, codeCount e.2))) } }
  | none =>
    let s := (s.latch TONE_WEAR_STATUS_LOST).fault 0x0401 4 0
    s.tone.cal.foldl (fun (s : State) e => s.setCal e.1 (setBits e.2.toNat 2 12 1024)) s

/-- A record of the configuration takes effect. -/
def State.loadRecord (s : State) (b : BootData) (r : CfgRecord) : State :=
  let w := fun i => r.words.getD i 0
  match r.type with
  | 1 | 2 => (cfgPairs r.words).foldl (fun (s : State) p => s.configReg p.1 p.2) s
  | 3 => (s.takeZones .a r.words b.copyA).takeZones .b r.words b.copyB
  | 4 => (List.range 256).foldl (fun (s : State) k =>
      (s.configReg (GUARD_B_REGION_RECT_OFF k) (w (2 * k))).configReg (GUARD_B_REGION_EXPECT_OFF k) (w (2 * k + 1))) s
  | 5 =>
    let c := if headerBad r.words 0 then (1, 0, 0, 0) else meshChecks r.words
    s.bankTakes 0 r.words c.1 c.2.1 c.2.2.1 c.2.2.2
  | 6 => { s with house := { s.house with
      overlays := s.house.overlays ++ [⟨getBits (w 0) 0 8, cfgPairs (r.words.drop 4)⟩] } }
  | 7 => ((s.setFlag SPLICE_CFG_TWIN_EN (w 0 != 0)).setReg SPLICE_EXPECT_ID_LO_OFF (w 1)).setReg SPLICE_EXPECT_ID_HI_OFF
      (w 2) |>.setReg SPLICE_EXPECT_ZONE_OFF (w 3)
  | _ => s

/-- The selection in force after the start (R247): the configured bank where it is valid, otherwise IDENTITY. -/
def State.startSelection (s : State) : State :=
  let k := s.get WARP_MESH_SELECT_BANK
  let k := if k < 2 && s.flag ⟨WARP_MESH_STATUS_OFF, 8 + k, 1⟩ then k else 2
  (s.set WARP_MESH_SELECT_BANK k).set WARP_MESH_STATUS_IN_USE k

/-- The regions that extend beyond tile 63 are recorded (R225). -/
def State.regionsConfig (s : State) : State :=
  (List.range 256).foldl (fun (s : State) k =>
    if s.get (GUARD_B_REGION_RECT_MODE k) % 3 != 0 && s.get (GUARD_B_REGION_RECT_TW k) != 0
      && s.get (GUARD_B_REGION_RECT_TH k) != 0 && s.regionBad k then s.fault 0x0B07 11 (subj 7 k) else s) s

/-- What the last FATAL left in the fault journal (R479): KEEPER_PREV_FATAL and KEEPER_PREV_HOURS. -/
def State.previousFatal (s : State) : State :=
  match s.keeper.journal with
  | some (code, hours, _) =>
    ((s.set KEEPER_PREV_FATAL_VALID 1).set KEEPER_PREV_FATAL_CODE code).set KEEPER_PREV_HOURS_HOURS hours
  | none => s

/-- The configuration and the image of the chosen slot are loaded, and what follows from them takes effect. -/
def State.loadAll (s : State) (b : BootData) (n : Nat) : State :=
  let rs := (cfgParse (imageOf b n).config).1
  let s := cfgDefaults.foldl (fun (s : State) p => s.configReg p.1 p.2) s
  let s := s.loadCalibration b.cal
  let s := rs.foldl (fun (s : State) r => s.loadRecord b r) s
  let named := ((rs.filter (fun r => r.type == 1)).flatMap (fun r => cfgPairs r.words)).map (fun p => p.1)
  let s : State := { s with
    house := { s.house with config := named.dedup.map (fun off => (off, s.reg off)), loaded := true }
    anode := { s.anode with tlimCold := (List.range 4).map (fun g => s.reg (ANODE_TLIM_OFF g)) }
    tone := { s.tone with force := s.toneValues }
    timer := { s.timer with timing := s.stagedTiming } }
  let s := (s.configReg HOUSE_FW_OFF (s.slot n).fwVersion).startSelection
  (((s.showEff.loadWear b).loadDefects).previousFatal).regionsConfig

/-! ### Self-tests, BOOT_HALT and the release (R422, R490, R511, R512) -/

/-- A check-value unit's self-test ends. A failure of CVU_05 keeps the module in BOOT. -/
def State.selfTest (s : State) (failed : List Nat) (n : Nat) : State :=
  if !failed.contains n then s.set (CVU_UNIT_CFG_SELFTEST_OK n) 1
  else if n == 5 then s
  else
    let guard := [0, 1, 4, 8, 9, 10, 11].contains n
    s.report ⟨0x0904, s.get (CVU_UNIT_CFG_ISLAND n), subj 15 n, 0, 0, 0, if guard then 2 else 1⟩

/-- BOOT_HALT (R512). -/
def State.bootHalt (s : State) : State := (s.set HOUSE_BOOT_HALT 1).fault 0x0A05 10 0

/-- The release from BOOT (R511, step 10): the frame timer and the lanes start, the DARK overlay is applied, and the module
is in DARK, or in SAFE under a latch that GUARD_B has held. -/
def State.release (s : State) : State :=
  let s := s.timerStart.lanesStart
  let safe := s.flag ⟨GUARD_B_STATUS_OFF, 31, 1⟩
  let s :=
    if safe then (s.setCause true (s.get GUARD_B_STATUS_CAUSE)).enter .safe 2 0
    else (s.applyOverlay 1).enter .dark 2 0
  let s := (s.showAdmit.guardsEvaluate).set (openBit 31) 0
  (s.set (openBit 32) 0).driveErr

/-- BOOT_COMPLETE: the steps of R511 from the self-tests to the release, or to BOOT_HALT. -/
def State.bootComplete (s : State) (b : BootData) : State :=
  if s.house.mode != .boot || s.flag HOUSE_BOOT_HALT then s
  else
    let s : State := { s with house := { s.house with bootSel := b.bootSel % 4, addrSel := b.addrSel % 4 } }
    let s := (s.set HOUSE_BOOT_BOOT_SEL (b.bootSel % 4)).set HOUSE_BOOT_ADDR_SEL (b.addrSel % 4)
    let s := (s.seeSlot b 0).seeSlot b 1
    let s := (List.range 12).foldl (fun (s : State) n => s.selfTest b.selfTest n) s
    if s.house.mode != .boot then s
    else if b.selfTest.contains 5 then s.bootHalt
    else
      match s.trySlots b (bootOrder (b.bootSel % 4) s.preferred) with
      | (none, s) => s.bootHalt
      | (some n, s) =>
        let s := s.fwReady.loadAll b n
        s.release

/-- BOOT_COMPLETE. -/
def execBootComplete (t : Nat) (b : BootData) (s : State) : Host.Outcome State Fault Refusal :=
  .next (s.run t fun s => s.bootComplete b)

end Sys2Proof.Machine
end

