-- ==== Sys2Proof/Machine/Frame.lean ====
section
/-! DEFINITION. One output frame (R41 to R43, R56 to R62, R92 to R102): beats, the row slots of the programming scan, the
survey slot, the quiet interval, the capture point and the strike, with what every island does at each of them. -/

namespace Sys2Proof.Machine

open Reg

/-! ### The programming scan (R41, R62, R92 to R96, R101) -/

/-- The pixels of row slot `k`: row k, then row 512 + k (R59, R226). -/
def slotPixels (k : Nat) : List (Nat × Nat) :=
  (List.range 1024).map (fun x => (x, k)) ++ (List.range 1024).map (fun x => (x, 512 + k))

/-- A word passes the STRIKE tap on its way to the column latch (R41). -/
def State.putWord (s : State) (x y w : Nat) : State :=
  { s with array := { s.array with tap := sput (fun _ => 0#64) s.array.tap (1024 * y + x) (BitVec.ofNat 64 w) } }

/-- A pixel of the scan: the word of the pixel path, its measure, its limited channels and its footprint check (R149,
R173, R174, R253); duty 0 in the states that emit nothing (R101). -/
def State.scanPixel (s : State) (x y : Nat) : State :=
  if !s.timer.pixelPath then s.putWord x y 0
  else
    let w := s.pathWord (frameAdd s.frameNo 1) x y
    let k := (s.warpPixel x y).2
    let s := (s.putWord x y w.1).measureWord x y w.1
    let s := { s with tone := { s.tone with sat := s.tone.sat + w.2 } }
    if k < 15 && !s.tileMarked (tileOf x y) then s.footprintFault (tileOf x y) else s

/-- The scan of a frame begins (R101, R174, R226, R245): the source of its words is fixed, and its measures and its
composition start. -/
def State.scanBegins (s : State) : State :=
  let s := s.composeBegins
  { s with
    timer := { s.timer with pixelPath := s.house.mode.emitting }
    tone := { s.tone with sums := [0, 0, 0, 0], peaks := [0, 0, 0, 0], sat := 0 }
    array := { s.array with tap := [] } }

/-- The pixels of a quadrant's row of slot `k`. -/
def quadRow (k q : Nat) : List (Nat × Nat) := (slotPixels k).filter (fun p => quadOf p.1 p.2 == q)

/-- The 64-bit exclusive-or of the 512 words of a quadrant's row (R94). -/
def rowXor (words : List (Nat × BitVec 64)) (k q : Nat) : BitVec 64 :=
  (quadRow k q).foldl (fun w p => w ^^^ sget (fun _ => 0#64) words (1024 * p.2 + p.1)) 0#64

/-- The back words of a quadrant's row are written from the column latch (R92): `wrong` names, by 1024·y + x, the words that
the write leaves different from the ones sent, and by which bits. -/
def State.writeRow (s : State) (k q : Nat) (wrong : List (Nat × BitVec 64)) : State :=
  (quadRow k q).foldl (fun (s : State) p =>
    let pix := 1024 * p.2 + p.1
    let flip := ((wrong.find? (fun e => e.1 == pix)).map (fun e => e.2)).getD 0#64
    { s with array := { s.array with
      back := sput (fun _ => 0#64) s.array.back pix (sget (fun _ => 0#64) s.array.tap pix ^^^ flip) } }) s

/-- The row check of R94: the words read back and those sent have the same exclusive-or. -/
def State.rowChecks (s : State) (k q : Nat) : Bool := rowXor s.array.back k q == rowXor s.array.tap k q

/-- A quadrant's part of row slot `k` (R92, R94, R96): the row is written and checked, and rewritten once where the check
fails. It is not received where the second check fails as well, or while the quadrant's link is down. -/
def State.rowQuad (s : State) (k : Nat) (wrong1 wrong2 : List (Nat × BitVec 64)) (q : Nat) : State :=
  if !s.qlinkUp q then { s with timer := { s.timer with rowsOk := false } }
  else
    let s := s.writeRow k q wrong1
    if s.rowChecks k q then s
    else
      let s := (s.bump STRIKE_ROW_ERR_REWRITE_COUNT).writeRow k q wrong2
      if s.rowChecks k q then s
      else ({ s with timer := { s.timer with rowsOk := false } }).bump STRIKE_ROW_ERR_FAIL_COUNT

/-- The islands that carry pixel words to the quadrants have their PLLs locked (R32, R42). -/
def State.pathLocked (s : State) : Bool := [2, 3, 4, 5].all (fun i => !s.house.pllUnlocked.contains i)

/-- ROW_SLOT `k` (R62, R92 to R96): the words of two pixel rows, and the back words that the write and the rewrite leave
different from them. No row slot runs once the survey slot has begun (R59, R95). -/
def State.rowSlot (s : State) (k : Nat) (wrong1 wrong2 : List (Nat × BitVec 64)) : State :=
  if !s.timerRuns || k != s.timer.rowsRun || 512 ≤ k || s.timer.phase != 0 || s.islandStopped 5 then s
  else
    let s := if k == 0 then s.scanBegins else s
    let s : State := { s with timer := { s.timer with rowsRun := k + 1 } }
    if !s.pathLocked then { s with timer := { s.timer with rowsOk := false } }
    else
      let s := if s.timer.pixelPath then s.warpSlot k else s
      let s := (slotPixels k).foldl (fun (s : State) p => s.scanPixel p.1 p.2) s
      (List.range 4).foldl (fun s q => s.rowQuad k wrong1 wrong2 q) s

/-! ### After the scan (R59, R127, R133 to R140, R226 to R228) -/

/-- SURVEY_SLOT: the end of the scan and its measures, the governor, the rails, the survey, the region signatures, the tap
check, the peek, and the SCAN message. -/
def State.surveySlot (s : State) (d : SurveyData) : State :=
  if !s.timerRuns || s.timer.phase != 0 || s.islandStopped 5 then s
  else
    let d := s.sampled d
    let s : State := ({ s with timer := { s.timer with phase := 1 } }).railWindow d
    let path := s.timer.pixelPath
    let s := s.footprintEnds.scanReads
    let s := s.set TONE_STATUS_SAT_COUNT (min s.tone.sat 0xFFFF)
    let s := s.moveDerate
    let s := if path && s.house.mode.emitting then s.governOwn else s.governDark
    let s := ((s.snapshot d).govCheck).track d s.tone.pOld
    let s := (s.survey d).retrainLinks
    let s := (s.regionsExpected d.badSig).tapCheck
    s.peekCapture.sendScan

/-- QUIET_INTERVAL: what waited for the partner's values is decided (R178, R228). -/
def State.quiet (s : State) : State :=
  if !s.timerRuns || s.timer.phase != 1 then s
  else ({ s with timer := { s.timer with phase := 2 } }).regionsPartner.governPartner

/-! ### The capture point (R60, R74, R103, R188, R203, R249, R455) -/

/-- CAPTURE_POINT of output frame E, two frames after the present one. -/
def State.capture (s : State) : State :=
  if !s.timerRuns || decide (s.timer.boundaryAt < s.timer.captureAt) then s
  else
    let s := s.runOverlay
    let e := frameAdd s.frameNo 2
    let s := (s.captureBraid e).captureSelect e
    let s := (s.captureTone e).captureCal
    let s := s.capturePattern.captureResync e
    { s with timer := { s.timer with captureAt := max s.now (s.timer.boundaryAt + 1) } }

/-! ### The strike (R43, R97 to R99, R117, R120, R121) -/

/-- Every sector's STRIKE_DARK: the dark clamp of R43. -/
def State.strikeDark (s : State) (on : Bool) : State :=
  if s.flag STRIKE_STATUS_DARK_CLAMP == on then s
  else
    let s := s.setFlag STRIKE_STATUS_DARK_CLAMP on
    (List.range 256).foldl (fun (s : State) i => s.setFlag (TONE_SREF_STRIKE_DARK i) on) s.touch

/-- A strike is suppressed (R43, R229). -/
def State.strikeLate (s : State) : State :=
  let s := s.regionsDiscard
  let run := s.get STRIKE_STATUS_LATE_RUN
  let s := (s.bump STRIKE_STATUS_LATE_COUNT).set STRIKE_STATUS_LATE_RUN (min (run + 1) 4)
  let s := if run == 0 then s.fault 0x0506 5 0 else s
  if run == 3 then (s.strikeDark true).fault 0x0507 5 0 else s

/-- The pair of global codes of the frame is loaded (R116, R117); FULL_CODE is 0 in the JOIN phase (R459). -/
def State.loadPair (s : State) : State :=
  (List.range 4).foldl (fun (s : State) c =>
    let full := if s.flag SPLICE_STATUS_JOIN then 0 else s.tone.nextFull.getD c 0
    (s.set (TONE_GREF_FULL_CODE c) full).set (TONE_GREF_HALF_CODE c) ((full + 1) / 2)) s

/-- TONE's sector codes are loaded (R120, R165). -/
def State.loadSectors (s : State) : State :=
  (List.range 256).foldl (fun (s : State) i =>
    let v := s.sectorCode (i / 4) (i % 4)
    if s.get (TONE_SREF_CODE i) == v then s else s.set (TONE_SREF_CODE i) v) s

/-- A DARK gate ends where no reason holds it any more (R99, R121). -/
def State.gatesEnd (s : State) : State :=
  (List.range 256).foldl (fun (s : State) i =>
    if s.flag (TONE_SREF_DARK i) && !s.guards.gates.any (fun g => g.2 == i) then s.touch.set (TONE_SREF_DARK i) 0 else s) s

/-- A strike transfers (R97, R98): front words, codes, gates and switches follow, the mask of the frame becomes active,
and what the scan had shown is released. -/
def State.strikeGood (s : State) : State :=
  let s : State := { s with
    array := { s.array with front := s.array.back }
    timer := { s.timer with struckPath := s.timer.pixelPath }
    tone := { s.tone with pOld := s.tone.pNew } }
  let s := (s.set STRIKE_STATUS_LATE_RUN 0).strikeDark false
  let s := s.loadPair.loadSectors.gatesEnd
  let s := s.maskStrike.clampRelease
  let s := if s.braid.staleRun then s else s.ungate (fun g => g.1 == .stale)
  s.tapStrike.regionsStrike.closeSwitches

/-- Both guards assert their enables once a frame from the pixel path has been struck and every rail has reached its wake
voltage (R102, R123, R494). -/
def State.enableLight (s : State) : State :=
  if s.guards.enableDue && s.anode.wakeDone && s.timer.struckPath && s.house.mode.emitting then
    (s.set GUARD_A_STATUS_EN_A 15).set GUARD_B_STATUS_EN_B 15
  else s

/-- The cause FRAME of vector 68, at every DIV-th boundary (R337). -/
def State.frameVector (s : State) : State :=
  let div := s.get HOST_FRAME_IRQ_DIV
  if div == 0 then s
  else
    let n := s.host.frameRun + 1
    if n < div then { s with host := { s.host with frameRun := n } }
    else ({ s with host := { s.host with frameRun := 0 } }).raise 4

/-- STRIKE (R43, R59, R97 to R99, R466): the strike, and the frame boundary that ends it. In FATAL the frame timer stops
here. -/
def State.strike (s : State) : State :=
  if !s.timerRuns then s
  else if s.house.mode == .fatal then s.timerStop.waitsStop
  else
    let s := s.runOverlay
    let closed := s.closedBands
    let s := if s.islandStopped 5 then s
      else if s.timer.rowsRun < 512 || !s.timer.rowsOk then s.strikeLate
      else s.strikeGood.enableLight
    let s := s.windowOpens closed
    let s : State := { s with array := { s.array with peekWait := s.array.peekWait - 1 } }
    let s := s.timerBoundary
    let s := s.twinBoundary.boundaryChange
    s.scanStart.frameWaits.frameVector

/-- BEAT_START (R56, R59): beat `b` of the frame. -/
def State.beatStart (s : State) (b : Nat) : State :=
  if !s.timerRuns || b == 0 || 32 ≤ b then s
  else
    let s := s.runOverlay.set STRIKE_BEAT_BEAT b
    if b == 16 && !s.islandStopped 4 then s.sampleCharge else s

/-! ### The commands -/

/-- BEAT_START. -/
def execBeatStart (t b : Nat) (s : State) : Host.Outcome State Fault Refusal := .next (s.run t fun s => s.beatStart b)

/-- ROW_SLOT. -/
def execRowSlot (t k : Nat) (wrong1 wrong2 : List (Nat × BitVec 64)) (s : State) : Host.Outcome State Fault Refusal :=
  .next (s.run t fun s => s.rowSlot k wrong1 wrong2)

/-- SURVEY_SLOT. -/
def execSurveySlot (t : Nat) (d : SurveyData) (s : State) : Host.Outcome State Fault Refusal :=
  .next (s.run t fun s => s.surveySlot d)

/-- QUIET_INTERVAL. -/
def execQuietInterval (t : Nat) (s : State) : Host.Outcome State Fault Refusal := .next (s.run t fun s => s.quiet)

/-- CAPTURE_POINT. -/
def execCapturePoint (t : Nat) (s : State) : Host.Outcome State Fault Refusal := .next (s.run t fun s => s.capture)

/-- STRIKE. -/
def execStrike (t : Nat) (s : State) : Host.Outcome State Fault Refusal := .next (s.run t fun s => s.strike)

/-- TIMING_COMMIT. -/
def execTimingCommit (t : Nat) (m : Master) (s : State) : Host.Outcome State Fault Refusal :=
  .next (s.run t fun s => s.regWrite m STRIKE_COMMIT_OFF 4 1)

/-- STRIKE_FRAME_LOAD. -/
def execFrameLoad (t : Nat) (m : Master) (value : Word) (s : State) : Host.Outcome State Fault Refusal :=
  .next (s.run t fun s => s.regWrite m STRIKE_FRAME_LOAD_OFF 4 value.toNat)

/-- STRIKE_LATE_CLEAR. -/
def execLateClear (t : Nat) (m : Master) (value : Word) (s : State) : Host.Outcome State Fault Refusal :=
  .next (s.run t fun s => s.regWrite m STRIKE_LATE_CLEAR_OFF 4 value.toNat)

/-- STRIKE_ROW_ERR_CLEAR. -/
def execRowErrClear (t : Nat) (m : Master) (value : Word) (s : State) : Host.Outcome State Fault Refusal :=
  .next (s.run t fun s => s.regWrite m STRIKE_ROW_ERR_CLEAR_OFF 4 value.toNat)

/-- STRIKE_TIME_OFFSET. -/
def execTimeOffset (t : Nat) (m : Master) (value : Word) (s : State) : Host.Outcome State Fault Refusal :=
  .next (s.run t fun s => s.regWrite m STRIKE_TIME_OFFSET_OFF 4 value.toNat)

/-- STRIKE_TIME_TRIM. -/
def execTimeTrim (t : Nat) (m : Master) (value : Word) (s : State) : Host.Outcome State Fault Refusal :=
  .next (s.run t fun s => s.regWrite m STRIKE_TIME_TRIM_OFF 4 value.toNat)

/-- PTP_REFERENCE_TIMEOUT. -/
def execPtpTimeout (t : Nat) (s : State) : Host.Outcome State Fault Refusal := .next (s.run t fun s => s.ptpTimeout)

/-- SYNC_IN_EDGE. -/
def execSyncEdge (t : Nat) (s : State) : Host.Outcome State Fault Refusal := .next (s.run t fun s => s.syncEdge)

/-- SYNC_EDGE_MISSING. -/
def execSyncMissing (t : Nat) (s : State) : Host.Outcome State Fault Refusal := .next (s.run t fun s => s.syncMissing)

/-- HOLD_LIMIT_EXPIRY. -/
def execHoldLimit (t : Nat) (s : State) : Host.Outcome State Fault Refusal := .next (s.run t fun s => s.holdExpires)

/-- PEEK_GO. -/
def execPeekGo (t : Nat) (m : Master) (value : Word) (s : State) : Host.Outcome State Fault Refusal :=
  .next (s.run t fun s => s.regWrite m STRIKE_PEEK_CTRL_OFF 4 value.toNat)

/-- QLINK_TRAINING_LOSS. -/
def execQlinkLoss (t q : Nat) (s : State) : Host.Outcome State Fault Refusal := .next (s.run t fun s => s.qlinkLoss q)

/-- QLINK_TRAINED. -/
def execQlinkTrained (t q : Nat) (s : State) : Host.Outcome State Fault Refusal := .next (s.run t fun s => s.qlinkTrained q)

/-- DEFECT_JOURNAL_WRITE. -/
def execDefectJournal (t : Nat) (s : State) : Host.Outcome State Fault Refusal := .next (s.run t fun s => s.defectJournal)

/-- DEFECT_INDEX_WRITE. -/
def execDefectIndex (t : Nat) (m : Master) (value : Word) (s : State) : Host.Outcome State Fault Refusal :=
  .next (s.run t fun s => s.regWrite m STRIKE_DEFECT_INDEX_OFF 4 value.toNat)

/-- TEMP_SAMPLE. -/
def execTempSample (t : Nat) (raw : List (Option Int)) (s : State) : Host.Outcome State Fault Refusal :=
  .next (s.run t fun s => s.tempSample raw)

/-- RAIL_CURRENT_LIMIT. -/
def execRailLimit (t c : Nat) (s : State) : Host.Outcome State Fault Refusal := .next (s.run t fun s => s.railLimit c)

/-- RAIL_OC_PERSIST. -/
def execRailOc (t c milliamps : Nat) (s : State) : Host.Outcome State Fault Refusal :=
  .next (s.run t fun s => s.railOc c milliamps)

/-- RAIL_VOLTAGE_FAULT. -/
def execRailVolt (t c : Nat) (high : Bool) (millivolts : Nat) (s : State) : Host.Outcome State Fault Refusal :=
  .next (s.run t fun s => s.railVolt c high millivolts)

/-- RAIL_AVERAGE_CHECK. -/
def execRailAverage (t c i1s i100ms i10ms : Nat) (s : State) : Host.Outcome State Fault Refusal :=
  .next (s.run t fun s => s.railAverage c i1s i100ms i10ms)

end Sys2Proof.Machine
end

