-- ==== Sys2Proof/Machine/GuardCmds.lean ====
section
/-! DEFINITION. The commands of the guards (chapters 11 and 12). -/

namespace Sys2Proof.Machine

open Reg

/-- The guards evaluate their inputs (R365). -/
def State.guarded (s : State) (f : State → State) : State := if s.house.mode.running then f s else s

/-- PHY_RESET_RELEASE (R402): 10 ms after its start a guard releases the reset of its PHY. -/
def State.phyRelease (s : State) (g : Guard) : State := s.setNet g { s.net g with phyReset := false }

/-- The kinds of test that a guard runs (R486, R422): a detector, the enables, the pass switches, its check-value units. -/
def testKind (g : Guard) (kind : Nat) : Bool :=
  (match g with | .a => [0, 1, 16, 24, 26] | .b => [0, 1, 2, 17, 20, 25, 27]).contains kind

/-- MASK_SAMPLE. -/
def execMaskSample (t : Nat) (s : State) : Host.Outcome State Fault Refusal :=
  .next (s.run t fun s => s.guarded (fun s => s.maskSample))

/-- MASK_PUBLISH. -/
def execMaskPublish (t : Nat) (s : State) : Host.Outcome State Fault Refusal :=
  .next (s.run t fun s => s.guarded (fun s => s.maskPublish))

/-- MASK_VERIFY. -/
def execMaskVerify (t readSum : Nat) (uncorrectable : Bool) (s : State) : Host.Outcome State Fault Refusal :=
  .next (s.run t fun s => s.maskVerify readSum uncorrectable)

/-- ZONE_EVAL_CYCLE. -/
def execZoneEval (t : Nat) (s : State) : Host.Outcome State Fault Refusal :=
  .next (s.run t fun s => s.guarded (fun s => s.zoneEval))

/-- CLOCK_CHECK_WINDOW. -/
def execClockCheck (t : Nat) (g : Guard) (deviation : Nat) (s : State) : Host.Outcome State Fault Refusal :=
  .next (s.run t fun s => s.inside fun s => s.clockCheck g deviation)

/-- XCMP_CYCLE: the record, and the open bits that wait for it (R471). -/
def execXcmpCycle (t : Nat) (g : Guard) (s : State) : Host.Outcome State Fault Refusal :=
  .next (s.run t fun s => s.guarded (fun s => (s.xcmpCycle g).guardConfirms g))

/-- XCMP_LOST. -/
def execXcmpLost (t : Nat) (g : Guard) (s : State) : Host.Outcome State Fault Refusal :=
  .next (s.run t fun s => s.xcmpLost g)

/-- GUARD_DECISION_MESSAGE. -/
def execGuardDecision (t : Nat) (g : Guard) (s : State) : Host.Outcome State Fault Refusal :=
  .next (s.run t fun s => s.guardFollows g)

/-- TERMINAL_FILTER. -/
def execTerminal (t : Nat) (g : Guard) (zonePin : Bool) (energised : Bool) (s : State) : Host.Outcome State Fault Refusal :=
  .next (s.run t fun s => s.inside fun s => s.terminal g zonePin energised)

/-- DISCREPANCY. -/
def execDiscrepancy (t pair : Nat) (s : State) : Host.Outcome State Fault Refusal :=
  .next (s.run t fun s => s.discrepancy pair)

/-- ENCODER_FRAME. -/
def execEncoder (t : Nat) (g : Guard) (axis : Nat) (bits : List Bool) (lineHigh : Bool) (s : State) : Host.Outcome State Fault Refusal :=
  .next (s.run t fun s => if axis < 3 then s.inside (fun s => s.encoderFrame g axis bits lineHigh) else s)

/-- SECTOR_CURRENT_SAMPLE. -/
def execSectorCurrent (t : Nat) (ma : List (List Nat)) (s : State) : Host.Outcome State Fault Refusal :=
  .next (s.run t fun s => s.sectorCurrent ma)

/-- PHOTO_SAMPLE. -/
def execPhotoSample (t code : Nat) (s : State) : Host.Outcome State Fault Refusal :=
  .next (s.run t fun s => s.photoSample code)

/-- PHOTO_FAULT. -/
def execPhotoFault (t : Nat) (s : State) : Host.Outcome State Fault Refusal :=
  .next (s.run t fun s => s.photoFault)

/-- NET_FRAME_ARRIVAL. -/
def execNetFrame (t : Nat) (g : Guard) (destOk : Bool) (ethertype : Nat) (tags len : Nat) (fcsOk : Bool) (bytes : List Nat) (s : State) : Host.Outcome State Fault Refusal :=
  .next (s.run t fun s => s.inside fun s => s.netFrame g destOk ethertype tags len fcsOk bytes)

/-- TELEGRAM_CHECK. -/
def execTelegramCheck (t : Nat) (g : Guard) (s : State) : Host.Outcome State Fault Refusal :=
  .next (s.run t fun s => s.inside fun s => s.telegramCheck g)

/-- TELEGRAM_SINGLE. -/
def execTelegramSingle (t : Nat) (g : Guard) (s : State) : Host.Outcome State Fault Refusal :=
  .next (s.run t fun s => s.inside fun s => s.telegramSingle g)

/-- LINK_TIMEOUT. -/
def execLinkTimeout (t : Nat) (g : Guard) (s : State) : Host.Outcome State Fault Refusal :=
  .next (s.run t fun s => s.linkTimeoutPasses g)

/-- PHY_POLL. -/
def execPhyPoll (t : Nat) (g : Guard) (answer : Option (Bool × Bool × Bool)) (s : State) : Host.Outcome State Fault Refusal :=
  .next (s.run t fun s => s.inside fun s => s.phyPoll g answer)

/-- PHY_RESET_RELEASE. -/
def execPhyRelease (t : Nat) (g : Guard) (s : State) : Host.Outcome State Fault Refusal :=
  .next (s.run t fun s => s.inside fun s => s.phyRelease g)

/-- GUARD_TEST. -/
def execGuardTest (t : Nat) (g : Guard) (kind : Nat) (passed : Bool) (s : State) : Host.Outcome State Fault Refusal :=
  .next (s.run t fun s => s.guarded (fun s => if testKind g kind then s.guardTest g kind passed else s))

/-- CVU_COUNTER_COPY. -/
def execCvuCopy (t : Nat) (s : State) : Host.Outcome State Fault Refusal :=
  .next (s.run t fun s => s.inside fun s => s.cvuCopy)

/-- CVU_CLEAR. -/
def execCvuClear (t : Nat) (m : Master) (value : Word) (s : State) : Host.Outcome State Fault Refusal :=
  .next (s.run t fun s => s.regWrite m CVU_CLEAR_OFF 4 value.toNat)

/-- GUARD_WATCHDOG_EXPIRY. -/
def execGuardWatchdog (t : Nat) (g : Guard) (s : State) : Host.Outcome State Fault Refusal :=
  .next (s.run t fun s => s.inside fun s => s.guardWatchdog g)

/-- GUARD_MEMORY_ERROR: VALUE 2. -/
def execGuardMemory (t : Nat) (g : Guard) (s : State) : Host.Outcome State Fault Refusal :=
  .next (s.run t fun s => s.inside fun s => s.guardInternal g 2)

end Sys2Proof.Machine
end

