-- ==== Sys2Proof/Machine/HostCmds.lean ====
section
/-! DEFINITION. The commands of the HOST island (chapter 9) and of the mailboxes and locks (chapter 10). -/

namespace Sys2Proof.Machine

open Reg

/-- PERST_N_CHANGE. -/
def execPerstChange (t : Nat) (asserted : Bool) (s : State) : Host.Outcome State Fault Refusal :=
  .next (s.run t fun s => s.perst asserted)

/-- PCIE_LINK_UP. -/
def execPcieUp (t width speed : Nat) (ptm : Bool) (s : State) : Host.Outcome State Fault Refusal :=
  .next (s.run t fun s => s.pcieUp width speed ptm)

/-- HOST_RESET: a hot reset, a link-down or a function-level reset. -/
def execHostReset (t : Nat) (linkUp : Bool) (s : State) : Host.Outcome State Fault Refusal :=
  .next (s.run t fun s => s.inside fun s => s.hostReset linkUp)

/-- BUS_MASTER_ENABLE. -/
def execBusMaster (t : Nat) (bme : Bool) (conf : PcieConf) (s : State) : Host.Outcome State Fault Refusal :=
  .next (s.run t fun s => s.inside fun s => s.busMaster bme conf)

/-- WATCH_POLL. -/
def execWatchPoll (t : Nat) (s : State) : Host.Outcome State Fault Refusal :=
  .next (s.run t fun s => s.inside fun s => s.watchPoll)

/-- HOST_NUDGE: a write of HOST_NUDGE. -/
def execHostNudge (t : Nat) (m : Master) (value : Word) (s : State) : Host.Outcome State Fault Refusal :=
  .next (s.run t fun s => s.regWrite m HOST_NUDGE_OFF 4 value.toNat)

/-- DOORBELL_LINE_READ. -/
def execLineRead (t line : Nat) (r : HostRead (List Nat)) (s : State) : Host.Outcome State Fault Refusal :=
  .next (s.run t fun s => s.lineRead line r)

/-- DESCRIPTOR_FETCH. -/
def execDescFetch (t ring index : Nat) (r : HostRead (List Nat)) (s : State) : Host.Outcome State Fault Refusal :=
  .next (s.run t fun s => s.descFetch ring index r)

/-- DESCRIPTOR_ADMIT. -/
def execDescAdmit (t ring : Nat) (s : State) : Host.Outcome State Fault Refusal :=
  .next (s.run t fun s => if ring < 64 then s.descAdmit ring else s)

/-- DESCRIPTOR_COMPLETION. -/
def execDescCompletion (t ring : Nat) (s : State) : Host.Outcome State Fault Refusal :=
  .next (s.run t fun s => if ring < 64 then s.descCompletion ring else s)

/-- RING_ENABLE: a write of ENABLE at 1. -/
def execRingEnable (t : Nat) (m : Master) (ring : Nat) (s : State) : Host.Outcome State Fault Refusal :=
  .next (s.run t fun s => if ring < 64 then s.regWrite m (RING_CTRL_OFF ring) 4 1 else s)

/-- RING_DISABLE: a write of ENABLE at 0. -/
def execRingDisable (t : Nat) (m : Master) (ring : Nat) (s : State) : Host.Outcome State Fault Refusal :=
  .next (s.run t fun s => if ring < 64 then s.regWrite m (RING_CTRL_OFF ring) 4 0 else s)

/-- RING_RESET: a write of RESET at 1. -/
def execRingReset (t : Nat) (m : Master) (ring : Nat) (s : State) : Host.Outcome State Fault Refusal :=
  .next (s.run t fun s => if ring < 64 then s.regWrite m (RING_CTRL_OFF ring) 4 2 else s)

/-- RING_RESET_DONE. -/
def execRingResetDone (t ring : Nat) (s : State) : Host.Outcome State Fault Refusal :=
  .next (s.run t fun s => if ring < 64 then s.ringResetDone ring else s)

/-- IRQ_HOLDOFF_EXPIRY. -/
def execIrqHoldoff (t ring : Nat) (s : State) : Host.Outcome State Fault Refusal :=
  .next (s.run t fun s => if ring < 64 then s.holdoffEnds ring else s)

/-- IRQ_ENABLE_WRITE: a write of HOST_IRQ_EN. -/
def execIrqEnable (t : Nat) (m : Master) (value : Word) (s : State) : Host.Outcome State Fault Refusal :=
  .next (s.run t fun s => s.regWrite m HOST_IRQ_EN_OFF 4 value.toNat)

/-- MW2_ACCESS. -/
def execMw2Access (t : Nat) (write : Bool) (addr : Nat) (data : List Nat) (len : Nat) (s : State) : Host.Outcome State Fault Refusal :=
  .next (s.run t fun s => s.mw2 write addr data len)

/-- MBOX_TX_PUSH: a write of MBOX_n_TX. -/
def execMboxTx (t : Nat) (m : Master) (ch : Nat) (value : Word) (s : State) : Host.Outcome State Fault Refusal :=
  .next (s.run t fun s => if ch < 8 then s.regWrite m (MBOX_TX_OFF ch) 4 value.toNat else s)

/-- MBOX_RX_READ: a read of MBOX_n_RX. -/
def execMboxRx (t : Nat) (r : Reader) (ch : Nat) (s : State) : Host.Outcome State Fault Refusal :=
  .next (s.run t fun s => if ch < 8 then s.readOut r (MBOX_RX_OFF ch) else s)

/-- MBOX_TORN_TIMEOUT. -/
def execMboxTorn (t ch : Nat) (s : State) : Host.Outcome State Fault Refusal :=
  .next (s.run t fun s => if ch < 8 then s.inside (fun s => s.mboxTorn ch) else s)

/-- MBOX_REPLY_TIMEOUT. -/
def execMboxReplyTimeout (t ch : Nat) (s : State) : Host.Outcome State Fault Refusal :=
  .next (s.run t fun s => if ch < 8 then s.inside (fun s => s.mboxReplyTimeout ch) else s)

/-- PING. -/
def execPing (t ch : Nat) (s : State) : Host.Outcome State Fault Refusal :=
  .next (s.run t fun s => if ch < 8 then s.inside (fun s => s.ping ch) else s)

/-- VERSION. -/
def execVersion (t ch : Nat) (s : State) : Host.Outcome State Fault Refusal :=
  .next (s.run t fun s => if ch < 8 then s.inside (fun s => s.version ch) else s)

/-- BAD_MESSAGE. -/
def execBadMessage (t ch : Nat) (s : State) : Host.Outcome State Fault Refusal :=
  .next (s.run t fun s => if ch < 8 then s.inside (fun s => s.badMessage ch) else s)

/-- MBOX_DBELL_SET: a write of MBOX_DBELL_SET. -/
def execDbellSet (t : Nat) (m : Master) (value : Word) (s : State) : Host.Outcome State Fault Refusal :=
  .next (s.run t fun s => s.regWrite m MBOX_DBELL_SET_OFF 4 value.toNat)

/-- MBOX_CHANNEL_RESET: a write of MBOX_n_CTRL. -/
def execMboxReset (t : Nat) (m : Master) (ch : Nat) (value : Word) (s : State) : Host.Outcome State Fault Refusal :=
  .next (s.run t fun s => if ch < 8 then s.regWrite m (MBOX_CH_CTRL_OFF ch) 4 value.toNat else s)

/-- LOCK_READ: a read of LOCK_n. -/
def execLockRead (t lock : Nat) (r : Reader) (s : State) : Host.Outcome State Fault Refusal :=
  .next (s.run t fun s => if lock < 16 then s.readOut r (LOCK_OFF lock) else s)

/-- LOCK_RELEASE: a write of LOCK_n. -/
def execLockRelease (t : Nat) (m : Master) (lock : Nat) (value : Word) (s : State) : Host.Outcome State Fault Refusal :=
  .next (s.run t fun s => if lock < 16 then s.regWrite m (LOCK_OFF lock) 4 value.toNat else s)

/-- FW_WATCHDOG_EXPIRY. -/
def execFwWatchdog (t : Nat) (s : State) : Host.Outcome State Fault Refusal :=
  .next (s.run t fun s => s.fwWatchdog)

/-- FW_READY. -/
def execFwReady (t : Nat) (s : State) : Host.Outcome State Fault Refusal :=
  .next (s.run t fun s => s.fwReady)

/-- SLOT_INFO. -/
def execSlotInfo (t ch : Nat) (s : State) : Host.Outcome State Fault Refusal :=
  .next (s.run t fun s => if ch < 8 then s.inside (fun s => s.slotInfo ch) else s)

/-- SLOT_WRITE. -/
def execSlotWrite (t ch : Nat) (s : State) : Host.Outcome State Fault Refusal :=
  .next (s.run t fun s => if ch < 8 then s.inside (fun s => s.slotWrite ch) else s)

/-- SLOT_VERIFY. -/
def execSlotVerify (t ch : Nat) (s : State) : Host.Outcome State Fault Refusal :=
  .next (s.run t fun s => if ch < 8 then s.inside (fun s => s.slotVerify ch) else s)

/-- FLASH_DONE. -/
def execFlashDone (t : Nat) (flashOk : Bool) (result : Nat) (s : State) : Host.Outcome State Fault Refusal :=
  .next (s.run t fun s => s.inside fun s => s.flashDone flashOk result)

end Sys2Proof.Machine
end

