-- ==== Sys2Proof/Machine/KeeperCmds.lean ====
section
/-! DEFINITION. The commands of KEEPER (chapter 14). -/

namespace Sys2Proof.Machine

open Reg

/-- FAULT_REPORT. -/
def execFaultReport (t : Nat) (rs : List Report) (s : State) : Host.Outcome State Fault Refusal :=
  .next (s.run t fun s => s.reports rs)

/-- FAULT_JOURNAL_WRITE. -/
def execFaultJournal (t : Nat) (s : State) : Host.Outcome State Fault Refusal :=
  .next (s.run t fun s => s.faultJournal)

/-- ERR_HOLD_EXPIRY. -/
def execErrHold (t : Nat) (s : State) : Host.Outcome State Fault Refusal :=
  .next (s.run t fun s => s.inside fun s => s.driveErr)

/-- KEEPER_CLEAR. -/
def execKeeperClear (t : Nat) (m : Master) (value : Word) (s : State) : Host.Outcome State Fault Refusal :=
  .next (s.run t fun s => s.regWrite m KEEPER_CLEAR_OFF 4 value.toNat)

/-- KEEPER_HIST_INDEX. -/
def execHistIndex (t : Nat) (m : Master) (value : Word) (s : State) : Host.Outcome State Fault Refusal :=
  .next (s.run t fun s => s.regWrite m KEEPER_HIST_INDEX_OFF 4 value.toNat)

/-- INJECT_GO: a write of KEEPER_INJ_CTRL with GO at 1 and STOP at 0. -/
def execInjectGo (t : Nat) (m : Master) (value : Word) (s : State) : Host.Outcome State Fault Refusal :=
  .next (s.run t fun s => s.regWrite m KEEPER_INJ_CTRL_OFF 4 (2 ^ 31 + value.toNat % 2 ^ 30))

/-- INJECT_STOP: a write of KEEPER_INJ_CTRL with STOP at 1 and GO at 0. -/
def execInjectStop (t : Nat) (m : Master) (value : Word) (s : State) : Host.Outcome State Fault Refusal :=
  .next (s.run t fun s => s.regWrite m KEEPER_INJ_CTRL_OFF 4 (2 ^ 30 + value.toNat % 2 ^ 30))

/-- INJECT_HOLD_EXPIRY. -/
def execInjectExpiry (t : Nat) (s : State) : Host.Outcome State Fault Refusal :=
  .next (s.run t fun s => s.injectExpiry)

end Sys2Proof.Machine
end

