-- ==== Sys2Proof/Machine/LaneCmds.lean ====
section
/-! DEFINITION. The commands of the lanes and streams (chapter 8): blocks as they arrive, and the register writes that have
their own rows. -/

namespace Sys2Proof.Machine

open Reg

/-- LANE_BLOCK. -/
def execLaneBlock (t lane : Nat) (sync : Nat) (bytes : List Nat) (s : State) : Host.Outcome State Fault Refusal :=
  .next (s.run t fun s => s.laneBlock lane sync bytes)

/-- ALIGN. -/
def execAlign (t lane : Nat) (bytes : List Nat) (arrival : Nat) (s : State) : Host.Outcome State Fault Refusal :=
  .next (s.run t fun s => s.alignBlock lane bytes arrival)

/-- MARKER_MISSING. -/
def execMarkerMissing (t lane : Nat) (s : State) : Host.Outcome State Fault Refusal :=
  .next (s.run t fun s => if lane < 10 then s.markerMissing lane else s)

/-- LANE_TRAINED. -/
def execLaneTrained (t lane : Nat) (loss : Nat) (s : State) : Host.Outcome State Fault Refusal :=
  .next (s.run t fun s => s.laneTrained lane loss)

/-- SOF. -/
def execSof (t lane : Nat) (bytes : List Nat) (s : State) : Host.Outcome State Fault Refusal :=
  .next (s.run t fun s => if lane < 10 then s.sofBlock lane bytes else s)

/-- STREAM_FRAME_BLOCK. -/
def execStreamBlock (t lane : Nat) (bytes : List Nat) (s : State) : Host.Outcome State Fault Refusal :=
  .next (s.run t fun s => if lane < 10 then s.frameBlock lane bytes else s)

/-- EOF. -/
def execEof (t lane : Nat) (bytes : List Nat) (s : State) : Host.Outcome State Fault Refusal :=
  .next (s.run t fun s => if lane < 10 then s.eofBlock lane bytes else s)

/-- LANE_POWER_REQUEST: a write of INTAKE_LANE_n_PWR. -/
def execLanePower (t : Nat) (m : Master) (lane : Nat) (value : Word) (s : State) : Host.Outcome State Fault Refusal :=
  .next (s.run t fun s => if lane < 8 then s.regWrite m (INTAKE_LANE_PWR_OFF lane) 4 value.toNat else s)

/-- EYE_SCAN. -/
def execEyeScan (t lane width height : Nat) (s : State) : Host.Outcome State Fault Refusal :=
  .next (s.run t fun s => s.eyeScan lane width height)

/-- EYE_MEASURE_GO: a write of INTAKE_EYE_CTRL. -/
def execEyeGo (t : Nat) (m : Master) (value : Word) (s : State) : Host.Outcome State Fault Refusal :=
  .next (s.run t fun s => s.regWrite m INTAKE_EYE_CTRL_OFF 4 value.toNat)

/-- EYE_MEASURE_DONE. -/
def execEyeDone (t errors : Nat) (s : State) : Host.Outcome State Fault Refusal :=
  .next (s.run t fun s => s.eyeEnd errors)

/-- STREAM_CONFIG: a write of INTAKE_STR_m_CFG. -/
def execStreamConfig (t : Nat) (m : Master) (stream : Nat) (value : Word) (s : State) : Host.Outcome State Fault Refusal :=
  .next (s.run t fun s => if stream < 8 then s.regWrite m (INTAKE_STR_CFG_OFF stream) 4 value.toNat else s)

/-- STREAM_TIMEOUT. -/
def execStreamTimeout (t stream : Nat) (s : State) : Host.Outcome State Fault Refusal :=
  .next (s.run t fun s => if stream < 8 then s.streamTimeout stream else s)

/-- INTAKE_LANE_ERR_CLEAR. -/
def execLaneErrClear (t : Nat) (m : Master) (lane : Nat) (value : Word) (s : State) : Host.Outcome State Fault Refusal :=
  .next (s.run t fun s => if lane < 8 then s.regWrite m (INTAKE_LANE_ERR_CLEAR_OFF lane) 4 value.toNat else s)

/-- INTAKE_STR_CLEAR. -/
def execStrClear (t : Nat) (m : Master) (stream : Nat) (value : Word) (s : State) : Host.Outcome State Fault Refusal :=
  .next (s.run t fun s => if stream < 8 then s.regWrite m (INTAKE_STR_CLEAR_OFF stream) 4 value.toNat else s)

end Sys2Proof.Machine
end

