-- ==== Sys2Proof/Machine/PathCmds.lean ====
section
/-! DEFINITION. The commands of BRAID, WARP, TONE, ANODE and module DRAM (chapters 1, 4 to 7), and the plain register accesses. -/

namespace Sys2Proof.Machine

open Reg

/-- The descriptor of a ring whose work reads or writes the module region and has begun: a mesh load, a calibration block, a
dump of a table kept there (R49, R316). -/
def State.usesRegion (s : State) (n index : Nat) : Option Desc :=
  (s.ring n).inflight.find? (fun d => d.index == index && d.done.isNone && (d.started || d.used != 0)
    && (match s.ringClass n with
      | 0 => d.op == 0x20
      | 2 => true
      | 3 => decide (1 ≤ d.op) && decide (d.op ≤ 4)
      | _ => false))

/-- A descriptor whose access met an uncorrectable error ends E_DRAM (R320); a mesh load stops. -/
def State.dramFails (s : State) (n index : Nat) : State :=
  match s.usesRegion n index with
  | none => s
  | some _ => (s.stopLoad n).finish n index 7 0 0

/-- DRAM_ECC_ERROR (R51): inline error correction in the module region corrects a bit or detects two; VALUE and LIMIT hold
the DRAM address (R475). -/
def State.dramError (s : State) (addr : Nat) (e : EccError) : State :=
  let put := fun (s : State) (code : Nat) => s.faultVal code 9 (subj 19 0) (addr % 2 ^ 32) (addr / 2 ^ 32)
  if addr < modRegion || dramSize ≤ addr then s
  else match e with
    | .single => put s 0x0901
    | .double none => put s 0x0902
    | .double (some d) => put (s.dramFails d.1 d.2) 0x0902

/-- RAIL_WAKE_REACHED (R123, R494): every rail of a running buck has reached V_WAKE since the entry. -/
def State.railsAwake (s : State) : State :=
  if s.house.mode.emitting then { s with anode := { s.anode with wakeDone := true } } else s

/-- The hourly checkpoint that module firmware writes (R168). -/
def State.hourly (s : State) : State := if s.flag MBOX_STATUS_FW_READY then s.checkpoint s.hours else s

/-- The wear gains that module firmware recomputes (R170). -/
def State.wearStep (s : State) : State := if s.flag MBOX_STATUS_FW_READY then s.wearRecompute else s

/-- A coefficient register of a scaler (R260). -/
def isCoef (off : Nat) : Bool :=
  (copyAt (WARP_SC_HCOEF_OFF 0 0) 256 4 off).isSome || (copyAt (WARP_SC_VCOEF_OFF 0 0) 128 4 off).isSome
    || (copyAt (WARP_SC_HCOEF_OFF 1 0) 256 4 off).isSome || (copyAt (WARP_SC_VCOEF_OFF 1 0) 128 4 off).isSome

/-- DRAM_ECC_ERROR. -/
def execDramEcc (t addr : Nat) (e : EccError) (s : State) : Host.Outcome State Fault Refusal :=
  .next (s.run t fun s => s.inside fun s => s.dramError addr e)

/-- REGISTER_WRITE. -/
def execRegWrite (t : Nat) (m : Master) (off : Nat) (bytes : Nat) (value : Word) (s : State) : Host.Outcome State Fault Refusal :=
  .next (s.run t fun s => s.regWrite m off bytes value.toNat)

/-- PAIR_LOWER_READ: a read of the lower register of a pair of R551. -/
def execPairRead (t : Nat) (r : Reader) (off : Nat) (s : State) : Host.Outcome State Fault Refusal :=
  .next (s.run t fun s => if pairLower.contains off then s.readOut r off else s)

/-- STRIKE_FRAME_NO_READ. -/
def execFrameNoRead (t : Nat) (r : Reader) (s : State) : Host.Outcome State Fault Refusal :=
  .next (s.run t fun s => s.readOut r STRIKE_FRAME_NO_OFF)

/-- RAIL_WAKE_REACHED. -/
def execRailWake (t : Nat) (s : State) : Host.Outcome State Fault Refusal :=
  .next (s.run t fun s => s.railsAwake)

/-- CHARGE_UPDATE. -/
def execChargeUpdate (t : Nat) (s : State) : Host.Outcome State Fault Refusal :=
  .next (s.run t fun s => s.chargeUpdate)

/-- WEAR_CHECKPOINT. -/
def execWearCheckpoint (t : Nat) (s : State) : Host.Outcome State Fault Refusal :=
  .next (s.run t fun s => s.inside fun s => s.hourly)

/-- WEAR_RECOMPUTE. -/
def execWearRecompute (t : Nat) (s : State) : Host.Outcome State Fault Refusal :=
  .next (s.run t fun s => s.inside fun s => s.wearStep)

/-- TONE_COMMIT: a write of GO. -/
def execToneCommit (t : Nat) (m : Master) (s : State) : Host.Outcome State Fault Refusal :=
  .next (s.run t fun s => s.regWrite m TONE_COMMIT_OFF 4 1)

/-- BRAID_LAYER_COMMIT. -/
def execLayerCommitReg (t : Nat) (m : Master) (value : Word) (s : State) : Host.Outcome State Fault Refusal :=
  .next (s.run t fun s => s.regWrite m BRAID_LAYER_COMMIT_OFF 4 value.toNat)

/-- BRAID_PROT_INDEX. -/
def execProtIndex (t : Nat) (m : Master) (value : Word) (s : State) : Host.Outcome State Fault Refusal :=
  .next (s.run t fun s => s.regWrite m BRAID_PROT_INDEX_OFF 4 value.toNat)

/-- WARP_MESH_SELECT. -/
def execMeshSelectReg (t : Nat) (m : Master) (value : Word) (s : State) : Host.Outcome State Fault Refusal :=
  .next (s.run t fun s => s.regWrite m WARP_MESH_SELECT_OFF 4 value.toNat)

/-- WARP_SC_COEF_WRITE. -/
def execScCoef (t : Nat) (m : Master) (off : Nat) (value : Word) (s : State) : Host.Outcome State Fault Refusal :=
  .next (s.run t fun s => if isCoef off then s.regWrite m off 4 value.toNat else s)

end Sys2Proof.Machine
end

