-- ==== Sys2Proof/Machine/TwinCmds.lean ====
section
/-! DEFINITION. The commands of the twin (chapter 13): the LIGHT and TICK pairs, SPLICE and its messages, the lease and the token. -/

namespace Sys2Proof.Machine

open Reg

/-- ANODE_CURRENT_SAMPLE. -/
def execAnodeCurrent (t measuredMa : Nat) (s : State) : Host.Outcome State Fault Refusal :=
  .next (s.run t fun s => s.anodeCurrent measuredMa)

/-- LIGHT_INPUT_QUALIFIED. -/
def execLightInput (t receiver : Nat) (p n : Bool) (s : State) : Host.Outcome State Fault Refusal :=
  .next (s.run t fun s => s.inside fun s => s.lightInput receiver p n)

/-- STEP_ARM. -/
def execStepArm (t : Nat) (s : State) : Host.Outcome State Fault Refusal :=
  .next (s.run t fun s => s.stepArm)

/-- JOIN_FAIL. -/
def execJoinFail (t : Nat) (s : State) : Host.Outcome State Fault Refusal :=
  .next (s.run t fun s => s.joinFail)

/-- LIGHT_INVALID. -/
def execLightInvalid (t : Nat) (s : State) : Host.Outcome State Fault Refusal :=
  .next (s.run t fun s => s.lightInvalid)

/-- LIGHT_CONFLICT. -/
def execLightConflict (t : Nat) (s : State) : Host.Outcome State Fault Refusal :=
  .next (s.run t fun s => s.lightConflict)

/-- TICK_SEND. -/
def execTickSend (t : Nat) (s : State) : Host.Outcome State Fault Refusal :=
  .next (s.run t fun s => s.sendTick false)

/-- TICK_LIVENESS_TIMEOUT. -/
def execTickLiveness (t : Nat) (s : State) : Host.Outcome State Fault Refusal :=
  .next (s.run t fun s => s.tickLiveness)

/-- STATUS_SEND. -/
def execStatusSend (t : Nat) (s : State) : Host.Outcome State Fault Refusal :=
  .next (s.run t fun s => s.sendStatus false)

/-- ACK. -/
def execAck (t : Nat) (bytes : List Nat) (s : State) : Host.Outcome State Fault Refusal :=
  .next (s.run t fun s => s.ackIn bytes)

/-- CAPS. -/
def execCaps (t : Nat) (bytes : List Nat) (s : State) : Host.Outcome State Fault Refusal :=
  .next (s.run t fun s => s.capsIn bytes)

/-- STATUS. -/
def execStatus (t : Nat) (bytes : List Nat) (s : State) : Host.Outcome State Fault Refusal :=
  .next (s.run t fun s => s.statusIn bytes)

/-- SCAN. -/
def execScan (t : Nat) (bytes : List Nat) (s : State) : Host.Outcome State Fault Refusal :=
  .next (s.run t fun s => s.scanIn bytes)

/-- MIRROR. -/
def execMirror (t : Nat) (bytes : List Nat) (s : State) : Host.Outcome State Fault Refusal :=
  .next (s.run t fun s => s.mirrorIn bytes)

/-- COMMIT. -/
def execCommit (t : Nat) (bytes : List Nat) (s : State) : Host.Outcome State Fault Refusal :=
  .next (s.run t fun s => s.commitIn bytes)

/-- SWING_OFFER. -/
def execSwingOffer (t : Nat) (bytes : List Nat) (s : State) : Host.Outcome State Fault Refusal :=
  .next (s.run t fun s => s.swingOfferIn bytes)

/-- SWING_ACCEPT. -/
def execSwingAccept (t : Nat) (bytes : List Nat) (s : State) : Host.Outcome State Fault Refusal :=
  .next (s.run t fun s => s.swingAcceptIn bytes)

/-- SWING_DECLINE. -/
def execSwingDecline (t : Nat) (bytes : List Nat) (s : State) : Host.Outcome State Fault Refusal :=
  .next (s.run t fun s => s.swingDeclineIn bytes)

/-- EVENT. -/
def execEvent (t : Nat) (bytes : List Nat) (s : State) : Host.Outcome State Fault Refusal :=
  .next (s.run t fun s => s.eventIn bytes)

/-- SPLICE_RESEND. -/
def execSpliceResend (t : Nat) (s : State) : Host.Outcome State Fault Refusal :=
  .next (s.run t fun s => s.spliceResend)

/-- TIMING. -/
def execTiming (t : Nat) (bytes : List Nat) (s : State) : Host.Outcome State Fault Refusal :=
  .next (s.run t fun s => s.timingIn bytes)

/-- TIMING_BLOCK_MISSING. -/
def execTimingMissing (t : Nat) (s : State) : Host.Outcome State Fault Refusal :=
  .next (s.run t fun s => s.timingMissing)

/-- SPLICE_LINK_CHANGE. -/
def execSpliceLink (t : Nat) (s : State) : Host.Outcome State Fault Refusal :=
  .next (s.run t fun s => s.linkRefresh)

/-- LEASE_RENEW. -/
def execLeaseRenew (t : Nat) (s : State) : Host.Outcome State Fault Refusal :=
  .next (s.run t fun s => s.leaseRenew)

/-- PARTNER_LOST. -/
def execPartnerLost (t : Nat) (s : State) : Host.Outcome State Fault Refusal :=
  .next (s.run t fun s => s.partnerLost)

/-- LEASE_EXPIRY. -/
def execLeaseExpiry (t : Nat) (s : State) : Host.Outcome State Fault Refusal :=
  .next (s.run t fun s => s.leaseExpiry)

/-- SWING_DUE. -/
def execSwingDue (t : Nat) (s : State) : Host.Outcome State Fault Refusal :=
  .next (s.run t fun s => s.swingDue)

end Sys2Proof.Machine
end

