-- ==== Sys2Proof/Machine/Dispatch.lean ====
section
/-! DEFINITION. One arm per command. -/

namespace Sys2Proof.Machine

/-- The effect of a command on everything but the queue. -/
def exec (i : Instr) (s : State) : Host.Outcome State Fault Refusal :=
  match i with
  | .powerGood t resetLow fuses corrected corrupt => Sys2Proof.Machine.execPowerGood t resetLow fuses corrected corrupt s
  | .lockOut t => Sys2Proof.Machine.execLockOut t s
  | .brownOut t resetLow fuses corrected corrupt => Sys2Proof.Machine.execBrownOut t resetLow fuses corrected corrupt s
  | .resetAssert t => Sys2Proof.Machine.execResetAssert t s
  | .resetRelease t => Sys2Proof.Machine.execResetRelease t s
  | .perstChange t asserted => Sys2Proof.Machine.execPerstChange t asserted s
  | .i2cWrite t reg data => Sys2Proof.Machine.execI2cWrite t reg data s
  | .wake t => Sys2Proof.Machine.execWake t s
  | .stageReady t stage => Sys2Proof.Machine.execStageReady t stage s
  | .stageTimeout t stage => Sys2Proof.Machine.execStageTimeout t stage s
  | .retryDelay t => Sys2Proof.Machine.execRetryDelay t s
  | .bootComplete t b => Sys2Proof.Machine.execBootComplete t b s
  | .pllLock t island locked => Sys2Proof.Machine.execPllLock t island locked s
  | .clockCheck t g deviation => Sys2Proof.Machine.execClockCheck t g deviation s
  | .dramEcc t addr e => Sys2Proof.Machine.execDramEcc t addr e s
  | .regWrite t m off bytes value => Sys2Proof.Machine.execRegWrite t m off bytes value s
  | .pairRead t r off => Sys2Proof.Machine.execPairRead t r off s
  | .frameNoRead t r => Sys2Proof.Machine.execFrameNoRead t r s
  | .beatStart t b => Sys2Proof.Machine.execBeatStart t b s
  | .rowSlot t k wrong1 wrong2 => Sys2Proof.Machine.execRowSlot t k wrong1 wrong2 s
  | .surveySlot t d => Sys2Proof.Machine.execSurveySlot t d s
  | .quietInterval t => Sys2Proof.Machine.execQuietInterval t s
  | .capturePoint t => Sys2Proof.Machine.execCapturePoint t s
  | .strike t => Sys2Proof.Machine.execStrike t s
  | .timingCommit t m => Sys2Proof.Machine.execTimingCommit t m s
  | .frameLoad t m value => Sys2Proof.Machine.execFrameLoad t m value s
  | .lateClear t m value => Sys2Proof.Machine.execLateClear t m value s
  | .rowErrClear t m value => Sys2Proof.Machine.execRowErrClear t m value s
  | .timeOffset t m value => Sys2Proof.Machine.execTimeOffset t m value s
  | .timeTrim t m value => Sys2Proof.Machine.execTimeTrim t m value s
  | .ptpTimeout t => Sys2Proof.Machine.execPtpTimeout t s
  | .syncEdge t => Sys2Proof.Machine.execSyncEdge t s
  | .syncMissing t => Sys2Proof.Machine.execSyncMissing t s
  | .holdLimit t => Sys2Proof.Machine.execHoldLimit t s
  | .peekGo t m value => Sys2Proof.Machine.execPeekGo t m value s
  | .qlinkLoss t q => Sys2Proof.Machine.execQlinkLoss t q s
  | .qlinkTrained t q => Sys2Proof.Machine.execQlinkTrained t q s
  | .defectJournal t => Sys2Proof.Machine.execDefectJournal t s
  | .defectIndex t m value => Sys2Proof.Machine.execDefectIndex t m value s
  | .tempSample t raw => Sys2Proof.Machine.execTempSample t raw s
  | .railLimit t c => Sys2Proof.Machine.execRailLimit t c s
  | .railOc t c milliamps => Sys2Proof.Machine.execRailOc t c milliamps s
  | .railVolt t c high millivolts => Sys2Proof.Machine.execRailVolt t c high millivolts s
  | .railAverage t c i1s i100ms i10ms => Sys2Proof.Machine.execRailAverage t c i1s i100ms i10ms s
  | .railWake t => Sys2Proof.Machine.execRailWake t s
  | .chargeUpdate t => Sys2Proof.Machine.execChargeUpdate t s
  | .wearCheckpoint t => Sys2Proof.Machine.execWearCheckpoint t s
  | .wearRecompute t => Sys2Proof.Machine.execWearRecompute t s
  | .toneCommit t m => Sys2Proof.Machine.execToneCommit t m s
  | .layerCommitReg t m value => Sys2Proof.Machine.execLayerCommitReg t m value s
  | .protIndex t m value => Sys2Proof.Machine.execProtIndex t m value s
  | .maskSample t => Sys2Proof.Machine.execMaskSample t s
  | .maskPublish t => Sys2Proof.Machine.execMaskPublish t s
  | .maskVerify t readSum uncorrectable => Sys2Proof.Machine.execMaskVerify t readSum uncorrectable s
  | .zoneEval t => Sys2Proof.Machine.execZoneEval t s
  | .meshLoad t ring image => Sys2Proof.Machine.execMeshLoad t ring image s
  | .meshCheck t => Sys2Proof.Machine.execMeshCheck t s
  | .meshSelectReg t m value => Sys2Proof.Machine.execMeshSelectReg t m value s
  | .meshSelect t ring => Sys2Proof.Machine.execMeshSelect t ring s
  | .scCoef t m off value => Sys2Proof.Machine.execScCoef t m off value s
  | .laneBlock t lane sync bytes => Sys2Proof.Machine.execLaneBlock t lane sync bytes s
  | .align t lane bytes arrival => Sys2Proof.Machine.execAlign t lane bytes arrival s
  | .markerMissing t lane => Sys2Proof.Machine.execMarkerMissing t lane s
  | .laneTrained t lane loss => Sys2Proof.Machine.execLaneTrained t lane loss s
  | .sof t lane bytes => Sys2Proof.Machine.execSof t lane bytes s
  | .streamBlock t lane bytes => Sys2Proof.Machine.execStreamBlock t lane bytes s
  | .eof t lane bytes => Sys2Proof.Machine.execEof t lane bytes s
  | .lanePower t m lane value => Sys2Proof.Machine.execLanePower t m lane value s
  | .eyeScan t lane width height => Sys2Proof.Machine.execEyeScan t lane width height s
  | .eyeGo t m value => Sys2Proof.Machine.execEyeGo t m value s
  | .eyeDone t errors => Sys2Proof.Machine.execEyeDone t errors s
  | .streamConfig t m stream value => Sys2Proof.Machine.execStreamConfig t m stream value s
  | .streamTimeout t stream => Sys2Proof.Machine.execStreamTimeout t stream s
  | .laneErrClear t m lane value => Sys2Proof.Machine.execLaneErrClear t m lane value s
  | .strClear t m stream value => Sys2Proof.Machine.execStrClear t m stream value s
  | .hostReset t linkUp => Sys2Proof.Machine.execHostReset t linkUp s
  | .busMaster t bme conf => Sys2Proof.Machine.execBusMaster t bme conf s
  | .watchPoll t => Sys2Proof.Machine.execWatchPoll t s
  | .hostNudge t m value => Sys2Proof.Machine.execHostNudge t m value s
  | .lineRead t line r => Sys2Proof.Machine.execLineRead t line r s
  | .descFetch t ring index r => Sys2Proof.Machine.execDescFetch t ring index r s
  | .descAdmit t ring => Sys2Proof.Machine.execDescAdmit t ring s
  | .descCompletion t ring => Sys2Proof.Machine.execDescCompletion t ring s
  | .ringEnable t m ring => Sys2Proof.Machine.execRingEnable t m ring s
  | .ringDisable t m ring => Sys2Proof.Machine.execRingDisable t m ring s
  | .ringReset t m ring => Sys2Proof.Machine.execRingReset t m ring s
  | .ringResetDone t ring => Sys2Proof.Machine.execRingResetDone t ring s
  | .nop t ring => Sys2Proof.Machine.execNop t ring s
  | .layerSet t ring => Sys2Proof.Machine.execLayerSet t ring s
  | .layerMove t ring => Sys2Proof.Machine.execLayerMove t ring s
  | .layerCommit t ring => Sys2Proof.Machine.execLayerCommit t ring s
  | .regWriteDesc t ring => Sys2Proof.Machine.execRegWriteDesc t ring s
  | .modeRequest t ring passTestOk => Sys2Proof.Machine.execModeRequest t ring passTestOk s
  | .setModeRequest t ring passTestOk => Sys2Proof.Machine.execSetModeRequest t ring passTestOk s
  | .frameWait t ring => Sys2Proof.Machine.execFrameWait t ring s
  | .surfWrite t ring index data failed => Sys2Proof.Machine.execSurfWrite t ring index data failed s
  | .surfRead t ring index => Sys2Proof.Machine.execSurfRead t ring index s
  | .surfFill t ring index => Sys2Proof.Machine.execSurfFill t ring index s
  | .surfCopy t ring index => Sys2Proof.Machine.execSurfCopy t ring index s
  | .calBlock t ring block => Sys2Proof.Machine.execCalBlock t ring block s
  | .telCharge t ring index => Sys2Proof.Machine.execTelCharge t ring index s
  | .telDrift t ring index => Sys2Proof.Machine.execTelDrift t ring index s
  | .telCalword t ring index => Sys2Proof.Machine.execTelCalword t ring index s
  | .telDefect t ring index => Sys2Proof.Machine.execTelDefect t ring index s
  | .telSensors t ring index => Sys2Proof.Machine.execTelSensors t ring index s
  | .telHistory t ring index => Sys2Proof.Machine.execTelHistory t ring index s
  | .irqHoldoff t ring => Sys2Proof.Machine.execIrqHoldoff t ring s
  | .irqEnable t m value => Sys2Proof.Machine.execIrqEnable t m value s
  | .mw2Access t write addr data len => Sys2Proof.Machine.execMw2Access t write addr data len s
  | .mboxTx t m ch value => Sys2Proof.Machine.execMboxTx t m ch value s
  | .mboxRx t r ch => Sys2Proof.Machine.execMboxRx t r ch s
  | .mboxTorn t ch => Sys2Proof.Machine.execMboxTorn t ch s
  | .mboxReplyTimeout t ch => Sys2Proof.Machine.execMboxReplyTimeout t ch s
  | .ping t ch => Sys2Proof.Machine.execPing t ch s
  | .version t ch => Sys2Proof.Machine.execVersion t ch s
  | .badMessage t ch => Sys2Proof.Machine.execBadMessage t ch s
  | .dbellSet t m value => Sys2Proof.Machine.execDbellSet t m value s
  | .mboxReset t m ch value => Sys2Proof.Machine.execMboxReset t m ch value s
  | .lockRead t lock r => Sys2Proof.Machine.execLockRead t lock r s
  | .lockRelease t m lock value => Sys2Proof.Machine.execLockRelease t m lock value s
  | .fwWatchdog t => Sys2Proof.Machine.execFwWatchdog t s
  | .fwReady t => Sys2Proof.Machine.execFwReady t s
  | .xcmpCycle t g => Sys2Proof.Machine.execXcmpCycle t g s
  | .xcmpLost t g => Sys2Proof.Machine.execXcmpLost t g s
  | .guardDecision t g => Sys2Proof.Machine.execGuardDecision t g s
  | .terminal t g zonePin energised => Sys2Proof.Machine.execTerminal t g zonePin energised s
  | .discrepancy t pair => Sys2Proof.Machine.execDiscrepancy t pair s
  | .encoder t g axis bits lineHigh => Sys2Proof.Machine.execEncoder t g axis bits lineHigh s
  | .sectorCurrent t ma => Sys2Proof.Machine.execSectorCurrent t ma s
  | .photoSample t code => Sys2Proof.Machine.execPhotoSample t code s
  | .photoFault t => Sys2Proof.Machine.execPhotoFault t s
  | .netFrame t g destOk ethertype tags len fcsOk bytes => Sys2Proof.Machine.execNetFrame t g destOk ethertype tags len fcsOk bytes s
  | .telegramCheck t g => Sys2Proof.Machine.execTelegramCheck t g s
  | .telegramSingle t g => Sys2Proof.Machine.execTelegramSingle t g s
  | .linkTimeout t g => Sys2Proof.Machine.execLinkTimeout t g s
  | .phyPoll t g answer => Sys2Proof.Machine.execPhyPoll t g answer s
  | .phyRelease t g => Sys2Proof.Machine.execPhyRelease t g s
  | .guardTest t g kind passed => Sys2Proof.Machine.execGuardTest t g kind passed s
  | .cvuCopy t => Sys2Proof.Machine.execCvuCopy t s
  | .cvuClear t m value => Sys2Proof.Machine.execCvuClear t m value s
  | .anodeCurrent t measuredMa => Sys2Proof.Machine.execAnodeCurrent t measuredMa s
  | .lightInput t receiver p n => Sys2Proof.Machine.execLightInput t receiver p n s
  | .stepArm t => Sys2Proof.Machine.execStepArm t s
  | .joinFail t => Sys2Proof.Machine.execJoinFail t s
  | .lightInvalid t => Sys2Proof.Machine.execLightInvalid t s
  | .lightConflict t => Sys2Proof.Machine.execLightConflict t s
  | .tickSend t => Sys2Proof.Machine.execTickSend t s
  | .tickWord t word aborted => Sys2Proof.Machine.execTickWord t word aborted s
  | .tickLiveness t => Sys2Proof.Machine.execTickLiveness t s
  | .statusSend t => Sys2Proof.Machine.execStatusSend t s
  | .ack t bytes => Sys2Proof.Machine.execAck t bytes s
  | .caps t bytes => Sys2Proof.Machine.execCaps t bytes s
  | .status t bytes => Sys2Proof.Machine.execStatus t bytes s
  | .scan t bytes => Sys2Proof.Machine.execScan t bytes s
  | .mirror t bytes => Sys2Proof.Machine.execMirror t bytes s
  | .commit t bytes => Sys2Proof.Machine.execCommit t bytes s
  | .joinEnter t bytes passTestOk => Sys2Proof.Machine.execJoinEnter t bytes passTestOk s
  | .switch t bytes => Sys2Proof.Machine.execSwitch t bytes s
  | .handover t bytes => Sys2Proof.Machine.execHandover t bytes s
  | .setChange t bytes => Sys2Proof.Machine.execSetChange t bytes s
  | .joinAbort t bytes => Sys2Proof.Machine.execJoinAbort t bytes s
  | .swingOffer t bytes => Sys2Proof.Machine.execSwingOffer t bytes s
  | .swingAccept t bytes => Sys2Proof.Machine.execSwingAccept t bytes s
  | .swingDecline t bytes => Sys2Proof.Machine.execSwingDecline t bytes s
  | .event t bytes => Sys2Proof.Machine.execEvent t bytes s
  | .spliceResend t => Sys2Proof.Machine.execSpliceResend t s
  | .timing t bytes => Sys2Proof.Machine.execTiming t bytes s
  | .spliceLink t => Sys2Proof.Machine.execSpliceLink t s
  | .leaseRenew t => Sys2Proof.Machine.execLeaseRenew t s
  | .partnerLost t => Sys2Proof.Machine.execPartnerLost t s
  | .leaseExpiry t => Sys2Proof.Machine.execLeaseExpiry t s
  | .swingDue t => Sys2Proof.Machine.execSwingDue t s
  | .joinTimeout t => Sys2Proof.Machine.execJoinTimeout t s
  | .faultReport t rs => Sys2Proof.Machine.execFaultReport t rs s
  | .faultJournal t => Sys2Proof.Machine.execFaultJournal t s
  | .errHold t => Sys2Proof.Machine.execErrHold t s
  | .keeperClear t m value => Sys2Proof.Machine.execKeeperClear t m value s
  | .histIndex t m value => Sys2Proof.Machine.execHistIndex t m value s
  | .injectGo t m value => Sys2Proof.Machine.execInjectGo t m value s
  | .injectStop t m value => Sys2Proof.Machine.execInjectStop t m value s
  | .injectExpiry t => Sys2Proof.Machine.execInjectExpiry t s
  | .stopCheckpoint t => Sys2Proof.Machine.execStopCheckpoint t s
  | .stopAnswer t accept => Sys2Proof.Machine.execStopAnswer t accept s
  | .stopTimeout t => Sys2Proof.Machine.execStopTimeout t s
  | .slotInfo t ch => Sys2Proof.Machine.execSlotInfo t ch s
  | .slotWrite t ch => Sys2Proof.Machine.execSlotWrite t ch s
  | .slotVerify t ch => Sys2Proof.Machine.execSlotVerify t ch s
  | .slotActivate t ch => Sys2Proof.Machine.execSlotActivate t ch s
  | .flashDone t flashOk result => Sys2Proof.Machine.execFlashDone t flashOk result s
  | .guardWatchdog t g => Sys2Proof.Machine.execGuardWatchdog t g s
  | .guardMemory t g => Sys2Proof.Machine.execGuardMemory t g s
  | .timingMissing t => Sys2Proof.Machine.execTimingMissing t s
  | .pcieUp t width speed ptm => Sys2Proof.Machine.execPcieUp t width speed ptm s

end Sys2Proof.Machine
end

