-- ==== Sys2Proof/Safety.lean ====
section
/-! DEFINITION. What statements about the module are made of: that a command completes with a property, the light rule that
every run keeps, when KEEPER records a report and when a register write reaches its register. -/

namespace Sys2Proof.Machine

open Reg

/-- The command answers a next state, and that state has the property. -/
def Does (c : Instr) (s : State) (P : State → Prop) : Prop := ∃ s', exec c s = .next s' ∧ P s'

/-- The command leaves the state as the passing of time alone makes it: it has no effect of its own. -/
def NoEffect (c : Instr) (t : Nat) (s : State) : Prop := exec c s = .next (s.pass t)

/-- Outside SHOW, SOLO and CALIBRATE both guards keep their enables deasserted (R365). -/
abbrev LightSafe (s : State) : Prop :=
  s.house.mode.emitting = false → s.get Reg.GUARD_A_STATUS_EN_A = 0 ∧ s.get Reg.GUARD_B_STATUS_EN_B = 0

/-- KEEPER records a report that reaches it at time `t` (R476, R478): no record is being written, its PLL is locked, and
the module is not in FATAL. -/
def State.records (s : State) (t : Nat) : Bool :=
  decide (s.keeper.busyUntil ≤ max s.now t) && !s.house.pllUnlocked.contains 9 && !s.flag KEEPER_STATUS_FATAL

/-- The newest history record (R474): its code, source and subject. -/
def State.newest (s : State) : Option (Nat × Nat × Nat) :=
  s.keeper.hist.head?.map (fun h => (h.code, h.source, h.subject))

/-- A 32-bit write of a master to an MW0 offset reaches its register (R18, R22, R32, R38, R498, R548, R549). -/
def State.takes (s : State) (m : Master) (off : Nat) : Bool :=
  s.writes m off && (regAt off).isSome && off % 4 == 0 && !s.stalls off && !s.outranked m off && !s.commitStopped off

/-- An offset of BRAID, WARP or TONE whose register has no behaviour of its own: no commit, selection, index or coefficient. -/
def plainPath (off : Nat) : Bool :=
  4 ≤ off / 65536 && off / 65536 ≤ 6 && off != BRAID_LAYER_COMMIT_OFF && off != BRAID_PROT_INDEX_OFF
    && off != WARP_MESH_SELECT_OFF && off / 0x1000 != 0x51 && off != TONE_COMMIT_OFF

/-- No change of state is under way and no overlay waits (R493, R497). -/
def State.steady (s : State) : Bool :=
  s.house.overlayDue.isNone && s.house.change.isNone && s.twin.joining.isNone && s.twin.handover.isNone

/-- The work of a descriptor in flight has ended with a status, a detail and a result (R308). -/
abbrev State.ended (s : State) (ring index : Nat) (r : Nat × Nat × Nat) : Prop :=
  ∃ e ∈ (s.ring ring).inflight, e.index = index ∧ e.done = some r

/-- The module is in SAFE with both guards' enables deasserted (R364, R395). -/
abbrev State.inSafe (s : State) : Prop :=
  s.house.mode = .safe ∧ s.get GUARD_A_STATUS_EN_A = 0 ∧ s.get GUARD_B_STATUS_EN_B = 0

/-- A good request of a code stands at the head of a channel that is served and has room for any reply, with no message before it
that firmware has read already (R347, R349). -/
abbrev State.asked (s : State) (ch code : Nat) (msg : List Nat) (rest : List (List Nat)) : Prop :=
  ch < 8 ∧ s.powered = true ∧ s.serves = true ∧ (s.mbox ch).got = [] ∧ (s.mbox ch).tx = msg :: rest ∧ s.goodRequest msg = true ∧
    msgCode (msg.getD 0 0) = code ∧ (s.mbox ch).rxWait = [] ∧ (s.mbox ch).rxCount ≤ 2

/-- The request has been taken and its reply stands in the channel's RX queue (R349). -/
abbrev State.replied (s' s : State) (ch : Nat) (msg : List Nat) (rest : List (List Nat)) (data : List Nat) : Prop :=
  (s'.mbox ch).tx = rest ∧ (s'.mbox ch).rx = (s.mbox ch).rx ++ [replyHeader (msg.getD 0 0) data.length :: data]

/-- A good SPLICE frame of a type arrives at a twin whose links run, at the twin's own epoch, and has not been acted on
before (R418, R436, R437, R448, R554). -/
abbrev State.hears (s : State) (type : Nat) (b : List Nat) : Prop :=
  s.twinRuns = true ∧ s.flag (CVU_UNIT_CFG_SELFTEST_OK 3) = true ∧ 28 ≤ b.length ∧
    field b (b.length - 4) 4 = crc32c (b.take (b.length - 4)) ∧ rxLaidOut b = true ∧ (rxFrame b).type = type ∧
    (rxFrame b).epoch = s.get SPLICE_EPOCH_EPOCH ∧ ((rxFrame b).ackReq = true → (rxFrame b).seq ∉ s.twin.acted)

/-- The twin's links run and its check-value unit CVU_02 passed its self-test, so that it sends on both paths (R422, R433). -/
abbrev State.sendsBoth (s : State) : Prop :=
  s.twinRuns = true ∧ s.twin.tickStopped = false ∧ s.flag (CVU_UNIT_CFG_SELFTEST_OK 2) = true

/-- The parts of the state beside its clock, its queue and its registers. The time of the last change of light (R179), the mark that
the governor's next frame is its first (R175), the bands that no headroom sample of the running window counts for (R125) and the
mark that INTAKE has stopped are left out of their parts. -/
inductive Part where
  | dram | out | shadows | free | access | house | keeper | host | hk | intake | braid | warp | tone | anode | timer | array
  | guards | twin
  deriving DecidableEq, Repr

/-- A part is the same in two states. -/
def Part.same : Part → State → State → Prop
  | .dram, a, b => b.dram = a.dram
  | .out, a, b => b.out = a.out
  | .shadows, a, b => b.shadows = a.shadows
  | .free, a, b => b.freeCtr = a.freeCtr
  | .access, a, b => b.access = a.access
  | .house, a, b => b.house = a.house
  | .keeper, a, b => b.keeper = a.keeper
  | .host, a, b => b.host = a.host
  | .hk, a, b => b.hk = a.hk
  | .intake, a, b => { b.intake with stopped := a.intake.stopped } = a.intake
  | .braid, a, b => b.braid = a.braid
  | .warp, a, b => b.warp = a.warp
  | .tone, a, b => { b.tone with changeAt := a.tone.changeAt, sPrev := a.tone.sPrev } = a.tone
  | .anode, a, b => { b.anode with window := a.anode.window } = a.anode
  | .timer, a, b => b.timer = a.timer
  | .array, a, b => b.array = a.array
  | .guards, a, b => b.guards = a.guards
  | .twin, a, b => b.twin = a.twin

/-- What a command may change, the parts and the register blocks beside: every part that is not named, and every register
outside the blocks named, is as the passing of time leaves it. -/
abbrev Framed (c : Instr) (s : State) (parts : List Part) (blocks : List Nat) : Prop :=
  ∀ s', exec c s = .next s' → (∀ p, p ∉ parts → p.same (s.pass s'.now) s') ∧
    ∀ off, off / 65536 ∉ blocks → s'.reg off = s.reg off

end Sys2Proof.Machine

namespace Sys2Proof

open Machine

/-- The commands that report no fault with a reaction: the parts and the register blocks that each may change. -/
def Instr.quietFrame : Instr → Option (List Part × List Nat)
  | .resetRelease .. | .stageTimeout .. => some ([.house], [0, 1])
  | .i2cWrite .. | .wake .. | .retryDelay .. => some ([.house], [0])
  | .pairRead .. | .frameNoRead .. | .mboxRx .. | .lockRead .. => some ([.out, .shadows, .access, .host, .hk], [2, 12, 13])
  | .timingCommit .. => some ([.out, .access, .host, .timer, .guards, .twin], [2, 7, 14])
  | .frameLoad .. => some ([.access, .timer], [7])
  | .lateClear .. | .rowErrClear .. | .defectIndex .. => some ([.access], [7])
  | .holdLimit .. => some ([.out, .access, .host, .timer], [2, 7])
  | .peekGo .. => some ([.access, .array], [7])
  | .qlinkTrained .. => some ([], [7])
  | .defectJournal .. => some ([.array], [])
  | .railLimit .. | .railWake .. => some ([.anode], [])
  | .chargeUpdate .. => some ([.free, .tone], [])
  | .wearCheckpoint .. => some ([.tone], [])
  | .toneCommit .. => some ([.out, .access, .tone, .guards, .twin], [6, 14])
  | .layerCommitReg .. => some ([.out, .access, .braid, .guards, .twin], [4, 14])
  | .protIndex .. => some ([.access], [4])
  | .maskSample .. | .maskPublish .. => some ([.braid, .guards], [4, 9])
  | .zoneEval .. => some ([.out, .access, .host, .guards], [2, 6, 9])
  | .meshLoad .. => some ([.out, .access, .host, .warp], [2, 5])
  | .meshCheck .. => some ([.host, .warp], [5])
  | .meshSelectReg .. => some ([.out, .access, .warp, .guards, .twin], [5, 14])
  | .meshSelect .. => some ([.out, .access, .host, .warp, .guards, .twin], [2, 5, 14])
  | .scCoef .. => some ([.access], [5])
  | .laneBlock .. | .align .. | .markerMissing .. | .lanePower .. | .eyeScan .. => some (
      [.out, .access, .house, .keeper, .host, .intake], [1, 2, 3, 11])
  | .laneTrained .. => some ([.intake], [3, 11])
  | .sof .. | .eof .. => some ([.out, .access, .house, .keeper, .host, .intake], [1, 2, 3])
  | .streamBlock .. => some ([.out, .access, .house, .keeper, .host, .intake, .guards], [1, 2, 3, 14])
  | .eyeGo .. => some ([.access, .intake], [3])
  | .eyeDone .. => some ([], [3])
  | .streamConfig .. => some ([.out, .access, .house, .keeper, .host, .intake], [1, 2, 3, 4])
  | .streamTimeout .. => some ([.out, .access, .house, .keeper, .host], [1, 2, 3])
  | .laneErrClear .. | .strClear .. => some ([.access], [3])
  | .busMaster .. | .watchPoll .. | .irqHoldoff .. => some ([.out, .host], [2])
  | .hostNudge .. | .lineRead .. | .descFetch .. | .irqEnable .. => some ([.out, .access, .host], [2])
  | .descAdmit .. => some ([.host], [2])
  | .descCompletion .. => some ([.out, .house, .host, .braid, .tone, .twin], [2])
  | .ringEnable .. | .ringDisable .. | .ringReset .. => some (
      [.out, .access, .house, .host, .braid, .warp, .tone, .twin], [2, 5])
  | .ringResetDone .. => some ([.house, .host, .braid, .tone, .twin], [2])
  | .nop .. | .frameWait .. => some ([.host], [])
  | .layerSet .. | .layerMove .. | .layerCommit .. => some ([.out, .access, .host, .braid, .guards, .twin], [2, 4, 14])
  | .surfWrite .. | .surfRead .. | .surfFill .. | .surfCopy .. => some ([.dram, .out, .access, .host], [2])
  | .calBlock .. => some ([.out, .access, .host, .tone, .guards], [2, 6, 14])
  | .telCharge .. | .telDrift .. | .telCalword .. | .telDefect .. | .telSensors .. | .telHistory .. => some (
      [.out, .host], [])
  | .mw2Access .. => some ([.dram, .out, .host], [])
  | .mboxTx .. | .ping .. | .version .. | .badMessage .. | .dbellSet .. | .slotInfo .. => some (
      [.out, .access, .host, .hk], [2, 12])
  | .mboxTorn .. | .mboxReset .. => some ([.access, .hk], [12])
  | .lockRelease .. => some ([.access, .keeper, .hk], [1, 13])
  | .fwReady .. => some ([.out, .access, .host, .hk, .twin], [2, 12])
  | .guardDecision .. => some ([.guards], [6, 9, 10])
  | .netFrame .. | .telegramSingle .. => some ([.guards], [9, 10])
  | .phyRelease .. => some ([.guards], [])
  | .cvuCopy .. => some ([.access, .guards], [14])
  | .cvuClear .. => some ([.access], [14])
  | .lightInput .. => some ([.out, .access, .house, .host, .guards, .twin], [0, 2, 6, 9, 10, 11, 14])
  | .stepArm .. => some ([.guards], [9, 10, 11])
  | .tickSend .. => some ([.out, .twin], [])
  | .tickLiveness .. => some ([.twin], [])
  | .statusSend .. | .spliceResend .. | .leaseRenew .. | .swingDue .. => some ([.out, .guards, .twin], [14])
  | .faultJournal .. => some ([.keeper], [])
  | .errHold .. => some ([.house], [1])
  | .keeperClear .. => some ([.access, .house, .keeper], [1])
  | .histIndex .. => some ([.access], [1])
  | .injectExpiry .. => some ([.keeper], [1])
  | .stopCheckpoint .. => some ([.house, .tone, .array], [])
  | .slotWrite .. | .slotVerify .. | .flashDone .. => some ([.out, .access, .house, .host, .hk], [2, 12])
  | .pcieUp .. => some ([], [2])
  | _ => none

/-- The commands that may report a fault with a reaction or change the state of the module: the parts and the register blocks
that each may change. -/
def Instr.reportFrame : Instr → Option (List Part × List Nat)
  | .perstChange .. | .hostReset .. => some (
      [.out, .shadows, .access, .house, .keeper, .host, .hk, .intake, .braid, .warp, .tone, .guards, .twin],
      [0, 1, 2, 3, 4, 5, 6, 8, 9, 10, 11, 12, 13, 14])
  | .stageReady .. | .clockCheck .. | .mboxReplyTimeout .. | .xcmpCycle .. | .xcmpLost .. | .terminal ..
    | .discrepancy .. | .encoder .. | .sectorCurrent .. | .photoSample .. | .photoFault .. | .telegramCheck ..
    | .linkTimeout .. | .phyPoll .. | .anodeCurrent .. | .joinFail .. | .lightInvalid .. | .lightConflict ..
    | .partnerLost .. | .joinTimeout .. | .faultReport .. | .guardWatchdog .. | .guardMemory .. => some (
      [.out, .access, .house, .keeper, .host, .hk, .intake, .guards, .twin], [0, 1, 2, 3, 4, 6, 8, 9, 10, 11, 12, 14])
  | .pllLock .. => some (
      [.out, .shadows, .access, .house, .keeper, .host, .hk, .intake, .braid, .warp, .tone, .anode, .timer, .array, .guards, .twin],
      [0, 1, 2, 3, 4, 5, 6, 7, 8, 9, 10, 11, 12, 13, 14])
  | .dramEcc .. => some (
      [.out, .access, .house, .keeper, .host, .hk, .intake, .warp, .guards, .twin],
      [0, 1, 2, 3, 4, 5, 6, 8, 9, 10, 11, 12, 14])
  | .regWrite .. | .beatStart .. | .surveySlot .. | .capturePoint .. | .strike .. | .regWriteDesc .. | .modeRequest ..
    | .setModeRequest .. => some (
      [.out, .access, .house, .keeper, .host, .hk, .intake, .braid, .warp, .tone, .anode, .timer, .array, .guards, .twin],
      [0, 1, 2, 3, 4, 5, 6, 7, 8, 9, 10, 11, 12, 13, 14, 15])
  | .rowSlot .. => some (
      [.out, .free, .access, .house, .keeper, .host, .hk, .intake, .braid, .warp, .tone, .timer, .array, .guards, .twin],
      [0, 1, 2, 3, 4, 5, 6, 7, 8, 9, 10, 11, 12, 13, 14])
  | .quietInterval .. | .scan .. => some (
      [.out, .access, .house, .keeper, .host, .hk, .intake, .tone, .timer, .guards, .twin],
      [0, 1, 2, 3, 4, 6, 7, 8, 9, 10, 11, 12, 14])
  | .timeOffset .. | .timeTrim .. | .ptpTimeout .. | .syncEdge .. | .syncMissing .. | .tickWord .. | .ack ..
    | .status .. | .switch .. | .handover .. | .setChange .. | .joinAbort .. | .swingOffer .. | .swingAccept ..
    | .swingDecline .. | .event .. | .timing .. | .spliceLink .. | .leaseExpiry .. | .timingMissing .. => some (
      [.out, .access, .house, .keeper, .host, .hk, .intake, .timer, .guards, .twin],
      [0, 1, 2, 3, 4, 6, 7, 8, 9, 10, 11, 12, 14])
  | .qlinkLoss .. => some (
      [.out, .access, .house, .keeper, .host, .hk, .intake, .array, .guards, .twin],
      [0, 1, 2, 3, 4, 6, 7, 8, 9, 10, 11, 12, 14])
  | .tempSample .. | .railOc .. | .railVolt .. | .railAverage .. => some (
      [.out, .access, .house, .keeper, .host, .hk, .intake, .anode, .guards, .twin],
      [0, 1, 2, 3, 4, 6, 8, 9, 10, 11, 12, 14])
  | .wearRecompute .. => some (
      [.out, .access, .house, .keeper, .host, .hk, .intake, .tone, .guards, .twin],
      [0, 1, 2, 3, 4, 6, 8, 9, 10, 11, 12, 14])
  | .maskVerify .. => some (
      [.out, .access, .house, .keeper, .host, .hk, .intake, .braid, .guards, .twin],
      [0, 1, 2, 3, 4, 6, 8, 9, 10, 11, 12, 14])
  | .fwWatchdog .. | .guardTest .. => some (
      [.out, .access, .house, .keeper, .host, .hk, .intake, .guards, .twin], [0, 1, 2, 3, 4, 6, 8, 9, 10, 11, 12, 13, 14])
  | .caps .. => some (
      [.out, .free, .access, .house, .keeper, .host, .hk, .intake, .timer, .guards, .twin],
      [0, 1, 2, 3, 4, 6, 7, 8, 9, 10, 11, 12, 14])
  | .mirror .. | .commit .. => some (
      [.out, .access, .house, .keeper, .host, .hk, .intake, .braid, .warp, .tone, .timer, .guards, .twin],
      [0, 1, 2, 3, 4, 5, 6, 7, 8, 9, 10, 11, 12, 14])
  | .joinEnter .. => some (
      [.out, .access, .house, .keeper, .host, .hk, .intake, .timer, .guards, .twin],
      [0, 1, 2, 3, 4, 6, 7, 8, 9, 10, 11, 12, 13, 14])
  | .injectGo .. | .injectStop .. => some (
      [.out, .access, .house, .keeper, .host, .hk, .intake, .tone, .anode, .guards, .twin],
      [0, 1, 2, 3, 4, 5, 6, 7, 8, 9, 10, 11, 12, 14])
  | _ => none

end Sys2Proof
end

