-- ==== Sys2Proof/Certificates/Slice0/Obligations.lean ====
section
/-! DEFINITION. The statements about the module that the provers are asked to prove. A `next state` below is the state
that `exec` answers; hypotheses name the state before the command and its operands alone. -/

open Sys2Proof Sys2Proof.Machine Sys2Proof.Machine.Reg

/-- With a command at the front of the queue, a step is that command's exec on the state with the rest of the queue. With an empty queue the module idles, which is the model's
choice (notes/assumptions/1.md). No word spells a command, so withFetchWord changes nothing. -/
def Obligations.StepRunsFrontCommand : Prop :=
  (∀ (c : Instr) (rest : List Instr) (s : State), s.pending = c :: rest → step s = exec c { s with pending := rest }) ∧
  (∀ s : State, s.pending = [] → step s = .next s) ∧
  (∀ (s : State) (nbits w : Nat), decodeTableWord nbits w = none ∧ s.withFetchWord nbits w = s)

/-- Every command in every state answers a next state: none ends in a fault or a refusal. It leaves the queue of waiting commands alone, and the clock of the state does not run backwards. -/
def Obligations.EveryCommandCompletes : Prop :=
  ∀ (c : Instr) (s : State), Does c s (fun s' => s'.pending = s.pending ∧ s.now ≤ s'.now)

/-- From every state in which the enables are deasserted outside the emitting states, a step leads to such a state, whatever the command. -/
def Obligations.LightSafeKept : Prop := ∀ s s' : State, LightSafe s → step s = .next s' → LightSafe s'

/-- From every state whose register file and module DRAM list rising keys and no entry equal to what an unlisted key reads as, a step leads to such a state. Equal contents are thus equal data in
every run. What an unlisted byte of DRAM reads as is the model's choice (notes/assumptions/5.md). -/
def Obligations.FormsKept : Prop :=
  ∀ s s' : State, Canon coldReg s.regs → Mem.wf s.dram → step s = .next s' → Canon coldReg s'.regs ∧ Mem.wf s'.dram

/-- State.reset is the module without input power: Off, nothing waiting, every register at its cold value, no light, the ERR pair off, empty mailboxes, no fault recorded. Both invariants hold of it. Where the spec gives no
reset value the model's is named in the assumption log. -/
def Obligations.ResetState : Prop :=
  State.reset.house.mode = .off ∧ State.reset.pending = [] ∧ (∀ off, State.reset.reg off = (coldReg off).toNat) ∧
  State.reset.house.lightOut = false ∧ State.reset.house.errPin = .off ∧ State.reset.keeper.hist = [] ∧
  (∀ n, State.reset.mbox n = Mbox.empty) ∧ (∀ n, State.reset.holder n = none) ∧
  LightSafe State.reset ∧ Canon coldReg State.reset.regs ∧ Mem.wf State.reset.dram

/-- For each command of the table Instr.quietFrame, in a state that keeps the light rule: every part of the state that the table does not name for it is as the passing of time leaves it, and every register
outside the named blocks of MW0 is unchanged. Among those not named are module DRAM for all but the SURFACE commands and MW2, the emission array, and every flag of another block. -/
def Obligations.QuietFrames : Prop :=
  ∀ (c : Instr) (s : State) (ps : List Part) (bs : List Nat), c.quietFrame = some (ps, bs) → LightSafe s → Framed c s ps bs

/-- For each command of the table Instr.reportFrame, in every state and with whatever faults and reactions it causes: every part that the table does not name for it is as the passing of time leaves it, and every
register outside the named blocks is unchanged. Module DRAM and the latched upper halves are among those for nearly all; the emission array, the mesh, the layers and the frame timer for every command but those that act there. -/
def Obligations.ReportFrames : Prop :=
  ∀ (c : Instr) (s : State) (ps : List Part) (bs : List Nat), c.reportFrame = some (ps, bs) → Framed c s ps bs

/-- A host write of any width to an offset in the GUARD_A or GUARD_B block completes, and changes nothing but the time, whatever the access codes there; the same offset written by a REG_WRITE descriptor is no exception, since its
list of blocks does not hold them. -/
def Obligations.GuardBlocksReadOnly : Prop :=
  (∀ (s : State) (t off bytes : Nat) (v : Word), off / 65536 = 9 ∨ off / 65536 = 10 → LightSafe s →
    NoEffect (.regWrite t .host off bytes v) t s) ∧
  (∀ off : Nat, off / 65536 = 9 ∨ off / 65536 = 10 → regWriteOk off = false)

/-- At an offset that holds no register, a read by any master that reaches MW0 returns 0 and has no side effect, and a write of any width completes and changes nothing but the time. -/
def Obligations.EmptyOffsets : Prop :=
  (∀ (s : State) (m : Master) (off : Nat), regAt off = none → s.regRead m off = (0, s)) ∧
  (∀ (s : State) (t off bytes : Nat) (m : Master) (v : Word), regAt off = none → LightSafe s →
    NoEffect (.regWrite t m off bytes v) t s)

/-- With IDENTITY in use, the footprint of array pixel (x, y) is the canvas point (x, y) alone: its three components and its mask code are those of that point, whatever the banks hold, whichever way the point reaches WARP. A row that
leaves WARP is read from WARP's own windows; of a row that has not yet left, the pixel is that of the canvas (the model's choice, notes/assumptions/16.md). A selection of IDENTITY is refused for no want of a valid bank: only for a
selection that is pending, or at a follower. -/
def Obligations.IdentityMesh : Prop :=
  (∀ (s : State) (x y c : Nat) (f : Nat → Nat → List Nat × Nat), x < 1024 → y < 1024 → c < 3 →
    s.footprint 2 x y = [((x : Int), (y : Int), 65536)] ∧
    (warpBlend (s.footprint 2 x y) f).1.getD c 0 = (f x y).1.getD c 0 ∧
    (warpBlend (s.footprint 2 x y) f).2 = (f x y).2) ∧
  (∀ (s : State) (x y c : Nat), s.get WARP_MESH_STATUS_IN_USE = 2 → x < 1024 → y < 1024 → c < 3 →
    ((s.passRow y).warpPixel x y).1.getD c 0 = (s.windowPoint y x y).1.getD c 0 ∧
    ((s.passRow y).warpPixel x y).2 = (s.windowPoint y x y).2) ∧
  (∀ (s : State) (x y c : Nat), s.get WARP_MESH_STATUS_IN_USE = 2 → x < 1024 → y < 1024 → c < 3 →
    (∀ r ∈ s.warp.comp.rows, r.1 ≠ y) → (s.warpPixel x y).1.getD c 0 = (s.canvas x y).1.getD c 0 ∧
    (s.warpPixel x y).2 = (s.canvas x y).2) ∧
  (∀ s : State, s.selectRejected 2 = (s.flag WARP_MESH_STATUS_PENDING || s.follows))

/-- Where a SPLICE frame is sent, its last four bytes are the CRC-32C of the rest, little-endian, PASS of unit 2 rises by 1 modulo 2^32 and its FAIL is unchanged: for every type, payload and acknowledgement that the twin sends, and for the
STATUS message in particular. -/
def Obligations.AppendMode : Prop :=
  (∀ (s : State) (type ackSeq : Nat) (keep : Option Deadline) (payload : List Nat),
    s.flag (CVU_UNIT_CFG_SELFTEST_OK 2) = true →
    (∃ b : List Nat, (s.sendSplice type keep ackSeq payload).out = .splice (b ++ toBytes 4 (crc32c b)) :: s.out) ∧
    (s.sendSplice type keep ackSeq payload).reg (CVU_UNIT_PASS_OFF 2) = (s.reg (CVU_UNIT_PASS_OFF 2) + 1) % 2 ^ 32 ∧
    (s.sendSplice type keep ackSeq payload).reg (CVU_UNIT_FAIL_OFF 2) = s.reg (CVU_UNIT_FAIL_OFF 2)) ∧
  (∀ (s : State) (t : Nat), s.sendsBoth → Does (.statusSend t) s (fun s' =>
    (∃ b : List Nat, s'.out = .splice (b ++ toBytes 4 (crc32c b)) :: (s.pass t).out) ∧
    s'.reg (CVU_UNIT_PASS_OFF 2) = (s.reg (CVU_UNIT_PASS_OFF 2) + 1) % 2 ^ 32 ∧
    s'.reg (CVU_UNIT_FAIL_OFF 2) = s.reg (CVU_UNIT_FAIL_OFF 2)))

/-- Without the logic supplies, in Off and in STOWED, no event of an island has an effect: terminals, encoders, networks, lanes' light input, mailboxes, the host link and the guards' own checks leave the state to the passing of time, and so does every register write,
of whatever master. -/
def Obligations.UnpoweredIslands : Prop :=
  (∀ (s : State) (t n k : Nat) (g : Guard) (p q : Bool) (b : List Nat) (bits : List Bool) (pc : PcieConf) (e : EccError)
    (c : Instr), s.powered = false →
    LightSafe s → c ∈ [Instr.clockCheck t g n, .terminal t g p q, .encoder t g n bits p, .netFrame t g p n k 64 q b,
      .telegramCheck t g, .telegramSingle t g, .phyPoll t g none, .phyRelease t g, .cvuCopy t, .guardWatchdog t g,
      .guardMemory t g, .hostReset t p, .busMaster t p pc, .watchPoll t, .mboxTorn t n, .mboxReplyTimeout t n, .ping t n,
      .version t n, .badMessage t n, .slotInfo t n, .slotWrite t n, .slotVerify t n, .flashDone t p n, .errHold t,
      .dramEcc t n e, .wearCheckpoint t, .wearRecompute t, .lightInput t n p q] → NoEffect c t s) ∧
  (∀ (s : State) (t off bytes : Nat) (m : Master) (v : Word), s.powered = false → LightSafe s →
    NoEffect (.regWrite t m off bytes v) t s)

/-- Each command that is a write of one register has no effect where the master does not reach MW0 or has no write access to that register. Module firmware has none to the HOST and guard blocks and SPLICE_HOST_EPOCH; GUARD_B has none outside its own block, the locks and
the injection registers, and GUARD_A none outside those and the sector references of TONE. -/
def Obligations.WriteAccess : Prop :=
  (∀ (s : State) (t : Nat) (m : Master) (v : Word) (c : Instr) (off : Nat), LightSafe s → s.writes m off = false →
    (off, c) ∈ [(STRIKE_COMMIT_OFF, Instr.timingCommit t m), (STRIKE_FRAME_LOAD_OFF, .frameLoad t m v),
      (STRIKE_LATE_CLEAR_OFF, .lateClear t m v), (STRIKE_ROW_ERR_CLEAR_OFF, .rowErrClear t m v),
      (STRIKE_TIME_OFFSET_OFF, .timeOffset t m v), (STRIKE_TIME_TRIM_OFF, .timeTrim t m v),
      (STRIKE_PEEK_CTRL_OFF, .peekGo t m v), (STRIKE_DEFECT_INDEX_OFF, .defectIndex t m v),
      (TONE_COMMIT_OFF, .toneCommit t m), (BRAID_LAYER_COMMIT_OFF, .layerCommitReg t m v),
      (BRAID_PROT_INDEX_OFF, .protIndex t m v), (WARP_MESH_SELECT_OFF, .meshSelectReg t m v),
      (INTAKE_EYE_CTRL_OFF, .eyeGo t m v), (HOST_NUDGE_OFF, .hostNudge t m v), (HOST_IRQ_EN_OFF, .irqEnable t m v),
      (MBOX_DBELL_SET_OFF, .dbellSet t m v), (CVU_CLEAR_OFF, .cvuClear t m v), (KEEPER_CLEAR_OFF, .keeperClear t m v),
      (KEEPER_HIST_INDEX_OFF, .histIndex t m v), (KEEPER_INJ_CTRL_OFF, .injectGo t m v),
      (KEEPER_INJ_CTRL_OFF, .injectStop t m v)] → NoEffect c t s) ∧
  (∀ (s : State) (t off bytes : Nat) (m : Master) (v : Word), LightSafe s → m.isFw = true →
    off / 65536 ∈ [2, 9, 10] ∨ off = SPLICE_HOST_EPOCH_OFF → NoEffect (.regWrite t m off bytes v) t s) ∧
  (∀ (s : State) (t off bytes : Nat) (m : Master) (v : Word), LightSafe s → m.isGuard = true →
    off / 65536 ≠ (if m = .guardA then 9 else 10) → off / 65536 ≠ 13 →
    (off < KEEPER_INJ_CTRL_OFF ∨ KEEPER_INJ_HOLD_OFF < off) →
    (m = .guardB ∨ off < TONE_SREF_OFF 0 ∨ TONE_SREF_OFF 256 ≤ off) → NoEffect (.regWrite t m off bytes v) t s)

/-- POWER_GOOD in Off with RESET_N high starts the wake sequence from the Regulator stage: STOWED, SOURCE 3, KIND 0, ATTEMPTS 1,
the fuses loaded, module DRAM empty; with RESET_N held the module is held instead, HELD 1 and no stage running. BROWN_OUT in
STOWED starts it with KIND 1 and remembers the brown-out for the record that BOOT makes. LOCK_OUT outside Off leaves the module
in Off with every register at its cold value, no light and the ERR pair off. The commands keep the boot flash's fault journal. -/
def Obligations.InputPowerCommands : Prop :=
  (∀ (s : State) (t n : Nat) (fuses : List (Nat × Nat)) (bad : Bool), s.house.mode = .off →
    Does (.powerGood t false fuses n bad) s (fun s' => s'.house.mode = .stowed ∧ s'.house.waking = some 0 ∧
      s'.get HOUSE_START_SOURCE = 3 ∧ s'.get HOUSE_START_KIND = 0 ∧ s'.get HOUSE_START_ATTEMPTS = 1 ∧
      s'.get FUSE_STATUS_LOADED = 1 ∧ s'.dram = [] ∧ s'.keeper.journal = s.keeper.journal)) ∧
  (∀ (s : State) (t n : Nat) (fuses : List (Nat × Nat)) (bad : Bool), s.house.mode = .off →
    Does (.powerGood t true fuses n bad) s (fun s' => s'.house.mode = .stowed ∧ s'.house.waking = none ∧
      s'.get HOUSE_START_HELD = 1 ∧ s'.house.resetLow = true ∧ s'.house.errPin = .fault)) ∧
  (∀ (s : State) (t n : Nat) (fuses : List (Nat × Nat)) (bad : Bool), s.house.mode = .stowed →
    Does (.brownOut t false fuses n bad) s (fun s' => s'.house.mode = .stowed ∧ s'.house.waking = some 0 ∧
      s'.get HOUSE_START_SOURCE = 3 ∧ s'.get HOUSE_START_KIND = 1 ∧ s'.house.brownMark = true)) ∧
  (∀ (s : State) (t : Nat), s.house.mode ≠ .off →
    Does (.lockOut t) s (fun s' => s'.house.mode = .off ∧ (∀ off, s'.reg off = (coldReg off).toNat) ∧
      s'.house.lightOut = false ∧ s'.house.errPin = .off ∧ s'.dram = [] ∧ s'.keeper.journal = s.keeper.journal))

/-- RESET_N_ASSERT outside Off, FATAL and a reset that is held already, with no lock held, puts the module into STOWED with HELD 1:
no wake sequence, no light, the ERR pair at fault, module DRAM empty. RESET_N_RELEASE of a held module clears HELD and starts
the wake sequence with SOURCE 2, and with KIND 2 unless the reset was held since input power came. PERST_N_CHANGE records the
level of PERST_N; its assertion on a powered module takes the link down. -/
def Obligations.ResetCommands : Prop :=
  (∀ (s : State) (t : Nat), s.house.mode ≠ .off → s.house.mode ≠ .fatal → s.flag HOUSE_START_HELD = false → s.hk.holder = [] →
    Does (.resetAssert t) s (fun s' => s'.house.mode = .stowed ∧ s'.house.resetLow = true ∧ s'.get HOUSE_START_HELD = 1 ∧
      s'.house.waking = none ∧ s'.house.lightOut = false ∧ s'.house.errPin = .fault ∧ s'.dram = [])) ∧
  (∀ (s : State) (t : Nat), s.flag HOUSE_START_HELD = true →
    Does (.resetRelease t) s (fun s' => s'.house.resetLow = false ∧ s'.get HOUSE_START_HELD = 0 ∧ s'.house.waking = some 0 ∧
      s'.get HOUSE_START_SOURCE = 2 ∧ (s.house.coldPending = false → s'.get HOUSE_START_KIND = 2) ∧
      s'.house.coldPending = false)) ∧
  (∀ (s : State) (t : Nat) (low : Bool), Does (.perstChange t low) s (fun s' => s'.house.perstLow = low)) ∧
  (∀ (s : State) (t : Nat), s.powered = true → s.house.perstLow = false → s.house.config = [] →
    Does (.perstChange t true) s (fun s' => s'.get HOST_LINK_UP = 0 ∧ s'.host.rings = []))

/-- In STOWED, with RESET_N high and no wake sequence or stop sequence in progress, an I2C write of 1 to WAKE, by I2C_WRITE or
WAKE, starts the wake sequence at the Regulator stage with SOURCE 1. I2C_WRITE in every state but Off moves the management
port's pointer past the bytes written. WAKE_STAGE_READY of the running stage starts the next one; of the Logic stage, with
nothing latched to record, it enters BOOT. WAKE_STAGE_TIMEOUT of the running stage sets FAIL_STAGE; below four attempts the
sequence waits for a retry, at the fourth it has failed and the ERR pair is at fault. WAKE_RETRY_DELAY starts the next attempt. -/
def Obligations.WakeCommands : Prop :=
  (∀ (s : State) (t : Nat), s.house.mode = .stowed → s.flag HOUSE_START_HELD = false → s.house.stop = none →
    s.house.waking = none → s.house.retryWait = false → ∀ c, c = .wake t ∨ c = .i2cWrite t 2 [1] →
    Does c s (fun s' => s'.house.waking = some 0 ∧ s'.get HOUSE_START_SOURCE = 1 ∧ s'.get HOUSE_START_ATTEMPTS = 1 ∧
      s'.house.mode = .stowed)) ∧
  (∀ (s : State) (t reg : Nat) (data : List Nat), s.house.mode ≠ .off →
    Does (.i2cWrite t reg data) s (fun s' => s'.house.i2cPtr = (reg + data.length) % 256)) ∧
  (∀ (s : State) (t : Nat) (g : Stage), s.house.waking = some (stageNo g) → g ≠ .logic →
    Does (.stageReady t g) s (fun s' => s'.house.waking = some (stageNo g + 1) ∧ s'.house.mode = s.house.mode)) ∧
  (∀ (s : State) (t : Nat), s.house.waking = some 3 → s.house.brownMark = false → s.house.wakeFail = false →
    s.flag FUSE_STATUS_CORRUPT = false →
    Does (.stageReady t .logic) s (fun s' => s'.house.waking = none ∧ s'.house.mode = .boot ∧ s'.get HOUSE_STATE_STATE = 8)) ∧
  (∀ (s : State) (t : Nat) (g : Stage), s.house.waking = some (stageNo g) → s.get HOUSE_START_ATTEMPTS < 4 →
    Does (.stageTimeout t g) s (fun s' => s'.house.waking = none ∧ s'.house.retryWait = true ∧
      s'.get HOUSE_START_FAIL_STAGE = stageNo g + 1)) ∧
  (∀ (s : State) (t : Nat) (g : Stage), s.house.waking = some (stageNo g) → s.get HOUSE_START_ATTEMPTS = 4 →
    s.house.mode = .stowed →
    Does (.stageTimeout t g) s (fun s' => s'.house.waking = none ∧ s'.house.wakeFail = true ∧
      s'.get HOUSE_START_FAIL_STAGE = stageNo g + 1 ∧ s'.house.errPin = .fault)) ∧
  (∀ (s : State) (t : Nat), s.house.retryWait = true → s.get HOUSE_START_ATTEMPTS < 4 →
    Does (.retryDelay t) s (fun s' => s'.house.waking = some 0 ∧ s'.house.retryWait = false ∧
      s'.get HOUSE_START_ATTEMPTS = s.get HOUSE_START_ATTEMPTS + 1))

/-- BOOT_COMPLETE in BOOT before a halt: under the strap HALT, with every self-test passed, the module stays in BOOT with HALT 1
and KEEPER, where it can record, has BOOT_HALT (code 0x0A05) as its newest record. Under the strap SLOT 0, with every self-test
passed, a usable slot 0 whose configuration passes the check and whose calibration image verifies, and no report that FUSE or the
clocks withhold, the configuration is loaded and the module is released: it is in DARK, or in SAFE where a guard demands it. -/
def Obligations.BootComplete : Prop :=
  (∀ (s : State) (t : Nat) (b : BootData), s.house.mode = .boot → s.flag HOUSE_BOOT_HALT = false → b.selfTest = [] →
    b.bootSel % 4 = 3 → s.records t = true →
    Does (.bootComplete t b) s (fun s' => s'.house.mode = .boot ∧ s'.get HOUSE_BOOT_HALT = 1 ∧
      s'.newest = some (0x0A05, 10, 0))) ∧
  (∀ (s : State) (t : Nat) (b : BootData), s.house.mode = .boot → s.flag HOUSE_BOOT_HALT = false → b.selfTest = [] →
    b.bootSel % 4 = 1 → b.slot0.result = 1 → cfgCheck b.slot0.config = (0, 0) → b.slot0.calFail = 0 →
    Does (.bootComplete t b) s (fun s' => (s'.house.mode = .dark ∨ s'.house.mode = .safe) ∧ s'.house.loaded = true))

/-- PLL_LOCK_LOSS on a powered module: an island's PLL that loses lock joins the unlocked ones, and one that regains it leaves them.
CLOCK_CHECK_WINDOW on a powered module: a deviation above 0.5 % marks the guard's clock bad, any other clears the mark.
DRAM_ECC_ERROR in the module region of a module that can record makes a record of island 9 with subject DRAM: code 0x0901 for a
corrected bit; two bits in error, whether or not a descriptor's access met them, set that fault's open bit and remove the enables. -/
def Obligations.ClockAndMemoryChecks : Prop :=
  (∀ (s : State) (t n : Nat), s.powered = true → n < 12 → s.house.pllUnlocked.contains n = false →
    Does (.pllLock t n false) s (fun s' => s'.house.pllUnlocked = s.house.pllUnlocked ++ [n])) ∧
  (∀ (s : State) (t n : Nat), s.powered = true → n < 12 → s.house.pllUnlocked.contains n = true →
    Does (.pllLock t n true) s (fun s' => s'.house.pllUnlocked = s.house.pllUnlocked.filter (· != n))) ∧
  (∀ (s : State) (t d : Nat) (g : Guard), s.powered = true →
    Does (.clockCheck t g d) s (fun s' => s'.guards.clockBad.contains (guardNo g) = decide (50 < d))) ∧
  (∀ (s : State) (t a : Nat), s.powered = true → modRegion ≤ a → a < dramSize → s.records t = true →
    Does (.dramEcc t a .single) s (fun s' => s'.newest = some (0x0901, 9, subj 19 0))) ∧
  (∀ (s : State) (t a : Nat) (d : Option (Nat × Nat)), s.powered = true → modRegion ≤ a → a < dramSize →
    Does (.dramEcc t a (.double d)) s (fun s' => s'.flag (openBit 28) = true ∧
      s'.get GUARD_A_STATUS_EN_A = 0 ∧ s'.get GUARD_B_STATUS_EN_B = 0))

/-- While the frame timer runs: BEAT_START of beat 1 to 31 with no overlay waiting sets BEAT and changes nothing else, but for
beat 16, whose start takes the second's charge sample where TONE is not stopped; ROW_SLOT of the next row slot before the survey
slot counts it as run, and where a PLL of the pixel path is unlocked the frame's rows are not all received; after the survey slot
has begun it has no effect; a row whose back words take the words sent passes the row check; SURVEY_SLOT of a frame that has not had one moves the frame to its survey phase and, with no survey state, drops no
count of frames; QUIET_INTERVAL follows the survey slot. The row and survey slots need STRIKE not to be stopped. -/
def Obligations.FrameParts : Prop :=
  (∀ (s : State) (t b : Nat), s.timerRuns = true → s.steady = true → LightSafe s → 1 ≤ b → b < 32 → b ≠ 16 →
    exec (.beatStart t b) s = .next ((s.pass t).set STRIKE_BEAT_BEAT b)) ∧
  (∀ (s : State) (t : Nat), s.timerRuns = true → s.steady = true → LightSafe s → s.islandStopped 4 = false →
    exec (.beatStart t 16) s = .next ((s.pass t).set STRIKE_BEAT_BEAT 16).sampleCharge) ∧
  (∀ (s : State) (t k : Nat) (f1 f2 : List (Nat × BitVec 64)), s.timerRuns = true → s.islandStopped 5 = false →
    s.timer.phase = 0 → k = s.timer.rowsRun → k < 512 → Does (.rowSlot t k f1 f2) s (fun s' => s'.timer.rowsRun = k + 1 ∧
      (s.pathLocked = false → s'.timer.rowsOk = false ∧ s'.array.back = s.array.back))) ∧
  (∀ (s : State) (t k : Nat) (f1 f2 : List (Nat × BitVec 64)), s.timer.phase ≠ 0 → LightSafe s →
    NoEffect (.rowSlot t k f1 f2) t s) ∧
  (∀ (s : State) (k q : Nat), (s.writeRow k q []).rowChecks k q = true) ∧
  (∀ (s : State) (t : Nat) (d : SurveyData), s.timerRuns = true → s.islandStopped 5 = false → s.timer.phase = 0 →
    Does (.surveySlot t d) s (fun s' => s'.timer.phase = 1 ∧ s'.array.frames = s.array.frames + 1)) ∧
  (∀ (s : State) (t : Nat), s.timerRuns = true → s.timer.phase = 1 →
    Does (.quietInterval t) s (fun s' => s'.timer.phase = 2 ∧ s'.array = s.array ∧ s'.dram = (s.pass t).dram))

/-- STRIKE while the frame timer runs outside FATAL, with no change or overlay waiting and STRIKE not stopped: where every row
slot ran and every row was received, the front words become the back words and LATE_RUN reads 0; otherwise the front words stay
and LATE_RUN rises by 1 up to 4. Either way the frame boundary is at this moment, the next frame's row slots start from 0 and
BEAT reads 0. CAPTURE_POINT, once a frame, takes the pattern registers where their last write lies at least 50 us back. -/
def Obligations.StrikeAndCapture : Prop :=
  (∀ (s : State) (t : Nat), s.timerRuns = true → s.house.mode ≠ .fatal → s.steady = true → s.islandStopped 5 = false →
    s.timer.rowsRun = 512 → s.timer.rowsOk = true →
    Does (.strike t) s (fun s' => s'.array.front = s.array.back ∧ s'.get STRIKE_STATUS_LATE_RUN = 0 ∧
      s'.timer.boundaryAt = max s.now t ∧ s'.timer.rowsRun = 0 ∧ s'.get STRIKE_BEAT_BEAT = 0)) ∧
  (∀ (s : State) (t : Nat), s.timerRuns = true → s.house.mode ≠ .fatal → s.steady = true → s.islandStopped 5 = false →
    (s.timer.rowsRun < 512 ∨ s.timer.rowsOk = false) →
    Does (.strike t) s (fun s' => s'.array.front = s.array.front ∧
      s'.get STRIKE_STATUS_LATE_RUN = min (s.get STRIKE_STATUS_LATE_RUN + 1) 4 ∧
      s'.timer.boundaryAt = max s.now t ∧ s'.timer.rowsRun = 0 ∧ s'.get STRIKE_BEAT_BEAT = 0)) ∧
  (∀ (s : State) (t : Nat), s.timerRuns = true → s.timer.captureAt ≤ s.timer.boundaryAt → s.steady = true →
    s.array.patternDirty = true → 50000 + s.array.patternAt ≤ max s.now t →
    Does (.capturePoint t) s (fun s' => s'.timer.captureAt = max (max s.now t) (s.timer.boundaryAt + 1) ∧
      s'.array.patternDirty = false ∧ s'.array.pattern.enable = s.flag STRIKE_PATTERN_CTRL_ENABLE ∧
      s'.array.pattern.x0 = s.get STRIKE_PATTERN_ORIGIN_X0 ∧ s'.array.pattern.y1 = s.get STRIKE_PATTERN_END_Y1))

/-- A write that reaches its register, in a light-safe state. TIMING_COMMIT that R75 does not reject stages the committed values
and COMMIT_PENDING reads 1; one that it rejects sets COMMIT_REJ. STRIKE_FRAME_LOAD outside PTP and PARTNER holds the value for the
boundary; under them it sets LOAD_REJ and nothing else. STRIKE_LATE_CLEAR and STRIKE_ROW_ERR_CLEAR with bit 0 set clear their
counters and nothing else. STRIKE_TIME_OFFSET steps module time by its signed value and makes the PTP reference valid;
STRIKE_TIME_TRIM holds the rate limited to 200,000 ppb either way. -/
def Obligations.TimerRegisterWrites : Prop :=
  (∀ (s : State) (t : Nat) (m : Master), (s.pass t).takes m STRIKE_COMMIT_OFF = true → s.timingRejected = false → s.role ≠ 1 →
    LightSafe s → exec (.timingCommit t m) s =
      .next (((s.pass t).timingAccept s.stagedTiming none).wroteNow m STRIKE_COMMIT_OFF)) ∧
  (∀ (s : State) (t : Nat) (m : Master), (s.pass t).takes m STRIKE_COMMIT_OFF = true → s.timingRejected = true →
    Does (.timingCommit t m) s (fun s' => s'.get STRIKE_SYNC_STATUS_COMMIT_REJ = 1 ∧ s'.timer = s.timer)) ∧
  (∀ (s : State) (t : Nat) (m : Master) (v : Word), (s.pass t).takes m STRIKE_FRAME_LOAD_OFF = true → s.activeSource ≠ 2 →
    s.activeSource ≠ 3 →
    Does (.frameLoad t m v) s (fun s' => s'.timer.load = some (v.toNat % 2 ^ 32, max s.now t) ∧ s'.frameNo = s.frameNo)) ∧
  (∀ (s : State) (t : Nat) (m : Master) (v : Word), (s.pass t).takes m STRIKE_FRAME_LOAD_OFF = true → LightSafe s →
    (s.activeSource = 2 ∨ s.activeSource = 3) →
    exec (.frameLoad t m v) s =
      .next (((s.pass t).latch STRIKE_SYNC_STATUS_LOAD_REJ).wroteNow m STRIKE_FRAME_LOAD_OFF)) ∧
  (∀ (s : State) (t : Nat) (m : Master) (v : Word), (s.pass t).takes m STRIKE_LATE_CLEAR_OFF = true → LightSafe s →
    v.toNat % 2 = 1 → exec (.lateClear t m v) s =
      .next (((s.pass t).set STRIKE_STATUS_LATE_COUNT 0).wroteNow m STRIKE_LATE_CLEAR_OFF)) ∧
  (∀ (s : State) (t : Nat) (m : Master) (v : Word), (s.pass t).takes m STRIKE_ROW_ERR_CLEAR_OFF = true → LightSafe s →
    v.toNat % 2 = 1 → exec (.rowErrClear t m v) s =
      .next (((s.pass t).setReg STRIKE_ROW_ERR_OFF 0).wroteNow m STRIKE_ROW_ERR_CLEAR_OFF)) ∧
  (∀ (s : State) (t : Nat) (m : Master) (v : Word), (s.pass t).takes m STRIKE_TIME_OFFSET_OFF = true →
    Does (.timeOffset t m v) s (fun s' => s'.timer.timeVal = (s.pass t).moduleTime + signedBits 32 v.toNat ∧
      s'.timer.timeAt = max s.now t ∧ s'.timer.ptpValid = true ∧ s'.timer.ptpAt = some (max s.now t))) ∧
  (∀ (s : State) (t : Nat) (m : Master) (v : Word), (s.pass t).takes m STRIKE_TIME_TRIM_OFF = true →
    Does (.timeTrim t m v) s (fun s' =>
      s'.reg STRIKE_TIME_TRIM_OFF = twos 32 (clampI (-200000) 200000 (signedBits 32 v.toNat)) ∧
      s'.timer.timeVal = (s.pass t).moduleTime ∧ s'.timer.ptpValid = true))

/-- SYNC_IN_EDGE while the frame timer runs from SYNC_IN, with fewer than fifteen edges taken: the edge's time to 10 ns stands
first. SYNC_EDGE_MISSING there makes the SYNC_IN reference invalid and forgets the edges. PTP_REFERENCE_TIMEOUT 4 s after the last
write makes the PTP reference invalid. HOLD_LIMIT_EXPIRY once HOLDOVER has lasted HOLD_LIMIT takes the lock state to FREE. -/
def Obligations.TimerReferences : Prop :=
  (∀ (s : State) (t : Nat), s.timer.timing.source = 1 → s.timerRuns = true → s.timer.edges.length < 15 →
    Does (.syncEdge t) s (fun s' => s'.timer.edges.head? = some (max s.now t / 10 * 10))) ∧
  (∀ (s : State) (t : Nat), s.timer.timing.source = 1 → s.timerRuns = true →
    Does (.syncMissing t) s (fun s' => s'.timer.syncValid = false ∧ s'.timer.edges = [])) ∧
  (∀ (s : State) (t x : Nat), s.timer.ptpAt = some x → 4000000000 + x ≤ max s.now t →
    Does (.ptpTimeout t) s (fun s' => s'.timer.ptpValid = false)) ∧
  (∀ (s : State) (t : Nat), s.lockState = 4 → 1000000000 * s.holdLimit + s.timer.holdSince ≤ max s.now t →
    Does (.holdLimit t) s (fun s' => s'.lockState = 1 ∧ s'.timer.boundaryAt = s.timer.boundaryAt))

/-- QLINK_TRAINING_LOSS of a quadrant: LINK_UP reads 0 and LINK_ERR 1 for it, and KEEPER that can record has record 0x0508 of it.
QLINK_TRAINED of a quadrant whose retraining a survey slot has begun: LINK_UP reads 1 and nothing else changes. PEEK_GO with GO set
and no capture running: BUSY reads 1 and DONE 0, the pixel is held; with GO set while one runs it changes nothing but the time. DEFECT_JOURNAL_WRITE: the journal takes the map and nothing else
changes. DEFECT_INDEX_WRITE: the index is held, READY reads 1 and the data registers hold the four words of that entry. -/
def Obligations.LinksPeekAndDefects : Prop :=
  (∀ (s : State) (t q : Nat), q < 4 → s.records t = true →
    Does (.qlinkLoss t q) s (fun s' => s'.qlinkUp q = false ∧ s'.flag ⟨STRIKE_QLINK_STATUS_OFF, 16 + q, 1⟩ = true ∧
      s'.newest = some (0x0508, 5, subj 16 q))) ∧
  (∀ (s : State) (t q : Nat), q < 4 → s.array.retrain.contains q = false → LightSafe s →
    exec (.qlinkTrained t q) s = .next ((s.pass t).set ⟨STRIKE_QLINK_STATUS_OFF, q, 1⟩ 1)) ∧
  (∀ (s : State) (t : Nat) (m : Master) (v : Word), (s.pass t).takes m STRIKE_PEEK_CTRL_OFF = true → 2 ^ 31 ≤ v.toNat →
    s.flag STRIKE_PEEK_STATUS_BUSY = false →
    Does (.peekGo t m v) s (fun s' => s'.get STRIKE_PEEK_STATUS_BUSY = 1 ∧ s'.get STRIKE_PEEK_STATUS_DONE = 0 ∧
      s'.get STRIKE_PEEK_CTRL_X = getBits v.toNat 0 10 ∧ s'.get STRIKE_PEEK_CTRL_Y = getBits v.toNat 16 10 ∧
      s'.array.peekWait = 1)) ∧
  (∀ (s : State) (t : Nat) (m : Master) (v : Word), (s.pass t).takes m STRIKE_PEEK_CTRL_OFF = true → 2 ^ 31 ≤ v.toNat →
    s.flag STRIKE_PEEK_STATUS_BUSY = true → LightSafe s →
    exec (.peekGo t m v) s = .next ((s.pass t).wroteNow m STRIKE_PEEK_CTRL_OFF)) ∧
  (∀ (s : State) (t : Nat), LightSafe s → exec (.defectJournal t) s = .next (s.pass t).defectJournal) ∧
  (∀ (s : State) (t : Nat), Does (.defectJournal t) s (fun s' => s'.array.journal = s.array.defects)) ∧
  (∀ (s : State) (t i : Nat) (m : Master) (v : Word), (s.pass t).takes m STRIKE_DEFECT_INDEX_OFF = true → i < 4 →
    Does (.defectIndex t m v) s (fun s' => s'.get STRIKE_DEFECT_INDEX_INDEX = v.toNat % 2 ^ 14 ∧
      s'.get STRIKE_DEFECT_INDEX_READY = 1 ∧
      s'.reg (STRIKE_DEFECT_DATA_OFF i) = (s.defectWords (v.toNat % 2 ^ 14)).getD i 0 % 2 ^ 32))

/-- RAIL_CURRENT_LIMIT of a running buck notes that it limits its current. RAIL_OC_PERSIST and RAIL_VOLTAGE_FAULT of a running
buck stop it: its RUN bit and set point read 0 and the open bit of the fault is set (12 for an overcurrent, 14 above and 15 below the voltage limits).
RAIL_AVERAGE_CHECK of a colour holds its 100 ms average in I_100MS, and stops a running buck whose 10 ms average exceeds 60 A; below that
it stops one whose 1 s average exceeds 42 A, with open bit 13, or whose sectors have differed from the rail in three frames in a row, with open bit 16. RAIL_WAKE_REACHED
in an emitting state notes that the rails are awake. TEMP_SAMPLE holds every sensor's valid reading, and 0x8000 for the others. -/
def Obligations.RailsAndTemperatures : Prop :=
  (∀ (s : State) (t c : Nat), s.buckRuns c = true → LightSafe s → Does (.railLimit t c) s (fun s' => s'.anode.limiting.contains c = true ∧
    s'.regs = s.regs)) ∧
  (∀ (s : State) (t c ma : Nat), c < 4 → s.buckRuns c = true → Does (.railOc t c ma) s (fun s' => s'.buckRuns c = false ∧
    s'.get (ANODE_RAIL_V_VSET c) = 0 ∧ s'.flag (openBit 12) = true ∧ s'.anode.stopped.contains c = true)) ∧
  (∀ (s : State) (t c mv : Nat) (high : Bool), c < 4 → s.buckRuns c = true →
    Does (.railVolt t c high mv) s (fun s' => s'.buckRuns c = false ∧ s'.get (ANODE_RAIL_V_VSET c) = 0 ∧
      s'.flag (openBit (if high then 14 else 15)) = true)) ∧
  (∀ (s : State) (t c i1s i100 i10 : Nat), c < 4 → Does (.railAverage t c i1s i100 i10) s (fun s' =>
    s'.get (ANODE_RAIL_I_I_100MS c) = min i100 0xFFFF ∧
    (s.buckRuns c = true → 6000 < i10 → s'.buckRuns c = false))) ∧
  (∀ (s : State) (t c i1s i100 i10 : Nat), c < 4 → s.buckRuns c = true → i10 ≤ 6000 →
    (4200 < i1s ∨ 3 ≤ sget (fun _ => 0) s.anode.diffRun c) → Does (.railAverage t c i1s i100 i10) s (fun s' =>
      s'.buckRuns c = false ∧ s'.flag (openBit (if 4200 < i1s then 13 else 16)) = true)) ∧
  (∀ (s : State) (t : Nat), s.house.mode.emitting = true → Does (.railWake t) s (fun s' => s'.anode.wakeDone = true ∧
    s'.regs = s.regs)) ∧
  (∀ (s : State) (t : Nat) (raw : List (Option Int)), Does (.tempSample t raw) s (fun s' =>
    (∀ i, i < 45 → s'.get (ANODE_TEMP_TEMP i) = match validTemp (raw.getD i none) with
      | some v => twos 16 v
      | none => 0x8000)))

/-- CHARGE_UPDATE while the frame timer runs and TONE is not stopped counts one update and takes the second's sample, the LFSR
choosing the frame of the next; no emitter's charge count falls (all counts being 32-bit ones), and the array's words stay. WEAR_CHECKPOINT with module firmware ready writes the operating hours and every
count, rounded as stored, with the CRC-32 of them, to the two slots in turn. WEAR_RECOMPUTE with module firmware ready counts one step and leaves the
charge counts and the array alone. -/
def Obligations.ChargeAndWear : Prop :=
  (∀ (s : State) (t : Nat), s.timerRuns = true → s.islandStopped 4 = false → LightSafe s →
    Does (.chargeUpdate t) s (fun s' => s'.tone.updates = s.tone.updates + 1 ∧ s'.tone.sample = [] ∧
      s'.tone.lfsr = Config.lfsrNext s.tone.lfsr ∧ s'.array = s.array ∧ s'.regs = s.regs)) ∧
  (∀ (s : State) (t : Nat), s.timerRuns = true → s.islandStopped 4 = false →
    (∀ e ∈ s.tone.charge, e.2 ≤ 0xFFFFFFFF) →
    Does (.chargeUpdate t) s (fun s' => ∀ e, sget (fun _ => 0) s.tone.charge e ≤ sget (fun _ => 0) s'.tone.charge e)) ∧
  (∀ (s : State) (t : Nat), s.powered = true → s.flag MBOX_STATUS_FW_READY = true → s.tone.ckpts % 2 = 0 →
    Does (.wearCheckpoint t) s (fun s' => s'.tone.ckpts = s.tone.ckpts + 1 ∧ s'.tone.ckptAt = max s.now t ∧
      s'.tone.store1 = s.tone.store1 ∧ s'.tone.store0 = some ⟨(s.pass t).hours, s.tone.ckpts + 1, wearCodes s.tone.charge,
        wearCrc (wearCodes s.tone.charge)⟩)) ∧
  (∀ (s : State) (t : Nat), s.powered = true → s.flag MBOX_STATUS_FW_READY = true → s.tone.ckpts % 2 = 1 →
    Does (.wearCheckpoint t) s (fun s' => s'.tone.ckpts = s.tone.ckpts + 1 ∧ s'.tone.store0 = s.tone.store0 ∧
      s'.tone.store1.map (·.order) = some (s.tone.ckpts + 1))) ∧
  (∀ (s : State) (t : Nat), s.powered = true → s.flag MBOX_STATUS_FW_READY = true →
    Does (.wearRecompute t) s (fun s' => s'.tone.wearSteps = s.tone.wearSteps + 1 ∧ s'.tone.charge = s.tone.charge ∧
      s'.array = s.array))

/-- A write that reaches its register, with the state of the moment before it taken once time has passed. TONE_COMMIT takes the
staged values, or, rejected by R153, sets COMMIT_REJ and nothing else. BRAID_LAYER_COMMIT of a mask whose layers all pass takes
their staged values; a layer that fails is named with its code and nothing else changes. BRAID_PROT_INDEX shows the mask word of the
index with READY 1. WARP_MESH_SELECT that is neither idle nor rejected is pending for its frame; a rejected one sets SEL_REJ and
nothing else. A scaler coefficient is stored while no committed layer uses it; otherwise COEF_REJ is set and nothing else. -/
def Obligations.PathRegisterWrites : Prop :=
  (∀ (s : State) (t : Nat) (m : Master), (s.pass t).takes m TONE_COMMIT_OFF = true → s.toneRejected = false → s.role ≠ 1 → LightSafe s →
    exec (.toneCommit t m) s = .next (((s.pass t).toneAccept s.toneValues none).wroteNow m TONE_COMMIT_OFF)) ∧
  (∀ (s : State) (t : Nat) (m : Master), (s.pass t).takes m TONE_COMMIT_OFF = true → s.toneRejected = true → LightSafe s →
    exec (.toneCommit t m) s = .next (((s.pass t).latch TONE_STATUS_COMMIT_REJ).wroteNow m TONE_COMMIT_OFF)) ∧
  (∀ (s : State) (t : Nat) (m : Master) (v : Word), (s.pass t).takes m BRAID_LAYER_COMMIT_OFF = true → v.toNat % 2 ^ 15 ≠ 0 →
    (s.pass t).commitCode (v.toNat % 2 ^ 15) = none → s.role ≠ 1 → LightSafe s →
    exec (.layerCommitReg t m v) s =
      .next (((s.pass t).layerAccept (v.toNat % 2 ^ 15) none).wroteNow m BRAID_LAYER_COMMIT_OFF)) ∧
  (∀ (s : State) (t code l : Nat) (m : Master) (v : Word), (s.pass t).takes m BRAID_LAYER_COMMIT_OFF = true → v.toNat % 2 ^ 15 ≠ 0 →
    (s.pass t).commitCode (v.toNat % 2 ^ 15) = some (code, l) → LightSafe s →
    exec (.layerCommitReg t m v) s = .next (((s.pass t).layerRejected code l).wroteNow m BRAID_LAYER_COMMIT_OFF)) ∧
  (∀ (s : State) (t : Nat) (m : Master) (v : Word), (s.pass t).takes m BRAID_PROT_INDEX_OFF = true →
    Does (.protIndex t m v) s (fun s' => s'.get BRAID_PROT_INDEX_INDEX = v.toNat % 2 ^ 17 ∧
      s'.get BRAID_PROT_INDEX_READY = 1 ∧ s'.reg BRAID_PROT_DATA_OFF = s.protWord (v.toNat % 2 ^ 17) % 2 ^ 32 ∧
      s'.braid = s.braid)) ∧
  (∀ (s : State) (t : Nat) (m : Master) (v : Word), (s.pass t).takes m WARP_MESH_SELECT_OFF = true →
    s.selectIdle (v.toNat % 4) = false → s.selectRejected (v.toNat % 4) = false →
    Does (.meshSelectReg t m v) s (fun s' => s'.get WARP_MESH_STATUS_PENDING = 1 ∧
      s'.get WARP_MESH_STATUS_PEND_BANK = v.toNat % 4 ∧ s'.get WARP_MESH_STATUS_IN_USE = s.get WARP_MESH_STATUS_IN_USE)) ∧
  (∀ (s : State) (t : Nat) (m : Master) (v : Word), (s.pass t).takes m WARP_MESH_SELECT_OFF = true →
    s.selectRejected (v.toNat % 4) = true → s.selectIdle (v.toNat % 4) = false → LightSafe s →
    exec (.meshSelectReg t m v) s = .next (((s.pass t).latch WARP_MESH_STATUS_SEL_REJ).wroteNow m WARP_MESH_SELECT_OFF)) ∧
  (∀ (s : State) (t off : Nat) (m : Master) (v : Word), (s.pass t).takes m off = true → isCoef off = true → LightSafe s →
    (s.pass t).userFilter ((off - 0x51000) / 0x800) = false →
    exec (.scCoef t m off v) s = .next (((s.pass t).setReg off v.toNat).wroteNow m off))

/-- MESH_LOAD of a descriptor in flight that passes its checks and has not begun, with no other load in progress and Bus Master
Enable set: the image's bank is invalid, LOADING reads 1 and the image waits for its checks. MESH_CHECK_DONE of an image fetched
whole: LOADING reads 0, LOAD_ERR holds the first failing check, the bank is valid exactly where there is none, and the descriptor
ends with success or E_MESH. -/
def Obligations.MeshLoadAndCheck : Prop :=
  (∀ (s : State) (t n : Nat) (d : Desc) (w : List Nat), s.flying n 0 0x20 = some d → d.started = false →
    s.descFails 0 d [(d.p 2 != meshBytes, 3, 0), (d.p 0 % 4 != 0, 4, 0)] = none → d.param 0 % 4 < 2 →
    s.warp.load = none → s.mayMaster = true → headerBad w (d.param 0 % 4) = false → s.bankBusy (d.param 0 % 4) = false →
    Does (.meshLoad t n (.data w)) s (fun s' => s'.get WARP_MESH_STATUS_LOADING = 1 ∧
      s'.flag ⟨WARP_MESH_STATUS_OFF, 8 + d.param 0 % 4, 1⟩ = false ∧
      s'.warp.load = some ⟨d.param 0 % 4, w, n, d.index⟩)) ∧
  (∀ (s : State) (t : Nat) (l : MeshLoad) (d : Desc), s.warp.load = some l → s.flyingAt l.ring l.index 0 0x20 = some d →
    meshBytes ≤ d.used → l.bank < 2 →
    Does (.meshCheck t) s (fun s' => s'.warp.load = none ∧ s'.get WARP_MESH_STATUS_LOADING = 0 ∧
      s'.get WARP_MESH_STATUS_LOAD_ERR = (meshChecks l.words).1 ∧
      s'.flag ⟨WARP_MESH_STATUS_OFF, 8 + l.bank, 1⟩ = decide ((meshChecks l.words).1 = 0) ∧
      ((meshChecks l.words).1 = 0 → s'.ended l.ring l.index (0, 0, 0)) ∧
      ((meshChecks l.words).1 ≠ 0 → s'.ended l.ring l.index (0x0B, (meshChecks l.words).1, (meshChecks l.words).2.1 % 2 ^ 16))))

/-- A NOP in flight on a COMMAND ring ends with success, and one with a failing check ends with that check's status and detail;
nothing else changes. FRAME_WAIT that passes its checks ends at once where its frame is reached or passed, and otherwise waits. -/
def Obligations.NopAndFrameWait : Prop :=
  (∀ (s : State) (t n : Nat) (d : Desc), s.flying n 0 0x01 = some d → s.descFails 0 d [] = none → LightSafe s →
    exec (.nop t n) s = .next ((s.pass t).finish n d.index 0 0 0) ∧ ((s.pass t).finish n d.index 0 0 0).ended n d.index (0, 0, 0)) ∧
  (∀ (s : State) (t n c x : Nat) (d : Desc), s.flying n 0 0x01 = some d → s.descFails 0 d [] = some (c, x) → LightSafe s →
    exec (.nop t n) s = .next ((s.pass t).finish n d.index c x 0)) ∧
  (∀ (s : State) (t n : Nat) (d : Desc), s.flying n 0 0x38 = some d →
    s.descFails 0 d [(!s.timerRuns, 8, s.house.mode.num)] = none → LightSafe s → 0 ≤ frameDiff s.frameNo (d.param 0) →
    exec (.frameWait t n) s = .next ((s.pass t).finish n d.index 0 0 0)) ∧
  (∀ (s : State) (t n : Nat) (d : Desc), s.flying n 0 0x38 = some d →
    s.descFails 0 d [(!s.timerRuns, 8, s.house.mode.num)] = none → LightSafe s → frameDiff s.frameNo (d.param 0) < 0 →
    exec (.frameWait t n) s = .next ((s.pass t).begins n d.index))

/-- Descriptors in flight that pass the common checks, outside a leader. LAYER_SET of a layer with no commit asked stages its
ten words and ends with success. LAYER_MOVE of a layer of a module that does not follow adds a move of its operands and ends with
success. LAYER_COMMIT of a mask whose layers all pass takes their values. MESH_SELECT of a bank that may be taken is pending for its
frame and ends with success. A rejected layer commit ends with E_LAYER and the code of the failure. -/
def Obligations.LayerAndMeshDescriptors : Prop :=
  (∀ (s : State) (t n : Nat) (d : Desc), s.flying n 0 0x10 = some d → s.descFails 0 d [] = none → d.p 0 % 16 ≠ 15 →
    s.follows = false → getBits (d.p 0) 8 1 = 0 → LightSafe s →
    exec (.layerSet t n) s = .next (((s.pass t).stageLayer (d.p 0 % 16)
      ((List.range 10).map (fun i => d.p (1 + i)))).finish n d.index 0 0 0)) ∧
  (∀ (s : State) (t n : Nat) (d : Desc), s.flying n 0 0x11 = some d → s.descFails 0 d [] = none → d.p 0 % 16 ≠ 15 →
    s.follows = false → s.role ≠ 1 →
    Does (.layerMove t n) s (fun s' => s'.ended n d.index (0, 0, 0) ∧ s'.braid.moves = s.braid.moves ++
      [⟨d.p 0 % 16, d.p 1, d.p 2 &&& 0x3FFF3FFF, d.p 3 % 2 ^ 16, max s.now t, none, 0, some n⟩])) ∧
  (∀ (s : State) (t n : Nat) (d : Desc), s.flying n 0 0x12 = some d → s.descFails 0 d [] = none → d.param 0 % 2 ^ 15 ≠ 0 →
    (s.pass t).commitCode (d.param 0 % 2 ^ 15) = none → s.role ≠ 1 →
    Does (.layerCommit t n) s (fun s' => s'.ended n d.index (0, 0, 0) ∧ s'.get BRAID_STATUS_COMMIT_PENDING = 1 ∧
      s'.braid.commit.map (fun c => (c.mask, c.goAt, c.ringOf)) = some (d.param 0 % 2 ^ 15, max s.now t, some n))) ∧
  (∀ (s : State) (t n c l : Nat) (d : Desc), s.flying n 0 0x12 = some d → s.descFails 0 d [] = none →
    d.param 0 % 2 ^ 15 ≠ 0 → (s.pass t).commitCode (d.param 0 % 2 ^ 15) = some (c, l) → LightSafe s →
    exec (.layerCommit t n) s = .next (((s.pass t).layerRejected c l).finish n d.index 0x0A c 0)) ∧
  (∀ (s : State) (t n : Nat) (d : Desc), s.flying n 0 0x21 = some d → s.descFails 0 d [] = none →
    s.selectIdle (d.param 0 % 4) = false → s.selectRejected (d.param 0 % 4) = false →
    Does (.meshSelect t n) s (fun s' => s'.get WARP_MESH_STATUS_PENDING = 1 ∧
      s'.get WARP_MESH_STATUS_PEND_BANK = d.param 0 % 4 ∧
      s'.ended n d.index (0, 0, s'.reg WARP_MESH_TARGET_OFF % 2 ^ 16)))

/-- REG_WRITE of one pair, not begun, that names a plain register of TONE, whose PLL is locked and which no other master of a higher rank
has written in the same cycle, writes it as the host would and ends with success. MODE_REQUEST and
SET_MODE_REQUEST on a module that is no twin and has no change under way, for SERVICE in DARK: the change to SERVICE is under way and
the request waits for it; for the state in force the request ends with success and nothing else changes. -/
def Obligations.RegWriteAndModeRequests : Prop :=
  (∀ (s : State) (t n : Nat) (d : Desc), s.flying n 0 0x18 = some d → s.descFails 0 d [] = none → d.param 0 % 8 = 1 →
    d.p 0 / 65536 = 6 → d.p 0 % 4 = 0 → d.p 0 ≠ TONE_COMMIT_OFF → (regAt (d.p 0)).isSome = true → LightSafe s →
    d.started = false → d.used = 0 → s.stalls (d.p 0) = false → (s.pass t).outranked .host (d.p 0) = false →
    exec (.regWriteDesc t n) s = .next (((((s.pass t).begins n d.index).plainWrite .host (d.p 0) (d.p 1)).wroteNow .host
      (d.p 0)).finish n d.index 0 0 0)) ∧
  (∀ (s : State) (t n : Nat) (d : Desc) (ok : Bool), s.flying n 0 0x30 = some d → d.started = false →
    s.descFails 0 d [] = none → d.param 0 % 16 = 5 → s.house.mode = .dark → s.twinEn = false → s.changing = false →
    (d.param 0 / 256 % 2 = 0 → Does (.modeRequest t n ok) s (fun s' => s'.house.mode = .dark ∧
      s'.house.change.map (fun c => (c.target, c.cause, c.waiter)) = some (.service, 0, some (n, d.index)))) ∧
    (d.param 0 / 256 % 2 = 1 → Does (.setModeRequest t n ok) s (fun s' => s'.house.mode = .dark ∧
      s'.house.change.map (fun c => (c.target, c.cause, c.waiter)) = some (.service, 0, some (n, d.index))))) ∧
  (∀ (s : State) (t n : Nat) (d : Desc) (ok : Bool), s.flying n 0 0x30 = some d → d.started = false →
    s.descFails 0 d [] = none → d.param 0 % 16 < 6 → s.house.mode = modeOf (d.param 0 % 16) → s.twinEn = false → LightSafe s →
    (d.param 0 / 256 % 2 = 0 → exec (.modeRequest t n ok) s = .next ((s.pass t).finish n d.index 0 0 0)) ∧
    (d.param 0 / 256 % 2 = 1 → exec (.setModeRequest t n ok) s = .next ((s.pass t).finish n d.index 0 0 0)))

/-- A descriptor of one row that lies in one aligned block of 512 bytes of module DRAM (of 256 for SURF_COPY), not begun, that passes its
checks, with every earlier one of its ring ended, on a ring whose bucket is above 0, with Bus Master Enable set. SURF_WRITE
with the host's bytes writes them from MOD_ADDR up; SURF_READ sends the bytes from MOD_ADDR up to HOST_ADDR and changes no byte;
SURF_FILL writes the repeated pattern word; SURF_COPY writes at MOD_ADDR the bytes at HOST_ADDR, one after another. Each ends
with success, and leaves every byte outside its destination alone. -/
def Obligations.SurfaceDescriptors : Prop :=
  ∀ (s : State) (t n i op : Nat) (d : Desc), s.flyingAt n i 1 op = some d → d.started = false → d.used = 0 →
    s.surfFails d = none → d.rows = 1 → 1 ≤ d.rowBytes →
    d.modAddr % (if op = 4 then 256 else 512) + d.rowBytes ≤ (if op = 4 then 256 else 512) →
    s.turnOf n i = true → (s.pass t).mayBurst n = true → s.mayMaster = true →
    (op = 1 → ∀ data : List Nat, data.length = d.rowBytes → Does (.surfWrite t n i data none) s (fun s' =>
      s'.ended n i (0, 0, 0) ∧ s'.dram = Mem.writes (s.pass t).dram d.modAddr data ∧
      ∀ a, (a < d.modAddr ∨ d.modAddr + d.rowBytes ≤ a) → Mem.read s'.dram a = Mem.read (s.pass t).dram a)) ∧
    (op = 2 → Does (.surfRead t n i) s (fun s' => s'.ended n i (0, 0, 0) ∧ s'.dram = (s.pass t).dram ∧
      s'.out = .hostBytes d.hostAddr (Mem.reads (s.pass t).dram d.modAddr d.rowBytes) s.host.conf.relaxed ::
        (s.pass t).out)) ∧
    (op = 3 → Does (.surfFill t n i) s (fun s' => s'.ended n i (0, 0, 0) ∧
      (∀ k, k < d.rowBytes → Mem.read s'.dram (d.modAddr + k) = BitVec.ofNat 8 (d.p 8 / 256 ^ (k % 4) % 256)) ∧
      ∀ a, (a < d.modAddr ∨ d.modAddr + d.rowBytes ≤ a) → Mem.read s'.dram a = Mem.read (s.pass t).dram a)) ∧
    (op = 4 → Does (.surfCopy t n i) s (fun s' => s'.ended n i (0, 0, 0) ∧
      s'.dram = Mem.copy (s.pass t).dram d.modByte d.hostByte 0 d.rowBytes ∧
      ∀ a, (a < d.modAddr ∨ d.modAddr + d.rowBytes ≤ a) → Mem.read s'.dram a = Mem.read (s.pass t).dram a))

/-- CAL_BLOCK of a block that passes every check, asks no commit and fits its ring's bucket stages its entries after those staged
before and ends with success; the tables in force stay. A telemetry descriptor of a dump that passes its checks, has entries and
fits its ring's bucket, with every earlier one of its ring ended, sends their words to HOST_ADDR, ends with the generation counters at its
end and its admission (of the sensors, that of the snapshot sent, both times: notes/assumptions/17.md), and changes
neither module DRAM nor the tables it reads. -/
def Obligations.CalBlocksAndDumps : Prop :=
  (∀ (s : State) (t n : Nat) (d : Desc) (w : List Nat), s.flying n 2 0x01 = some d → d.p 2 % 4 = 0 → 32 ≤ d.p 2 →
    s.descFails 2 d [(decide (d.p 2 < 32) || d.p 2 % 4 != 0, 3, 0), (d.p 0 % 4 != 0, 4, 0)] = none → s.mayMaster = true →
    d.p 2 = 32 + 4 * w.getD 2 0 → s.calCode w = 0 → getBits (w.getD 4 0) 0 1 = 0 →
    4 * w.getD 2 0 ≤ d.used + (s.pass t).burstBytes n →
    Does (.calBlock t n (.data w)) s (fun s' => s'.tone.staged = (((w.drop 8).take (w.getD 2 0)).zipIdx.map (fun p =>
      (getBits (w.getD 0 0) 0 8, w.getD 1 0 + p.2, p.1))).reverse ++ s.tone.staged ∧
      s'.get TONE_CAL_STATUS_LAST_ERR = 0 ∧ s'.tone.cal = s.tone.cal ∧ s'.tone.curve = s.tone.curve ∧
      ∃ e ∈ (s'.ring n).inflight, e.index = d.index ∧ e.done.map (·.1) = some 0)) ∧
  (∀ (s : State) (t n i op : Nat) (d : Desc) (c : Instr), s.flyingAt n i 3 op = some d → d.used = 0 → s.mayMaster = true →
    s.turnOf n i = true →
    s.descFails 3 d [(decide (d.p 2 < d.param 1 * (dumpTable op).2), 3, 0), (d.p 0 % 4 != 0, 4, 0),
      (decide ((dumpTable op).1 < d.param 0 + d.param 1), 5, 0)] = none → d.param 1 ≠ 0 →
    (5 ≤ op ∨ d.param 1 * (dumpTable op).2 ≤ (s.pass t).burstBytes n) →
    (op, c) ∈ [(1, Instr.telCharge t n i), (2, .telDrift t n i), (3, .telCalword t n i), (4, .telDefect t n i),
      (5, .telSensors t n i), (6, .telHistory t n i)] →
    Does c s (fun s' => s'.ended n i (0, s.dumpGen op, if op = 5 then s.dumpGen op else d.gen) ∧ s'.dram = (s.pass t).dram ∧ s'.tone = s.tone ∧
      s'.array = s.array ∧ s'.out = .hostWords d.hostAddr
        ((List.range (d.param 1)).flatMap (fun k => s.dumpEntry op (d.param 0 + k))) :: (s.pass t).out))

/-- DESCRIPTOR_FETCH of an outstanding slot stores its sixteen words in index order, and touches nothing in flight. DESCRIPTOR_ADMIT
of the oldest fetched descriptor, where order, FENCE, overlap and quotas admit it, takes it out of the fetched ones and puts its index behind those in
flight; an opcode outside its class ends with E_OPCODE. DESCRIPTOR_COMPLETION on a ring in RUN whose oldest descriptor has ended, with Bus
Master Enable set, writes words 0 to 2 of the record to the slot's address, then word 3 in a later write, and moves HEAD to the next index. -/
def Obligations.DescriptorFetchAdmitComplete : Prop :=
  (∀ (s : State) (t n index : Nat) (w : List Nat), (s.ring n).fetching.contains index = true →
    Does (.descFetch t n index (.data w)) s (fun s' =>
      (s'.ring n).fetched = insertDesc ⟨index, w, 0, 0, false, none, 0⟩ (s.ring n).fetched ∧
      (s'.ring n).fetching = (s.ring n).fetching.filter (fun i => i != index) ∧ (s'.ring n).inflight = (s.ring n).inflight)) ∧
  (∀ (s : State) (t n : Nat) (d : Desc) (rest : List Desc), n < 64 → (s.ring n).fetched = d :: rest →
    (s.pass t).admissible n d = true → Does (.descAdmit t n) s (fun s' => (s'.ring n).fetched = rest ∧
      (s'.ring n).inflight.map (·.index) = (s.ring n).inflight.map (·.index) ++ [d.index] ∧
      s'.get (RING_STATUS_IN_FLIGHT n) = (s.ring n).inflight.length + 1)) ∧
  (∀ (s : State) (t n : Nat) (d : Desc) (rest : List Desc), n < 64 → (s.ring n).fetched = d :: rest →
    (s.pass t).admissible n d = true → d.done = none → opDefined (s.ringClass n) d.op = false →
    Does (.descAdmit t n) s (fun s' => s'.ended n d.index (1, 0, 0))) ∧
  (∀ (s : State) (t n : Nat) (d : Desc) (rest : List Desc) (r : Nat × Nat × Nat), n < 64 →
    (s.ring n).inflight = d :: rest → d.done = some r → s.mayMaster = true → s.ringState n = 1 →
    Does (.descCompletion t n) s (fun s' => (s'.ring n).inflight = rest ∧
      s'.get (RING_HEAD_HEAD n) = (d.index + 1) % 2 ^ 32 ∧ s'.get (RING_STATUS_IN_FLIGHT n) = rest.length % 2 ^ 9 ∧
      ∃ l, s'.out = l ++ .hostWords (s.slotAddr n d.index + 12) ((s.completionWords n d r).drop 3) ::
        .hostWords (s.slotAddr n d.index) ((s.completionWords n d r).take 3) :: (s.pass t).out))

/-- For a write of HOST_RING_nn_CTRL that reaches its register. RING_ENABLE of a ring in OFF whose configuration passes: RUN, with HEAD,
INDEX, CFG_ERR and HALT_ERR 0, ENABLE 1, and nothing fetched or in flight; what the ring has used of DRAM, its bucket and the spacing of its messages stay. A failing configuration is refused with the first CFG_ERR code that
applies and nothing else. RING_DISABLE in RUN: DRAIN while descriptors are in flight, OFF at once where none are; those fetched are dropped. RING_RESET
of a ring in RUN, DRAIN or HALT: RESET with the same indices in flight and nothing fetched. RING_RESET_DONE with none in flight: OFF. -/
def Obligations.RingStates : Prop :=
  (∀ (s : State) (t n : Nat) (m : Master), n < 64 → (s.pass t).takes m (RING_CTRL_OFF n) = true → s.ringState n = 0 →
    s.ringClass n < 5 → 4 ≤ s.get (RING_CFG_LOG2SIZE n) → s.get (RING_CFG_LOG2SIZE n) ≤ 16 →
    s.flag HOST_DBELL_LO_VALID = true → s.house.mode ≠ .boot →
    Does (.ringEnable t m n) s (fun s' => s'.ringState n = 1 ∧ s'.ring n = ((s.pass t).ring n).stopped ∧ s'.get (RING_HEAD_HEAD n) = 0 ∧
      s'.get (RING_INDEX_INDEX n) = 0 ∧ s'.get (RING_STATUS_CFG_ERR n) = 0 ∧ s'.get (RING_STATUS_HALT_ERR n) = 0 ∧
      s'.get (RING_CTRL_ENABLE n) = 1 ∧ s'.get (RING_STATUS_IN_FLIGHT n) = 0 ∧ s'.get (RING_STATUS_PHASE n) = 1)) ∧
  (∀ (s : State) (t n code : Nat) (m : Master), n < 64 → (s.pass t).takes m (RING_CTRL_OFF n) = true → LightSafe s →
    ((code = 5 ∧ s.ringState n ≠ 0) ∨ (code = 1 ∧ s.ringState n = 0 ∧ 5 ≤ s.ringClass n) ∨
      (code = 2 ∧ s.ringState n = 0 ∧ s.ringClass n < 5 ∧
        (s.get (RING_CFG_LOG2SIZE n) < 4 ∨ 16 < s.get (RING_CFG_LOG2SIZE n))) ∨
      (code = 4 ∧ s.ringState n = 0 ∧ s.ringClass n < 5 ∧ 4 ≤ s.get (RING_CFG_LOG2SIZE n) ∧
        s.get (RING_CFG_LOG2SIZE n) ≤ 16 ∧ s.flag HOST_DBELL_LO_VALID = false)) →
    exec (.ringEnable t m n) s = .next (((s.pass t).set (RING_STATUS_CFG_ERR n) code).wroteNow m (RING_CTRL_OFF n))) ∧
  (∀ (s : State) (t n : Nat) (m : Master), n < 64 → (s.pass t).takes m (RING_CTRL_OFF n) = true → s.ringState n = 1 →
    Does (.ringDisable t m n) s (fun s' => s'.get (RING_CTRL_ENABLE n) = 0 ∧ (s'.ring n).fetched = [] ∧
      (s'.ring n).fetching = [] ∧ (s'.ring n).inflight = (s.ring n).inflight ∧
      s'.ringState n = if (s.ring n).inflight = [] then 0 else 2)) ∧
  (∀ (s : State) (t n : Nat) (m : Master), n < 64 → (s.pass t).takes m (RING_CTRL_OFF n) = true → 1 ≤ s.ringState n →
    s.ringState n ≤ 3 → Does (.ringReset t m n) s (fun s' => s'.ringState n = 4 ∧ s'.get (RING_CTRL_ENABLE n) = 0 ∧
      (s'.ring n).fetched = [] ∧ (s'.ring n).inflight.map (·.index) = (s.ring n).inflight.map (·.index))) ∧
  (∀ (s : State) (t n : Nat), n < 64 → s.ringState n = 4 → (s.ring n).inflight = [] →
    Does (.ringResetDone t n) s (fun s' => s'.ringState n = 0 ∧ s'.ring n = ((s.pass t).ring n).stopped ∧
      s'.get (RING_CTRL_ENABLE n) = 0))

/-- WATCH_POLL with the module powered and Bus Master Enable set: every line that serves an active ring has a read outstanding, and FAST falls to SLOW
once IDLE rounds have ended without a change. HOST_NUDGE that reaches its register puts the watcher in FAST with no idle rounds, and reads each active line that it
names, whatever reads are outstanding. A good DOORBELL_LINE_READ of the one read outstanding ends the line's read, and a ring in RUN takes a later INDEX within its size. A failing one names the line's address and the kind of failure in
HOST_DMA_ERR and raises RING_ERR; the third in a row halts every ring of the line that is in RUN, with HALT_ERR 3. -/
def Obligations.DoorbellWatcher : Prop :=
  (∀ (s : State) (t : Nat), s.powered = true → s.mayMaster = true → Does (.watchPoll t) s (fun s' =>
    (∀ g, g < 8 → s.lineActive g = true → s'.host.linesOut.contains g = true) ∧
    (s.flag HOST_WATCH_STATUS_FAST = true → max 1 (s.get HOST_WATCH_IDLE) ≤ s.host.idleRounds →
      s'.flag HOST_WATCH_STATUS_FAST = false ∧ s'.host.idleRounds = 0) ∧
    (s.flag HOST_WATCH_STATUS_FAST = true → s.host.idleRounds < max 1 (s.get HOST_WATCH_IDLE) →
      s'.flag HOST_WATCH_STATUS_FAST = true ∧ s'.host.idleRounds = s.host.idleRounds + 1))) ∧
  (∀ (s : State) (t : Nat) (m : Master) (v : Word), (s.pass t).takes m HOST_NUDGE_OFF = true → Does (.hostNudge t m v) s (fun s' =>
    s'.flag HOST_WATCH_STATUS_FAST = true ∧ s'.host.idleRounds = 0 ∧
    ∀ g, g < 8 → s.lineActive g = true → s.mayMaster = true → v.toNat % 256 = 0 ∨ v.toNat / 2 ^ g % 2 = 1 →
      Output.hostRead (s.lineAddr g) 64 ∈ s'.out)) ∧
  (∀ (s : State) (t g k : Nat) (w : List Nat), g < 8 → k < 8 → s.host.linesOut.count g = 1 →
    s.ringState (8 * g + k) = 1 → s.ringClass (8 * g + k) < 4 →
    0 ≤ frameDiff (w.getD (2 * k) 0 % 2 ^ 32) (s.get (RING_INDEX_INDEX (8 * g + k))) →
    (2 ^ 32 + w.getD (2 * k) 0 % 2 ^ 32 - s.get (RING_HEAD_HEAD (8 * g + k))) % 2 ^ 32 ≤ s.ringSize (8 * g + k) →
    Does (.lineRead t g (.data w)) s (fun s' => s'.host.linesOut.contains g = false ∧
      s'.get (RING_INDEX_INDEX (8 * g + k)) = w.getD (2 * k) 0 % 2 ^ 32)) ∧
  (∀ (s : State) (t g : Nat) (r : HostRead (List Nat)), g < 8 → s.host.linesOut.contains g = true → r.kind ≠ 0 →
    Does (.lineRead t g r) s (fun s' => s'.get HOST_DMA_ERR_INFO_KIND = r.kind ∧
      s'.reg HOST_DMA_ERR_LO_OFF = s.lineAddr g % 2 ^ 32 ∧ s'.flag ⟨HOST_IRQ_CAUSE_OFF, 6, 1⟩ = true ∧
      (2 ≤ sget (fun _ => 0) s.host.lineFails g → ∀ k, k < 8 → s.ringState (8 * g + k) = 1 →
        s'.ringState (8 * g + k) = 3 ∧ s'.get (RING_STATUS_HALT_ERR (8 * g + k)) = 3)))

/-- IRQ_HOLDOFF_EXPIRY of a ring whose cause waits, once HOLDOFF has passed since its last message, sends the vector's message, or sets its pending bit
where the vector is masked. IRQ_ENABLE_WRITE that reaches its register takes the low eight bits, and sends a message for each enable that
becomes 1 while its cause is set (an unmasked vector, with Bus Master Enable set). BUS_MASTER_ENABLE: set in D0, all that waited goes out in order, but
for a message whose vector is masked, which becomes pending; cleared, nothing goes out. PCIE_LINK_UP in a powered module with PERST_N released: HOST_LINK shows the link, its width, its speed and PTM. -/
def Obligations.HostLinkAndInterrupts : Prop :=
  (∀ (s : State) (t n x : Nat), n < 64 → (s.ring n).msgWaits = true → (s.ring n).lastMsg = some x →
    x + s.get (RING_CFG_HOLDOFF n) * 1000 ≤ max s.now t → s.mayMaster = true →
    Does (.irqHoldoff t n) s (fun s' => (s'.ring n).msgWaits = false ∧ (s'.ring n).lastMsg = some (max s.now t) ∧
      (s.flag (MSIX_CTRL_MASK n) = false → s'.out = .msix n :: (s.pass t).out) ∧
      (s.flag (MSIX_CTRL_MASK n) = true → s'.flag ⟨MSIX_PBA_OFF (n / 32), n % 32, 1⟩ = true))) ∧
  (∀ (s : State) (t : Nat) (m : Master) (v : Word), (s.pass t).takes m HOST_IRQ_EN_OFF = true → Does (.irqEnable t m v) s (fun s' =>
    s'.get HOST_IRQ_EN_EN = v.toNat % 256 ∧
    ∀ k, k < 8 → v.toNat / 2 ^ k % 2 = 1 → s.get HOST_IRQ_EN_EN / 2 ^ k % 2 = 0 →
      s.flag ⟨HOST_IRQ_CAUSE_OFF, k, 1⟩ = true → s.flag (MSIX_CTRL_MASK (64 + k)) = false → s.mayMaster = true →
      Output.msix (64 + k) ∈ s'.out)) ∧
  (∀ (s : State) (t : Nat) (c : PcieConf), s.powered = true → c.d3hot = false →
    (∀ v, Output.msix v ∈ s.host.stalled → s.flag (MSIX_CTRL_MASK v) = false) → Does (.busMaster t true c) s (fun s' =>
      s'.flag HOST_LINK_BME = true ∧ s'.host.conf = c ∧ s'.host.stalled = [] ∧ s'.out = s.host.stalled ++ (s.pass t).out)) ∧
  (∀ (s : State) (t v : Nat) (c : PcieConf), s.powered = true → c.d3hot = false → v < 72 → s.host.stalled = [.msix v] →
    s.flag (MSIX_CTRL_MASK v) = true → Does (.busMaster t true c) s (fun s' =>
      s'.flag ⟨MSIX_PBA_OFF (v / 32), v % 32, 1⟩ = true ∧ s'.out = (s.pass t).out)) ∧
  (∀ (s : State) (t : Nat) (c : PcieConf), s.powered = true → Does (.busMaster t false c) s (fun s' =>
    s'.flag HOST_LINK_BME = false ∧ s'.host.conf = c ∧ s'.host.stalled = s.host.stalled ∧ s'.out = (s.pass t).out)) ∧
  (∀ (s : State) (t width speed : Nat) (ptm : Bool), s.powered = true → s.house.perstLow = false →
    s.flag HOST_LINK_UP = false → Does (.pcieUp t width speed ptm) s (fun s' => s'.flag HOST_LINK_UP = true ∧
      s'.get HOST_LINK_WIDTH = width % 8 ∧ s'.get HOST_LINK_SPEED = speed % 16 ∧ s'.flag HOST_LINK_PTM = ptm))

/-- HOST_RESET of a powered module whose configuration gives no HOST register, with no lock of the host held: every ring is OFF and empty, no line read is
outstanding, nothing waits in MW2, Bus Master Enable and PTM are 0, LINK_UP follows the link, and module DRAM and the mode stay. MW2_ACCESS that reaches the module inside
the 8 GiB, with none waiting and room for all of it in its bucket: a write stores its bytes below the module region, discards the rest, and leaves
every other byte alone; a read returns the bytes below the module region and 0 above it. -/
def Obligations.HostResetAndMw2 : Prop :=
  (∀ (s : State) (t : Nat) (up : Bool), s.powered = true → s.house.config.all (fun e => !hostBlock e.1) = true →
    s.hk.holder.all (fun h => h.2 != .host) = true → Does (.hostReset t up) s (fun s' =>
      (∀ n, n < 64 → s'.ringState n = 0 ∧ s'.ring n = Ring.off) ∧ s'.host.linesOut = [] ∧ s'.host.mw2Wait = [] ∧
      s'.flag HOST_LINK_BME = false ∧ s'.flag HOST_LINK_PTM = false ∧ s'.flag HOST_LINK_UP = (up && s.flag HOST_LINK_UP) ∧
      s'.dram = (s.pass t).dram ∧ s'.house.mode = s.house.mode)) ∧
  (∀ (s : State) (t addr : Nat) (data : List Nat) (len : Nat), s.reaches .host = true → s.host.mw2Wait = [] →
    addr + data.length ≤ dramSize → (s.pass t).host.mw2Debt < bucketMax →
    (s.pass t).host.mw2Debt + data.length ≤ bucketMax →
    Does (.mw2Access t true addr data len) s (fun s' =>
      s'.dram = Mem.writes s.dram addr (data.take (modRegion - addr)) ∧
      ∀ a, (a < addr ∨ addr + data.length ≤ a ∨ modRegion ≤ a) → Mem.read s'.dram a = Mem.read s.dram a)) ∧
  (∀ (s : State) (t addr : Nat) (data : List Nat) (len : Nat), s.reaches .host = true → s.host.mw2Wait = [] →
    addr + len ≤ dramSize → (s.pass t).host.mw2Debt < bucketMax → (s.pass t).host.mw2Debt + len ≤ bucketMax →
    Does (.mw2Access t false addr data len) s (fun s' => s'.dram = s.dram ∧
      s'.out = .mw2Data (Mem.reads s.dram addr (min len (modRegion - addr)) ++
        List.replicate (len - min len (modRegion - addr)) 0) :: (s.pass t).out))

/-- A push that reaches its channel completes a message when it holds LEN + 1 words, which then stands in the TX queue, and otherwise
adds to the incomplete one; with the queue full it discards the incomplete message and sets DROP. A read of MBOX_n_RX of any width returns the addressed bytes of the next word of the head
message and takes it out; with none it returns 0 and sets UNDER. MBOX_TORN_TIMEOUT 10 ms after a header discards an incomplete message
and sets TORN. MBOX_REPLY_TIMEOUT 10 ms after a reply began to wait for room discards it and KEEPER records MBOX_TIMEOUT. A reset empties the channel and tells firmware which one. -/
def Obligations.MailboxQueues : Prop :=
  (∀ (s : State) (t n : Nat) (m : Master) (v : Word), n < 8 → (s.pass t).takes m (MBOX_TX_OFF n) = true → (s.mbox n).txCount ≠ 8 →
    Does (.mboxTx t m n v) s (fun s' =>
      if ((s.mbox n).txPart ++ [v.toNat]).length = msgLen (((s.mbox n).txPart ++ [v.toNat]).getD 0 0) + 1
      then (s'.mbox n).tx = (s.mbox n).tx ++ [(s.mbox n).txPart ++ [v.toNat]] ∧ (s'.mbox n).txPart = [] ∧ (s'.mbox n).spoken = true
      else (s'.mbox n).tx = (s.mbox n).tx ∧ (s'.mbox n).txPart = (s.mbox n).txPart ++ [v.toNat])) ∧
  (∀ (s : State) (t n : Nat) (m : Master) (v : Word), n < 8 → (s.pass t).takes m (MBOX_TX_OFF n) = true → (s.mbox n).txCount = 8 →
    Does (.mboxTx t m n v) s (fun s' => (s'.mbox n).tx = (s.mbox n).tx ∧ (s'.mbox n).txPart = [] ∧
      s'.flag (MBOX_TX_STATUS_DROP n) = true)) ∧
  (∀ (s : State) (t n w : Nat) (m : Reader) (r : List Nat) (rest : List (List Nat)), n < 8 → s.reaches m.master = true →
    s.stalls (MBOX_RX_OFF n) = false → (s.mbox n).rx = (w :: r) :: rest → (s.mbox n).rxWait = [] →
    Does (.mboxRx t m n) s (fun s' => s'.out = .readData (cutRead m.sub m.bytes w) :: (s.pass t).out ∧ (s'.mbox n).rx = (if r = [] then rest else r :: rest) ∧
      (s'.mbox n).tx = (s.mbox n).tx)) ∧
  (∀ (s : State) (t n : Nat) (m : Reader), n < 8 → s.reaches m.master = true → s.stalls (MBOX_RX_OFF n) = false →
    (s.mbox n).rx = [] → LightSafe s →
    exec (.mboxRx t m n) s = .next (((s.pass t).latch (MBOX_RX_STATUS_UNDER n)).emit (.readData 0))) ∧
  (∀ (s : State) (t n : Nat), n < 8 → s.powered = true → (s.mbox n).txPart ≠ [] →
    10000000 + (s.mbox n).txSince ≤ max s.now t → Does (.mboxTorn t n) s (fun s' => (s'.mbox n).txPart = [] ∧
      (s'.mbox n).tx = (s.mbox n).tx ∧ s'.flag (MBOX_TX_STATUS_TORN n) = true)) ∧
  (∀ (s : State) (t n x : Nat) (w : List Nat), n < 8 → s.powered = true → (s.mbox n).rxWait = [(w, x)] →
    10000000 + x ≤ max s.now t → Does (.mboxReplyTimeout t n) s (fun s' => (s'.mbox n).rxWait = [] ∧
      (s'.mbox n).rx = (s.mbox n).rx ∧ (s.records t = true → s'.newest = some (0x0A01, 10, subj 17 n)))) ∧
  (∀ (s : State) (t n : Nat) (m : Master) (v : Word), n < 8 → (s.pass t).takes m (MBOX_CH_CTRL_OFF n) = true → v.toNat % 2 = 1 →
    Does (.mboxReset t m n v) s (fun s' => s'.mbox n = Mbox.empty ∧ s'.flag ⟨MBOX_DBELL_OFF, n, 1⟩ = false ∧
      s'.flag ⟨MBOX_DBELL_OFF, 8 + n, 1⟩ = false ∧
      sget (fun _ => 0) s'.hk.resets n = sget (fun _ => 0) s.hk.resets n + 1))

/-- A good request at the head of a served channel with room for its reply is taken and answered: PING with no word, VERSION with FW_VERSION and
HOUSE_BOOT_SLOT, SLOT_INFO with what both slots hold, or status 1 in a state without the service, SLOT_WRITE, SLOT_VERIFY and SLOT_ACTIVATE
with their status. A SLOT_WRITE of status 0 clears the slot's verified bit and its activation and begins; a SLOT_VERIFY of status 0 begins; a SLOT_ACTIVATE
of status 0 without RESTART gives its slot a COUNT one above the other's. Any other message gets BAD_MESSAGE with its header.
FLASH_DONE ends the operation: a SLOT_WRITE has programmed its bytes, and a SLOT_VERIFY that finds a good slot has set its verified bit. -/
def Obligations.FirmwareRequests : Prop :=
  (∀ (s : State) (t ch : Nat) (msg : List Nat) (rest : List (List Nat)), s.asked ch 0 msg rest →
    Does (.ping t ch) s (fun s' => s'.replied s ch msg rest [])) ∧
  (∀ (s : State) (t ch : Nat) (msg : List Nat) (rest : List (List Nat)), s.asked ch 1 msg rest →
    Does (.version t ch) s (fun s' => s'.replied s ch msg rest [s.get HOUSE_FW_VERSION, s.get HOUSE_BOOT_SLOT])) ∧
  (∀ (s : State) (t ch : Nat) (msg : List Nat) (rest : List (List Nat)), ch < 8 → s.powered = true → s.serves = true →
    (s.mbox ch).got = [] → (s.mbox ch).tx = msg :: rest → s.goodRequest msg = false → (s.mbox ch).rxWait = [] → (s.mbox ch).rxCount ≤ 2 →
    Does (.badMessage t ch) s (fun s' => (s'.mbox ch).tx = rest ∧ (s'.mbox ch).rx = (s.mbox ch).rx ++
      [[0xFFFF0001 + 2 ^ 8 * msgSeq (msg.getD 0 0), msg.getD 0 0]])) ∧
  (∀ (s : State) (t ch : Nat) (msg : List Nat) (rest : List (List Nat)), s.asked ch 0x100 msg rest →
    Does (.slotInfo t ch) s (fun s' => s'.replied s ch msg rest (if s.slotState = true then
      [s.get HOUSE_BOOT_SLOT + 4 * s.preferred + 16 * bit (s.slot 0).verified + 32 * bit (s.slot 1).verified,
        (s.slot 0).generation, (s.slot 1).generation, (s.slot 0).fwVersion, (s.slot 1).fwVersion] else [1, 0, 0, 0, 0]))) ∧
  (∀ (s : State) (t ch st : Nat) (msg : List Nat) (rest : List (List Nat)), s.asked ch 0x101 msg rest → msg.getD 4 0 ≠ 0 →
    s.slotWriteStatus (msg.getD 1 0 % 2) (msg.getD 2 0) (msg.getD 3 0 + 2 ^ 32 * (msg.getD 1 0 / 2 ^ 8 % 2)) (msg.getD 4 0) = st →
    Does (.slotWrite t ch) s (fun s' => s'.replied s ch msg rest [st] ∧
      (st ≠ 0 → s'.house.flashOp = s.house.flashOp ∧ s'.house.slots = s.house.slots) ∧
      (st = 0 → s'.house.flashOp = some ⟨ch, 0x101, msg.getD 1 0 % 2, msg.getD 2 0,
          msg.getD 3 0 + 2 ^ 32 * (msg.getD 1 0 / 2 ^ 8 % 2), msg.getD 4 0⟩ ∧
        (s'.slot (msg.getD 1 0 % 2)).verified = false ∧ (s'.slot (msg.getD 1 0 % 2)).activation = none))) ∧
  (∀ (s : State) (t ch : Nat) (msg : List Nat) (rest : List (List Nat)), s.asked ch 0x102 msg rest → s.slotState = true →
    s.house.flashOp = none → Does (.slotVerify t ch) s (fun s' => s'.replied s ch msg rest [0] ∧
      s'.house.flashOp = some ⟨ch, 0x102, msg.getD 1 0 % 2, 0, 0, 0⟩ ∧ s'.house.slots = s.house.slots)) ∧
  (∀ (s : State) (t ch : Nat) (msg : List Nat) (rest : List (List Nat)), s.asked ch 0x103 msg rest → s.slotState = true →
    s.house.flashOp = none → (s.slot (msg.getD 1 0 % 2)).verified = true → msg.getD 1 0 / 2 ^ 8 % 2 = 0 →
    Does (.slotActivate t ch) s (fun s' => s'.replied s ch msg rest [0] ∧ (s'.slot (msg.getD 1 0 % 2)).activation =
      some (match (s.slot (1 - msg.getD 1 0 % 2)).activation with | some c => (c + 1) % 2 ^ 32 | none => 1))) ∧
  (∀ (s : State) (t : Nat) (f : FlashOp), s.powered = true → s.house.flashOp = some f →
    (f.code = 0x101 → Does (.flashDone t true 1) s (fun s' => s'.house.flashOp = none ∧ (s'.slot f.slot).bytes =
      programmed (s.slot f.slot).bytes f.off f.len (Mem.reads (s.pass t).dram f.addr f.len))) ∧
    (f.code = 0x102 → Does (.flashDone t true 1) s (fun s' => s'.house.flashOp = none ∧ (s'.slot f.slot).verified = true)))

/-- A write of MBOX_DBELL_SET sets bits [31:24], and notifies firmware of each whose mask bit is 1. A read of any width of a free lock by a master that may hold it acquires it, with COUNT one higher, for the reader or for the
highest-ranked master that reads it in the same cycle, and returns BUSY, the owner and the count; a read of a lock that another master holds returns BUSY 1 and changes nothing. The holder's write with bit 0
set frees the lock; a write of another master counts in MISRELEASE and changes nothing else. FW_WATCHDOG_EXPIRY of running firmware: RECOVERY
1, FW_READY 0, no lock of a housekeeping core, and KEEPER records it where none was held. FW_READY: FW_READY 1, RECOVERY 0, and doorbell bit 16 set. -/
def Obligations.LocksAndRecovery : Prop :=
  (∀ (s : State) (t : Nat) (m : Master) (v : Word), (s.pass t).takes m MBOX_DBELL_SET_OFF = true →
    Does (.dbellSet t m v) s (fun s' => s'.get MBOX_DBELL_TO_FW_SIG = s.get MBOX_DBELL_TO_FW_SIG ||| v.toNat / 2 ^ 24 ∧
      s'.hk.bells = s.hk.bells + ((List.range 8).filter (fun k => decide (v.toNat / 2 ^ (24 + k) % 2 = 1) &&
        s.flag ⟨MBOX_DBELL_MASK_OFF, 24 + k, 1⟩)).length)) ∧
  (∀ (s : State) (t n : Nat) (r : Reader) (w : Master), n < 16 → s.reaches r.master = true → s.stalls (LOCK_OFF n) = false →
    (r.master = .host → n < 12) → s.holder n = none → (s.pass t).lockWinner n r.master = w →
    Does (.lockRead t n r) s (fun s' => s'.holder n = some w ∧ s'.flag (LOCK_PEEK_HELD n) = true ∧
      s'.get (LOCK_PEEK_COUNT n) = (s.get (LOCK_PEEK_COUNT n) + 1) % 2 ^ 16 ∧
      s'.out = .readData (cutRead r.sub r.bytes (2 ^ 31 * bit (w != r.master) + 2 ^ 24 * w.owner +
        ((s.get (LOCK_PEEK_COUNT n) + 1) % 2 ^ 16) * 2 ^ 8)) :: (s.pass t).out)) ∧
  (∀ (s : State) (n : Nat) (m : Master), m.rank ≤ (s.lockWinner n m).rank ∧
    (∀ c ∈ s.pending.filterMap (s.contends n), c.rank ≤ (s.lockWinner n m).rank) ∧
    (s.pending = [] → s.lockWinner n m = m)) ∧
  (∀ (s : State) (t n : Nat) (r : Reader) (h : Master), n < 16 → s.reaches r.master = true → s.stalls (LOCK_OFF n) = false →
    s.holder n = some h → h ≠ r.master → LightSafe s →
    exec (.lockRead t n r) s = .next ((s.pass t).emit (.readData (cutRead r.sub r.bytes (s.lockWord n true))))) ∧
  (∀ (s : State) (t n : Nat) (m : Master) (v : Word), n < 16 → (s.pass t).takes m (LOCK_OFF n) = true → s.holder n = some m →
    v.toNat % 2 = 1 → Does (.lockRelease t m n v) s (fun s' => s'.holder n = none ∧ s'.flag (LOCK_PEEK_HELD n) = false ∧
      s'.get (LOCK_PEEK_OWNER n) = 15 ∧ s'.get (LOCK_PEEK_COUNT n) = s.get (LOCK_PEEK_COUNT n))) ∧
  (∀ (s : State) (t n : Nat) (m : Master) (v : Word), n < 16 → (s.pass t).takes m (LOCK_OFF n) = true → s.holder n ≠ some m →
    LightSafe s → exec (.lockRelease t m n v) s =
      .next (((s.pass t).bump LOCK_ERR_MISRELEASE).wroteNow m (LOCK_OFF n))) ∧
  (∀ (s : State) (t : Nat), s.powered = true → s.flag MBOX_STATUS_FW_READY = true → Does (.fwWatchdog t) s (fun s' =>
    s'.flag MBOX_STATUS_RECOVERY = true ∧ s'.flag MBOX_STATUS_FW_READY = false ∧
    s'.hk.holder.all (fun h => !h.2.isFw) = true ∧
    (s.hk.holder.all (fun h => !h.2.isFw) = true → s.records t = true → s'.newest = some (0x0A09, 10, subj 14 10)))) ∧
  (∀ (s : State) (t : Nat), s.powered = true → s.romServes = false → s.flag MBOX_STATUS_FW_READY = false →
    Does (.fwReady t) s (fun s' => s'.flag MBOX_STATUS_FW_READY = true ∧ s'.flag MBOX_STATUS_RECOVERY = false ∧
      s'.flag ⟨MBOX_DBELL_OFF, 16, 1⟩ = true))

/-- STOP_CHECKPOINT_DONE, ISLAND_STOP_ANSWER and ISLAND_STOP_TIMEOUT each run to their end. While a stop sequence has asked no island yet and HOUSE's PLL is locked,
STOP_CHECKPOINT_DONE writes a wear checkpoint and the journal of the defect map, and the first island is asked. An island that accepts, and may accept, hands over to the next, INTAKE stopping its frames; when the
eleventh accepts, and no wake event is held, the module is in STOWED and no lock is held. An island that refuses, or may not accept, or does not answer, ends the sequence: STOP_REFUSED 1 with the island's
number, the state of the module stays, and the request of a ring ends. -/
def Obligations.StopSequence : Prop :=
  (∀ (s : State) (t : Nat) (q : StopSeq), s.house.stop = some q → q.asking = false →
    s.house.pllUnlocked.contains 10 = false → LightSafe s → exec (.stopCheckpoint t) s =
      .next { ((s.pass t).checkpoint (s.pass t).hours).defectJournal with
        house := { s.house with stop := some { q with asking := true } } }) ∧
  (∀ (s : State) (t : Nat) (q : StopSeq), s.house.stop = some q → q.asking = false →
    s.house.pllUnlocked.contains 10 = false → ∃ s', exec (.stopCheckpoint t) s = .next s' ∧
      s'.house.stop = some { q with asking := true } ∧ s'.tone.ckpts = s.tone.ckpts + 1 ∧
      s'.array.journal = s.array.defects ∧ s'.house.mode = s.house.mode) ∧
  (∀ (s : State) (t : Nat) (q : StopSeq), s.house.stop = some q → q.asking = true → 0 < q.stopped → q.stopped < 10 →
    s.stopRefuses (stopOrder.getD q.stopped 0) q.waiter = false → LightSafe s → exec (.stopAnswer t true) s =
      .next { s.pass t with house := { s.house with stop := some { q with stopped := q.stopped + 1 } } }) ∧
  (∀ (s : State) (t : Nat) (q : StopSeq), s.house.stop = some q → q.asking = true → q.stopped = 0 →
    ∃ s', exec (.stopAnswer t true) s = .next s' ∧ s'.house.stop = some { q with stopped := 1 } ∧
      s'.intake.stopped = true ∧ (∀ m, m < 8 → (s'.stream m).frame = none) ∧ s'.house.mode = s.house.mode) ∧
  (∀ (s : State) (t : Nat) (q : StopSeq), s.house.stop = some q → q.asking = true → q.stopped = 10 →
    s.house.heldWake = none → s.stopRefuses 1 q.waiter = false → ∃ s', exec (.stopAnswer t true) s = .next s' ∧
      s'.house.stop = none ∧ s'.house.mode = .stowed ∧ s'.get HOUSE_STATE_STATE = 0 ∧ s'.hk.holder = []) ∧
  (∀ (s : State) (t : Nat) (q : StopSeq), s.house.stop = some q → q.asking = true → LightSafe s →
    exec (.stopTimeout t) s = .next ((s.pass t).stopRefused q (stopOrder.getD q.stopped 0)) ∧
    exec (.stopAnswer t false) s = .next ((s.pass t).stopRefused q (stopOrder.getD q.stopped 0)) ∧
    (s.stopRefuses (stopOrder.getD q.stopped 0) q.waiter = true →
      exec (.stopAnswer t true) s = .next ((s.pass t).stopRefused q (stopOrder.getD q.stopped 0)))) ∧
  (∀ (s : State) (q : StopSeq) (island : Nat), island < 16 → (s.stopRefused q island).house.stop = none ∧
    (s.stopRefused q island).house.mode = s.house.mode ∧ (s.stopRefused q island).flag HOUSE_STOP_REFUSED = true ∧
    (s.stopRefused q island).get HOUSE_STOP_ISLAND = island ∧ (s.stopRefused q island).intake.stopped = false ∧
    ∀ n i, q.waiter = some (n, i) → ∀ e ∈ ((s.stopRefused q island).ring n).inflight, e.index = i → e.done ≠ none)

/-- A 32-bit write that reaches a register of BRAID, WARP or TONE without a behaviour of its own sets each of its fields by the access that the master has
to it: a writable field takes its bits, a write-1-to-clear field loses the bits written 1 but for those whose event comes in the same cycle, any other field stays; every other register stays. A write that is
narrower than 32 bits, not aligned, to an offset without a register or without access is discarded, and so is one of a value that a master of a higher rank has written in the same cycle; one to an island whose PLL has lost lock waits. GUARD_A's write of TONE_SREF
sets CLAMP and may set DARK at once; it clears no DARK at once. PAIR_LOWER_READ of a lower register returns the addressed bytes of
it, and latches for that master what the upper one shows at the same moment; STRIKE_FRAME_NO_READ does so with STRIKE_BEAT. -/
def Obligations.PlainAccesses : Prop :=
  (∀ (s : State) (t off : Nat) (m : Master) (v : Word), (s.pass t).takes m off = true → plainPath off = true → m ≠ .guardA →
    LightSafe s → Does (.regWrite t m off 4 v) s (fun s' =>
      (∀ f ∈ fieldsAt off, s'.get ⟨off, f.lsb, f.width⟩ =
        fieldAfter m off (s.reg off) v.toNat ((s.pass t).freshBits off) f) ∧
      ∀ o, o ≠ off → s'.reg o = s.reg o)) ∧
  (∀ (s : State) (t i : Nat) (v : Word), i < 256 → (s.pass t).takes .guardA (TONE_SREF_OFF i) = true →
    Does (.regWrite t .guardA (TONE_SREF_OFF i) 4 v) s (fun s' => s'.get (TONE_SREF_CLAMP i) = getBits v.toNat 16 10 ∧
      s'.get (TONE_SREF_CODE i) = s.get (TONE_SREF_CODE i) ∧
      (getBits v.toNat 28 1 = 1 → s'.flag (TONE_SREF_DARK i) = true) ∧
      (getBits v.toNat 28 1 = 0 → s'.flag (TONE_SREF_DARK i) = s.flag (TONE_SREF_DARK i)))) ∧
  (∀ (s : State) (t off : Nat) (m : Master) (v : Word), LightSafe s → off % 4 = 0 → s.writes m off = true →
    (regAt off).isSome = true → (s.stalls off = true →
      exec (.regWrite t m off 4 v) s = .next ((s.pass t).stall ⟨m, off, some v.toNat, 0, 4⟩)) ∧
    (s.stalls off = false → (s.pass t).outranked m off = true → NoEffect (.regWrite t m off 4 v) t s)) ∧
  (∀ (s : State) (t off bytes : Nat) (m : Master) (v : Word), LightSafe s →
    (bytes ≠ 4 ∨ off % 4 ≠ 0 ∨ s.writes m off = false ∨ regAt off = none) → NoEffect (.regWrite t m off bytes v) t s) ∧
  (∀ (s : State) (t off : Nat) (r : Reader), s.reaches r.master = true → s.stalls off = false →
    pairLower.contains off = true → Does (.pairRead t r off) s (fun s' =>
      s'.out = .readData (cutRead r.sub r.bytes ((s.pass t).view off)) :: (s.pass t).out ∧
      s'.shadow r.master (off + 4) = some ((s.pass t).view (off + 4)) ∧ s'.dram = (s.pass t).dram)) ∧
  (∀ (s : State) (t : Nat) (r : Reader), s.reaches r.master = true → s.stalls STRIKE_FRAME_NO_OFF = false →
    Does (.frameNoRead t r) s (fun s' => s'.out = .readData (cutRead r.sub r.bytes s.frameNo) :: (s.pass t).out ∧
    s'.shadow r.master STRIKE_BEAT_OFF = some ((s.pass t).view STRIKE_BEAT_OFF)))

/-- On a lane whose island's PLL is locked. LANE_TRAINED of a lane in TRAIN: it is in BLOCK, with its loss and cable length. LANE_BLOCK of a lane in BLOCK or above, without lock: a valid sync header counts,
the 64th in a row gives lock; with lock, the sixteenth invalid header among the last 64 takes it away and the lane falls to TRAIN. ALIGN, valid, on a locked lane
in BLOCK, 16,384 blocks after a marker of the same number: the lane is MARKED or better with that logical number, or, where the order does not accept it, stays in BLOCK with ORDER_ERR, and with it every other lane whose marker carries that number.
MARKER_MISSING of a MARKED or ALIGNED lane: it falls to BLOCK, with its loss and cable length, its number and marker are lost, DOWN_SEEN is set and KEEPER records LANE_DOWN. -/
def Obligations.LanesLockAndMark : Prop :=
  (∀ (s : State) (t n loss : Nat), n < 10 → s.laneHeld n = false → s.get (laneLink n) = 1 → Does (.laneTrained t n loss) s (fun s' =>
    s'.get (laneLink n) = 2 ∧ s'.get (laneField n 8 0 12) = min loss 0xFFF ∧ s'.get (laneField n 8 31 1) = 1 ∧
    s'.get (laneField n 8 16 12) = s.cableLength loss ∧ (s'.lane n).locked = false ∧ (s'.lane n).stored = true)) ∧
  (∀ (s : State) (t n sync : Nat) (b : List Nat), n < 10 → s.laneHeld n = false → 2 ≤ s.get (laneLink n) →
    (s.lane n).locked = false →
    (sync = 1 ∨ sync = 2) → Does (.laneBlock t n sync b) s (fun s' => (s'.lane n).good = min ((s.lane n).good + 1) 64 ∧
      (s'.lane n).locked = decide (63 ≤ (s.lane n).good) ∧ s'.get (laneLink n) = s.get (laneLink n))) ∧
  (∀ (s : State) (t n sync : Nat) (b : List Nat), n < 10 → s.laneHeld n = false → 2 ≤ s.get (laneLink n) →
    (s.lane n).locked = true →
    (sync = 0 ∨ sync = 3) → 15 ≤ (((s.lane n).window.take 63).filter id).length →
    Does (.laneBlock t n sync b) s (fun s' => (s'.lane n).locked = false ∧ s'.get (laneLink n) = 1 ∧
      (3 ≤ s.get (laneLink n) → s'.get (laneLogical n) = 15 ∧ s'.get (laneField n 4 16 1) = 1 ∧
        (s.records t = true → s'.newest = some (0x0001, laneIsland n, s.laneSubj n))))) ∧
  (∀ (s : State) (t n mc arr : Nat) (b : List Nat), n < 10 → s.laneHeld n = false → s.get (laneLink n) = 2 →
    (s.lane n).locked = true → (((s.lane n).window.take 63).filter id).length < 16 → alignValid b = true → (s.lane n).since = some 16383 →
    ((s.lane n).marker.map (·.1) = some (b.getD 1 0 % 16)) → field b 2 2 = mc →
    Does (.align t n b arr) s (fun s' => (s'.lane n).marker = some (b.getD 1 0 % 16, mc, arr) ∧
      (s.orderOk n (b.getD 1 0 % 16) = true → 3 ≤ s'.get (laneLink n) ∧ s'.get (laneLogical n) = b.getD 1 0 % 16) ∧
      (s.orderOk n (b.getD 1 0 % 16) = false → s'.get (laneLink n) = 2 ∧ s'.get (laneField n 4 17 1) = 1 ∧
        ∀ k ∈ s.twins n (b.getD 1 0 % 16), s'.get (laneLink k) = 2 ∧ s'.get (laneField k 4 17 1) = 1))) ∧
  (∀ (s : State) (t n : Nat), n < 10 → s.laneHeld n = false → 3 ≤ s.get (laneLink n) → Does (.markerMissing t n) s (fun s' =>
    s'.get (laneLink n) = 2 ∧ s'.get (laneLogical n) = 15 ∧ s'.get (laneField n 4 16 1) = 1 ∧ (s'.lane n).marker = none ∧
    s'.get (laneField n 8 0 12) = min (s.lane n).loss 0xFFF ∧
    s'.get (laneField n 8 16 12) = s.cableLength (s.lane n).loss ∧
    (s.records t = true → s'.newest = some (0x0001, laneIsland n, s.laneSubj n))))

/-- On an ALIGNED, ACTIVE Hawser lane of an enabled stream. SOF that passes its checks, with no frame in progress, begins a frame in a buffer that is neither taken nor the newest; one that
fails discards it with the code of R286. A header block before the fourth, on the lane of its place, joins the header; a payload block in its
place writes its eight bytes row by row into the frame's buffer, but for the padding. EOF in its place completes the frame: its buffer is the newest, the count of completed frames rises, and the stream is UP. STREAM_TIMEOUT of a stream that is UP, INTAKE_STR_m_TIMEOUT
after its last completed frame, takes it down with cause 2. -/
def Obligations.StreamFrames : Prop :=
  (∀ (s : State) (t n g m : Nat) (b : List Nat), n < 10 → s.deframe n = some g → s.streamOf g = some m →
    (s.stream m).frame = none → s.intake.stopped = false → s.flag (CVU_UNIT_CFG_SELFTEST_OK 7) = true →
    Does (.sof t n b) s (fun s' => ((s.pass t).sofCode n m b = 0 → (s'.stream m).frame =
        some ⟨max s.now t, b.getD 1 0 % 256, [], 1, (s.stream m).freeBuf⟩) ∧
      ((s.pass t).sofCode n m b ≠ 0 → (s'.stream m).frame = none ∧
        s'.get (INTAKE_STR_STATUS_LAST_DISCARD m) = (s.pass t).sofCode n m b))) ∧
  (∀ (s : State) (t n g m : Nat) (b : List Nat) (f : StreamFrame), n < 10 → s.deframe n = some g → s.streamOf g = some m →
    (s.stream m).frame = some f → f.nextLane = g → f.blocks < 4 → f.header.length < 24 →
    Does (.streamBlock t n b) s (fun s' => (s'.stream m).frame = some { f with
      header := f.header ++ (List.range 8).map (fun i => b.getD i 0 % 256), blocks := f.blocks + 1 })) ∧
  (∀ (s : State) (t n g m : Nat) (b : List Nat) (f : StreamFrame), n < 10 → s.deframe n = some g → s.streamOf g = some m →
    (s.stream m).frame = some f → f.nextLane = g → 5 ≤ f.blocks → f.blocks - 5 < s.payloadBlocks m → b.length = 8 →
    Does (.streamBlock t n b) s (fun s' => (s'.stream m).frame = some { f with blocks := f.blocks + 1 } ∧
      ∀ k, k < 8 → 8 * (f.blocks - 5) + k < s.get (INTAKE_STR_SIZE_W m) *
          (streamBytes (s.get (INTAKE_STR_CFG_FORMAT m))).getD 0 * s.get (INTAKE_STR_SIZE_H m) →
        Mem.read (s'.stream m).bytes (f.buf * bufSize + (8 * (f.blocks - 5) + k) / (s.get (INTAKE_STR_SIZE_W m) *
          (streamBytes (s.get (INTAKE_STR_CFG_FORMAT m))).getD 0) * s.streamStride m + (8 * (f.blocks - 5) + k) %
          (s.get (INTAKE_STR_SIZE_W m) * (streamBytes (s.get (INTAKE_STR_CFG_FORMAT m))).getD 0)) =
          BitVec.ofNat 8 (b.getD k 0))) ∧
  (∀ (s : State) (t n g m : Nat) (b : List Nat) (f : StreamFrame), n < 10 → s.deframe n = some g → s.streamOf g = some m →
    (s.stream m).frame = some f → f.map / 2 ^ g % 2 = 1 → s.eofCode n m f b = 0 → Does (.eof t n b) s (fun s' =>
      (s'.stream m).frame = none ∧ (s'.stream m).newest = some f.buf ∧ (s'.stream m).used = false ∧
      s'.get (INTAKE_STR_FRAMES_COMPLETED m) = min (s.get (INTAKE_STR_FRAMES_COMPLETED m) + 1) 0xFFFF ∧
      s'.flag (INTAKE_STR_STATUS_UP m) = true)) ∧
  (∀ (s : State) (t m : Nat), m < 8 → s.flag (INTAKE_STR_CFG_ENABLE m) = true → s.flag (INTAKE_STR_STATUS_UP m) = true →
    (s.stream m).newestAt + s.streamLimit m ≤ max s.now t → Does (.streamTimeout t m) s (fun s' => s'.flag (INTAKE_STR_STATUS_UP m) = false ∧
      s'.get (INTAKE_STR_STATUS_DOWN_CAUSE m) = 2 ∧
      (s.records t = true → s'.newest = some (0x0006, 0, subj 5 m))))

/-- For writes that reach their register. LANE_POWER_REQUEST in a state that honours it: DEEP takes the lane OFF; ACTIVE lets it train; IDLE of a lane below MARKED is held, of another takes effect. EYE_SCAN of a running
lane stores its width and height; the second low one in a row, and each one after it, sets EYE_LOW and KEEPER records it. EYE_MEASURE_GO starts a measurement of a running lane and is INVALID for another; EYE_MEASURE_DONE ends it. STREAM_CONFIG of a disabled stream with ENABLE set is taken when its
checks pass and otherwise rejected with the code of the first that fails; clearing ENABLE takes the stream down; ENABLE or a SIZE of an enabled stream is rejected with code 1. The two clears zero their counters. -/
def Obligations.LaneAndStreamControl : Prop :=
  (∀ (s : State) (t n : Nat) (m : Master) (v : Word), n < 8 → (s.pass t).takes m (INTAKE_LANE_PWR_OFF n) = true →
    s.house.mode.lanesRun = true → Does (.lanePower t m n v) s (fun s' => s'.get (INTAKE_LANE_PWR_REQ n) = v.toNat % 4 ∧
      (2 ≤ v.toNat % 4 → s'.get (INTAKE_LANE_PWR_STATE n) = 2 ∧ s'.get (laneLink n) = 0) ∧
      (v.toNat % 4 = 0 → s'.get (INTAKE_LANE_PWR_STATE n) = 0 ∧ s'.get (laneLink n) = max 1 (s.get (laneLink n))) ∧
      (v.toNat % 4 = 1 → s.get (laneLink n) < 3 → (s'.lane n).idleHeld = true) ∧
      (v.toNat % 4 = 1 → 3 ≤ s.get (laneLink n) → s'.get (INTAKE_LANE_PWR_STATE n) = 1))) ∧
  (∀ (s : State) (t n w h : Nat), n < 10 → 2 ≤ s.get (laneLink n) → s.lanePow n ≠ 2 → s.flag INTAKE_EYE_STATUS_BUSY = false →
    s.laneHeld n = false → Does (.eyeScan t n w h) s (fun s' => s'.get (laneField n 0xC 0 8) = min w 255 ∧ s'.get (laneField n 0xC 8 8) = min h 255 ∧
      ((w < 16 ∨ h < 15) → 1 ≤ (s.lane n).lowEyes → s'.get (laneField n 4 19 1) = 1 ∧
        (s.records t = true → s'.newest = some (0x0004, laneIsland n, s.laneSubj n))))) ∧
  (∀ (s : State) (t : Nat) (m : Master) (v : Word), (s.pass t).takes m INTAKE_EYE_CTRL_OFF = true →
    s.flag INTAKE_EYE_STATUS_BUSY = false → 2 ^ 31 ≤ v.toNat → Does (.eyeGo t m v) s (fun s' =>
      s'.get INTAKE_EYE_CTRL_LANE = getBits v.toNat 24 4 ∧
      if getBits v.toNat 24 4 < 10 ∧ 2 ≤ s.get (laneLink (getBits v.toNat 24 4)) ∧ s.lanePow (getBits v.toNat 24 4) ≠ 2
      then s'.flag INTAKE_EYE_STATUS_BUSY = true ∧ s'.flag INTAKE_EYE_STATUS_DONE = false ∧
        s'.flag INTAKE_EYE_STATUS_INVALID = false
      else s'.flag INTAKE_EYE_STATUS_BUSY = false ∧ s'.flag INTAKE_EYE_STATUS_DONE = true ∧
        s'.flag INTAKE_EYE_STATUS_INVALID = true)) ∧
  (∀ (s : State) (t e : Nat), s.flag INTAKE_EYE_STATUS_BUSY = true → Does (.eyeDone t e) s (fun s' =>
    s'.get INTAKE_EYE_ERR_ERR = min e 0xFFFFFFFF ∧ s'.flag INTAKE_EYE_STATUS_DONE = true ∧
    s'.flag INTAKE_EYE_STATUS_BUSY = false)) ∧
  (∀ (s : State) (t k c : Nat) (m : Master) (v : Word), k < 8 → (s.pass t).takes m (INTAKE_STR_CFG_OFF k) = true →
    s.flag (INTAKE_STR_CFG_ENABLE k) = false → 2 ^ 31 ≤ v.toNat →
    ((s.pass t).setReg (INTAKE_STR_CFG_OFF k) (v.toNat &&& 0x4FFF00FF)).configCode k (s.trafficBut k) = c →
    Does (.streamConfig t m k v) s (fun s' =>
      (c = 0 → s'.flag (INTAKE_STR_CFG_ENABLE k) = true ∧ s'.get (INTAKE_STR_CFG_LANES k) = v.toNat % 256 ∧
        s'.flag (INTAKE_STR_STATUS_UP k) = false ∧ (s'.stream k).frame = none ∧ (s'.stream k).newest = none) ∧
      (c ≠ 0 → s'.flag (INTAKE_STR_CFG_ENABLE k) = false ∧ s'.flag INTAKE_STATUS_CFG_REJ = true ∧
        s'.get INTAKE_STATUS_REJ_CODE = c ∧ s'.get INTAKE_STATUS_REJ_STREAM = k))) ∧
  (∀ (s : State) (t k : Nat) (m : Master) (v : Word), k < 8 → (s.pass t).takes m (INTAKE_STR_CFG_OFF k) = true →
    s.flag (INTAKE_STR_CFG_ENABLE k) = true → Does (.streamConfig t m k v) s (fun s' =>
      (v.toNat < 2 ^ 31 → s'.flag (INTAKE_STR_CFG_ENABLE k) = false ∧ s'.flag (INTAKE_STR_STATUS_UP k) = false ∧
        (s'.stream k).frame = none) ∧
      (2 ^ 31 ≤ v.toNat → s'.flag INTAKE_STATUS_CFG_REJ = true ∧ s'.get INTAKE_STATUS_REJ_CODE = 1 ∧
        s'.get INTAKE_STATUS_REJ_STREAM = k ∧ s'.reg (INTAKE_STR_CFG_OFF k) = s.reg (INTAKE_STR_CFG_OFF k)))) ∧
  (∀ (s : State) (t k : Nat) (m : Master) (v : Word), k < 8 → (s.pass t).takes m (INTAKE_STR_SIZE_OFF k) = true →
    s.flag (INTAKE_STR_CFG_ENABLE k) = true → Does (.regWrite t m (INTAKE_STR_SIZE_OFF k) 4 v) s (fun s' =>
      s'.flag INTAKE_STATUS_CFG_REJ = true ∧ s'.get INTAKE_STATUS_REJ_CODE = 1 ∧ s'.get INTAKE_STATUS_REJ_STREAM = k ∧
      s'.reg (INTAKE_STR_SIZE_OFF k) = s.reg (INTAKE_STR_SIZE_OFF k))) ∧
  (∀ (s : State) (t n : Nat) (m : Master) (v : Word), n < 8 → (s.pass t).takes m (INTAKE_LANE_ERR_CLEAR_OFF n) = true →
    v.toNat % 2 = 1 → LightSafe s → exec (.laneErrClear t m n v) s =
      .next (((s.pass t).setReg (INTAKE_LANE_ERR_OFF n) 0).wroteNow m (INTAKE_LANE_ERR_CLEAR_OFF n))) ∧
  (∀ (s : State) (t k : Nat) (m : Master) (v : Word), k < 8 → (s.pass t).takes m (INTAKE_STR_CLEAR_OFF k) = true →
    v.toNat % 2 = 1 → Does (.strClear t m k v) s (fun s' => s'.reg (INTAKE_STR_FRAMES_OFF k) = 0 ∧
      s'.reg (INTAKE_STR_SKIPS_OFF k) = 0 ∧ s'.get (INTAKE_STR_MARGIN_MIN k) = 0xFFFF))

/-- In a state in which the guards evaluate. MASK_SAMPLE begins the mask of frame FRAME_NO + 2 with GUARD_A's share factor, active zones and position, and withdraws a publication that
waits. MASK_PUBLISH hands the mask to BRAID with its sum, not yet verified. MASK_VERIFY with the right sum and no uncorrectable error verifies it; otherwise the
publication is gone and KEEPER records it. ZONE_EVAL_CYCLE shows the active zones and whether the mask is valid; where it is not, every sector has its cap
in CLAMP for all four colours, or its DARK gates. Curve 1 gives the part n / m of a component at most n / m of what it gives the component, plus 1 LSB,
whatever its table holds. -/
def Obligations.MasksAndClamp : Prop :=
  (∀ (s : State) (t : Nat), s.house.mode.running = true → Does (.maskSample t) s (fun s' =>
    s'.guards.deriving_.map (·.target) = some (frameAdd s.frameNo 2) ∧
    s'.guards.deriving_.map (·.sigma2) = some s.guards.sigmaA ∧
    s'.guards.deriving_.map (·.zones) = some (s.activeZones .a) ∧
    s'.guards.deriving_.map (·.pos) = some (s.position .a) ∧
    s'.braid.waiting = none ∧ s'.flag BRAID_PROT_STATUS_PUBLISHED = false)) ∧
  (∀ (s : State) (t : Nat) (m : Mask), s.house.mode.running = true → s.guards.deriving_ = some m →
    Does (.maskPublish t) s (fun s' => s'.guards.deriving_ = none ∧ s'.reg GUARD_A_MASK_FRAME_OFF = m.target % 2 ^ 32 ∧
      s'.braid.waiting = some ⟨m, m.checkSum, max s.now t, false⟩)) ∧
  (∀ (s : State) (t sum : Nat) (p : Published), s.braid.waiting = some p → p.verified = false → sum % 2 ^ 32 = p.sum →
    Does (.maskVerify t sum false) s (fun s' => s'.braid.waiting = some { p with verified := true } ∧
      s'.flag BRAID_PROT_STATUS_PUBLISHED = true)) ∧
  (∀ (s : State) (t sum : Nat) (u : Bool) (p : Published), s.braid.waiting = some p → p.verified = false →
    (sum % 2 ^ 32 ≠ p.sum ∨ u = true) → Does (.maskVerify t sum u) s (fun s' => s'.braid.waiting = none ∧
      (s.records t = true → s'.newest = some (0x0203, 2, 0)))) ∧
  (∀ (s : State) (t : Nat), s.house.mode.running = true → Does (.zoneEval t) s (fun s' =>
    (∀ n, n < 32 → (s'.flag ⟨GUARD_A_ZONE_ACTIVE_OFF, n, 1⟩ = true ↔ n ∈ s.activeZones .a)) ∧
    s'.flag GUARD_A_STATUS_MASK_VALID = s.maskValid ∧
    (s.maskValid = false → ∀ sec c, sec < 64 → c < 4 →
      ((s.sectorCap sec).isSome = true → s'.get (TONE_SREF_CLAMP (4 * sec + c)) = (s.sectorCap sec).getD 0) ∧
      (s.sectorCap sec = none → s'.flag (TONE_SREF_DARK (4 * sec + c)) = true)))) ∧
  (∀ n m : Nat, n ≤ m → 0 < m → m < 65536 → curve709 n * m ≤ n * curve709 m + m)

/-- XCMP_CYCLE while the guards evaluate: the guard's record goes out, the other has received it, and zone tables whose hashes differ are FATAL. XCMP_LOST with no record
for 300 µs is FATAL, with both enables deasserted. GUARD_DECISION_MESSAGE in SAFE of a guard that has not yet acted: it reports SAFE with the other's cause; GUARD_A deasserts
its enable and gates every sector and colour dark, GUARD_B deasserts its enable and opens every pass switch. -/
def Obligations.GuardsTogether : Prop :=
  (∀ (s : State) (t : Nat) (g : Guard), s.house.mode.running = true → Does (.xcmpCycle t g) s (fun s' =>
    Output.guardLink (guardIsland g) (s.guardRecord g) ∈ s'.out ∧
    (g = .a → s'.guards.recAtB = max s.now t) ∧ (g = .b → s'.guards.recAtA = max s.now t) ∧
    (s.get GUARD_A_ZONE_HASH_HASH ≠ s.get GUARD_B_ZONE_HASH_HASH →
      s'.flag KEEPER_STATUS_FATAL = true ∧ s'.get GUARD_A_XCMP_ITEM = 3))) ∧
  (∀ (s : State) (t : Nat) (g : Guard), s.house.mode.running = true → s.flag KEEPER_STATUS_FATAL = false →
    300000 + (match g with | .a => s.guards.recAtA | .b => s.guards.recAtB) ≤ max s.now t →
    Does (.xcmpLost t g) s (fun s' => s'.flag KEEPER_STATUS_FATAL = true ∧ s'.house.mode = .fatal ∧
      s'.get KEEPER_STATUS_FATAL_CODE = 0x0702 ∧ s'.get GUARD_A_STATUS_EN_A = 0 ∧ s'.get GUARD_B_STATUS_EN_B = 0)) ∧
  (∀ (s : State) (t : Nat), s.house.mode = .safe → s.flag GUARD_A_STATUS_SAFE = false → Does (.guardDecision t .a) s (fun s' =>
    s'.flag GUARD_A_STATUS_SAFE = true ∧ s'.get GUARD_A_STATUS_CAUSE = s.get GUARD_B_STATUS_CAUSE ∧
    s'.get GUARD_A_STATUS_EN_A = 0 ∧ ∀ i, i < 256 → s'.flag (TONE_SREF_DARK i) = true)) ∧
  (∀ (s : State) (t : Nat), s.house.mode = .safe → s.flag ⟨GUARD_B_STATUS_OFF, 31, 1⟩ = false →
    Does (.guardDecision t .b) s (fun s' => s'.flag ⟨GUARD_B_STATUS_OFF, 31, 1⟩ = true ∧
      s'.get GUARD_B_STATUS_CAUSE = s.get GUARD_A_STATUS_CAUSE ∧ s'.get GUARD_B_STATUS_EN_B = 0 ∧
      ∀ b c, b < 16 → c < 4 → s'.flag (bandBit b c) = false))

/-- TERMINAL_FILTER shows the new level of its channel; a STOP channel that de-energises while the guards evaluate leaves the module in SAFE. DISCREPANCY of a pair whose channels
have differed for T_DISC, within the measured uncertainty, latches the pair and KEEPER records it; the STOP pair's latch leaves the module in SAFE. A valid ENCODER_FRAME gives the position
and makes the encoder valid; the third invalid one in a row makes it invalid, and in a state in which the guards evaluate leaves the module in SAFE. -/
def Obligations.TerminalsAndEncoders : Prop :=
  (∀ (s : State) (t : Nat) (g : Guard) (zone level : Bool), s.powered = true → Does (.terminal t g zone level) s (fun s' =>
    (match g with | .a => (s'.levels (bit zone)).1 | .b => (s'.levels (bit zone)).2) = level ∧
    (zone = false → level = false → s.house.mode.running = true →
      (match g with | .a => (s.levels 0).1 | .b => (s.levels 0).2) = true → s'.inSafe))) ∧
  (∀ (s : State) (t pair : Nat) (e : Nat × Nat), pair < 2 → s.house.mode.running = true →
    s.guards.discSince.find? (fun e => e.1 / 4 == pair && decide (s.tDisc ≤ (max s.now t - e.2) + s.discSlack)) = some e →
    Does (.discrepancy t pair) s (fun s' => s'.latched pair = true ∧ s'.flag (openBit 20) = true ∧
      (s.records t = true → s'.newest = some (0x0705, 7, subj 12 pair)) ∧ (pair = 0 → s'.inSafe))) ∧
  (∀ (s : State) (t i : Nat) (g : Guard) (bits : List Bool), s.powered = true → i < 3 →
    s.encAccepts g i bits false = true → Does (.encoder t g i bits false) s (fun s' =>
      s'.encRaw g i = s.encReading g i bits % 2 ^ 24 ∧ s'.encValid g i = true ∧
      sget (fun _ => 0) s'.guards.encBad (3 * guardNo g + i) = 0)) ∧
  (∀ (s : State) (t i : Nat) (g : Guard) (bits : List Bool) (high : Bool), s.powered = true → i < 3 →
    s.encAccepts g i bits high = false → sget (fun _ => 0) s.guards.encBad (3 * guardNo g + i) = 2 →
    Does (.encoder t g i bits high) s (fun s' => s'.encValid g i = false ∧ s'.encRaw g i = s.encRaw g i ∧
      (s.house.mode.running = true → s'.inSafe ∧
        (s.records t = true → s'.newest = some (0x0703, guardIsland g, subj 11 (256 * guardNo g + i))))))

/-- While the guards evaluate. A SECTOR_CURRENT_SAMPLE with no current above its limit ends every run; one that makes a sector and colour exceed its limit for N_TRIP samples leaves the module in SAFE,
with the fault's open bit set. A PHOTO_SAMPLE of a fitted PHOTO shows its value; the tenth in a row above MAX leaves the module in SAFE. PHOTO_FAULT of a fitted PHOTO out of its
range sets FAULT and leaves the module in SAFE. -/
def Obligations.LightMeasurements : Prop :=
  (∀ (s : State) (t : Nat) (ma : List (List Nat)), s.house.mode.running = true → LightSafe s →
    (∀ i, i < 256 → (((ma.getD (i / 4) []).getD (i % 4) 0 : Nat) : Rat) ≤ s.overLimit i) →
    exec (.sectorCurrent t ma) s = .next { s.pass t with guards := { s.guards with overRun := [] } }) ∧
  (∀ (s : State) (t i : Nat) (ma : List (List Nat)), s.house.mode.running = true → i < 256 →
    s.overLimit i < (((ma.getD (i / 4) []).getD (i % 4) 0 : Nat) : Rat) →
    sget (fun _ => 0) s.guards.overRun i + 1 = clampN 1 16 (s.get GUARD_B_OVER_N_TRIP) →
    Does (.sectorCurrent t ma) s (fun s' => s'.inSafe ∧ s'.flag (openBit 34) = true)) ∧
  (∀ (s : State) (t code : Nat), s.flag GUARD_B_PHOTO_FITTED = true → s.house.mode.running = true →
    Does (.photoSample t code) s (fun s' => s'.get GUARD_B_PHOTO_VALUE = min code 4095 ∧
      s'.guards.photoRun = (if s.get GUARD_B_PHOTO_MAX < min code 4095 then s.guards.photoRun + 1 else 0) ∧
      (s.get GUARD_B_PHOTO_MAX < min code 4095 → s.guards.photoRun = 9 → s'.inSafe ∧ s'.flag (openBit 35) = true))) ∧
  (∀ (s : State) (t : Nat), s.flag GUARD_B_PHOTO_FITTED = true → s.house.mode.running = true →
    photoInRange (s.get GUARD_B_PHOTO_VALUE) = false → s.flag GUARD_B_PHOTO_FAULT = false →
    Does (.photoFault t) s (fun s' => s'.flag GUARD_B_PHOTO_FAULT = true ∧ s'.inSafe ∧ s'.flag (openBit 36) = true))

/-- NET_FRAME_ARRIVAL of a good telegram frame at a MAC out of reset stores its first 32 bytes with the time behind those that wait. TELEGRAM_CHECK of the oldest: a valid
copy is the network's last; one with a code 2 to 6 is discarded under its code and the last one stands. TELEGRAM_SINGLE, once a period has passed with no such SEQ on the other network, counts it in both. LINK_TIMEOUT of a stale network:
with both stale in an emitting state SF-LINK acts as LINK_MODE says; with one stale KEEPER records LINK_ONE. PHY_POLL shows the answer, and the third poll in a row without one is PHY_FAULT. PHY_RESET_RELEASE ends the reset. -/
def Obligations.SafetyNetworks : Prop :=
  (∀ (s : State) (t tags len : Nat) (g : Guard) (b : List Nat), s.powered = true → (s.net g).phyReset = false → 64 ≤ len →
    len ≤ 1522 → tags ≤ 1 → (s.net g).buffer.length < 8 → LightSafe s →
    exec (.netFrame t g true (s.get (GUARD_NET_TYPE_ETHERTYPE (guardNo g))) tags len true b) s = .next ((s.pass t).setNet g
      { s.net g with buffer := (s.net g).buffer ++ [(b.take 32, max s.now t)] })) ∧
  (∀ (s : State) (t at_ : Nat) (g : Guard) (b : List Nat) (rest : List (List Nat × Nat)), s.powered = true →
    (s.net g).buffer = (b, at_) :: rest → Does (.telegramCheck t g) s (fun s' => (s'.net g).buffer = rest ∧
      (s.copyCode g b ⟨b.take 28, at_⟩ = 0 → (s'.net g).last = some ⟨b.take 28, at_⟩ ∧
        s'.reg (GUARD_NET_SEQ_OFF (guardNo g)) = field b 4 4) ∧
      (2 ≤ s.copyCode g b ⟨b.take 28, at_⟩ → s.copyCode g b ⟨b.take 28, at_⟩ ≤ 6 → (s'.net g).last = (s.net g).last ∧
        s'.get (GUARD_NET_STATUS_LAST_DISCARD (guardNo g)) = s.copyCode g b ⟨b.take 28, at_⟩))) ∧
  (∀ (s : State) (t : Nat) (g : Guard) (c : Copy), s.powered = true → (s.net g).last = some c →
    (s.net g).compared ≠ some c.seq → (∀ d, (s.net (otherGuard g)).last = some d → d.seq ≠ c.seq) →
    c.at_ + s.tgPeriod g ≤ max s.now t → Does (.telegramSingle t g) s (fun s' => (s'.net g).compared = some c.seq ∧
      ∀ n, n < 2 → s'.get (GUARD_NET_COMPARE_SINGLE n) = min (s.get (GUARD_NET_COMPARE_SINGLE n) + 1) 0xFFFF)) ∧
  (∀ (s : State) (t : Nat) (g : Guard), s.house.mode.emitting = true → (s.pass t).fresh .a = false →
    (s.pass t).fresh .b = false → s.linkActs = false → Does (.linkTimeout t g) s (fun s' => s'.flag (openBit 22) = true ∧
      (s.flag GUARD_A_CFG_LINK_MODE = true → s'.get GUARD_A_STATUS_LINK = 2 ∧ s'.house.mode = s.house.mode) ∧
      (s.flag GUARD_A_CFG_LINK_MODE = false → s'.get GUARD_A_STATUS_LINK = 3 ∧ s'.inSafe))) ∧
  (∀ (s : State) (t : Nat) (g : Guard), s.house.mode.running = true → (s.pass t).fresh g = false →
    (s.pass t).fresh (otherGuard g) = true → (s.net g).staleSeen = false → Does (.linkTimeout t g) s (fun s' =>
      (s'.net g).staleSeen = true ∧ s'.house.mode = s.house.mode ∧
      (s.records t = true → s'.newest = some (0x0708, guardIsland g, subj 13 (guardNo g))))) ∧
  (∀ (s : State) (t : Nat) (g : Guard) (l f d : Bool), s.powered = true → (s.net g).phyReset = false →
    Does (.phyPoll t g (some (l, f, d))) s (fun s' => (s'.net g).phyMiss = 0 ∧
      s'.flag (GUARD_NET_STATUS_PHY_LINK (guardNo g)) = l ∧ s'.flag (GUARD_NET_STATUS_SPEED100 (guardNo g)) = f ∧
      s'.flag (GUARD_NET_STATUS_FULL_DUPLEX (guardNo g)) = d ∧ s'.flag (GUARD_NET_STATUS_PHY_FAULT (guardNo g)) = false)) ∧
  (∀ (s : State) (t : Nat) (g : Guard), s.powered = true → (s.net g).phyReset = false → (s.net g).phyMiss = 2 →
    Does (.phyPoll t g none) s (fun s' => (s'.net g).phyMiss = 3 ∧ s'.flag (GUARD_NET_STATUS_PHY_FAULT (guardNo g)) = true ∧
      (s.records t = true → s'.newest = some (0x070E, guardIsland g, subj 13 (guardNo g))))) ∧
  (∀ (s : State) (t : Nat) (g : Guard), s.powered = true → LightSafe s →
    exec (.phyRelease t g) s = .next ((s.pass t).setNet g { s.net g with phyReset := false }))

/-- GUARD_TEST of a kind that the guard runs, while the guards evaluate: a passed one is counted and its failure forgotten; a failed one is GUARD_INTERNAL, which leaves the module in SAFE, and for a check-value
unit FATAL. GUARD_WATCHDOG_EXPIRY and GUARD_MEMORY_ERROR are GUARD_INTERNAL as well. CVU_COUNTER_COPY brings the counters of the units on the guard die into the CVU block.
CVU_CLEAR zeroes the counters of the units named, but for the guards' units and the unit that no register names. -/
def Obligations.GuardSelfChecks : Prop :=
  (∀ (s : State) (t kind : Nat) (g : Guard), s.house.mode.running = true → testKind g kind = true →
    Does (.guardTest t g kind true) s (fun s' => s'.guards.failedTest.contains (64 * guardNo g + kind) = false ∧
      s'.get KEEPER_INJ_STATUS_GUARD_TESTS =
        (s.get KEEPER_INJ_STATUS_GUARD_TESTS + 1) % 2 ^ KEEPER_INJ_STATUS_GUARD_TESTS.width ∧
      s'.house.mode = s.house.mode)) ∧
  (∀ (s : State) (t kind : Nat) (g : Guard), s.house.mode.running = true → testKind g kind = true →
    Does (.guardTest t g kind false) s (fun s' => s'.guards.failedTest.contains (64 * guardNo g + kind) = true ∧
      s'.flag (openBit 25) = true ∧ (kind < 16 → s'.inSafe) ∧ (16 ≤ kind → s'.flag KEEPER_STATUS_FATAL = true))) ∧
  (∀ (s : State) (t : Nat) (g : Guard) (c : Instr), s.house.mode.running = true →
    c ∈ [Instr.guardWatchdog t g, .guardMemory t g] → Does c s (fun s' => s'.inSafe ∧ s'.flag (openBit 25) = true)) ∧
  (∀ (s : State) (t n k : Nat), s.powered = true → n ∈ [1, 4, 9, 11] → k ∈ [4, 8, 12, 16, 20] →
    Does (.cvuCopy t) s (fun s' => rread s'.regs (CVU_UNIT_CFG_OFF n + k) = rread s.guards.units (CVU_UNIT_CFG_OFF n + k))) ∧
  (∀ (s : State) (t : Nat) (m : Master) (v : Word), (s.pass t).takes m CVU_CLEAR_OFF = true → Does (.cvuClear t m v) s (fun s' =>
    ∀ n, n < 12 → s'.reg (CVU_UNIT_PASS_OFF n) =
        (if n ∈ [2, 3, 5, 6, 7] ∧ v.toNat / 2 ^ n % 2 = 1 then 0 else s.reg (CVU_UNIT_PASS_OFF n)) ∧
      s'.reg (CVU_UNIT_FAIL_OFF n) =
        (if n ∈ [2, 3, 5, 6, 7] ∧ v.toNat / 2 ^ n % 2 = 1 then 0 else s.reg (CVU_UNIT_FAIL_OFF n))))

/-- LIGHT_INPUT_QUALIFIED of ANODE's receiver gives LIGHT_IN its reading, of a guard's receiver that guard's INPUTS. A dark reading of an armed twin in SHOW that has not stepped switches
SEL to FULL in all colours, sets STEPPED and starts the change to SOLO 50 µs later with cause PARTNER_DARK; a guard's own dark reading takes its σ to 1.0. STEP_ARM
under R428's conditions sets ARMED. JOIN_FAIL, 100 µs after JOIN cleared unarmed, switches SEL to FULL, steps likewise, and KEEPER records it. -/
def Obligations.LightPairAndStep : Prop :=
  (∀ (s : State) (t : Nat) (p n : Bool), s.powered = true → s.twinEn = true →
    Does (.lightInput t 0 p n) s (fun s' => s'.get SPLICE_STATUS_LIGHT_IN = lightReading p n)) ∧
  (∀ (s : State) (t : Nat) (p n : Bool), s.powered = true → s.twinEn = true → Does (.lightInput t 1 p n) s (fun s' =>
    s'.flag GUARD_A_INPUTS_LIGHT_VALID = (p != n) ∧ s'.flag GUARD_A_INPUTS_LIGHT_DARK = (!p && n))) ∧
  (∀ (s : State) (t : Nat) (p n : Bool), s.powered = true → s.twinEn = true → Does (.lightInput t 2 p n) s (fun s' =>
    s'.flag GUARD_B_INPUTS_LIGHT_VALID = (p != n) ∧ s'.flag GUARD_B_INPUTS_LIGHT_DARK = (!p && n))) ∧
  (∀ (s : State) (t : Nat), s.house.mode = .show → s.twinEn = true → s.flag SPLICE_STATUS_ARMED = true →
    s.flag SPLICE_STATUS_STEPPED = false → s.get SPLICE_STATUS_LIGHT_IN ≠ 1 → Does (.lightInput t 0 false true) s (fun s' =>
      (∀ c, c < 4 → s'.flag (TONE_GREF_SEL c) = true) ∧ s'.flag SPLICE_STATUS_STEPPED = true ∧ s'.house.mode = .show ∧
      s'.house.change = some ⟨.solo, 3, none, 50000 + max s.now t, none, false, some 3⟩)) ∧
  (∀ (s : State) (t : Nat), s.house.mode = .show → s.twinEn = true → s.flag SPLICE_STATUS_ARMED = true →
    Does (.lightInput t 1 false true) s (fun s' => s'.guards.sigmaA = 2 ∧ s'.guards.sigmaB = s.guards.sigmaB)) ∧
  (∀ (s : State) (t : Nat), s.house.mode = .show → s.twinEn = true → s.flag SPLICE_STATUS_ARMED = true →
    Does (.lightInput t 2 false true) s (fun s' => s'.guards.sigmaB = 2 ∧ s'.guards.sigmaA = s.guards.sigmaA)) ∧
  (∀ (s : State) (t : Nat), s.house.mode = .show → s.twinEn = true → s.flag SPLICE_STATUS_JOIN = false → s.peerJoins = false →
    s.get SPLICE_STATUS_LIGHT_IN = 0 → s.twin.lightSince + 4000 ≤ max s.now t →
    Does (.stepArm t) s (fun s' => s'.flag SPLICE_STATUS_ARMED = true)) ∧
  (∀ (s : State) (t x : Nat), s.twin.joinEndAt = some x → s.house.mode = .show → s.flag SPLICE_STATUS_JOIN = false →
    s.flag SPLICE_STATUS_ARMED = false → 100000 + x ≤ max s.now t → Does (.joinFail t) s (fun s' =>
      (∀ c, c < 4 → s'.flag (TONE_GREF_SEL c) = true) ∧ s'.flag SPLICE_STATUS_STEPPED = true ∧
      s'.house.change = some ⟨.solo, 3, none, 50000 + max s.now t, none, false, some 3⟩ ∧
      (s.records t = true → s'.newest = some (0x0803, 8, 0))))

/-- LIGHT_INVALID of a reading that has been invalid for 100 µs is recorded once. LIGHT_CONFLICT, once evidence at share 1.0 that the partner is lit has lasted 200 µs, deasserts both enables,
starts the change to DARK with cause LIGHT_CONFLICT and opens its fault. ANODE_CURRENT_SAMPLE of an emitting module with a current that is not below half the expected one less 0.20 A
ends the run of low averages; the fourth low one in a row is the dark decision: LIGHT out goes dark, and in SHOW the module leaves for DARK with both enables deasserted and the bucks stopped. -/
def Obligations.LightConflictAndDark : Prop :=
  (∀ (s : State) (t : Nat), s.twinEn = true → s.get SPLICE_STATUS_LIGHT_IN = 2 → s.twin.lightNoted = false →
    100000 + s.twin.lightSince ≤ max s.now t → Does (.lightInvalid t) s (fun s' => s'.twin.lightNoted = true ∧
      s'.house.mode = s.house.mode ∧ (s.records t = true → s'.newest = some (0x0801, 8, 0)))) ∧
  (∀ (s : State) (t x : Nat), s.twin.conflictSince = some x → (s.pass t).litEvidence ≠ 0 →
    (∀ c ∈ s.house.change, c.cause ≠ 7) → 200000 + x ≤ max s.now t → Does (.lightConflict t) s (fun s' =>
      s'.get GUARD_A_STATUS_EN_A = 0 ∧ s'.get GUARD_B_STATUS_EN_B = 0 ∧ s'.flag (openBit 26) = true ∧
      s'.house.change = some ⟨.dark, 7, none, 0, none, false, some 1⟩)) ∧
  (∀ (s : State) (t m : Nat), s.house.mode.emitting = true → (s.pass t).expectedMa / 2 ≤ (m : Rat) + 200 → LightSafe s →
    exec (.anodeCurrent t m) s = .next { (s.pass t) with twin := { s.twin with lowRun := 0 } }) ∧
  (∀ (s : State) (t m : Nat), s.house.mode.emitting = true → (m : Rat) + 200 < (s.pass t).expectedMa / 2 →
    s.twin.lowRun = 3 → s.twin.darkMade = false → s.house.change = none → Does (.anodeCurrent t m) s (fun s' =>
      s'.twin.darkMade = true ∧ s'.house.lightOut = false ∧ s'.flag SPLICE_STATUS_LIGHT_OUT = false ∧
      (s.house.mode = .show ∨ s.twinEn = true → s'.house.mode = .dark ∧ s'.get GUARD_A_STATUS_EN_A = 0 ∧
        s'.get GUARD_B_STATUS_EN_B = 0 ∧ s'.get ANODE_RAIL_STATUS_RUN = 0) ∧
      (s.house.mode ≠ .show → s.twinEn = false → s'.house.mode = s.house.mode ∧
        (s.records t = true → s'.newest = some (0x060D, 6, 0)))))

/-- TICK_SEND puts out the word of R434, a wake word while some are due, and counts it. TICK_LIVENESS_TIMEOUT stops the words. TICK_WORD of a valid word while the frame timer runs is
the partner's heartbeat: its age starts again, its state and role are shown; an invalid or aborted word counts in SPLICE_TICK_ERR and changes neither. In STOWED the sixteenth wake word in a row starts the wake sequence with SOURCE 4. -/
def Obligations.TickWords : Prop :=
  (∀ (s : State) (t : Nat), s.twinRuns = true → s.twin.tickStopped = false → Does (.tickSend t) s (fun s' =>
    s'.out.head? = some (.tick (s.tickCells s.twin.ackTick (if s.twin.wakeTicks ≠ 0 then 15 else s.house.mode.num))) ∧
    s'.twin = { s.twin with
      tickCount := (s.twin.tickCount + 1) % 128, wakeTicks := s.twin.wakeTicks - 1, ackTick := false })) ∧
  (∀ (s : State) (t : Nat), s.twinRuns = true → LightSafe s →
    exec (.tickLiveness t) s = .next { (s.pass t) with twin := { s.twin with tickStopped := true } }) ∧
  (∀ (s : State) (t w : Nat), s.twinRuns = true → s.house.mode ≠ .stowed → tickCheck w = w % 16 →
    Does (.tickWord t w false) s (fun s' => s'.twin.tickAt = some (max s.now t) ∧ s'.twin.peerRole = getBits w 18 2 ∧
      s'.get SPLICE_STATUS_PARTNER_STATE = getBits w 12 4 ∧
      s'.twin.beatTick = some ⟨getBits w 12 4, w.testBit 17, w.testBit 11, false, false, max s.now t⟩)) ∧
  (∀ (s : State) (t w : Nat), s.twinRuns = true → s.house.mode ≠ .stowed → tickCheck w ≠ w % 16 →
    Does (.tickWord t w false) s (fun s' => s'.twin.tickAt = s.twin.tickAt ∧ s'.twin.beatTick = s.twin.beatTick ∧
      s'.get SPLICE_TICK_ERR_CHECK = min (s.get SPLICE_TICK_ERR_CHECK + 1) 0xFFFF ∧
      s'.get SPLICE_TICK_ERR_ABORTED = s.get SPLICE_TICK_ERR_ABORTED)) ∧
  (∀ (s : State) (t w : Nat), s.twinRuns = true → s.house.mode ≠ .stowed → Does (.tickWord t w true) s (fun s' =>
    s'.twin.tickAt = s.twin.tickAt ∧ s'.twin.beatTick = s.twin.beatTick ∧
    s'.get SPLICE_TICK_ERR_ABORTED = min (s.get SPLICE_TICK_ERR_ABORTED + 1) 0xFFFF ∧
    s'.get SPLICE_TICK_ERR_CHECK = s.get SPLICE_TICK_ERR_CHECK)) ∧
  (∀ (s : State) (t w : Nat), s.house.mode = .stowed → s.twinEn = true → s.twin.wakeSeen = 15 → tickCheck w = w % 16 →
    getBits w 12 4 = 15 → s.house.waking = none → s.house.retryWait = false → s.house.stop = none →
    s.flag HOUSE_START_HELD = false → Does (.tickWord t w false) s (fun s' =>
      s'.house.waking = some 0 ∧ s'.get HOUSE_START_SOURCE = 4 ∧ s'.twin.wakeSeen = 0))

/-- STATUS_SEND puts out the STATUS message of R437; LEASE_RENEW by the leader the same with RENEW and a TICK word with RENEW. PARTNER_LOST with both paths silent for 30 ms takes PAIR
from PAIRED to LOST and KEEPER records it. LEASE_EXPIRY of a follower whose lease has run out as well makes it leader at its epoch plus 1, with the next swing in 15 minutes. Nothing of it
touches the state of the module or its enables. SWING_DUE of a PAIRED leader offers the token for the frame four ahead. -/
def Obligations.LeaseAndToken : Prop :=
  (∀ (s : State) (t : Nat), s.sendsBoth → Does (.statusSend t) s (fun s' => s'.twin.ackStatus = false ∧
    s'.out.head? = some (.splice (spliceFrame 2 0 s.twin.txSeq (s.get SPLICE_EPOCH_EPOCH) s.frameNo 0
      ([s.house.mode.num, bit s.house.lightOut + 2 * s.get SPLICE_STATUS_JOIN + 4 * bit s.joinReady
        + 16 * bit s.twin.ackStatus + 32 * s.get SPLICE_STATUS_ARMED, s.lanesAligned, 0]
        ++ toBytes 4 (if s.role = 1 then s.get SPLICE_SET_SEQ_NEXT else 0) ++ List.replicate 8 0))))) ∧
  (∀ (s : State) (t : Nat), s.sendsBoth → s.role = 1 → Does (.leaseRenew t) s (fun s' =>
    s'.twin.renewAt = some (max s.now t) ∧
    s'.out.head? = some (.tick (s.tickCells true (if s.twin.wakeTicks ≠ 0 then 15 else s.house.mode.num))) ∧
    Output.splice (spliceFrame 2 0 s.twin.txSeq (s.get SPLICE_EPOCH_EPOCH) s.frameNo 0
      ([s.house.mode.num, bit s.house.lightOut + 2 * s.get SPLICE_STATUS_JOIN + 4 * bit s.joinReady + 8
        + 16 * bit s.twin.ackStatus + 32 * s.get SPLICE_STATUS_ARMED, s.lanesAligned, 0]
        ++ toBytes 4 (s.get SPLICE_SET_SEQ_NEXT) ++ List.replicate 8 0)) ∈ s'.out)) ∧
  (∀ (s : State) (t : Nat), s.twinRuns = true → s.get SPLICE_STATUS_PAIR = 2 → (s.pass t).bothSilent = true →
    Does (.partnerLost t) s (fun s' => s'.get SPLICE_STATUS_PAIR = 4 ∧ s'.role = s.role ∧ s'.house.mode = s.house.mode ∧
      s'.get GUARD_A_STATUS_EN_A = (if s.house.mode.emitting then s.get GUARD_A_STATUS_EN_A else 0) ∧
      (s.records t = true → s'.newest = some (0x0805, 8, 0)))) ∧
  (∀ (s : State) (t : Nat), s.twinRuns = true → s.role = 2 → (s.pass t).bothSilent = true →
    (∀ x ∈ s.twin.renewAt, 50000000 + x ≤ max s.now t) → Does (.leaseExpiry t) s (fun s' => s'.role = 1 ∧
      s'.get SPLICE_EPOCH_EPOCH = (s.get SPLICE_EPOCH_EPOCH + 1) % 2 ^ 32 ∧ s'.house.mode = s.house.mode ∧
      s'.twin.swingDueAt = some (900000000000 + max s.now t) ∧ s'.flag SPLICE_STATUS_RESYNC = false ∧
      s'.get SPLICE_COUNTS_TAKEOVERS = (s.get SPLICE_COUNTS_TAKEOVERS + 1) % 256)) ∧
  (∀ (s : State) (t : Nat), s.twinRuns = true → (s.role ≠ 2 ∨ (s.pass t).bothSilent = false) → LightSafe s →
    NoEffect (.leaseExpiry t) t s) ∧
  (∀ (s : State) (t x : Nat), s.twin.swingDueAt = some x → s.twinRuns = true → s.role = 1 → s.get SPLICE_STATUS_PAIR = 2 →
    s.spliceUp = true → s.twin.swing = none → x ≤ max s.now t → Does (.swingDue t) s (fun s' =>
      s'.twin.swing = some ⟨(s.get SPLICE_EPOCH_EPOCH + 1) % 2 ^ 32, frameAdd s.frameNo 4, false⟩ ∧
      s'.twin.swingDueAt = none ∧ s'.role = 1))

/-- A good frame at the twin's own epoch is acted on. ACK ends the resending of the frame it names. CAPS while pairing that passes R441 gives PAIRED with R442's role and epoch; one that fails gives
MISMATCH with its reason, no role, and an open fault. STATUS is the partner's heartbeat. SCAN stores the partner's s_app and its frame. SWING_OFFER to a PAIRED follower in the leader's state that is not
resynchronising and has no open fault is accepted for its epoch and frame, else declined; SWING_ACCEPT and SWING_DECLINE of the offer make it agreed, or end it until 60 s later.
SPLICE_RESEND drops what is past its deadline and sends again what has waited 200 µs. -/
def Obligations.SpliceMessages : Prop :=
  (∀ (s : State) (t : Nat) (b : List Nat), s.hears 0 b → Does (.ack t b) s (fun s' =>
    s'.twin.unacked = s.twin.unacked.filter (fun u => u.seq != (rxFrame b).ackSeq) ∧ s'.twin.spliceAt = some (max s.now t))) ∧
  (∀ (s : State) (t : Nat) (b : List Nat), s.hears 1 b → s.get SPLICE_STATUS_PAIR = 1 → s.capsReason (capsOf (rxFrame b).data) = 0 →
    Does (.caps t b) s (fun s' => s'.get SPLICE_STATUS_PAIR = 2 ∧ s'.role = (s.pairRole (capsOf (rxFrame b).data)).1 ∧
      s'.get SPLICE_EPOCH_EPOCH = (s.pairRole (capsOf (rxFrame b).data)).2 % 2 ^ 32)) ∧
  (∀ (s : State) (t : Nat) (b : List Nat), s.hears 1 b → s.get SPLICE_STATUS_PAIR = 1 → s.capsReason (capsOf (rxFrame b).data) ≠ 0 →
    Does (.caps t b) s (fun s' => s'.get SPLICE_STATUS_PAIR = 3 ∧ s'.role = 0 ∧ s'.flag (openBit 27) = true ∧
      s'.get SPLICE_STATUS_REASON = s.capsReason (capsOf (rxFrame b).data))) ∧
  (∀ (s : State) (t : Nat) (b : List Nat), s.hears 2 b → Does (.status t b) s (fun s' =>
    s'.get SPLICE_STATUS_PARTNER_STATE = (rxFrame b).data.getD 0 0 % 16 ∧ s'.twin.peerLanes = (rxFrame b).data.getD 2 0 ∧
    s'.twin.beatStatus.map (·.at_) = some (max s.now t) ∧ s'.twin.beatStatus.map (·.state) = some ((rxFrame b).data.getD 0 0))) ∧
  (∀ (s : State) (t : Nat) (b : List Nat), s.hears 3 b → Does (.scan t b) s (fun s' =>
    s'.tone.partnerS = some (field (rxFrame b).data 4 4, field (rxFrame b).data 0 4))) ∧
  (∀ (s : State) (t : Nat) (b : List Nat), s.hears 7 b → s.role = 2 → (rxFrame b).data.getD 0 0 = 1 →
    Does (.swingOffer t b) s (fun s' => s'.role = 2 ∧ s'.twin.swing =
      (if s.get SPLICE_STATUS_PAIR = 2 ∧ s.heartbeat.map (·.state) = some s.house.mode.num ∧
          s.flag SPLICE_STATUS_RESYNC = false ∧ s.anyOpen = false
       then some ⟨field (rxFrame b).data 4 4, field (rxFrame b).data 8 4, true⟩ else s.twin.swing))) ∧
  (∀ (s : State) (t : Nat) (b : List Nat) (w : Swing), s.hears 7 b → s.role = 1 → s.twin.swing = some w →
    (rxFrame b).data.getD 0 0 = 2 → field (rxFrame b).data 4 4 = w.newEpoch →
    Does (.swingAccept t b) s (fun s' => s'.twin.swing = some { w with agreed := true })) ∧
  (∀ (s : State) (t : Nat) (b : List Nat) (w : Swing), s.hears 7 b → s.role = 1 → s.twin.swing = some w →
    (rxFrame b).data.getD 0 0 = 3 → field (rxFrame b).data 4 4 = w.newEpoch →
    Does (.swingDecline t b) s (fun s' => s'.twin.swing = none ∧ s'.twin.swingDueAt = some (60000000000 + max s.now t))) ∧
  (∀ (s : State) (t : Nat), Does (.spliceResend t) s (fun s' =>
    s'.twin.unacked = (s.twin.unacked.filter (fun u => !(s.pass t).deadlinePassed u)).map
      (fun u => if 200000 + u.sentAt ≤ max s.now t then { u with sentAt := max s.now t } else u) ∧
    ∀ u ∈ s.twin.unacked, (s.pass t).deadlinePassed u = false → 200000 + u.sentAt ≤ max s.now t →
      Output.splice u.bytes ∈ s'.out))

/-- COMMIT of BLOCK 1 or 3 heard by a follower in time is pending for its frame; late, it is counted and pending for a later one. MIRROR of a whole record in one segment shows its frame. EVENT: a follower takes the
leader's SET_SEQ; a leader numbers the follower's record with its next one. TIMING that is newer than the last one makes the partner's reference valid, TIMING_BLOCK_MISSING invalid.
SPLICE_LINK_CHANGE: up where a lane is ALIGNED here and reported ALIGNED within 3 ms there, pairing beginning again unless PAIRED; down otherwise, with nothing left to resend. -/
def Obligations.MirrorAndLink : Prop :=
  (∀ (s : State) (t : Nat) (b : List Nat), s.hears 5 b → s.role = 2 → (rxFrame b).data.getD 0 0 = 1 →
    (s.pass t).applyInTime 1 (field (rxFrame b).data 4 4) = true → Does (.commit t b) s (fun s' =>
      s'.timer.pending = some (timingOf (wordsOf ((rxFrame b).data.drop 8)), max s.now t, some (field (rxFrame b).data 4 4)) ∧
      s'.flag STRIKE_SYNC_STATUS_COMMIT_PENDING = true)) ∧
  (∀ (s : State) (t : Nat) (b : List Nat), s.hears 5 b → s.role = 2 → (rxFrame b).data.getD 0 0 = 1 →
    (s.pass t).applyInTime 1 (field (rxFrame b).data 4 4) = false → Does (.commit t b) s (fun s' =>
      s'.timer.pending.map (·.1) = some (timingOf (wordsOf ((rxFrame b).data.drop 8))) ∧
      s'.get SPLICE_MIRROR_LATE_COMMITS =
        min (s.get SPLICE_MIRROR_LATE_COMMITS + 1) (2 ^ SPLICE_MIRROR_LATE_COMMITS.width - 1) ∧
      (s.records t = true → s'.newest = some (0x0808, 8, 0)))) ∧
  (∀ (s : State) (t : Nat) (b : List Nat), s.hears 5 b → s.role = 2 → (rxFrame b).data.getD 0 0 = 3 →
    (s.pass t).applyInTime 3 (field (rxFrame b).data 4 4) = true → Does (.commit t b) s (fun s' => s'.braid.commit =
      some (layerCommitOf (wordsOf ((rxFrame b).data.drop 8)) (max s.now t) (field (rxFrame b).data 4 4)))) ∧
  (∀ (s : State) (t : Nat) (b : List Nat), s.hears 4 b → s.role = 2 → s.twin.segs = [] → field (rxFrame b).data 4 4 = 0 →
    field (rxFrame b).data 8 4 = ((rxFrame b).data.drop 16).length → Does (.mirror t b) s (fun s' => s'.twin.segs = [] ∧
      s'.reg SPLICE_MIRROR_FRAME_OFF = field ((rxFrame b).data.drop 16) 4 4)) ∧
  (∀ (s : State) (t : Nat) (b : List Nat), s.hears 8 b → s.role = 2 → Does (.event t b) s (fun s' =>
    s'.twin.lastSetSeq = field (rxFrame b).data 0 4 ∧
    s'.get SPLICE_SET_SEQ_NEXT = (field (rxFrame b).data 0 4 + 1) % 2 ^ 32)) ∧
  (∀ (s : State) (t : Nat) (b : List Nat), s.hears 8 b → s.role = 1 → Does (.event t b) s (fun s' =>
    s'.twin.lastSetSeq = s.get SPLICE_SET_SEQ_NEXT ∧
    s'.get SPLICE_SET_SEQ_NEXT = (s.get SPLICE_SET_SEQ_NEXT + 1) % 2 ^ 32)) ∧
  (∀ (s : State) (t : Nat) (b : List Nat), s.timerRuns = true → s.activeSource = 3 → timingValid b = true →
    (∀ l ∈ s.twin.lastTiming, 0 < frameDiff (field b 1 4) l) → Does (.timing t b) s (fun s' =>
      s'.twin.lastTiming = some (field b 1 4) ∧ s'.timer.peerValid = true ∧ s'.flag STRIKE_SYNC_STATUS_REF_VALID = true)) ∧
  (∀ (s : State) (t : Nat), s.timerRuns = true → s.activeSource = 3 → Does (.timingMissing t) s (fun s' =>
    s'.timer.peerValid = false ∧ s'.flag STRIKE_SYNC_STATUS_REF_VALID = false)) ∧
  (∀ (s : State) (t x : Nat), s.twinRuns = true → s.spliceUp = false → s.lanesAligned ≠ 0 → s.twin.peerLanesAt = some x →
    max s.now t ≤ 3000000 + x → s.twin.peerLanes % 4 ≠ 0 → Does (.spliceLink t) s (fun s' => s'.spliceUp = true ∧
      s'.get SPLICE_STATUS_PAIR = (if s.get SPLICE_STATUS_PAIR = 2 then 2 else 1))) ∧
  (∀ (s : State) (t : Nat), s.spliceUp = true → s.lanesAligned = 0 → Does (.spliceLink t) s (fun s' => s'.spliceUp = false ∧
    s'.twin.unacked = [] ∧ s'.get SPLICE_STATUS_PAIR = s.get SPLICE_STATUS_PAIR))

/-- JOIN_ENTER heard by a follower in DARK whose pass-switch test passes: a change to SHOW at the boundary of F, unless a ground of R472 keeps it out. SWITCH sets the frame at which JOIN ends. HANDOVER in SHOW: a
change to SOLO at the boundary of F. SET_CHANGE: a change to its target, by way of DARK where the target is STOWED and the module emits. JOIN_ABORT in the JOIN phase: back to DARK with cause 11. JOIN_TIMEOUT after 5 s: the leader
gives the join up and KEEPER records it; a joiner returns to DARK on its own. -/
def Obligations.ModeMessages : Prop :=
  (∀ (s : State) (t : Nat) (b : List Nat), s.hears 6 b → (rxFrame b).data.getD 0 0 = 1 → s.role = 2 → s.house.mode = .dark →
    s.house.change = none → s.house.stop = none → (s.pass t).entryGround = none → Does (.joinEnter t b true) s (fun s' =>
      s'.house.change = some ⟨.show, 1, none, 0, some (field (rxFrame b).data 4 4), false, some 2⟩ ∧ s'.house.mode = .dark)) ∧
  (∀ (s : State) (t : Nat) (b : List Nat) (p : Bool), s.hears 6 b → (s.pass t).entryGround.isSome = true →
    Does (.joinEnter t b p) s (fun s' => s'.house.change = s.house.change ∧ s'.house.mode = s.house.mode)) ∧
  (∀ (s : State) (t : Nat) (b : List Nat), s.hears 6 b → (rxFrame b).data.getD 0 0 = 2 → s.role = 2 →
    s.flag SPLICE_STATUS_JOIN = true → Does (.switch t b) s (fun s' =>
      s'.twin.switchAt = some (field (rxFrame b).data 4 4) ∧ s'.house.change = s.house.change)) ∧
  (∀ (s : State) (t : Nat) (b : List Nat), s.hears 6 b → (rxFrame b).data.getD 0 0 = 3 → s.house.mode = .show →
    (∀ c ∈ s.house.change, c.cause ∉ [3, 4, 7]) → Does (.handover t b) s (fun s' => s'.house.mode = .show ∧
      s'.house.change = some ⟨.solo, 1, none, 0, some (field (rxFrame b).data 4 4), false, some 3⟩)) ∧
  (∀ (s : State) (t : Nat) (b : List Nat) (m : Mode), s.hears 6 b → (rxFrame b).data.getD 0 0 = 4 → s.role = 2 →
    setTarget ((rxFrame b).data.getD 1 0) = some m → m ≠ s.house.mode →
    (s.house.mode.emitting = true ∨ s.house.mode = .dark ∨ s.house.mode = .service) → Does (.setChange t b) s (fun s' =>
      s'.house.mode = s.house.mode ∧
      (m = .stowed → s.house.mode.emitting = true →
        s'.house.change = some ⟨.dark, 1, none, 0, some (field (rxFrame b).data 4 4), true, some 1⟩) ∧
      (m ≠ .stowed → s'.house.change = some ⟨m, 1, none, 0, some (field (rxFrame b).data 4 4), false, some m.num⟩) ∧
      (m = .stowed → s.house.mode.emitting = false →
        s'.house.change = some ⟨.stowed, 1, none, 0, some (field (rxFrame b).data 4 4), false, none⟩))) ∧
  (∀ (s : State) (t : Nat) (b : List Nat), s.hears 6 b → (rxFrame b).data.getD 0 0 = 5 → s.role = 2 → s.house.mode = .show →
    s.flag SPLICE_STATUS_JOIN = true → Does (.joinAbort t b) s (fun s' =>
      s'.house.change = some ⟨.dark, 11, none, max s.now t, none, false, some 1⟩)) ∧
  (∀ (s : State) (t : Nat) (j : Join), s.twin.joining = some j → j.switch = none → 5000000000 + j.since ≤ max s.now t →
    Does (.joinTimeout t) s (fun s' => s'.twin.joining = none ∧ s'.house.mode = s.house.mode ∧
      (s.records t = true → s'.newest = some (0x0803, 8, 0)))) ∧
  (∀ (s : State) (t x : Nat), s.twin.joining = none → s.twin.joinSince = some x → 5000000000 + x ≤ max s.now t →
    s.house.mode = .show → s.flag SPLICE_STATUS_JOIN = true → Does (.joinTimeout t) s (fun s' =>
      s'.house.change = some ⟨.dark, 11, none, max s.now t, none, false, some 1⟩))

/-- FAULT_REPORT of one listed fault: a record unless KEEPER is still writing one, where KEEPER_LOST counts instead; a CC fault opens its bit and takes the ERR pair to fault; one without a reaction leaves the state of the module,
a DARK one deasserts both enables, a SAFE one leaves a module whose guards evaluate in SAFE, a FATAL one leaves a powered module in FATAL with its code. KEEPER_CLEAR of a bit that no guard reports is done at once, and refused where
the condition holds; a guard's open bit waits for its next cycle. KEEPER_HIST_INDEX copies the slot. FAULT_JOURNAL_WRITE in FATAL keeps the queue. ERR_HOLD_EXPIRY returns the pair to healthy, but not within 10 ms of its last fault. -/
def Obligations.KeeperReports : Prop :=
  (∀ (s : State) (t : Nat) (r : Report) (f : FaultRow), s.powered = true → faultRow r.code = some f → f.cls ≤ 1 →
    f.react = .nothing → Does (.faultReport t [r]) s (fun s' => s'.house.mode = s.house.mode ∧
      (s.records t = true → s'.newest = some (r.code, r.source, r.subject)) ∧
      (max s.now t < s.keeper.busyUntil → s'.get KEEPER_LOST_COUNT = min (s.get KEEPER_LOST_COUNT + 1) 0xFFFF ∧
        s'.keeper.hist = s.keeper.hist) ∧
      (f.cls = 0 → s'.get KEEPER_COUNTS_CE = min (s.get KEEPER_COUNTS_CE + 1) 0xFFFF) ∧
      (f.cls = 1 → (∀ b ∈ f.bit, s'.flag (openBit b) = true ∧ s'.house.errPin = .fault) ∧
        s'.get KEEPER_COUNTS_CC = min (s.get KEEPER_COUNTS_CC + 1) 0xFF))) ∧
  (∀ (s : State) (t c : Nat) (r : Report) (f : FaultRow), s.powered = true → faultRow r.code = some f →
    Does (.faultReport t [r]) s (fun s' =>
      (f.react = .dark → s'.get GUARD_A_STATUS_EN_A = 0 ∧ s'.get GUARD_B_STATUS_EN_B = 0) ∧
      (f.react = .safe c → s.house.mode.running = true → s'.inSafe) ∧
      (f.react = .fatal → s.flag KEEPER_STATUS_FATAL = false → s'.house.mode = .fatal ∧ s'.flag KEEPER_STATUS_FATAL = true ∧
        s'.get KEEPER_STATUS_FATAL_CODE = r.code ∧ s'.get GUARD_A_STATUS_EN_A = 0 ∧ s'.get GUARD_B_STATUS_EN_B = 0))) ∧
  (∀ (s : State) (t : Nat) (m : Master) (v : Word), (s.pass t).takes m KEEPER_CLEAR_OFF = true → v.toNat < 40 → s.keeper.clearing = none →
    guardOf v.toNat = none → Does (.keeperClear t m v) s (fun s' => s'.flag KEEPER_CLEAR_STATUS_DONE = true ∧
      ((s.pass t).staysOpen (openCode v.toNat) = false → s'.flag (openBit v.toNat) = false ∧
        s'.flag KEEPER_CLEAR_STATUS_REFUSED = false) ∧
      (s.flag (openBit v.toNat) = true → (s.pass t).staysOpen (openCode v.toNat) = true →
        s'.flag (openBit v.toNat) = true ∧ s'.flag KEEPER_CLEAR_STATUS_REFUSED = true ∧
        s'.get KEEPER_CLEAR_STATUS_BIT = v.toNat))) ∧
  (∀ (s : State) (t : Nat) (m : Master) (v : Word) (g : Guard), (s.pass t).takes m KEEPER_CLEAR_OFF = true → v.toNat < 40 →
    s.house.mode.running = true → s.flag (openBit v.toNat) = true → guardOf v.toNat = some g →
    Does (.keeperClear t m v) s (fun s' => s'.flag KEEPER_CLEAR_STATUS_DONE = false ∧ s'.flag (openBit v.toNat) = true ∧
      s'.keeper.clearing.isSome = true)) ∧
  (∀ (s : State) (t : Nat) (m : Master) (v : Word), (s.pass t).takes m KEEPER_HIST_INDEX_OFF = true → Does (.histIndex t m v) s (fun s' =>
    s'.flag KEEPER_HIST_INDEX_READY = true ∧ s'.get KEEPER_HIST_INDEX_SLOT = v.toNat % 32 ∧ s'.keeper = s.keeper ∧
    ∀ i, i < 8 → s'.reg (KEEPER_HIST_DATA_OFF i) = (s.histWords (v.toNat % 32)).getD i 0 % 2 ^ 32)) ∧
  (∀ (s : State) (t : Nat), s.flag KEEPER_STATUS_FATAL = true → s.flag MBOX_STATUS_FW_READY = true →
    10 ∉ s.house.pllUnlocked → Does (.faultJournal t) s (fun s' => s'.keeper.journal =
      some (s.get KEEPER_STATUS_FATAL_CODE, (s.pass t).hours, s.keeper.hist) ∧ s'.keeper.hist = s.keeper.hist)) ∧
  (∀ (s : State) (t : Nat), s.powered = true → s.house.errPin = .fault → s.errSources = 0 → LightSafe s →
    Does (.errHold t) s (fun s' =>
      (10000000 + s.house.errSince ≤ max s.now t → s'.house.errPin = .healthy ∧ s'.flag KEEPER_STATUS_ERR = false) ∧
      (max s.now t < 10000000 + s.house.errSince → s'.house.errPin = .fault ∧ s'.flag KEEPER_STATUS_ERR = true)))

/-- INJECT_GO from a master that does not hold LOCK_10 is counted in DENIED and changes no injection. From its holder REJ_CODE is R483's first failure, and where it is 0 the injection is active under its owner;
with REACT 0 it makes a record with the fault's own source and touches neither the open bits, nor the state of the module, nor the enables. INJECT_STOP from the holder ends the injection;
INJECT_HOLD_EXPIRY ends it when its time has passed, and before that has no effect. -/
def Obligations.FaultInjection : Prop :=
  (∀ (s : State) (t : Nat) (m : Master) (v : Word) (c : Instr), (s.pass t).takes m KEEPER_INJ_CTRL_OFF = true → s.holder 10 ≠ some m →
    c ∈ [Instr.injectGo t m v, .injectStop t m v] → Does c s (fun s' => s'.keeper = s.keeper ∧
      s'.get KEEPER_INJ_STATUS_DENIED = min (s.get KEEPER_INJ_STATUS_DENIED + 1) 0xFF)) ∧
  (∀ (s : State) (t : Nat) (m : Master) (v : Word), (s.pass t).takes m KEEPER_INJ_CTRL_OFF = true → s.holder 10 = some m →
    s.injectCode (v.toNat % 2 ^ 16) (s.reg KEEPER_INJ_SUBJECT_OFF) (v.toNat.testBit 29) ≠ 0 →
    Does (.injectGo t m v) s (fun s' => s'.keeper = s.keeper ∧ s'.get KEEPER_INJ_STATUS_REJ_CODE =
      s.injectCode (v.toNat % 2 ^ 16) (s.reg KEEPER_INJ_SUBJECT_OFF) (v.toNat.testBit 29))) ∧
  (∀ (s : State) (t : Nat) (m : Master) (v : Word), (s.pass t).takes m KEEPER_INJ_CTRL_OFF = true → s.holder 10 = some m →
    s.injectCode (v.toNat % 2 ^ 16) (s.reg KEEPER_INJ_SUBJECT_OFF) (v.toNat.testBit 29) = 0 → v.toNat.testBit 29 = false →
    Does (.injectGo t m v) s (fun s' => s'.flag KEEPER_INJ_STATUS_ACTIVE = true ∧ s'.get KEEPER_INJ_STATUS_REJ_CODE = 0 ∧
      s'.get KEEPER_INJ_STATUS_OWNER = m.owner ∧ s'.house.mode = s.house.mode ∧
      s'.keeper.inj.map (·.code) = some (v.toNat % 2 ^ 16) ∧
      s'.keeper.inj.map (·.subject) = some (s.reg KEEPER_INJ_SUBJECT_OFF) ∧
      (∀ b, b < 40 → s'.flag (openBit b) = s.flag (openBit b)) ∧
      s'.get GUARD_A_STATUS_EN_A = (if s.house.mode.emitting then s.get GUARD_A_STATUS_EN_A else 0) ∧
      (s.records t = true → s'.newest.map (·.1) = some (v.toNat % 2 ^ 16)))) ∧
  (∀ (s : State) (t : Nat) (m : Master) (v : Word) (i : Injection), (s.pass t).takes m KEEPER_INJ_CTRL_OFF = true → s.holder 10 = some m →
    s.keeper.inj = some i → Does (.injectStop t m v) s (fun s' => s'.keeper = { s.keeper with inj := none } ∧
      s'.flag KEEPER_INJ_STATUS_ACTIVE = false)) ∧
  (∀ (s : State) (t : Nat) (i : Injection), s.keeper.inj = some i → i.endsAt ≤ max s.now t →
    Does (.injectExpiry t) s (fun s' => s'.keeper = { s.keeper with inj := none } ∧
      s'.flag KEEPER_INJ_STATUS_ACTIVE = false)) ∧
  (∀ (s : State) (t : Nat), (∀ i ∈ s.keeper.inj, max s.now t < i.endsAt) → LightSafe s → NoEffect (.injectExpiry t) t s)
end

