-- ==== Sys2Proof/Laws/Sparse.lean ====
section
/-! SUPPORT. The sparse tables: reading after writing, writing elsewhere, and the canonical form, which every operation
keeps; with it module DRAM. -/

namespace Sys2Proof.Machine

variable {α : Type} {dflt : Nat → α}

theorem sget_sinsert_same (m : List (Nat × α)) (k : Nat) (v : α) : sget dflt (sinsert m k v) k = v := by
  induction m with
  | nil => simp [sinsert, sget]
  | cons e r ih =>
    obtain ⟨j, w⟩ := e
    by_cases h : j = k
    · subst h; simp [sinsert, sget]
    · by_cases hk : k < j <;> simp [sinsert, sget, h, hk, ih]

theorem sget_sinsert_other (m : List (Nat × α)) {k j : Nat} (v : α) (h : j ≠ k) :
    sget dflt (sinsert m k v) j = sget dflt m j := by
  have hk : k ≠ j := fun e => h e.symm
  induction m with
  | nil => simp [sinsert, sget, hk]
  | cons e r ih =>
    obtain ⟨i, w⟩ := e
    by_cases hi : i = k
    · subst hi; simp [sinsert, sget, hk]
    · by_cases hlt : k < i <;> simp [sinsert, sget, hi, hlt, hk, ih]

theorem sget_serase_same (m : List (Nat × α)) (k : Nat) : sget dflt (serase m k) k = dflt k := by
  induction m with
  | nil => rfl
  | cons e r ih =>
    obtain ⟨j, w⟩ := e
    simp only [serase] at ih ⊢
    by_cases h : j = k
    · subst h; simpa [List.filter_cons] using ih
    · simpa [List.filter_cons, h, sget] using ih

theorem sget_serase_other (m : List (Nat × α)) {k j : Nat} (h : j ≠ k) :
    sget dflt (serase m k) j = sget dflt m j := by
  induction m with
  | nil => rfl
  | cons e r ih =>
    obtain ⟨i, w⟩ := e
    simp only [serase] at ih ⊢
    by_cases hi : i = k
    · subst hi
      have hj : i ≠ j := fun e => h e.symm
      simpa [List.filter_cons, sget, hj] using ih
    · by_cases hj : i = j
      · subst hj
        simp [h, sget]
      · simp [List.filter_cons, hi, sget, hj, ih]

theorem sput_eq [DecidableEq α] (m : List (Nat × α)) (k : Nat) (v : α) :
    sput dflt m k v = if v = dflt k then serase m k else sinsert m k v := by cases m <;> rfl

/-- Reading where something was written gives what was written. -/
@[simp] theorem sget_sput_same [DecidableEq α] (m : List (Nat × α)) (k : Nat) (v : α) : sget dflt (sput dflt m k v) k = v := by
  rw [sput_eq]
  split
  · next h => rw [sget_serase_same, h]
  · exact sget_sinsert_same m k v

/-- A write leaves every other key alone. -/
theorem sget_sput_other [DecidableEq α] (m : List (Nat × α)) {k j : Nat} (v : α) (h : j ≠ k) :
    sget dflt (sput dflt m k v) j = sget dflt m j := by
  rw [sput_eq]
  split
  · exact sget_serase_other m h
  · exact sget_sinsert_other m v h

theorem mem_sinsert {m : List (Nat × α)} {k : Nat} {v : α} {e : Nat × α} (h : e ∈ sinsert m k v) :
    e = (k, v) ∨ e ∈ m := by
  induction m with
  | nil => simpa [sinsert] using h
  | cons f r ih =>
    obtain ⟨j, w⟩ := f
    by_cases hj : j = k
    · simp only [sinsert, hj, if_true, List.mem_cons] at h ⊢
      tauto
    · by_cases hk : k < j
      · simp only [sinsert, hj, hk, if_true, if_false, List.mem_cons] at h ⊢
        tauto
      · simp only [sinsert, hj, hk, if_false, List.mem_cons] at h ⊢
        tauto

theorem sinsert_rising {m : List (Nat × α)} (k : Nat) (v : α) (h : m.Pairwise (fun a b => a.1 < b.1)) :
    (sinsert m k v).Pairwise (fun a b => a.1 < b.1) := by
  induction m with
  | nil => simp [sinsert]
  | cons f r ih =>
    obtain ⟨j, w⟩ := f
    have hr := List.pairwise_cons.mp h
    by_cases hj : j = k
    · subst hj
      simpa [sinsert] using h
    · by_cases hk : k < j
      · have : ∀ e ∈ (j, w) :: r, k < e.1 := by
          intro e he
          rcases List.mem_cons.mp he with rfl | he
          · exact hk
          · exact Nat.lt_trans hk (hr.1 e he)
        rw [sinsert, if_neg hj, if_pos hk]
        exact List.pairwise_cons.mpr ⟨this, h⟩
      · have hjk : j < k := by omega
        simp only [sinsert, hj, hk, if_false]
        refine List.pairwise_cons.mpr ⟨fun e he => ?_, ih hr.2⟩
        rcases mem_sinsert he with rfl | he
        · exact hjk
        · exact hr.1 e he

/-- A write keeps the canonical form. -/
theorem sput_canon [DecidableEq α] {m : List (Nat × α)} (k : Nat) (v : α) (h : Canon dflt m) : Canon dflt (sput dflt m k v) := by
  rw [sput_eq]
  split
  · exact ⟨h.1.filter _, fun e he => h.2 e (List.mem_filter.mp he).1⟩
  · next hv =>
    refine ⟨sinsert_rising k v h.1, fun e he => ?_⟩
    rcases mem_sinsert he with rfl | he
    · exact hv
    · exact h.2 e he

/-- The empty table is canonical. -/
theorem canon_nil [DecidableEq α] : Canon dflt ([] : List (Nat × α)) := ⟨List.Pairwise.nil, fun _ h => (List.not_mem_nil h).elim⟩

/-! ### Module DRAM -/

@[simp] theorem Mem.read_write_same (m : List Host.Cell) (a : Nat) (b : BitVec 8) : Mem.read (Mem.write m a b) a = b :=
  sget_sput_same m a b

theorem Mem.read_write_other (m : List Host.Cell) {a x : Nat} (b : BitVec 8) (h : x ≠ a) :
    Mem.read (Mem.write m a b) x = Mem.read m x := sget_sput_other m b h

theorem Mem.write_wf {m : List Host.Cell} (a : Nat) (b : BitVec 8) (h : Mem.wf m) : Mem.wf (Mem.write m a b) :=
  sput_canon a b h

/-- Bytes outside those written keep their value. -/
theorem Mem.read_writes_outside (l : List Nat) : ∀ (m : List Host.Cell) (a x : Nat), x < a ∨ a + l.length ≤ x →
    Mem.read (Mem.writes m a l) x = Mem.read m x := by
  induction l with
  | nil => intro m a x _; rfl
  | cons b r ih =>
    intro m a x h
    simp only [List.length_cons] at h
    rw [Mem.writes, ih _ _ _ (by omega), Mem.read_write_other _ _ (by omega)]

/-- The bytes written read back. -/
theorem Mem.read_writes_inside (l : List Nat) : ∀ (m : List Host.Cell) (a i : Nat) (h : i < l.length),
    Mem.read (Mem.writes m a l) (a + i) = BitVec.ofNat 8 l[i] := by
  induction l with
  | nil => intro m a i h; simp at h
  | cons b r ih =>
    intro m a i h
    cases i with
    | zero => rw [Mem.writes, Mem.read_writes_outside _ _ _ _ (by omega)]; simp
    | succ j =>
      have := ih (Mem.write m a (BitVec.ofNat 8 b)) (a + 1) j (by simpa using h)
      rw [Mem.writes, show a + (j + 1) = a + 1 + j by omega, this]
      simp

theorem Mem.writes_wf (l : List Nat) : ∀ (m : List Host.Cell) (a : Nat), Mem.wf m → Mem.wf (Mem.writes m a l) := by
  induction l with
  | nil => intro m a h; exact h
  | cons b r ih => intro m a h; exact ih _ _ (Mem.write_wf a _ h)

end Sys2Proof.Machine
end

