-- ==== Sys2Proof/Laws/Registers.lean ====
section
/-! SUPPORT. Fields of registers: what a field reads after it was set, and that setting it leaves every other field of
every register alone. -/

namespace Sys2Proof

theorem getBits_lt (w l k : Nat) : getBits w l k < 2 ^ k := Nat.mod_lt _ (Nat.two_pow_pos k)

theorem testBit_getBits (w l k i : Nat) : (getBits w l k).testBit i = (decide (i < k) && w.testBit (l + i)) := by
  unfold getBits
  rw [Nat.testBit_mod_two_pow, Nat.testBit_div_two_pow, Nat.add_comm]

theorem testBit_setBits (w l k v i : Nat) :
    (setBits w l k v).testBit i =
      if i < l then w.testBit i else if i < l + k then v.testBit (i - l) else w.testBit i := by
  have e : setBits w l k v = 2 ^ (l + k) * (w / 2 ^ (l + k)) + (2 ^ l * (v % 2 ^ k) + w % 2 ^ l) := by
    unfold setBits; ring
  have h1 : w % 2 ^ l < 2 ^ l := Nat.mod_lt _ (Nat.two_pow_pos l)
  have h2 : 2 ^ l * (v % 2 ^ k) + w % 2 ^ l < 2 ^ (l + k) := by
    have : v % 2 ^ k + 1 ≤ 2 ^ k := Nat.mod_lt _ (Nat.two_pow_pos k)
    calc 2 ^ l * (v % 2 ^ k) + w % 2 ^ l < 2 ^ l * (v % 2 ^ k + 1) := by rw [Nat.mul_add]; omega
      _ ≤ 2 ^ l * 2 ^ k := Nat.mul_le_mul_left _ this
      _ = 2 ^ (l + k) := (Nat.pow_add 2 l k).symm
  rw [e, Nat.testBit_two_pow_mul_add _ h2, Nat.testBit_two_pow_mul_add _ h1]
  by_cases hl : i < l
  · have : i < l + k := by omega
    simp [hl, this, Nat.testBit_mod_two_pow]
  · by_cases hk : i < l + k
    · have : i - l < k := by omega
      simp [hl, hk, this, Nat.testBit_mod_two_pow]
    · simp [hl, hk, Nat.testBit_div_two_pow, show i - (l + k) + (l + k) = i by omega]

/-- The bits that were set read what was set. -/
theorem getBits_setBits_same (w l k v : Nat) : getBits (setBits w l k v) l k = v % 2 ^ k := by
  apply Nat.eq_of_testBit_eq
  intro i
  rw [testBit_getBits, testBit_setBits, Nat.testBit_mod_two_pow]
  by_cases h : i < k
  · simp [h]
  · simp [h]

/-- Bits apart from those that were set keep their value. -/
theorem getBits_setBits_other {l k m n : Nat} (w v : Nat) (h : l + k ≤ m ∨ m + n ≤ l) :
    getBits (setBits w l k v) m n = getBits w m n := by
  apply Nat.eq_of_testBit_eq
  intro i
  rw [testBit_getBits, testBit_getBits, testBit_setBits]
  by_cases hi : i < n
  · rcases h with h | h
    · rw [if_neg (by omega), if_neg (by omega)]
    · rw [if_pos (by omega)]
  · simp [hi]

/-- Bits inside a word are those of the word cut to 32 bits. -/
theorem getBits_mod (w : Nat) {l k : Nat} (h : l + k ≤ 32) : getBits (w % 2 ^ 32) l k = getBits w l k := by
  apply Nat.eq_of_testBit_eq
  intro i
  rw [testBit_getBits, testBit_getBits, Nat.testBit_mod_two_pow]
  by_cases hi : i < k
  · simp [show l + i < 32 by omega]
  · simp [hi]

end Sys2Proof

namespace Sys2Proof.Machine

theorem rread_rwrite_same (r : List (Nat × BitVec 32)) (o : Nat) (v : BitVec 32) : rread (rwrite r o v) o = v :=
  sget_sput_same r o v

theorem rread_rwrite_other (r : List (Nat × BitVec 32)) {o p : Nat} (v : BitVec 32) (h : p ≠ o) :
    rread (rwrite r o v) p = rread r p := sget_sput_other r v h

/-- A field reads what it was set to, cut to its width. -/
theorem fget_fset_same (r : List (Nat × BitVec 32)) {f : Field} (v : Nat) (h : f.lsb + f.width ≤ 32) :
    fget (fset r f v) f = v % 2 ^ f.width := by
  rw [fget, fset, rread_rwrite_same, BitVec.toNat_ofNat, getBits_mod _ h, getBits_setBits_same]

/-- Setting a field leaves a field apart from it alone. -/
theorem fget_fset_other (r : List (Nat × BitVec 32)) {f g : Field} (v : Nat) (hg : g.lsb + g.width ≤ 32)
    (h : g.off ≠ f.off ∨ f.lsb + f.width ≤ g.lsb ∨ g.lsb + g.width ≤ f.lsb) :
    fget (fset r f v) g = fget r g := by
  rw [fget, fset, fget]
  by_cases ho : g.off = f.off
  · have h : f.lsb + f.width ≤ g.lsb ∨ g.lsb + g.width ≤ f.lsb := by
      rcases h with h | h
      · exact absurd ho h
      · exact h
    rw [ho, rread_rwrite_same, BitVec.toNat_ofNat, getBits_mod _ hg, getBits_setBits_other _ _ h]
  · rw [rread_rwrite_other _ _ ho]

/-- Setting a field leaves every other register alone. -/
theorem rread_fset_other (r : List (Nat × BitVec 32)) {f : Field} {o : Nat} (v : Nat) (h : o ≠ f.off) :
    rread (fset r f v) o = rread r o := rread_rwrite_other _ _ h

/-- A whole register written reads back by fields. -/
theorem fget_rwrite_same (r : List (Nat × BitVec 32)) {f : Field} (v : BitVec 32) :
    fget (rwrite r f.off v) f = getBits v.toNat f.lsb f.width := by rw [fget, rread_rwrite_same]

theorem fget_rwrite_other (r : List (Nat × BitVec 32)) {f : Field} {o : Nat} (v : BitVec 32) (h : f.off ≠ o) :
    fget (rwrite r o v) f = fget r f := by rw [fget, rread_rwrite_other _ _ h, fget]

/-- The register file stays canonical. -/
theorem fset_canon {r : List (Nat × BitVec 32)} (f : Field) (v : Nat) (h : Canon coldReg r) : Canon coldReg (fset r f v) :=
  sput_canon _ _ h

/-! ### The same through the state -/

theorem State.get_set_same (s : State) {f : Field} (v : Nat) (h : f.lsb + f.width ≤ 32) :
    (s.set f v).get f = v % 2 ^ f.width := fget_fset_same s.regs v h

theorem State.get_set_other (s : State) {f g : Field} (v : Nat) (hg : g.lsb + g.width ≤ 32)
    (h : g.off ≠ f.off ∨ f.lsb + f.width ≤ g.lsb ∨ g.lsb + g.width ≤ f.lsb) : (s.set f v).get g = s.get g :=
  fget_fset_other s.regs v hg h

theorem State.flag_iff (s : State) (f : Field) : s.flag f = (s.get f == 1) := rfl

theorem State.flag_set_other (s : State) {f g : Field} (v : Nat) (hg : g.lsb + g.width ≤ 32)
    (h : g.off ≠ f.off ∨ f.lsb + f.width ≤ g.lsb ∨ g.lsb + g.width ≤ f.lsb) : (s.set f v).flag g = s.flag g := by
  rw [State.flag_iff, State.flag_iff, State.get_set_other s v hg h]

theorem State.reg_set_other (s : State) {f : Field} {o : Nat} (v : Nat) (h : o ≠ f.off) : (s.set f v).reg o = s.reg o := by
  rw [State.reg, State.set, rread_fset_other _ _ h, State.reg]

theorem State.reg_setReg_same (s : State) (o v : Nat) : (s.setReg o v).reg o = v % 2 ^ 32 := by
  rw [State.reg, State.setReg, rread_rwrite_same, BitVec.toNat_ofNat]

theorem State.reg_setReg_other (s : State) {o p : Nat} (v : Nat) (h : p ≠ o) : (s.setReg o v).reg p = s.reg p := by
  rw [State.reg, State.setReg, rread_rwrite_other _ _ h, State.reg]

theorem State.get_setReg_same (s : State) {f : Field} (v : Nat) (h : f.lsb + f.width ≤ 32) :
    (s.setReg f.off v).get f = getBits v f.lsb f.width := by
  rw [State.get, State.setReg, fget_rwrite_same, BitVec.toNat_ofNat, getBits_mod _ h]

theorem State.get_setReg_other (s : State) {f : Field} {o : Nat} (v : Nat) (h : f.off ≠ o) :
    (s.setReg o v).get f = s.get f := fget_rwrite_other _ _ h

theorem State.get_lt (s : State) (f : Field) : s.get f < 2 ^ f.width := getBits_lt _ _ _

end Sys2Proof.Machine
end

