-- ==== Sys2Proof/Laws/State.lean ====
section
/-! SUPPORT. One lemma for each field of State and each operation that leaves it alone, and what the passing of time and the
frame of every command do. -/

namespace Sys2Proof.Machine

/-! ### set -/

@[simp] theorem State.set_now (s : State) (f : Field) (v : Nat) : (s.set f v).now = s.now := rfl
@[simp] theorem State.set_pending (s : State) (f : Field) (v : Nat) : (s.set f v).pending = s.pending := rfl
@[simp] theorem State.set_freeCtr (s : State) (f : Field) (v : Nat) : (s.set f v).freeCtr = s.freeCtr := rfl
@[simp] theorem State.set_dram (s : State) (f : Field) (v : Nat) : (s.set f v).dram = s.dram := rfl
@[simp] theorem State.set_out (s : State) (f : Field) (v : Nat) : (s.set f v).out = s.out := rfl
@[simp] theorem State.set_shadows (s : State) (f : Field) (v : Nat) : (s.set f v).shadows = s.shadows := rfl
@[simp] theorem State.set_access (s : State) (f : Field) (v : Nat) : (s.set f v).access = s.access := rfl
@[simp] theorem State.set_house (s : State) (f : Field) (v : Nat) : (s.set f v).house = s.house := rfl
@[simp] theorem State.set_keeper (s : State) (f : Field) (v : Nat) : (s.set f v).keeper = s.keeper := rfl
@[simp] theorem State.set_host (s : State) (f : Field) (v : Nat) : (s.set f v).host = s.host := rfl
@[simp] theorem State.set_hk (s : State) (f : Field) (v : Nat) : (s.set f v).hk = s.hk := rfl
@[simp] theorem State.set_intake (s : State) (f : Field) (v : Nat) : (s.set f v).intake = s.intake := rfl
@[simp] theorem State.set_braid (s : State) (f : Field) (v : Nat) : (s.set f v).braid = s.braid := rfl
@[simp] theorem State.set_warp (s : State) (f : Field) (v : Nat) : (s.set f v).warp = s.warp := rfl
@[simp] theorem State.set_tone (s : State) (f : Field) (v : Nat) : (s.set f v).tone = s.tone := rfl
@[simp] theorem State.set_anode (s : State) (f : Field) (v : Nat) : (s.set f v).anode = s.anode := rfl
@[simp] theorem State.set_timer (s : State) (f : Field) (v : Nat) : (s.set f v).timer = s.timer := rfl
@[simp] theorem State.set_array (s : State) (f : Field) (v : Nat) : (s.set f v).array = s.array := rfl
@[simp] theorem State.set_guards (s : State) (f : Field) (v : Nat) : (s.set f v).guards = s.guards := rfl
@[simp] theorem State.set_twin (s : State) (f : Field) (v : Nat) : (s.set f v).twin = s.twin := rfl

/-! ### setReg -/

@[simp] theorem State.setReg_now (s : State) (o v : Nat) : (s.setReg o v).now = s.now := rfl
@[simp] theorem State.setReg_pending (s : State) (o v : Nat) : (s.setReg o v).pending = s.pending := rfl
@[simp] theorem State.setReg_freeCtr (s : State) (o v : Nat) : (s.setReg o v).freeCtr = s.freeCtr := rfl
@[simp] theorem State.setReg_dram (s : State) (o v : Nat) : (s.setReg o v).dram = s.dram := rfl
@[simp] theorem State.setReg_out (s : State) (o v : Nat) : (s.setReg o v).out = s.out := rfl
@[simp] theorem State.setReg_shadows (s : State) (o v : Nat) : (s.setReg o v).shadows = s.shadows := rfl
@[simp] theorem State.setReg_access (s : State) (o v : Nat) : (s.setReg o v).access = s.access := rfl
@[simp] theorem State.setReg_house (s : State) (o v : Nat) : (s.setReg o v).house = s.house := rfl
@[simp] theorem State.setReg_keeper (s : State) (o v : Nat) : (s.setReg o v).keeper = s.keeper := rfl
@[simp] theorem State.setReg_host (s : State) (o v : Nat) : (s.setReg o v).host = s.host := rfl
@[simp] theorem State.setReg_hk (s : State) (o v : Nat) : (s.setReg o v).hk = s.hk := rfl
@[simp] theorem State.setReg_intake (s : State) (o v : Nat) : (s.setReg o v).intake = s.intake := rfl
@[simp] theorem State.setReg_braid (s : State) (o v : Nat) : (s.setReg o v).braid = s.braid := rfl
@[simp] theorem State.setReg_warp (s : State) (o v : Nat) : (s.setReg o v).warp = s.warp := rfl
@[simp] theorem State.setReg_tone (s : State) (o v : Nat) : (s.setReg o v).tone = s.tone := rfl
@[simp] theorem State.setReg_anode (s : State) (o v : Nat) : (s.setReg o v).anode = s.anode := rfl
@[simp] theorem State.setReg_timer (s : State) (o v : Nat) : (s.setReg o v).timer = s.timer := rfl
@[simp] theorem State.setReg_array (s : State) (o v : Nat) : (s.setReg o v).array = s.array := rfl
@[simp] theorem State.setReg_guards (s : State) (o v : Nat) : (s.setReg o v).guards = s.guards := rfl
@[simp] theorem State.setReg_twin (s : State) (o v : Nat) : (s.setReg o v).twin = s.twin := rfl

/-! ### setFlag -/

@[simp] theorem State.setFlag_now (s : State) (f : Field) (b : Bool) : (s.setFlag f b).now = s.now := rfl
@[simp] theorem State.setFlag_pending (s : State) (f : Field) (b : Bool) : (s.setFlag f b).pending = s.pending := rfl
@[simp] theorem State.setFlag_freeCtr (s : State) (f : Field) (b : Bool) : (s.setFlag f b).freeCtr = s.freeCtr := rfl
@[simp] theorem State.setFlag_dram (s : State) (f : Field) (b : Bool) : (s.setFlag f b).dram = s.dram := rfl
@[simp] theorem State.setFlag_out (s : State) (f : Field) (b : Bool) : (s.setFlag f b).out = s.out := rfl
@[simp] theorem State.setFlag_shadows (s : State) (f : Field) (b : Bool) : (s.setFlag f b).shadows = s.shadows := rfl
@[simp] theorem State.setFlag_access (s : State) (f : Field) (b : Bool) : (s.setFlag f b).access = s.access := rfl
@[simp] theorem State.setFlag_house (s : State) (f : Field) (b : Bool) : (s.setFlag f b).house = s.house := rfl
@[simp] theorem State.setFlag_keeper (s : State) (f : Field) (b : Bool) : (s.setFlag f b).keeper = s.keeper := rfl
@[simp] theorem State.setFlag_host (s : State) (f : Field) (b : Bool) : (s.setFlag f b).host = s.host := rfl
@[simp] theorem State.setFlag_hk (s : State) (f : Field) (b : Bool) : (s.setFlag f b).hk = s.hk := rfl
@[simp] theorem State.setFlag_intake (s : State) (f : Field) (b : Bool) : (s.setFlag f b).intake = s.intake := rfl
@[simp] theorem State.setFlag_braid (s : State) (f : Field) (b : Bool) : (s.setFlag f b).braid = s.braid := rfl
@[simp] theorem State.setFlag_warp (s : State) (f : Field) (b : Bool) : (s.setFlag f b).warp = s.warp := rfl
@[simp] theorem State.setFlag_tone (s : State) (f : Field) (b : Bool) : (s.setFlag f b).tone = s.tone := rfl
@[simp] theorem State.setFlag_anode (s : State) (f : Field) (b : Bool) : (s.setFlag f b).anode = s.anode := rfl
@[simp] theorem State.setFlag_timer (s : State) (f : Field) (b : Bool) : (s.setFlag f b).timer = s.timer := rfl
@[simp] theorem State.setFlag_array (s : State) (f : Field) (b : Bool) : (s.setFlag f b).array = s.array := rfl
@[simp] theorem State.setFlag_guards (s : State) (f : Field) (b : Bool) : (s.setFlag f b).guards = s.guards := rfl
@[simp] theorem State.setFlag_twin (s : State) (f : Field) (b : Bool) : (s.setFlag f b).twin = s.twin := rfl

/-! ### bumpBy -/

@[simp] theorem State.bumpBy_now (s : State) (f : Field) (n : Nat) : (s.bumpBy f n).now = s.now := rfl
@[simp] theorem State.bumpBy_pending (s : State) (f : Field) (n : Nat) : (s.bumpBy f n).pending = s.pending := rfl
@[simp] theorem State.bumpBy_freeCtr (s : State) (f : Field) (n : Nat) : (s.bumpBy f n).freeCtr = s.freeCtr := rfl
@[simp] theorem State.bumpBy_dram (s : State) (f : Field) (n : Nat) : (s.bumpBy f n).dram = s.dram := rfl
@[simp] theorem State.bumpBy_out (s : State) (f : Field) (n : Nat) : (s.bumpBy f n).out = s.out := rfl
@[simp] theorem State.bumpBy_shadows (s : State) (f : Field) (n : Nat) : (s.bumpBy f n).shadows = s.shadows := rfl
@[simp] theorem State.bumpBy_access (s : State) (f : Field) (n : Nat) : (s.bumpBy f n).access = s.access := rfl
@[simp] theorem State.bumpBy_house (s : State) (f : Field) (n : Nat) : (s.bumpBy f n).house = s.house := rfl
@[simp] theorem State.bumpBy_keeper (s : State) (f : Field) (n : Nat) : (s.bumpBy f n).keeper = s.keeper := rfl
@[simp] theorem State.bumpBy_host (s : State) (f : Field) (n : Nat) : (s.bumpBy f n).host = s.host := rfl
@[simp] theorem State.bumpBy_hk (s : State) (f : Field) (n : Nat) : (s.bumpBy f n).hk = s.hk := rfl
@[simp] theorem State.bumpBy_intake (s : State) (f : Field) (n : Nat) : (s.bumpBy f n).intake = s.intake := rfl
@[simp] theorem State.bumpBy_braid (s : State) (f : Field) (n : Nat) : (s.bumpBy f n).braid = s.braid := rfl
@[simp] theorem State.bumpBy_warp (s : State) (f : Field) (n : Nat) : (s.bumpBy f n).warp = s.warp := rfl
@[simp] theorem State.bumpBy_tone (s : State) (f : Field) (n : Nat) : (s.bumpBy f n).tone = s.tone := rfl
@[simp] theorem State.bumpBy_anode (s : State) (f : Field) (n : Nat) : (s.bumpBy f n).anode = s.anode := rfl
@[simp] theorem State.bumpBy_timer (s : State) (f : Field) (n : Nat) : (s.bumpBy f n).timer = s.timer := rfl
@[simp] theorem State.bumpBy_array (s : State) (f : Field) (n : Nat) : (s.bumpBy f n).array = s.array := rfl
@[simp] theorem State.bumpBy_guards (s : State) (f : Field) (n : Nat) : (s.bumpBy f n).guards = s.guards := rfl
@[simp] theorem State.bumpBy_twin (s : State) (f : Field) (n : Nat) : (s.bumpBy f n).twin = s.twin := rfl

/-! ### bump -/

@[simp] theorem State.bump_now (s : State) (f : Field) : (s.bump f).now = s.now := rfl
@[simp] theorem State.bump_pending (s : State) (f : Field) : (s.bump f).pending = s.pending := rfl
@[simp] theorem State.bump_freeCtr (s : State) (f : Field) : (s.bump f).freeCtr = s.freeCtr := rfl
@[simp] theorem State.bump_dram (s : State) (f : Field) : (s.bump f).dram = s.dram := rfl
@[simp] theorem State.bump_out (s : State) (f : Field) : (s.bump f).out = s.out := rfl
@[simp] theorem State.bump_shadows (s : State) (f : Field) : (s.bump f).shadows = s.shadows := rfl
@[simp] theorem State.bump_access (s : State) (f : Field) : (s.bump f).access = s.access := rfl
@[simp] theorem State.bump_house (s : State) (f : Field) : (s.bump f).house = s.house := rfl
@[simp] theorem State.bump_keeper (s : State) (f : Field) : (s.bump f).keeper = s.keeper := rfl
@[simp] theorem State.bump_host (s : State) (f : Field) : (s.bump f).host = s.host := rfl
@[simp] theorem State.bump_hk (s : State) (f : Field) : (s.bump f).hk = s.hk := rfl
@[simp] theorem State.bump_intake (s : State) (f : Field) : (s.bump f).intake = s.intake := rfl
@[simp] theorem State.bump_braid (s : State) (f : Field) : (s.bump f).braid = s.braid := rfl
@[simp] theorem State.bump_warp (s : State) (f : Field) : (s.bump f).warp = s.warp := rfl
@[simp] theorem State.bump_tone (s : State) (f : Field) : (s.bump f).tone = s.tone := rfl
@[simp] theorem State.bump_anode (s : State) (f : Field) : (s.bump f).anode = s.anode := rfl
@[simp] theorem State.bump_timer (s : State) (f : Field) : (s.bump f).timer = s.timer := rfl
@[simp] theorem State.bump_array (s : State) (f : Field) : (s.bump f).array = s.array := rfl
@[simp] theorem State.bump_guards (s : State) (f : Field) : (s.bump f).guards = s.guards := rfl
@[simp] theorem State.bump_twin (s : State) (f : Field) : (s.bump f).twin = s.twin := rfl

/-! ### count -/

@[simp] theorem State.count_now (s : State) (f : Field) : (s.count f).now = s.now := rfl
@[simp] theorem State.count_pending (s : State) (f : Field) : (s.count f).pending = s.pending := rfl
@[simp] theorem State.count_freeCtr (s : State) (f : Field) : (s.count f).freeCtr = s.freeCtr := rfl
@[simp] theorem State.count_dram (s : State) (f : Field) : (s.count f).dram = s.dram := rfl
@[simp] theorem State.count_out (s : State) (f : Field) : (s.count f).out = s.out := rfl
@[simp] theorem State.count_shadows (s : State) (f : Field) : (s.count f).shadows = s.shadows := rfl
@[simp] theorem State.count_access (s : State) (f : Field) : (s.count f).access = s.access := rfl
@[simp] theorem State.count_house (s : State) (f : Field) : (s.count f).house = s.house := rfl
@[simp] theorem State.count_keeper (s : State) (f : Field) : (s.count f).keeper = s.keeper := rfl
@[simp] theorem State.count_host (s : State) (f : Field) : (s.count f).host = s.host := rfl
@[simp] theorem State.count_hk (s : State) (f : Field) : (s.count f).hk = s.hk := rfl
@[simp] theorem State.count_intake (s : State) (f : Field) : (s.count f).intake = s.intake := rfl
@[simp] theorem State.count_braid (s : State) (f : Field) : (s.count f).braid = s.braid := rfl
@[simp] theorem State.count_warp (s : State) (f : Field) : (s.count f).warp = s.warp := rfl
@[simp] theorem State.count_tone (s : State) (f : Field) : (s.count f).tone = s.tone := rfl
@[simp] theorem State.count_anode (s : State) (f : Field) : (s.count f).anode = s.anode := rfl
@[simp] theorem State.count_timer (s : State) (f : Field) : (s.count f).timer = s.timer := rfl
@[simp] theorem State.count_array (s : State) (f : Field) : (s.count f).array = s.array := rfl
@[simp] theorem State.count_guards (s : State) (f : Field) : (s.count f).guards = s.guards := rfl
@[simp] theorem State.count_twin (s : State) (f : Field) : (s.count f).twin = s.twin := rfl

/-! ### emit -/

@[simp] theorem State.emit_now (s : State) (o : Output) : (s.emit o).now = s.now := rfl
@[simp] theorem State.emit_pending (s : State) (o : Output) : (s.emit o).pending = s.pending := rfl
@[simp] theorem State.emit_freeCtr (s : State) (o : Output) : (s.emit o).freeCtr = s.freeCtr := rfl
@[simp] theorem State.emit_regs (s : State) (o : Output) : (s.emit o).regs = s.regs := rfl
@[simp] theorem State.emit_dram (s : State) (o : Output) : (s.emit o).dram = s.dram := rfl
@[simp] theorem State.emit_shadows (s : State) (o : Output) : (s.emit o).shadows = s.shadows := rfl
@[simp] theorem State.emit_access (s : State) (o : Output) : (s.emit o).access = s.access := rfl
@[simp] theorem State.emit_house (s : State) (o : Output) : (s.emit o).house = s.house := rfl
@[simp] theorem State.emit_keeper (s : State) (o : Output) : (s.emit o).keeper = s.keeper := rfl
@[simp] theorem State.emit_host (s : State) (o : Output) : (s.emit o).host = s.host := rfl
@[simp] theorem State.emit_hk (s : State) (o : Output) : (s.emit o).hk = s.hk := rfl
@[simp] theorem State.emit_intake (s : State) (o : Output) : (s.emit o).intake = s.intake := rfl
@[simp] theorem State.emit_braid (s : State) (o : Output) : (s.emit o).braid = s.braid := rfl
@[simp] theorem State.emit_warp (s : State) (o : Output) : (s.emit o).warp = s.warp := rfl
@[simp] theorem State.emit_tone (s : State) (o : Output) : (s.emit o).tone = s.tone := rfl
@[simp] theorem State.emit_anode (s : State) (o : Output) : (s.emit o).anode = s.anode := rfl
@[simp] theorem State.emit_timer (s : State) (o : Output) : (s.emit o).timer = s.timer := rfl
@[simp] theorem State.emit_array (s : State) (o : Output) : (s.emit o).array = s.array := rfl
@[simp] theorem State.emit_guards (s : State) (o : Output) : (s.emit o).guards = s.guards := rfl
@[simp] theorem State.emit_twin (s : State) (o : Output) : (s.emit o).twin = s.twin := rfl

/-! ### at_ -/

@[simp] theorem State.at_pending (s : State) (t : Nat) : (s.at_ t).pending = s.pending := rfl
@[simp] theorem State.at_freeCtr (s : State) (t : Nat) : (s.at_ t).freeCtr = s.freeCtr := rfl
@[simp] theorem State.at_regs (s : State) (t : Nat) : (s.at_ t).regs = s.regs := rfl
@[simp] theorem State.at_dram (s : State) (t : Nat) : (s.at_ t).dram = s.dram := rfl
@[simp] theorem State.at_out (s : State) (t : Nat) : (s.at_ t).out = s.out := rfl
@[simp] theorem State.at_shadows (s : State) (t : Nat) : (s.at_ t).shadows = s.shadows := rfl
@[simp] theorem State.at_access (s : State) (t : Nat) : (s.at_ t).access = s.access := rfl
@[simp] theorem State.at_house (s : State) (t : Nat) : (s.at_ t).house = s.house := rfl
@[simp] theorem State.at_keeper (s : State) (t : Nat) : (s.at_ t).keeper = s.keeper := rfl
@[simp] theorem State.at_host (s : State) (t : Nat) : (s.at_ t).host = s.host := rfl
@[simp] theorem State.at_hk (s : State) (t : Nat) : (s.at_ t).hk = s.hk := rfl
@[simp] theorem State.at_intake (s : State) (t : Nat) : (s.at_ t).intake = s.intake := rfl
@[simp] theorem State.at_braid (s : State) (t : Nat) : (s.at_ t).braid = s.braid := rfl
@[simp] theorem State.at_warp (s : State) (t : Nat) : (s.at_ t).warp = s.warp := rfl
@[simp] theorem State.at_tone (s : State) (t : Nat) : (s.at_ t).tone = s.tone := rfl
@[simp] theorem State.at_anode (s : State) (t : Nat) : (s.at_ t).anode = s.anode := rfl
@[simp] theorem State.at_timer (s : State) (t : Nat) : (s.at_ t).timer = s.timer := rfl
@[simp] theorem State.at_array (s : State) (t : Nat) : (s.at_ t).array = s.array := rfl
@[simp] theorem State.at_guards (s : State) (t : Nat) : (s.at_ t).guards = s.guards := rfl
@[simp] theorem State.at_twin (s : State) (t : Nat) : (s.at_ t).twin = s.twin := rfl

/-! ### setRing -/

@[simp] theorem State.setRing_now (s : State) (n : Nat) (r : Ring) : (s.setRing n r).now = s.now := rfl
@[simp] theorem State.setRing_pending (s : State) (n : Nat) (r : Ring) : (s.setRing n r).pending = s.pending := rfl
@[simp] theorem State.setRing_freeCtr (s : State) (n : Nat) (r : Ring) : (s.setRing n r).freeCtr = s.freeCtr := rfl
@[simp] theorem State.setRing_regs (s : State) (n : Nat) (r : Ring) : (s.setRing n r).regs = s.regs := rfl
@[simp] theorem State.setRing_dram (s : State) (n : Nat) (r : Ring) : (s.setRing n r).dram = s.dram := rfl
@[simp] theorem State.setRing_out (s : State) (n : Nat) (r : Ring) : (s.setRing n r).out = s.out := rfl
@[simp] theorem State.setRing_shadows (s : State) (n : Nat) (r : Ring) : (s.setRing n r).shadows = s.shadows := rfl
@[simp] theorem State.setRing_access (s : State) (n : Nat) (r : Ring) : (s.setRing n r).access = s.access := rfl
@[simp] theorem State.setRing_house (s : State) (n : Nat) (r : Ring) : (s.setRing n r).house = s.house := rfl
@[simp] theorem State.setRing_keeper (s : State) (n : Nat) (r : Ring) : (s.setRing n r).keeper = s.keeper := rfl
@[simp] theorem State.setRing_hk (s : State) (n : Nat) (r : Ring) : (s.setRing n r).hk = s.hk := rfl
@[simp] theorem State.setRing_intake (s : State) (n : Nat) (r : Ring) : (s.setRing n r).intake = s.intake := rfl
@[simp] theorem State.setRing_braid (s : State) (n : Nat) (r : Ring) : (s.setRing n r).braid = s.braid := rfl
@[simp] theorem State.setRing_warp (s : State) (n : Nat) (r : Ring) : (s.setRing n r).warp = s.warp := rfl
@[simp] theorem State.setRing_tone (s : State) (n : Nat) (r : Ring) : (s.setRing n r).tone = s.tone := rfl
@[simp] theorem State.setRing_anode (s : State) (n : Nat) (r : Ring) : (s.setRing n r).anode = s.anode := rfl
@[simp] theorem State.setRing_timer (s : State) (n : Nat) (r : Ring) : (s.setRing n r).timer = s.timer := rfl
@[simp] theorem State.setRing_array (s : State) (n : Nat) (r : Ring) : (s.setRing n r).array = s.array := rfl
@[simp] theorem State.setRing_guards (s : State) (n : Nat) (r : Ring) : (s.setRing n r).guards = s.guards := rfl
@[simp] theorem State.setRing_twin (s : State) (n : Nat) (r : Ring) : (s.setRing n r).twin = s.twin := rfl

/-! ### touch -/

@[simp] theorem State.touch_now (s : State) : (s.touch).now = s.now := rfl
@[simp] theorem State.touch_pending (s : State) : (s.touch).pending = s.pending := rfl
@[simp] theorem State.touch_freeCtr (s : State) : (s.touch).freeCtr = s.freeCtr := rfl
@[simp] theorem State.touch_regs (s : State) : (s.touch).regs = s.regs := rfl
@[simp] theorem State.touch_dram (s : State) : (s.touch).dram = s.dram := rfl
@[simp] theorem State.touch_out (s : State) : (s.touch).out = s.out := rfl
@[simp] theorem State.touch_shadows (s : State) : (s.touch).shadows = s.shadows := rfl
@[simp] theorem State.touch_access (s : State) : (s.touch).access = s.access := rfl
@[simp] theorem State.touch_house (s : State) : (s.touch).house = s.house := rfl
@[simp] theorem State.touch_keeper (s : State) : (s.touch).keeper = s.keeper := rfl
@[simp] theorem State.touch_host (s : State) : (s.touch).host = s.host := rfl
@[simp] theorem State.touch_hk (s : State) : (s.touch).hk = s.hk := rfl
@[simp] theorem State.touch_intake (s : State) : (s.touch).intake = s.intake := rfl
@[simp] theorem State.touch_braid (s : State) : (s.touch).braid = s.braid := rfl
@[simp] theorem State.touch_warp (s : State) : (s.touch).warp = s.warp := rfl
@[simp] theorem State.touch_anode (s : State) : (s.touch).anode = s.anode := rfl
@[simp] theorem State.touch_timer (s : State) : (s.touch).timer = s.timer := rfl
@[simp] theorem State.touch_array (s : State) : (s.touch).array = s.array := rfl
@[simp] theorem State.touch_guards (s : State) : (s.touch).guards = s.guards := rfl
@[simp] theorem State.touch_twin (s : State) : (s.touch).twin = s.twin := rfl

/-! ### setNet -/

@[simp] theorem State.setNet_now (s : State) (g : Guard) (n : Net) : (s.setNet g n).now = s.now := by cases g <;> rfl
@[simp] theorem State.setNet_pending (s : State) (g : Guard) (n : Net) : (s.setNet g n).pending = s.pending :=
  by cases g <;> rfl
@[simp] theorem State.setNet_freeCtr (s : State) (g : Guard) (n : Net) : (s.setNet g n).freeCtr = s.freeCtr :=
  by cases g <;> rfl
@[simp] theorem State.setNet_regs (s : State) (g : Guard) (n : Net) : (s.setNet g n).regs = s.regs := by cases g <;> rfl
@[simp] theorem State.setNet_dram (s : State) (g : Guard) (n : Net) : (s.setNet g n).dram = s.dram := by cases g <;> rfl
@[simp] theorem State.setNet_out (s : State) (g : Guard) (n : Net) : (s.setNet g n).out = s.out := by cases g <;> rfl
@[simp] theorem State.setNet_shadows (s : State) (g : Guard) (n : Net) : (s.setNet g n).shadows = s.shadows :=
  by cases g <;> rfl
@[simp] theorem State.setNet_access (s : State) (g : Guard) (n : Net) : (s.setNet g n).access = s.access :=
  by cases g <;> rfl
@[simp] theorem State.setNet_house (s : State) (g : Guard) (n : Net) : (s.setNet g n).house = s.house := by cases g <;> rfl
@[simp] theorem State.setNet_keeper (s : State) (g : Guard) (n : Net) : (s.setNet g n).keeper = s.keeper :=
  by cases g <;> rfl
@[simp] theorem State.setNet_host (s : State) (g : Guard) (n : Net) : (s.setNet g n).host = s.host := by cases g <;> rfl
@[simp] theorem State.setNet_hk (s : State) (g : Guard) (n : Net) : (s.setNet g n).hk = s.hk := by cases g <;> rfl
@[simp] theorem State.setNet_intake (s : State) (g : Guard) (n : Net) : (s.setNet g n).intake = s.intake :=
  by cases g <;> rfl
@[simp] theorem State.setNet_braid (s : State) (g : Guard) (n : Net) : (s.setNet g n).braid = s.braid := by cases g <;> rfl
@[simp] theorem State.setNet_warp (s : State) (g : Guard) (n : Net) : (s.setNet g n).warp = s.warp := by cases g <;> rfl
@[simp] theorem State.setNet_tone (s : State) (g : Guard) (n : Net) : (s.setNet g n).tone = s.tone := by cases g <;> rfl
@[simp] theorem State.setNet_anode (s : State) (g : Guard) (n : Net) : (s.setNet g n).anode = s.anode := by cases g <;> rfl
@[simp] theorem State.setNet_timer (s : State) (g : Guard) (n : Net) : (s.setNet g n).timer = s.timer := by cases g <;> rfl
@[simp] theorem State.setNet_array (s : State) (g : Guard) (n : Net) : (s.setNet g n).array = s.array := by cases g <;> rfl
@[simp] theorem State.setNet_twin (s : State) (g : Guard) (n : Net) : (s.setNet g n).twin = s.twin := by cases g <;> rfl

/-! ### setSlot -/

@[simp] theorem State.setSlot_now (s : State) (n : Nat) (x : Slot) : (s.setSlot n x).now = s.now := rfl
@[simp] theorem State.setSlot_pending (s : State) (n : Nat) (x : Slot) : (s.setSlot n x).pending = s.pending := rfl
@[simp] theorem State.setSlot_freeCtr (s : State) (n : Nat) (x : Slot) : (s.setSlot n x).freeCtr = s.freeCtr := rfl
@[simp] theorem State.setSlot_regs (s : State) (n : Nat) (x : Slot) : (s.setSlot n x).regs = s.regs := rfl
@[simp] theorem State.setSlot_dram (s : State) (n : Nat) (x : Slot) : (s.setSlot n x).dram = s.dram := rfl
@[simp] theorem State.setSlot_out (s : State) (n : Nat) (x : Slot) : (s.setSlot n x).out = s.out := rfl
@[simp] theorem State.setSlot_shadows (s : State) (n : Nat) (x : Slot) : (s.setSlot n x).shadows = s.shadows := rfl
@[simp] theorem State.setSlot_access (s : State) (n : Nat) (x : Slot) : (s.setSlot n x).access = s.access := rfl
@[simp] theorem State.setSlot_keeper (s : State) (n : Nat) (x : Slot) : (s.setSlot n x).keeper = s.keeper := rfl
@[simp] theorem State.setSlot_host (s : State) (n : Nat) (x : Slot) : (s.setSlot n x).host = s.host := rfl
@[simp] theorem State.setSlot_hk (s : State) (n : Nat) (x : Slot) : (s.setSlot n x).hk = s.hk := rfl
@[simp] theorem State.setSlot_intake (s : State) (n : Nat) (x : Slot) : (s.setSlot n x).intake = s.intake := rfl
@[simp] theorem State.setSlot_braid (s : State) (n : Nat) (x : Slot) : (s.setSlot n x).braid = s.braid := rfl
@[simp] theorem State.setSlot_warp (s : State) (n : Nat) (x : Slot) : (s.setSlot n x).warp = s.warp := rfl
@[simp] theorem State.setSlot_tone (s : State) (n : Nat) (x : Slot) : (s.setSlot n x).tone = s.tone := rfl
@[simp] theorem State.setSlot_anode (s : State) (n : Nat) (x : Slot) : (s.setSlot n x).anode = s.anode := rfl
@[simp] theorem State.setSlot_timer (s : State) (n : Nat) (x : Slot) : (s.setSlot n x).timer = s.timer := rfl
@[simp] theorem State.setSlot_array (s : State) (n : Nat) (x : Slot) : (s.setSlot n x).array = s.array := rfl
@[simp] theorem State.setSlot_guards (s : State) (n : Nat) (x : Slot) : (s.setSlot n x).guards = s.guards := rfl
@[simp] theorem State.setSlot_twin (s : State) (n : Nat) (x : Slot) : (s.setSlot n x).twin = s.twin := rfl

/-! ### marked -/

@[simp] theorem State.marked_now (s : State) (f : Field) : (s.marked f).now = s.now := rfl
@[simp] theorem State.marked_pending (s : State) (f : Field) : (s.marked f).pending = s.pending := rfl
@[simp] theorem State.marked_freeCtr (s : State) (f : Field) : (s.marked f).freeCtr = s.freeCtr := rfl
@[simp] theorem State.marked_regs (s : State) (f : Field) : (s.marked f).regs = s.regs := rfl
@[simp] theorem State.marked_dram (s : State) (f : Field) : (s.marked f).dram = s.dram := rfl
@[simp] theorem State.marked_out (s : State) (f : Field) : (s.marked f).out = s.out := rfl
@[simp] theorem State.marked_shadows (s : State) (f : Field) : (s.marked f).shadows = s.shadows := rfl
@[simp] theorem State.marked_house (s : State) (f : Field) : (s.marked f).house = s.house := rfl
@[simp] theorem State.marked_keeper (s : State) (f : Field) : (s.marked f).keeper = s.keeper := rfl
@[simp] theorem State.marked_host (s : State) (f : Field) : (s.marked f).host = s.host := rfl
@[simp] theorem State.marked_hk (s : State) (f : Field) : (s.marked f).hk = s.hk := rfl
@[simp] theorem State.marked_intake (s : State) (f : Field) : (s.marked f).intake = s.intake := rfl
@[simp] theorem State.marked_braid (s : State) (f : Field) : (s.marked f).braid = s.braid := rfl
@[simp] theorem State.marked_warp (s : State) (f : Field) : (s.marked f).warp = s.warp := rfl
@[simp] theorem State.marked_tone (s : State) (f : Field) : (s.marked f).tone = s.tone := rfl
@[simp] theorem State.marked_anode (s : State) (f : Field) : (s.marked f).anode = s.anode := rfl
@[simp] theorem State.marked_timer (s : State) (f : Field) : (s.marked f).timer = s.timer := rfl
@[simp] theorem State.marked_array (s : State) (f : Field) : (s.marked f).array = s.array := rfl
@[simp] theorem State.marked_guards (s : State) (f : Field) : (s.marked f).guards = s.guards := rfl
@[simp] theorem State.marked_twin (s : State) (f : Field) : (s.marked f).twin = s.twin := rfl

/-! ### latch -/

@[simp] theorem State.latch_now (s : State) (f : Field) : (s.latch f).now = s.now := rfl
@[simp] theorem State.latch_pending (s : State) (f : Field) : (s.latch f).pending = s.pending := rfl
@[simp] theorem State.latch_freeCtr (s : State) (f : Field) : (s.latch f).freeCtr = s.freeCtr := rfl
@[simp] theorem State.latch_dram (s : State) (f : Field) : (s.latch f).dram = s.dram := rfl
@[simp] theorem State.latch_out (s : State) (f : Field) : (s.latch f).out = s.out := rfl
@[simp] theorem State.latch_shadows (s : State) (f : Field) : (s.latch f).shadows = s.shadows := rfl
@[simp] theorem State.latch_house (s : State) (f : Field) : (s.latch f).house = s.house := rfl
@[simp] theorem State.latch_keeper (s : State) (f : Field) : (s.latch f).keeper = s.keeper := rfl
@[simp] theorem State.latch_host (s : State) (f : Field) : (s.latch f).host = s.host := rfl
@[simp] theorem State.latch_hk (s : State) (f : Field) : (s.latch f).hk = s.hk := rfl
@[simp] theorem State.latch_intake (s : State) (f : Field) : (s.latch f).intake = s.intake := rfl
@[simp] theorem State.latch_braid (s : State) (f : Field) : (s.latch f).braid = s.braid := rfl
@[simp] theorem State.latch_warp (s : State) (f : Field) : (s.latch f).warp = s.warp := rfl
@[simp] theorem State.latch_tone (s : State) (f : Field) : (s.latch f).tone = s.tone := rfl
@[simp] theorem State.latch_anode (s : State) (f : Field) : (s.latch f).anode = s.anode := rfl
@[simp] theorem State.latch_timer (s : State) (f : Field) : (s.latch f).timer = s.timer := rfl
@[simp] theorem State.latch_array (s : State) (f : Field) : (s.latch f).array = s.array := rfl
@[simp] theorem State.latch_guards (s : State) (f : Field) : (s.latch f).guards = s.guards := rfl
@[simp] theorem State.latch_twin (s : State) (f : Field) : (s.latch f).twin = s.twin := rfl

@[simp] theorem State.latch_reg (s : State) (f : Field) (off : Nat) : (s.latch f).reg off = (s.set f 1).reg off := rfl
@[simp] theorem State.latch_get (s : State) (f g : Field) : (s.latch f).get g = (s.set f 1).get g := rfl
@[simp] theorem State.latch_flag (s : State) (f g : Field) : (s.latch f).flag g = (s.set f 1).flag g := rfl
@[simp] theorem State.marked_reg (s : State) (f : Field) (off : Nat) : (s.marked f).reg off = s.reg off := rfl
@[simp] theorem State.marked_get (s : State) (f g : Field) : (s.marked f).get g = s.get g := rfl
@[simp] theorem State.marked_flag (s : State) (f g : Field) : (s.marked f).flag g = s.flag g := rfl

/-! ### toHost -/

@[simp] theorem State.toHost_now (s : State) (o : Output) : (s.toHost o).now = s.now := by unfold State.toHost; split <;> rfl
@[simp] theorem State.toHost_pending (s : State) (o : Output) : (s.toHost o).pending = s.pending :=
  by unfold State.toHost; split <;> rfl
@[simp] theorem State.toHost_freeCtr (s : State) (o : Output) : (s.toHost o).freeCtr = s.freeCtr :=
  by unfold State.toHost; split <;> rfl
@[simp] theorem State.toHost_regs (s : State) (o : Output) : (s.toHost o).regs = s.regs :=
  by unfold State.toHost; split <;> rfl
@[simp] theorem State.toHost_dram (s : State) (o : Output) : (s.toHost o).dram = s.dram :=
  by unfold State.toHost; split <;> rfl
@[simp] theorem State.toHost_shadows (s : State) (o : Output) : (s.toHost o).shadows = s.shadows :=
  by unfold State.toHost; split <;> rfl
@[simp] theorem State.toHost_access (s : State) (o : Output) : (s.toHost o).access = s.access :=
  by unfold State.toHost; split <;> rfl
@[simp] theorem State.toHost_house (s : State) (o : Output) : (s.toHost o).house = s.house :=
  by unfold State.toHost; split <;> rfl
@[simp] theorem State.toHost_keeper (s : State) (o : Output) : (s.toHost o).keeper = s.keeper :=
  by unfold State.toHost; split <;> rfl
@[simp] theorem State.toHost_hk (s : State) (o : Output) : (s.toHost o).hk = s.hk := by unfold State.toHost; split <;> rfl
@[simp] theorem State.toHost_intake (s : State) (o : Output) : (s.toHost o).intake = s.intake :=
  by unfold State.toHost; split <;> rfl
@[simp] theorem State.toHost_braid (s : State) (o : Output) : (s.toHost o).braid = s.braid :=
  by unfold State.toHost; split <;> rfl
@[simp] theorem State.toHost_warp (s : State) (o : Output) : (s.toHost o).warp = s.warp :=
  by unfold State.toHost; split <;> rfl
@[simp] theorem State.toHost_tone (s : State) (o : Output) : (s.toHost o).tone = s.tone :=
  by unfold State.toHost; split <;> rfl
@[simp] theorem State.toHost_anode (s : State) (o : Output) : (s.toHost o).anode = s.anode :=
  by unfold State.toHost; split <;> rfl
@[simp] theorem State.toHost_timer (s : State) (o : Output) : (s.toHost o).timer = s.timer :=
  by unfold State.toHost; split <;> rfl
@[simp] theorem State.toHost_array (s : State) (o : Output) : (s.toHost o).array = s.array :=
  by unfold State.toHost; split <;> rfl
@[simp] theorem State.toHost_guards (s : State) (o : Output) : (s.toHost o).guards = s.guards :=
  by unfold State.toHost; split <;> rfl
@[simp] theorem State.toHost_twin (s : State) (o : Output) : (s.toHost o).twin = s.twin :=
  by unfold State.toHost; split <;> rfl

/-! ### msix -/

@[simp] theorem State.msix_now (s : State) (v : Nat) : (s.msix v).now = s.now := by unfold State.msix; split <;> simp
@[simp] theorem State.msix_pending (s : State) (v : Nat) : (s.msix v).pending = s.pending :=
  by unfold State.msix; split <;> simp
@[simp] theorem State.msix_freeCtr (s : State) (v : Nat) : (s.msix v).freeCtr = s.freeCtr :=
  by unfold State.msix; split <;> simp
@[simp] theorem State.msix_dram (s : State) (v : Nat) : (s.msix v).dram = s.dram := by unfold State.msix; split <;> simp
@[simp] theorem State.msix_shadows (s : State) (v : Nat) : (s.msix v).shadows = s.shadows :=
  by unfold State.msix; split <;> simp
@[simp] theorem State.msix_access (s : State) (v : Nat) : (s.msix v).access = s.access :=
  by unfold State.msix; split <;> simp
@[simp] theorem State.msix_house (s : State) (v : Nat) : (s.msix v).house = s.house := by unfold State.msix; split <;> simp
@[simp] theorem State.msix_keeper (s : State) (v : Nat) : (s.msix v).keeper = s.keeper :=
  by unfold State.msix; split <;> simp
@[simp] theorem State.msix_hk (s : State) (v : Nat) : (s.msix v).hk = s.hk := by unfold State.msix; split <;> simp
@[simp] theorem State.msix_intake (s : State) (v : Nat) : (s.msix v).intake = s.intake :=
  by unfold State.msix; split <;> simp
@[simp] theorem State.msix_braid (s : State) (v : Nat) : (s.msix v).braid = s.braid := by unfold State.msix; split <;> simp
@[simp] theorem State.msix_warp (s : State) (v : Nat) : (s.msix v).warp = s.warp := by unfold State.msix; split <;> simp
@[simp] theorem State.msix_tone (s : State) (v : Nat) : (s.msix v).tone = s.tone := by unfold State.msix; split <;> simp
@[simp] theorem State.msix_anode (s : State) (v : Nat) : (s.msix v).anode = s.anode := by unfold State.msix; split <;> simp
@[simp] theorem State.msix_timer (s : State) (v : Nat) : (s.msix v).timer = s.timer := by unfold State.msix; split <;> simp
@[simp] theorem State.msix_array (s : State) (v : Nat) : (s.msix v).array = s.array := by unfold State.msix; split <;> simp
@[simp] theorem State.msix_guards (s : State) (v : Nat) : (s.msix v).guards = s.guards :=
  by unfold State.msix; split <;> simp
@[simp] theorem State.msix_twin (s : State) (v : Nat) : (s.msix v).twin = s.twin := by unfold State.msix; split <;> simp

/-! ### raise -/

@[simp] theorem State.raise_now (s : State) (k : Nat) : (s.raise k).now = s.now :=
  by simp only [State.raise]; split <;> [skip; split] <;> simp
@[simp] theorem State.raise_pending (s : State) (k : Nat) : (s.raise k).pending = s.pending :=
  by simp only [State.raise]; split <;> [skip; split] <;> simp
@[simp] theorem State.raise_freeCtr (s : State) (k : Nat) : (s.raise k).freeCtr = s.freeCtr :=
  by simp only [State.raise]; split <;> [skip; split] <;> simp
@[simp] theorem State.raise_dram (s : State) (k : Nat) : (s.raise k).dram = s.dram :=
  by simp only [State.raise]; split <;> [skip; split] <;> simp
@[simp] theorem State.raise_shadows (s : State) (k : Nat) : (s.raise k).shadows = s.shadows :=
  by simp only [State.raise]; split <;> [skip; split] <;> simp
@[simp] theorem State.raise_house (s : State) (k : Nat) : (s.raise k).house = s.house :=
  by simp only [State.raise]; split <;> [skip; split] <;> simp
@[simp] theorem State.raise_keeper (s : State) (k : Nat) : (s.raise k).keeper = s.keeper :=
  by simp only [State.raise]; split <;> [skip; split] <;> simp
@[simp] theorem State.raise_hk (s : State) (k : Nat) : (s.raise k).hk = s.hk :=
  by simp only [State.raise]; split <;> [skip; split] <;> simp
@[simp] theorem State.raise_intake (s : State) (k : Nat) : (s.raise k).intake = s.intake :=
  by simp only [State.raise]; split <;> [skip; split] <;> simp
@[simp] theorem State.raise_braid (s : State) (k : Nat) : (s.raise k).braid = s.braid :=
  by simp only [State.raise]; split <;> [skip; split] <;> simp
@[simp] theorem State.raise_warp (s : State) (k : Nat) : (s.raise k).warp = s.warp :=
  by simp only [State.raise]; split <;> [skip; split] <;> simp
@[simp] theorem State.raise_tone (s : State) (k : Nat) : (s.raise k).tone = s.tone :=
  by simp only [State.raise]; split <;> [skip; split] <;> simp
@[simp] theorem State.raise_anode (s : State) (k : Nat) : (s.raise k).anode = s.anode :=
  by simp only [State.raise]; split <;> [skip; split] <;> simp
@[simp] theorem State.raise_timer (s : State) (k : Nat) : (s.raise k).timer = s.timer :=
  by simp only [State.raise]; split <;> [skip; split] <;> simp
@[simp] theorem State.raise_array (s : State) (k : Nat) : (s.raise k).array = s.array :=
  by simp only [State.raise]; split <;> [skip; split] <;> simp
@[simp] theorem State.raise_guards (s : State) (k : Nat) : (s.raise k).guards = s.guards :=
  by simp only [State.raise]; split <;> [skip; split] <;> simp
@[simp] theorem State.raise_twin (s : State) (k : Nat) : (s.raise k).twin = s.twin :=
  by simp only [State.raise]; split <;> [skip; split] <;> simp

/-! ### finish -/

@[simp] theorem State.finish_now (s : State) (r i a d x : Nat) : (s.finish r i a d x).now = s.now := rfl
@[simp] theorem State.finish_pending (s : State) (r i a d x : Nat) : (s.finish r i a d x).pending = s.pending := rfl
@[simp] theorem State.finish_freeCtr (s : State) (r i a d x : Nat) : (s.finish r i a d x).freeCtr = s.freeCtr := rfl
@[simp] theorem State.finish_regs (s : State) (r i a d x : Nat) : (s.finish r i a d x).regs = s.regs := rfl
@[simp] theorem State.finish_dram (s : State) (r i a d x : Nat) : (s.finish r i a d x).dram = s.dram := rfl
@[simp] theorem State.finish_out (s : State) (r i a d x : Nat) : (s.finish r i a d x).out = s.out := rfl
@[simp] theorem State.finish_shadows (s : State) (r i a d x : Nat) : (s.finish r i a d x).shadows = s.shadows := rfl
@[simp] theorem State.finish_access (s : State) (r i a d x : Nat) : (s.finish r i a d x).access = s.access := rfl
@[simp] theorem State.finish_house (s : State) (r i a d x : Nat) : (s.finish r i a d x).house = s.house := rfl
@[simp] theorem State.finish_keeper (s : State) (r i a d x : Nat) : (s.finish r i a d x).keeper = s.keeper := rfl
@[simp] theorem State.finish_hk (s : State) (r i a d x : Nat) : (s.finish r i a d x).hk = s.hk := rfl
@[simp] theorem State.finish_intake (s : State) (r i a d x : Nat) : (s.finish r i a d x).intake = s.intake := rfl
@[simp] theorem State.finish_braid (s : State) (r i a d x : Nat) : (s.finish r i a d x).braid = s.braid := rfl
@[simp] theorem State.finish_warp (s : State) (r i a d x : Nat) : (s.finish r i a d x).warp = s.warp := rfl
@[simp] theorem State.finish_tone (s : State) (r i a d x : Nat) : (s.finish r i a d x).tone = s.tone := rfl
@[simp] theorem State.finish_anode (s : State) (r i a d x : Nat) : (s.finish r i a d x).anode = s.anode := rfl
@[simp] theorem State.finish_timer (s : State) (r i a d x : Nat) : (s.finish r i a d x).timer = s.timer := rfl
@[simp] theorem State.finish_array (s : State) (r i a d x : Nat) : (s.finish r i a d x).array = s.array := rfl
@[simp] theorem State.finish_guards (s : State) (r i a d x : Nat) : (s.finish r i a d x).guards = s.guards := rfl
@[simp] theorem State.finish_twin (s : State) (r i a d x : Nat) : (s.finish r i a d x).twin = s.twin := rfl

/-! ### disableA -/

@[simp] theorem State.disableA_now (s : State) : (s.disableA).now = s.now := by simp [State.disableA]
@[simp] theorem State.disableA_pending (s : State) : (s.disableA).pending = s.pending := by simp [State.disableA]
@[simp] theorem State.disableA_freeCtr (s : State) : (s.disableA).freeCtr = s.freeCtr := by simp [State.disableA]
@[simp] theorem State.disableA_dram (s : State) : (s.disableA).dram = s.dram := by simp [State.disableA]
@[simp] theorem State.disableA_out (s : State) : (s.disableA).out = s.out := by simp [State.disableA]
@[simp] theorem State.disableA_shadows (s : State) : (s.disableA).shadows = s.shadows := by simp [State.disableA]
@[simp] theorem State.disableA_access (s : State) : (s.disableA).access = s.access := by simp [State.disableA]
@[simp] theorem State.disableA_house (s : State) : (s.disableA).house = s.house := by simp [State.disableA]
@[simp] theorem State.disableA_keeper (s : State) : (s.disableA).keeper = s.keeper := by simp [State.disableA]
@[simp] theorem State.disableA_host (s : State) : (s.disableA).host = s.host := by simp [State.disableA]
@[simp] theorem State.disableA_hk (s : State) : (s.disableA).hk = s.hk := by simp [State.disableA]
@[simp] theorem State.disableA_intake (s : State) : (s.disableA).intake = s.intake := by simp [State.disableA]
@[simp] theorem State.disableA_braid (s : State) : (s.disableA).braid = s.braid := by simp [State.disableA]
@[simp] theorem State.disableA_warp (s : State) : (s.disableA).warp = s.warp := by simp [State.disableA]
@[simp] theorem State.disableA_tone (s : State) : (s.disableA).tone = s.tone := by simp [State.disableA]
@[simp] theorem State.disableA_anode (s : State) : (s.disableA).anode = s.anode := by simp [State.disableA]
@[simp] theorem State.disableA_timer (s : State) : (s.disableA).timer = s.timer := by simp [State.disableA]
@[simp] theorem State.disableA_array (s : State) : (s.disableA).array = s.array := by simp [State.disableA]
@[simp] theorem State.disableA_guards (s : State) : (s.disableA).guards = s.guards := by simp [State.disableA]
@[simp] theorem State.disableA_twin (s : State) : (s.disableA).twin = s.twin := by simp [State.disableA]

/-! ### disableB -/

@[simp] theorem State.disableB_now (s : State) : (s.disableB).now = s.now := by simp [State.disableB]
@[simp] theorem State.disableB_pending (s : State) : (s.disableB).pending = s.pending := by simp [State.disableB]
@[simp] theorem State.disableB_freeCtr (s : State) : (s.disableB).freeCtr = s.freeCtr := by simp [State.disableB]
@[simp] theorem State.disableB_dram (s : State) : (s.disableB).dram = s.dram := by simp [State.disableB]
@[simp] theorem State.disableB_out (s : State) : (s.disableB).out = s.out := by simp [State.disableB]
@[simp] theorem State.disableB_shadows (s : State) : (s.disableB).shadows = s.shadows := by simp [State.disableB]
@[simp] theorem State.disableB_access (s : State) : (s.disableB).access = s.access := by simp [State.disableB]
@[simp] theorem State.disableB_house (s : State) : (s.disableB).house = s.house := by simp [State.disableB]
@[simp] theorem State.disableB_keeper (s : State) : (s.disableB).keeper = s.keeper := by simp [State.disableB]
@[simp] theorem State.disableB_host (s : State) : (s.disableB).host = s.host := by simp [State.disableB]
@[simp] theorem State.disableB_hk (s : State) : (s.disableB).hk = s.hk := by simp [State.disableB]
@[simp] theorem State.disableB_intake (s : State) : (s.disableB).intake = s.intake := by simp [State.disableB]
@[simp] theorem State.disableB_braid (s : State) : (s.disableB).braid = s.braid := by simp [State.disableB]
@[simp] theorem State.disableB_warp (s : State) : (s.disableB).warp = s.warp := by simp [State.disableB]
@[simp] theorem State.disableB_tone (s : State) : (s.disableB).tone = s.tone := by simp [State.disableB]
@[simp] theorem State.disableB_anode (s : State) : (s.disableB).anode = s.anode := by simp [State.disableB]
@[simp] theorem State.disableB_timer (s : State) : (s.disableB).timer = s.timer := by simp [State.disableB]
@[simp] theorem State.disableB_array (s : State) : (s.disableB).array = s.array := by simp [State.disableB]
@[simp] theorem State.disableB_guards (s : State) : (s.disableB).guards = s.guards := by simp [State.disableB]
@[simp] theorem State.disableB_twin (s : State) : (s.disableB).twin = s.twin := by simp [State.disableB]

/-! ### disable -/

@[simp] theorem State.disable_now (s : State) : (s.disable).now = s.now := by simp [State.disable]
@[simp] theorem State.disable_pending (s : State) : (s.disable).pending = s.pending := by simp [State.disable]
@[simp] theorem State.disable_freeCtr (s : State) : (s.disable).freeCtr = s.freeCtr := by simp [State.disable]
@[simp] theorem State.disable_dram (s : State) : (s.disable).dram = s.dram := by simp [State.disable]
@[simp] theorem State.disable_out (s : State) : (s.disable).out = s.out := by simp [State.disable]
@[simp] theorem State.disable_shadows (s : State) : (s.disable).shadows = s.shadows := by simp [State.disable]
@[simp] theorem State.disable_access (s : State) : (s.disable).access = s.access := by simp [State.disable]
@[simp] theorem State.disable_house (s : State) : (s.disable).house = s.house := by simp [State.disable]
@[simp] theorem State.disable_keeper (s : State) : (s.disable).keeper = s.keeper := by simp [State.disable]
@[simp] theorem State.disable_host (s : State) : (s.disable).host = s.host := by simp [State.disable]
@[simp] theorem State.disable_hk (s : State) : (s.disable).hk = s.hk := by simp [State.disable]
@[simp] theorem State.disable_intake (s : State) : (s.disable).intake = s.intake := by simp [State.disable]
@[simp] theorem State.disable_braid (s : State) : (s.disable).braid = s.braid := by simp [State.disable]
@[simp] theorem State.disable_warp (s : State) : (s.disable).warp = s.warp := by simp [State.disable]
@[simp] theorem State.disable_tone (s : State) : (s.disable).tone = s.tone := by simp [State.disable]
@[simp] theorem State.disable_anode (s : State) : (s.disable).anode = s.anode := by simp [State.disable]
@[simp] theorem State.disable_timer (s : State) : (s.disable).timer = s.timer := by simp [State.disable]
@[simp] theorem State.disable_array (s : State) : (s.disable).array = s.array := by simp [State.disable]
@[simp] theorem State.disable_twin (s : State) : (s.disable).twin = s.twin := by simp [State.disable]

end Sys2Proof.Machine
end

