-- ==== Sys2Proof/Laws/Run.lean ====
section
/-! SUPPORT. The frame of every command: what the passing of time changes (the clock, the buckets, and what waiting MW2
requests do), and what settling changes (the enables outside the emitting states). -/

namespace Sys2Proof.Machine

/-! ### Time -/

/-- A fold of steps that keep a part of the state keeps it. -/
theorem foldl_keeps {α β : Type} (p : State → α) (g : State → β → State) (h : ∀ s b, p (g s b) = p s) (l : List β) :
    ∀ s : State, p (l.foldl g s) = p s := by
  induction l with
  | nil => intro s; rfl
  | cons b l ih => intro s; rw [List.foldl_cons, ih, h]

/-- The MW2 requests that wait change the two MW2 fields of the HOST island, DRAM and what the outside has seen, nothing
else. -/
theorem State.mw2Go_keeps {α : Type} (p : State → α)
    (h : ∀ (s : State) (debt : Rat) (wait : List (Bool × Nat × List Nat × Nat)) (dram : List Host.Cell) (out : List Output),
      p { s with host := { s.host with mw2Debt := debt, mw2Wait := wait }, dram := dram, out := out } = p s) (k : Nat) :
    ∀ s : State, p (s.mw2Go k) = p s := by
  induction k with
  | zero => intro s; rfl
  | succ k ih =>
    intro s
    simp only [State.mw2Go]
    split
    · rfl
    · next r rest _ =>
      split
      · rfl
      · rw [ih]
        have hb : ∀ (s : State) r w, p { (s.mw2Burst r).1 with host := { (s.mw2Burst r).1.host with mw2Wait := w } } = p s := by
          intro s r w
          simp only [State.mw2Burst]
          split
          · exact h s _ w _ s.out
          · split
            · exact h s _ w s.dram _
            · exact h s _ w s.dram s.out
        exact hb s r _

/-- The passing of time changes the clock, the buckets, and what waiting MW2 requests change; nothing else. -/
theorem State.pass_keeps {α : Type} (p : State → α)
    (h : ∀ (s : State) (rings : List (Nat × Ring)) (debt : Rat) (wait : List (Bool × Nat × List Nat × Nat)) (now : Nat)
      (dram : List Host.Cell) (out : List Output),
      p { s with host := { s.host with rings := rings, mw2Debt := debt, mw2Wait := wait }, now := now, dram := dram,
                 out := out } = p s) (s : State) (t : Nat) : p (s.pass t) = p s := by
  simp only [State.pass]
  split
  · exact h s s.host.rings s.host.mw2Debt s.host.mw2Wait _ s.dram s.out
  · rw [State.mw2Run, State.mw2Go_keeps p (fun s d w m o => h s s.host.rings d w s.now m o)]
    refine (h (List.foldl _ s s.host.rings) (List.foldl _ s s.host.rings).host.rings _ _ _ _ _).trans
      (foldl_keeps p _ (fun s b => ?_) s.host.rings s)
    split
    · exact h s _ s.host.mw2Debt s.host.mw2Wait s.now s.dram s.out
    · rfl

@[simp] theorem State.pass_pending (s : State) (t : Nat) : (s.pass t).pending = s.pending :=
  State.pass_keeps (·.pending) (fun _ _ _ _ _ _ _ => rfl) s t
@[simp] theorem State.pass_freeCtr (s : State) (t : Nat) : (s.pass t).freeCtr = s.freeCtr :=
  State.pass_keeps (·.freeCtr) (fun _ _ _ _ _ _ _ => rfl) s t
@[simp] theorem State.pass_regs (s : State) (t : Nat) : (s.pass t).regs = s.regs :=
  State.pass_keeps (·.regs) (fun _ _ _ _ _ _ _ => rfl) s t
@[simp] theorem State.pass_shadows (s : State) (t : Nat) : (s.pass t).shadows = s.shadows :=
  State.pass_keeps (·.shadows) (fun _ _ _ _ _ _ _ => rfl) s t
@[simp] theorem State.pass_access (s : State) (t : Nat) : (s.pass t).access = s.access :=
  State.pass_keeps (·.access) (fun _ _ _ _ _ _ _ => rfl) s t
@[simp] theorem State.pass_house (s : State) (t : Nat) : (s.pass t).house = s.house :=
  State.pass_keeps (·.house) (fun _ _ _ _ _ _ _ => rfl) s t
@[simp] theorem State.pass_keeper (s : State) (t : Nat) : (s.pass t).keeper = s.keeper :=
  State.pass_keeps (·.keeper) (fun _ _ _ _ _ _ _ => rfl) s t
@[simp] theorem State.pass_hk (s : State) (t : Nat) : (s.pass t).hk = s.hk :=
  State.pass_keeps (·.hk) (fun _ _ _ _ _ _ _ => rfl) s t
@[simp] theorem State.pass_intake (s : State) (t : Nat) : (s.pass t).intake = s.intake :=
  State.pass_keeps (·.intake) (fun _ _ _ _ _ _ _ => rfl) s t
@[simp] theorem State.pass_braid (s : State) (t : Nat) : (s.pass t).braid = s.braid :=
  State.pass_keeps (·.braid) (fun _ _ _ _ _ _ _ => rfl) s t
@[simp] theorem State.pass_warp (s : State) (t : Nat) : (s.pass t).warp = s.warp :=
  State.pass_keeps (·.warp) (fun _ _ _ _ _ _ _ => rfl) s t
@[simp] theorem State.pass_tone (s : State) (t : Nat) : (s.pass t).tone = s.tone :=
  State.pass_keeps (·.tone) (fun _ _ _ _ _ _ _ => rfl) s t
@[simp] theorem State.pass_anode (s : State) (t : Nat) : (s.pass t).anode = s.anode :=
  State.pass_keeps (·.anode) (fun _ _ _ _ _ _ _ => rfl) s t
@[simp] theorem State.pass_timer (s : State) (t : Nat) : (s.pass t).timer = s.timer :=
  State.pass_keeps (·.timer) (fun _ _ _ _ _ _ _ => rfl) s t
@[simp] theorem State.pass_array (s : State) (t : Nat) : (s.pass t).array = s.array :=
  State.pass_keeps (·.array) (fun _ _ _ _ _ _ _ => rfl) s t
@[simp] theorem State.pass_guards (s : State) (t : Nat) : (s.pass t).guards = s.guards :=
  State.pass_keeps (·.guards) (fun _ _ _ _ _ _ _ => rfl) s t
@[simp] theorem State.pass_twin (s : State) (t : Nat) : (s.pass t).twin = s.twin :=
  State.pass_keeps (·.twin) (fun _ _ _ _ _ _ _ => rfl) s t

@[simp] theorem State.pass_now (s : State) (t : Nat) : (s.pass t).now = max s.now t := by
  simp only [State.pass]; split
  · rfl
  · rw [State.mw2Run, State.mw2Go_keeps State.now (fun _ _ _ _ _ => rfl), State.at_]
    refine congrArg (fun n => max n t) (foldl_keeps State.now _ (fun s b => ?_) _ s)
    split <;> rfl

/-! ### Settling -/

@[simp] theorem State.settle_freeCtr (s : State) (n : Nat) (q : List Instr) : (s.settle n q).freeCtr = s.freeCtr := by
  simp only [State.settle]; split <;> simp

@[simp] theorem State.settle_dram (s : State) (n : Nat) (q : List Instr) : (s.settle n q).dram = s.dram := by
  simp only [State.settle]; split <;> simp

@[simp] theorem State.settle_out (s : State) (n : Nat) (q : List Instr) : (s.settle n q).out = s.out := by
  simp only [State.settle]; split <;> simp

@[simp] theorem State.settle_shadows (s : State) (n : Nat) (q : List Instr) : (s.settle n q).shadows = s.shadows := by
  simp only [State.settle]; split <;> simp

@[simp] theorem State.settle_access (s : State) (n : Nat) (q : List Instr) : (s.settle n q).access = s.access := by
  simp only [State.settle]; split <;> simp

@[simp] theorem State.settle_house (s : State) (n : Nat) (q : List Instr) : (s.settle n q).house = s.house := by
  simp only [State.settle]; split <;> simp

@[simp] theorem State.settle_keeper (s : State) (n : Nat) (q : List Instr) : (s.settle n q).keeper = s.keeper := by
  simp only [State.settle]; split <;> simp

@[simp] theorem State.settle_host (s : State) (n : Nat) (q : List Instr) : (s.settle n q).host = s.host := by
  simp only [State.settle]; split <;> simp

@[simp] theorem State.settle_hk (s : State) (n : Nat) (q : List Instr) : (s.settle n q).hk = s.hk := by
  simp only [State.settle]; split <;> simp

@[simp] theorem State.settle_intake (s : State) (n : Nat) (q : List Instr) : (s.settle n q).intake = s.intake := by
  simp only [State.settle]; split <;> simp

@[simp] theorem State.settle_braid (s : State) (n : Nat) (q : List Instr) : (s.settle n q).braid = s.braid := by
  simp only [State.settle]; split <;> simp

@[simp] theorem State.settle_warp (s : State) (n : Nat) (q : List Instr) : (s.settle n q).warp = s.warp := by
  simp only [State.settle]; split <;> simp

@[simp] theorem State.settle_tone (s : State) (n : Nat) (q : List Instr) : (s.settle n q).tone = s.tone := by
  simp only [State.settle]; split <;> simp

@[simp] theorem State.settle_anode (s : State) (n : Nat) (q : List Instr) : (s.settle n q).anode = s.anode := by
  simp only [State.settle]; split <;> simp

@[simp] theorem State.settle_timer (s : State) (n : Nat) (q : List Instr) : (s.settle n q).timer = s.timer := by
  simp only [State.settle]; split <;> simp

@[simp] theorem State.settle_array (s : State) (n : Nat) (q : List Instr) : (s.settle n q).array = s.array := by
  simp only [State.settle]; split <;> simp

@[simp] theorem State.settle_twin (s : State) (n : Nat) (q : List Instr) : (s.settle n q).twin = s.twin := by
  simp only [State.settle]; split <;> simp

@[simp] theorem State.settle_now (s : State) (n : Nat) (q : List Instr) : (s.settle n q).now = n := by
  simp only [State.settle]; split <;> simp

@[simp] theorem State.settle_pending (s : State) (n : Nat) (q : List Instr) : (s.settle n q).pending = q := by
  simp only [State.settle]; split <;> simp

/-- Settling leaves a state alone in which an emitting mode or both enables at 0 hold. -/
theorem State.settle_of (s : State) (n : Nat) (q : List Instr)
    (h : s.house.mode.emitting = true ∨ (s.get Reg.GUARD_A_STATUS_EN_A = 0 ∧ s.get Reg.GUARD_B_STATUS_EN_B = 0)) :
    s.settle n q = { s with now := n, pending := q } := by
  have e : (({ s with now := n, pending := q } : State).get Reg.GUARD_A_STATUS_EN_A = s.get Reg.GUARD_A_STATUS_EN_A) := rfl
  have e' : (({ s with now := n, pending := q } : State).get Reg.GUARD_B_STATUS_EN_B = s.get Reg.GUARD_B_STATUS_EN_B) := rfl
  simp only [State.settle]
  rw [if_pos]
  rcases h with h | ⟨h, h'⟩
  · simp [h]
  · simp [e, e', h, h']

/-- Settling leaves every field of every register alone but the enables. -/
theorem State.settle_get (s : State) (n : Nat) (q : List Instr) {f : Field} (hf : f.lsb + f.width ≤ 32)
    (ha : f.off ≠ Reg.GUARD_A_STATUS_OFF ∨ f.lsb + f.width ≤ 20 ∨ 24 ≤ f.lsb)
    (hb : f.off ≠ Reg.GUARD_B_STATUS_OFF ∨ f.lsb + f.width ≤ 20 ∨ 24 ≤ f.lsb) : (s.settle n q).get f = s.get f := by
  simp only [State.settle]; split
  · rfl
  · have h1 : ({ s with now := n, pending := q } : State).disable.get f
        = (({ s with now := n, pending := q } : State).disableA.disableB).get f := rfl
    rw [h1, State.disableB, State.get_set_other _ _ hf, State.disableA, State.get_set_other _ _ hf]
    · rfl
    · rcases ha with h | h | h
      · exact .inl h
      · exact .inr (.inr h)
      · exact .inr (.inl h)
    · rcases hb with h | h | h
      · exact .inl h
      · exact .inr (.inr h)
      · exact .inr (.inl h)

/-- Outside the emitting modes the enables read 0 after settling. -/
theorem State.settle_dark (s : State) (n : Nat) (q : List Instr) (h : s.house.mode.emitting = false) :
    (s.settle n q).get Reg.GUARD_A_STATUS_EN_A = 0 ∧ (s.settle n q).get Reg.GUARD_B_STATUS_EN_B = 0 := by
  simp only [State.settle]
  split
  · next hc =>
    have hm : ({ s with now := n, pending := q } : State).house.mode.emitting = false := h
    simpa [hm] using hc
  · have h1 : ∀ f, ({ s with now := n, pending := q } : State).disable.get f
        = (({ s with now := n, pending := q } : State).disableA.disableB).get f := fun _ => rfl
    rw [h1, h1]
    constructor
    · rw [State.disableB, State.get_set_other _ _ (by decide) (by decide), State.disableA, State.get_set_same _ _ (by decide)]
      rfl
    · rw [State.disableB, State.get_set_same _ _ (by decide)]
      rfl

/-! ### The whole frame -/

@[simp] theorem State.run_freeCtr (s : State) (t : Nat) (f : State → State) : (s.run t f).freeCtr = (f (s.pass t)).freeCtr :=
  State.settle_freeCtr _ _ _

@[simp] theorem State.run_dram (s : State) (t : Nat) (f : State → State) : (s.run t f).dram = (f (s.pass t)).dram :=
  State.settle_dram _ _ _

@[simp] theorem State.run_out (s : State) (t : Nat) (f : State → State) : (s.run t f).out = (f (s.pass t)).out :=
  State.settle_out _ _ _

@[simp] theorem State.run_shadows (s : State) (t : Nat) (f : State → State) : (s.run t f).shadows = (f (s.pass t)).shadows :=
  State.settle_shadows _ _ _

@[simp] theorem State.run_access (s : State) (t : Nat) (f : State → State) : (s.run t f).access = (f (s.pass t)).access :=
  State.settle_access _ _ _

@[simp] theorem State.run_house (s : State) (t : Nat) (f : State → State) : (s.run t f).house = (f (s.pass t)).house :=
  State.settle_house _ _ _

@[simp] theorem State.run_keeper (s : State) (t : Nat) (f : State → State) : (s.run t f).keeper = (f (s.pass t)).keeper :=
  State.settle_keeper _ _ _

@[simp] theorem State.run_host (s : State) (t : Nat) (f : State → State) : (s.run t f).host = (f (s.pass t)).host :=
  State.settle_host _ _ _

@[simp] theorem State.run_hk (s : State) (t : Nat) (f : State → State) : (s.run t f).hk = (f (s.pass t)).hk :=
  State.settle_hk _ _ _

@[simp] theorem State.run_intake (s : State) (t : Nat) (f : State → State) : (s.run t f).intake = (f (s.pass t)).intake :=
  State.settle_intake _ _ _

@[simp] theorem State.run_braid (s : State) (t : Nat) (f : State → State) : (s.run t f).braid = (f (s.pass t)).braid :=
  State.settle_braid _ _ _

@[simp] theorem State.run_warp (s : State) (t : Nat) (f : State → State) : (s.run t f).warp = (f (s.pass t)).warp :=
  State.settle_warp _ _ _

@[simp] theorem State.run_tone (s : State) (t : Nat) (f : State → State) : (s.run t f).tone = (f (s.pass t)).tone :=
  State.settle_tone _ _ _

@[simp] theorem State.run_anode (s : State) (t : Nat) (f : State → State) : (s.run t f).anode = (f (s.pass t)).anode :=
  State.settle_anode _ _ _

@[simp] theorem State.run_timer (s : State) (t : Nat) (f : State → State) : (s.run t f).timer = (f (s.pass t)).timer :=
  State.settle_timer _ _ _

@[simp] theorem State.run_array (s : State) (t : Nat) (f : State → State) : (s.run t f).array = (f (s.pass t)).array :=
  State.settle_array _ _ _

@[simp] theorem State.run_twin (s : State) (t : Nat) (f : State → State) : (s.run t f).twin = (f (s.pass t)).twin :=
  State.settle_twin _ _ _

@[simp] theorem State.run_now (s : State) (t : Nat) (f : State → State) : (s.run t f).now = max s.now t := by
  rw [State.run, State.settle_now, State.pass_now]

@[simp] theorem State.run_pending (s : State) (t : Nat) (f : State → State) : (s.run t f).pending = s.pending := by
  rw [State.run, State.settle_pending, State.pass_pending]

theorem State.run_get (s : State) (t : Nat) (g : State → State) {f : Field} (hf : f.lsb + f.width ≤ 32)
    (ha : f.off ≠ Reg.GUARD_A_STATUS_OFF ∨ f.lsb + f.width ≤ 20 ∨ 24 ≤ f.lsb)
    (hb : f.off ≠ Reg.GUARD_B_STATUS_OFF ∨ f.lsb + f.width ≤ 20 ∨ 24 ≤ f.lsb) : (s.run t g).get f = (g (s.pass t)).get f :=
  State.settle_get _ _ _ hf ha hb

/-- A command that keeps the clock, the queue and the light of a state in which the enables are 0 or the mode emits. -/
theorem State.run_of (s : State) (t : Nat) (g : State → State) (hn : (g (s.pass t)).now = (s.pass t).now)
    (hp : (g (s.pass t)).pending = (s.pass t).pending)
    (h : (g (s.pass t)).house.mode.emitting = true ∨ ((g (s.pass t)).get Reg.GUARD_A_STATUS_EN_A = 0 ∧
      (g (s.pass t)).get Reg.GUARD_B_STATUS_EN_B = 0)) : s.run t g = g (s.pass t) := by
  rw [State.run, State.settle_of _ _ _ h, ← hn, ← hp]

@[simp] theorem State.pass_get (s : State) (t : Nat) (f : Field) : (s.pass t).get f = s.get f := by
  rw [State.get, State.pass_regs]; rfl

@[simp] theorem State.pass_flag (s : State) (t : Nat) (f : Field) : (s.pass t).flag f = s.flag f := by
  rw [State.flag, State.pass_regs]; rfl

@[simp] theorem State.pass_reg (s : State) (t : Nat) (o : Nat) : (s.pass t).reg o = s.reg o := by
  rw [State.reg, State.pass_regs]; rfl

/-! ### The HOST island across time -/

theorem State.ring_setRing_same (s : State) (n : Nat) (r : Ring) : (s.setRing n r).ring n = r := sget_sput_same _ _ _

theorem State.ring_setRing_other (s : State) {n m : Nat} (r : Ring) (h : m ≠ n) : (s.setRing n r).ring m = s.ring m :=
  sget_sput_other _ _ h

@[simp] theorem State.pass_eventSeq (s : State) (t : Nat) : (s.pass t).host.eventSeq = s.host.eventSeq :=
  State.pass_keeps (·.host.eventSeq) (fun _ _ _ _ _ _ _ => rfl) s t
@[simp] theorem State.pass_stalled (s : State) (t : Nat) : (s.pass t).host.stalled = s.host.stalled :=
  State.pass_keeps (·.host.stalled) (fun _ _ _ _ _ _ _ => rfl) s t
@[simp] theorem State.pass_lineFails (s : State) (t : Nat) : (s.pass t).host.lineFails = s.host.lineFails :=
  State.pass_keeps (·.host.lineFails) (fun _ _ _ _ _ _ _ => rfl) s t
@[simp] theorem State.pass_idleRounds (s : State) (t : Nat) : (s.pass t).host.idleRounds = s.host.idleRounds :=
  State.pass_keeps (·.host.idleRounds) (fun _ _ _ _ _ _ _ => rfl) s t
@[simp] theorem State.pass_linesOut (s : State) (t : Nat) : (s.pass t).host.linesOut = s.host.linesOut :=
  State.pass_keeps (·.host.linesOut) (fun _ _ _ _ _ _ _ => rfl) s t
@[simp] theorem State.pass_conf (s : State) (t : Nat) : (s.pass t).host.conf = s.host.conf :=
  State.pass_keeps (·.host.conf) (fun _ _ _ _ _ _ _ => rfl) s t
@[simp] theorem State.pass_frameRun (s : State) (t : Nat) : (s.pass t).host.frameRun = s.host.frameRun :=
  State.pass_keeps (·.host.frameRun) (fun _ _ _ _ _ _ _ => rfl) s t

theorem State.mw2Run_ring (s : State) (n : Nat) : s.mw2Run.ring n = s.ring n := by
  rw [State.mw2Run, State.mw2Go_keeps (·.ring n) (fun _ _ _ _ _ => rfl)]

/-- The passing of time leaves of a ring everything but its bucket alone. -/
theorem State.pass_ring_keeps {α : Type} (p : Ring → α) (h : ∀ (r : Ring) (d : Rat), p { r with debt := d } = p r) (s : State)
    (t n : Nat) : p ((s.pass t).ring n) = p (s.ring n) := by
  simp only [State.pass]; split
  · rfl
  · rw [State.mw2Run_ring]
    refine foldl_keeps (fun x : State => p (x.ring n)) _ (fun x e => ?_) _ s
    split
    · by_cases hn : n = e.1
      · subst hn; rw [State.ring_setRing_same, h]
      · rw [State.ring_setRing_other _ _ hn]
    · rfl

@[simp] theorem State.pass_fetched (s : State) (t n : Nat) : ((s.pass t).ring n).fetched = (s.ring n).fetched :=
  State.pass_ring_keeps (·.fetched) (fun _ _ => rfl) s t n
@[simp] theorem State.pass_inflight (s : State) (t n : Nat) : ((s.pass t).ring n).inflight = (s.ring n).inflight :=
  State.pass_ring_keeps (·.inflight) (fun _ _ => rfl) s t n
@[simp] theorem State.pass_fetching (s : State) (t n : Nat) : ((s.pass t).ring n).fetching = (s.ring n).fetching :=
  State.pass_ring_keeps (·.fetching) (fun _ _ => rfl) s t n
@[simp] theorem State.pass_nextIdx (s : State) (t n : Nat) : ((s.pass t).ring n).nextIdx = (s.ring n).nextIdx :=
  State.pass_ring_keeps (·.nextIdx) (fun _ _ => rfl) s t n
@[simp] theorem State.pass_use (s : State) (t n : Nat) : ((s.pass t).ring n).use = (s.ring n).use :=
  State.pass_ring_keeps (·.use) (fun _ _ => rfl) s t n
@[simp] theorem State.pass_lastMsg (s : State) (t n : Nat) : ((s.pass t).ring n).lastMsg = (s.ring n).lastMsg :=
  State.pass_ring_keeps (·.lastMsg) (fun _ _ => rfl) s t n
@[simp] theorem State.pass_msgWaits (s : State) (t n : Nat) : ((s.pass t).ring n).msgWaits = (s.ring n).msgWaits :=
  State.pass_ring_keeps (·.msgWaits) (fun _ _ => rfl) s t n
@[simp] theorem State.pass_dropped (s : State) (t n : Nat) : ((s.pass t).ring n).dropped = (s.ring n).dropped :=
  State.pass_ring_keeps (·.dropped) (fun _ _ => rfl) s t n

end Sys2Proof.Machine
end

