-- ==== Sys2Proof/Laws/Report.lean ====
section
/-! SUPPORT. What an event, a ring's message, a lost report and a history record leave alone: everything but registers,
outputs and the HOST island. -/

namespace Sys2Proof.Machine

/-! ### ringMsg -/

@[simp] theorem State.ringMsg_now (s : State) (n : Nat) : (s.ringMsg n).now = s.now := by
  simp only [State.ringMsg, apply_ite State.now, State.msix_now, State.setRing_now, ite_self]

@[simp] theorem State.ringMsg_pending (s : State) (n : Nat) : (s.ringMsg n).pending = s.pending := by
  simp only [State.ringMsg, apply_ite State.pending, State.msix_pending, State.setRing_pending, ite_self]

@[simp] theorem State.ringMsg_freeCtr (s : State) (n : Nat) : (s.ringMsg n).freeCtr = s.freeCtr := by
  simp only [State.ringMsg, apply_ite State.freeCtr, State.msix_freeCtr, State.setRing_freeCtr, ite_self]

@[simp] theorem State.ringMsg_dram (s : State) (n : Nat) : (s.ringMsg n).dram = s.dram := by
  simp only [State.ringMsg, apply_ite State.dram, State.msix_dram, State.setRing_dram, ite_self]

@[simp] theorem State.ringMsg_shadows (s : State) (n : Nat) : (s.ringMsg n).shadows = s.shadows := by
  simp only [State.ringMsg, apply_ite State.shadows, State.msix_shadows, State.setRing_shadows, ite_self]

@[simp] theorem State.ringMsg_house (s : State) (n : Nat) : (s.ringMsg n).house = s.house := by
  simp only [State.ringMsg, apply_ite State.house, State.msix_house, State.setRing_house, ite_self]

@[simp] theorem State.ringMsg_keeper (s : State) (n : Nat) : (s.ringMsg n).keeper = s.keeper := by
  simp only [State.ringMsg, apply_ite State.keeper, State.msix_keeper, State.setRing_keeper, ite_self]

@[simp] theorem State.ringMsg_hk (s : State) (n : Nat) : (s.ringMsg n).hk = s.hk := by
  simp only [State.ringMsg, apply_ite State.hk, State.msix_hk, State.setRing_hk, ite_self]

@[simp] theorem State.ringMsg_intake (s : State) (n : Nat) : (s.ringMsg n).intake = s.intake := by
  simp only [State.ringMsg, apply_ite State.intake, State.msix_intake, State.setRing_intake, ite_self]

@[simp] theorem State.ringMsg_braid (s : State) (n : Nat) : (s.ringMsg n).braid = s.braid := by
  simp only [State.ringMsg, apply_ite State.braid, State.msix_braid, State.setRing_braid, ite_self]

@[simp] theorem State.ringMsg_warp (s : State) (n : Nat) : (s.ringMsg n).warp = s.warp := by
  simp only [State.ringMsg, apply_ite State.warp, State.msix_warp, State.setRing_warp, ite_self]

@[simp] theorem State.ringMsg_tone (s : State) (n : Nat) : (s.ringMsg n).tone = s.tone := by
  simp only [State.ringMsg, apply_ite State.tone, State.msix_tone, State.setRing_tone, ite_self]

@[simp] theorem State.ringMsg_anode (s : State) (n : Nat) : (s.ringMsg n).anode = s.anode := by
  simp only [State.ringMsg, apply_ite State.anode, State.msix_anode, State.setRing_anode, ite_self]

@[simp] theorem State.ringMsg_timer (s : State) (n : Nat) : (s.ringMsg n).timer = s.timer := by
  simp only [State.ringMsg, apply_ite State.timer, State.msix_timer, State.setRing_timer, ite_self]

@[simp] theorem State.ringMsg_array (s : State) (n : Nat) : (s.ringMsg n).array = s.array := by
  simp only [State.ringMsg, apply_ite State.array, State.msix_array, State.setRing_array, ite_self]

@[simp] theorem State.ringMsg_guards (s : State) (n : Nat) : (s.ringMsg n).guards = s.guards := by
  simp only [State.ringMsg, apply_ite State.guards, State.msix_guards, State.setRing_guards, ite_self]

@[simp] theorem State.ringMsg_twin (s : State) (n : Nat) : (s.ringMsg n).twin = s.twin := by
  simp only [State.ringMsg, apply_ite State.twin, State.msix_twin, State.setRing_twin, ite_self]

/-! ### writeRecord -/

@[simp] theorem State.writeRecord_now (s : State) (n : Nat) (w : List Nat) : (s.writeRecord n w).now = s.now := by
  simp [State.writeRecord]

@[simp] theorem State.writeRecord_pending (s : State) (n : Nat) (w : List Nat) :
    (s.writeRecord n w).pending = s.pending := by
  simp [State.writeRecord]

@[simp] theorem State.writeRecord_freeCtr (s : State) (n : Nat) (w : List Nat) :
    (s.writeRecord n w).freeCtr = s.freeCtr := by
  simp [State.writeRecord]

@[simp] theorem State.writeRecord_dram (s : State) (n : Nat) (w : List Nat) : (s.writeRecord n w).dram = s.dram := by
  simp [State.writeRecord]

@[simp] theorem State.writeRecord_shadows (s : State) (n : Nat) (w : List Nat) :
    (s.writeRecord n w).shadows = s.shadows := by
  simp [State.writeRecord]

@[simp] theorem State.writeRecord_house (s : State) (n : Nat) (w : List Nat) : (s.writeRecord n w).house = s.house := by
  simp [State.writeRecord]

@[simp] theorem State.writeRecord_keeper (s : State) (n : Nat) (w : List Nat) : (s.writeRecord n w).keeper = s.keeper := by
  simp [State.writeRecord]

@[simp] theorem State.writeRecord_hk (s : State) (n : Nat) (w : List Nat) : (s.writeRecord n w).hk = s.hk := by
  simp [State.writeRecord]

@[simp] theorem State.writeRecord_intake (s : State) (n : Nat) (w : List Nat) : (s.writeRecord n w).intake = s.intake := by
  simp [State.writeRecord]

@[simp] theorem State.writeRecord_braid (s : State) (n : Nat) (w : List Nat) : (s.writeRecord n w).braid = s.braid := by
  simp [State.writeRecord]

@[simp] theorem State.writeRecord_warp (s : State) (n : Nat) (w : List Nat) : (s.writeRecord n w).warp = s.warp := by
  simp [State.writeRecord]

@[simp] theorem State.writeRecord_tone (s : State) (n : Nat) (w : List Nat) : (s.writeRecord n w).tone = s.tone := by
  simp [State.writeRecord]

@[simp] theorem State.writeRecord_anode (s : State) (n : Nat) (w : List Nat) : (s.writeRecord n w).anode = s.anode := by
  simp [State.writeRecord]

@[simp] theorem State.writeRecord_timer (s : State) (n : Nat) (w : List Nat) : (s.writeRecord n w).timer = s.timer := by
  simp [State.writeRecord]

@[simp] theorem State.writeRecord_array (s : State) (n : Nat) (w : List Nat) : (s.writeRecord n w).array = s.array := by
  simp [State.writeRecord]

@[simp] theorem State.writeRecord_guards (s : State) (n : Nat) (w : List Nat) : (s.writeRecord n w).guards = s.guards := by
  simp [State.writeRecord]

@[simp] theorem State.writeRecord_twin (s : State) (n : Nat) (w : List Nat) : (s.writeRecord n w).twin = s.twin := by
  simp [State.writeRecord]

/-! ### deliver -/

@[simp] theorem State.deliver_now (s : State) (w : List Nat) (n : Nat) : (s.deliver w n).now = s.now := by
  simp only [State.deliver]; split <;> simp

@[simp] theorem State.deliver_pending (s : State) (w : List Nat) (n : Nat) : (s.deliver w n).pending = s.pending := by
  simp only [State.deliver]; split <;> simp

@[simp] theorem State.deliver_freeCtr (s : State) (w : List Nat) (n : Nat) : (s.deliver w n).freeCtr = s.freeCtr := by
  simp only [State.deliver]; split <;> simp

@[simp] theorem State.deliver_dram (s : State) (w : List Nat) (n : Nat) : (s.deliver w n).dram = s.dram := by
  simp only [State.deliver]; split <;> simp

@[simp] theorem State.deliver_shadows (s : State) (w : List Nat) (n : Nat) : (s.deliver w n).shadows = s.shadows := by
  simp only [State.deliver]; split <;> simp

@[simp] theorem State.deliver_house (s : State) (w : List Nat) (n : Nat) : (s.deliver w n).house = s.house := by
  simp only [State.deliver]; split <;> simp

@[simp] theorem State.deliver_keeper (s : State) (w : List Nat) (n : Nat) : (s.deliver w n).keeper = s.keeper := by
  simp only [State.deliver]; split <;> simp

@[simp] theorem State.deliver_hk (s : State) (w : List Nat) (n : Nat) : (s.deliver w n).hk = s.hk := by
  simp only [State.deliver]; split <;> simp

@[simp] theorem State.deliver_intake (s : State) (w : List Nat) (n : Nat) : (s.deliver w n).intake = s.intake := by
  simp only [State.deliver]; split <;> simp

@[simp] theorem State.deliver_braid (s : State) (w : List Nat) (n : Nat) : (s.deliver w n).braid = s.braid := by
  simp only [State.deliver]; split <;> simp

@[simp] theorem State.deliver_warp (s : State) (w : List Nat) (n : Nat) : (s.deliver w n).warp = s.warp := by
  simp only [State.deliver]; split <;> simp

@[simp] theorem State.deliver_tone (s : State) (w : List Nat) (n : Nat) : (s.deliver w n).tone = s.tone := by
  simp only [State.deliver]; split <;> simp

@[simp] theorem State.deliver_anode (s : State) (w : List Nat) (n : Nat) : (s.deliver w n).anode = s.anode := by
  simp only [State.deliver]; split <;> simp

@[simp] theorem State.deliver_timer (s : State) (w : List Nat) (n : Nat) : (s.deliver w n).timer = s.timer := by
  simp only [State.deliver]; split <;> simp

@[simp] theorem State.deliver_array (s : State) (w : List Nat) (n : Nat) : (s.deliver w n).array = s.array := by
  simp only [State.deliver]; split <;> simp

@[simp] theorem State.deliver_guards (s : State) (w : List Nat) (n : Nat) : (s.deliver w n).guards = s.guards := by
  simp only [State.deliver]; split <;> simp

@[simp] theorem State.deliver_twin (s : State) (w : List Nat) (n : Nat) : (s.deliver w n).twin = s.twin := by
  simp only [State.deliver]; split <;> simp

/-! ### event -/

@[simp] theorem State.event_now (s : State) (e : Event) : (s.event e).now = s.now := by
  rw [State.event]
  exact foldl_keeps State.now _ (fun s n => State.deliver_now s _ n) _ _

@[simp] theorem State.event_pending (s : State) (e : Event) : (s.event e).pending = s.pending := by
  rw [State.event]
  exact foldl_keeps State.pending _ (fun s n => State.deliver_pending s _ n) _ _

@[simp] theorem State.event_freeCtr (s : State) (e : Event) : (s.event e).freeCtr = s.freeCtr := by
  rw [State.event]
  exact foldl_keeps State.freeCtr _ (fun s n => State.deliver_freeCtr s _ n) _ _

@[simp] theorem State.event_dram (s : State) (e : Event) : (s.event e).dram = s.dram := by
  rw [State.event]
  exact foldl_keeps State.dram _ (fun s n => State.deliver_dram s _ n) _ _

@[simp] theorem State.event_shadows (s : State) (e : Event) : (s.event e).shadows = s.shadows := by
  rw [State.event]
  exact foldl_keeps State.shadows _ (fun s n => State.deliver_shadows s _ n) _ _

@[simp] theorem State.event_house (s : State) (e : Event) : (s.event e).house = s.house := by
  rw [State.event]
  exact foldl_keeps State.house _ (fun s n => State.deliver_house s _ n) _ _

@[simp] theorem State.event_keeper (s : State) (e : Event) : (s.event e).keeper = s.keeper := by
  rw [State.event]
  exact foldl_keeps State.keeper _ (fun s n => State.deliver_keeper s _ n) _ _

@[simp] theorem State.event_hk (s : State) (e : Event) : (s.event e).hk = s.hk := by
  rw [State.event]
  exact foldl_keeps State.hk _ (fun s n => State.deliver_hk s _ n) _ _

@[simp] theorem State.event_intake (s : State) (e : Event) : (s.event e).intake = s.intake := by
  rw [State.event]
  exact foldl_keeps State.intake _ (fun s n => State.deliver_intake s _ n) _ _

@[simp] theorem State.event_braid (s : State) (e : Event) : (s.event e).braid = s.braid := by
  rw [State.event]
  exact foldl_keeps State.braid _ (fun s n => State.deliver_braid s _ n) _ _

@[simp] theorem State.event_warp (s : State) (e : Event) : (s.event e).warp = s.warp := by
  rw [State.event]
  exact foldl_keeps State.warp _ (fun s n => State.deliver_warp s _ n) _ _

@[simp] theorem State.event_tone (s : State) (e : Event) : (s.event e).tone = s.tone := by
  rw [State.event]
  exact foldl_keeps State.tone _ (fun s n => State.deliver_tone s _ n) _ _

@[simp] theorem State.event_anode (s : State) (e : Event) : (s.event e).anode = s.anode := by
  rw [State.event]
  exact foldl_keeps State.anode _ (fun s n => State.deliver_anode s _ n) _ _

@[simp] theorem State.event_timer (s : State) (e : Event) : (s.event e).timer = s.timer := by
  rw [State.event]
  exact foldl_keeps State.timer _ (fun s n => State.deliver_timer s _ n) _ _

@[simp] theorem State.event_array (s : State) (e : Event) : (s.event e).array = s.array := by
  rw [State.event]
  exact foldl_keeps State.array _ (fun s n => State.deliver_array s _ n) _ _

@[simp] theorem State.event_guards (s : State) (e : Event) : (s.event e).guards = s.guards := by
  rw [State.event]
  exact foldl_keeps State.guards _ (fun s n => State.deliver_guards s _ n) _ _

@[simp] theorem State.event_twin (s : State) (e : Event) : (s.event e).twin = s.twin := by
  rw [State.event]
  exact foldl_keeps State.twin _ (fun s n => State.deliver_twin s _ n) _ _

/-! ### lose -/

@[simp] theorem State.lose_now (s : State) (c : Nat) : (s.lose c).now = s.now := by
  simp only [State.lose]; split <;> simp

@[simp] theorem State.lose_pending (s : State) (c : Nat) : (s.lose c).pending = s.pending := by
  simp only [State.lose]; split <;> simp

@[simp] theorem State.lose_freeCtr (s : State) (c : Nat) : (s.lose c).freeCtr = s.freeCtr := by
  simp only [State.lose]; split <;> simp

@[simp] theorem State.lose_dram (s : State) (c : Nat) : (s.lose c).dram = s.dram := by
  simp only [State.lose]; split <;> simp

@[simp] theorem State.lose_shadows (s : State) (c : Nat) : (s.lose c).shadows = s.shadows := by
  simp only [State.lose]; split <;> simp

@[simp] theorem State.lose_house (s : State) (c : Nat) : (s.lose c).house = s.house := by
  simp only [State.lose]; split <;> simp

@[simp] theorem State.lose_keeper (s : State) (c : Nat) : (s.lose c).keeper = s.keeper := by
  simp only [State.lose]; split <;> simp

@[simp] theorem State.lose_hk (s : State) (c : Nat) : (s.lose c).hk = s.hk := by
  simp only [State.lose]; split <;> simp

@[simp] theorem State.lose_intake (s : State) (c : Nat) : (s.lose c).intake = s.intake := by
  simp only [State.lose]; split <;> simp

@[simp] theorem State.lose_braid (s : State) (c : Nat) : (s.lose c).braid = s.braid := by
  simp only [State.lose]; split <;> simp

@[simp] theorem State.lose_warp (s : State) (c : Nat) : (s.lose c).warp = s.warp := by
  simp only [State.lose]; split <;> simp

@[simp] theorem State.lose_tone (s : State) (c : Nat) : (s.lose c).tone = s.tone := by
  simp only [State.lose]; split <;> simp

@[simp] theorem State.lose_anode (s : State) (c : Nat) : (s.lose c).anode = s.anode := by
  simp only [State.lose]; split <;> simp

@[simp] theorem State.lose_timer (s : State) (c : Nat) : (s.lose c).timer = s.timer := by
  simp only [State.lose]; split <;> simp

@[simp] theorem State.lose_array (s : State) (c : Nat) : (s.lose c).array = s.array := by
  simp only [State.lose]; split <;> simp

@[simp] theorem State.lose_guards (s : State) (c : Nat) : (s.lose c).guards = s.guards := by
  simp only [State.lose]; split <;> simp

@[simp] theorem State.lose_twin (s : State) (c : Nat) : (s.lose c).twin = s.twin := by
  simp only [State.lose]; split <;> simp

/-! ### record -/

@[simp] theorem State.record_now (s : State) (r : Report) (c : Nat) (a b : Bool) : (s.record r c a b).now = s.now := by
  simp only [State.record, apply_ite State.now, State.raise_now, State.event_now, State.set_now, ite_self]

@[simp] theorem State.record_pending (s : State) (r : Report) (c : Nat) (a b : Bool) :
    (s.record r c a b).pending = s.pending := by
  simp only [State.record, apply_ite State.pending, State.raise_pending, State.event_pending, State.set_pending, ite_self]

@[simp] theorem State.record_freeCtr (s : State) (r : Report) (c : Nat) (a b : Bool) :
    (s.record r c a b).freeCtr = s.freeCtr := by
  simp only [State.record, apply_ite State.freeCtr, State.raise_freeCtr, State.event_freeCtr, State.set_freeCtr, ite_self]

@[simp] theorem State.record_dram (s : State) (r : Report) (c : Nat) (a b : Bool) : (s.record r c a b).dram = s.dram := by
  simp only [State.record, apply_ite State.dram, State.raise_dram, State.event_dram, State.set_dram, ite_self]

@[simp] theorem State.record_shadows (s : State) (r : Report) (c : Nat) (a b : Bool) :
    (s.record r c a b).shadows = s.shadows := by
  simp only [State.record, apply_ite State.shadows, State.raise_shadows, State.event_shadows, State.set_shadows, ite_self]

@[simp] theorem State.record_house (s : State) (r : Report) (c : Nat) (a b : Bool) :
    (s.record r c a b).house = s.house := by
  simp only [State.record, apply_ite State.house, State.raise_house, State.event_house, State.set_house, ite_self]

@[simp] theorem State.record_hk (s : State) (r : Report) (c : Nat) (a b : Bool) : (s.record r c a b).hk = s.hk := by
  simp only [State.record, apply_ite State.hk, State.raise_hk, State.event_hk, State.set_hk, ite_self]

@[simp] theorem State.record_intake (s : State) (r : Report) (c : Nat) (a b : Bool) :
    (s.record r c a b).intake = s.intake := by
  simp only [State.record, apply_ite State.intake, State.raise_intake, State.event_intake, State.set_intake, ite_self]

@[simp] theorem State.record_braid (s : State) (r : Report) (c : Nat) (a b : Bool) :
    (s.record r c a b).braid = s.braid := by
  simp only [State.record, apply_ite State.braid, State.raise_braid, State.event_braid, State.set_braid, ite_self]

@[simp] theorem State.record_warp (s : State) (r : Report) (c : Nat) (a b : Bool) : (s.record r c a b).warp = s.warp := by
  simp only [State.record, apply_ite State.warp, State.raise_warp, State.event_warp, State.set_warp, ite_self]

@[simp] theorem State.record_tone (s : State) (r : Report) (c : Nat) (a b : Bool) : (s.record r c a b).tone = s.tone := by
  simp only [State.record, apply_ite State.tone, State.raise_tone, State.event_tone, State.set_tone, ite_self]

@[simp] theorem State.record_anode (s : State) (r : Report) (c : Nat) (a b : Bool) :
    (s.record r c a b).anode = s.anode := by
  simp only [State.record, apply_ite State.anode, State.raise_anode, State.event_anode, State.set_anode, ite_self]

@[simp] theorem State.record_timer (s : State) (r : Report) (c : Nat) (a b : Bool) :
    (s.record r c a b).timer = s.timer := by
  simp only [State.record, apply_ite State.timer, State.raise_timer, State.event_timer, State.set_timer, ite_self]

@[simp] theorem State.record_array (s : State) (r : Report) (c : Nat) (a b : Bool) :
    (s.record r c a b).array = s.array := by
  simp only [State.record, apply_ite State.array, State.raise_array, State.event_array, State.set_array, ite_self]

@[simp] theorem State.record_guards (s : State) (r : Report) (c : Nat) (a b : Bool) :
    (s.record r c a b).guards = s.guards := by
  simp only [State.record, apply_ite State.guards, State.raise_guards, State.event_guards, State.set_guards, ite_self]

@[simp] theorem State.record_twin (s : State) (r : Report) (c : Nat) (a b : Bool) : (s.record r c a b).twin = s.twin := by
  simp only [State.record, apply_ite State.twin, State.raise_twin, State.event_twin, State.set_twin, ite_self]

/-! ### ringSummary -/

@[simp] theorem State.ringSummary_now (s : State) : (s.ringSummary).now = s.now := by
  simp [State.ringSummary]

@[simp] theorem State.ringSummary_pending (s : State) : (s.ringSummary).pending = s.pending := by
  simp [State.ringSummary]

@[simp] theorem State.ringSummary_freeCtr (s : State) : (s.ringSummary).freeCtr = s.freeCtr := by
  simp [State.ringSummary]

@[simp] theorem State.ringSummary_dram (s : State) : (s.ringSummary).dram = s.dram := by
  simp [State.ringSummary]

@[simp] theorem State.ringSummary_out (s : State) : (s.ringSummary).out = s.out := by
  simp [State.ringSummary]

@[simp] theorem State.ringSummary_shadows (s : State) : (s.ringSummary).shadows = s.shadows := by
  simp [State.ringSummary]

@[simp] theorem State.ringSummary_house (s : State) : (s.ringSummary).house = s.house := by
  simp [State.ringSummary]

@[simp] theorem State.ringSummary_keeper (s : State) : (s.ringSummary).keeper = s.keeper := by
  simp [State.ringSummary]

@[simp] theorem State.ringSummary_host (s : State) : (s.ringSummary).host = s.host := by
  simp [State.ringSummary]

@[simp] theorem State.ringSummary_hk (s : State) : (s.ringSummary).hk = s.hk := by
  simp [State.ringSummary]

@[simp] theorem State.ringSummary_intake (s : State) : (s.ringSummary).intake = s.intake := by
  simp [State.ringSummary]

@[simp] theorem State.ringSummary_braid (s : State) : (s.ringSummary).braid = s.braid := by
  simp [State.ringSummary]

@[simp] theorem State.ringSummary_warp (s : State) : (s.ringSummary).warp = s.warp := by
  simp [State.ringSummary]

@[simp] theorem State.ringSummary_tone (s : State) : (s.ringSummary).tone = s.tone := by
  simp [State.ringSummary]

@[simp] theorem State.ringSummary_anode (s : State) : (s.ringSummary).anode = s.anode := by
  simp [State.ringSummary]

@[simp] theorem State.ringSummary_timer (s : State) : (s.ringSummary).timer = s.timer := by
  simp [State.ringSummary]

@[simp] theorem State.ringSummary_array (s : State) : (s.ringSummary).array = s.array := by
  simp [State.ringSummary]

@[simp] theorem State.ringSummary_guards (s : State) : (s.ringSummary).guards = s.guards := by
  simp [State.ringSummary]

@[simp] theorem State.ringSummary_twin (s : State) : (s.ringSummary).twin = s.twin := by
  simp [State.ringSummary]

/-! ### setRingState -/

@[simp] theorem State.setRingState_now (s : State) (n st : Nat) : (s.setRingState n st).now = s.now := by
  simp [State.setRingState]

@[simp] theorem State.setRingState_pending (s : State) (n st : Nat) : (s.setRingState n st).pending = s.pending := by
  simp [State.setRingState]

@[simp] theorem State.setRingState_freeCtr (s : State) (n st : Nat) : (s.setRingState n st).freeCtr = s.freeCtr := by
  simp [State.setRingState]

@[simp] theorem State.setRingState_dram (s : State) (n st : Nat) : (s.setRingState n st).dram = s.dram := by
  simp [State.setRingState]

@[simp] theorem State.setRingState_out (s : State) (n st : Nat) : (s.setRingState n st).out = s.out := by
  simp [State.setRingState]

@[simp] theorem State.setRingState_shadows (s : State) (n st : Nat) : (s.setRingState n st).shadows = s.shadows := by
  simp [State.setRingState]

@[simp] theorem State.setRingState_house (s : State) (n st : Nat) : (s.setRingState n st).house = s.house := by
  simp [State.setRingState]

@[simp] theorem State.setRingState_keeper (s : State) (n st : Nat) : (s.setRingState n st).keeper = s.keeper := by
  simp [State.setRingState]

@[simp] theorem State.setRingState_host (s : State) (n st : Nat) : (s.setRingState n st).host = s.host := by
  simp [State.setRingState]

@[simp] theorem State.setRingState_hk (s : State) (n st : Nat) : (s.setRingState n st).hk = s.hk := by
  simp [State.setRingState]

@[simp] theorem State.setRingState_intake (s : State) (n st : Nat) : (s.setRingState n st).intake = s.intake := by
  simp [State.setRingState]

@[simp] theorem State.setRingState_braid (s : State) (n st : Nat) : (s.setRingState n st).braid = s.braid := by
  simp [State.setRingState]

@[simp] theorem State.setRingState_warp (s : State) (n st : Nat) : (s.setRingState n st).warp = s.warp := by
  simp [State.setRingState]

@[simp] theorem State.setRingState_tone (s : State) (n st : Nat) : (s.setRingState n st).tone = s.tone := by
  simp [State.setRingState]

@[simp] theorem State.setRingState_anode (s : State) (n st : Nat) : (s.setRingState n st).anode = s.anode := by
  simp [State.setRingState]

@[simp] theorem State.setRingState_timer (s : State) (n st : Nat) : (s.setRingState n st).timer = s.timer := by
  simp [State.setRingState]

@[simp] theorem State.setRingState_array (s : State) (n st : Nat) : (s.setRingState n st).array = s.array := by
  simp [State.setRingState]

@[simp] theorem State.setRingState_guards (s : State) (n st : Nat) : (s.setRingState n st).guards = s.guards := by
  simp [State.setRingState]

@[simp] theorem State.setRingState_twin (s : State) (n st : Nat) : (s.setRingState n st).twin = s.twin := by
  simp [State.setRingState]

/-! ### answer -/

@[simp] theorem State.answer_now (s : State) (w : Option (Nat × Nat)) (a b : Nat) : (s.answer w a b).now = s.now := by
  cases w <;> simp [State.answer]

@[simp] theorem State.answer_pending (s : State) (w : Option (Nat × Nat)) (a b : Nat) :
    (s.answer w a b).pending = s.pending := by
  cases w <;> simp [State.answer]

@[simp] theorem State.answer_freeCtr (s : State) (w : Option (Nat × Nat)) (a b : Nat) :
    (s.answer w a b).freeCtr = s.freeCtr := by
  cases w <;> simp [State.answer]

@[simp] theorem State.answer_regs (s : State) (w : Option (Nat × Nat)) (a b : Nat) : (s.answer w a b).regs = s.regs := by
  cases w <;> simp [State.answer]

@[simp] theorem State.answer_dram (s : State) (w : Option (Nat × Nat)) (a b : Nat) : (s.answer w a b).dram = s.dram := by
  cases w <;> simp [State.answer]

@[simp] theorem State.answer_out (s : State) (w : Option (Nat × Nat)) (a b : Nat) : (s.answer w a b).out = s.out := by
  cases w <;> simp [State.answer]

@[simp] theorem State.answer_shadows (s : State) (w : Option (Nat × Nat)) (a b : Nat) :
    (s.answer w a b).shadows = s.shadows := by
  cases w <;> simp [State.answer]

@[simp] theorem State.answer_house (s : State) (w : Option (Nat × Nat)) (a b : Nat) : (s.answer w a b).house = s.house := by
  cases w <;> simp [State.answer]

@[simp] theorem State.answer_keeper (s : State) (w : Option (Nat × Nat)) (a b : Nat) :
    (s.answer w a b).keeper = s.keeper := by
  cases w <;> simp [State.answer]

@[simp] theorem State.answer_hk (s : State) (w : Option (Nat × Nat)) (a b : Nat) : (s.answer w a b).hk = s.hk := by
  cases w <;> simp [State.answer]

@[simp] theorem State.answer_intake (s : State) (w : Option (Nat × Nat)) (a b : Nat) :
    (s.answer w a b).intake = s.intake := by
  cases w <;> simp [State.answer]

@[simp] theorem State.answer_braid (s : State) (w : Option (Nat × Nat)) (a b : Nat) : (s.answer w a b).braid = s.braid := by
  cases w <;> simp [State.answer]

@[simp] theorem State.answer_warp (s : State) (w : Option (Nat × Nat)) (a b : Nat) : (s.answer w a b).warp = s.warp := by
  cases w <;> simp [State.answer]

@[simp] theorem State.answer_tone (s : State) (w : Option (Nat × Nat)) (a b : Nat) : (s.answer w a b).tone = s.tone := by
  cases w <;> simp [State.answer]

@[simp] theorem State.answer_anode (s : State) (w : Option (Nat × Nat)) (a b : Nat) : (s.answer w a b).anode = s.anode := by
  cases w <;> simp [State.answer]

@[simp] theorem State.answer_timer (s : State) (w : Option (Nat × Nat)) (a b : Nat) : (s.answer w a b).timer = s.timer := by
  cases w <;> simp [State.answer]

@[simp] theorem State.answer_array (s : State) (w : Option (Nat × Nat)) (a b : Nat) : (s.answer w a b).array = s.array := by
  cases w <;> simp [State.answer]

@[simp] theorem State.answer_guards (s : State) (w : Option (Nat × Nat)) (a b : Nat) :
    (s.answer w a b).guards = s.guards := by
  cases w <;> simp [State.answer]

@[simp] theorem State.answer_twin (s : State) (w : Option (Nat × Nat)) (a b : Nat) : (s.answer w a b).twin = s.twin := by
  cases w <;> simp [State.answer]

/-! ### showChange -/

@[simp] theorem State.showChange_now (s : State) : (s.showChange).now = s.now := by
  simp only [State.showChange]; split <;> simp

@[simp] theorem State.showChange_pending (s : State) : (s.showChange).pending = s.pending := by
  simp only [State.showChange]; split <;> simp

@[simp] theorem State.showChange_freeCtr (s : State) : (s.showChange).freeCtr = s.freeCtr := by
  simp only [State.showChange]; split <;> simp

@[simp] theorem State.showChange_dram (s : State) : (s.showChange).dram = s.dram := by
  simp only [State.showChange]; split <;> simp

@[simp] theorem State.showChange_out (s : State) : (s.showChange).out = s.out := by
  simp only [State.showChange]; split <;> simp

@[simp] theorem State.showChange_shadows (s : State) : (s.showChange).shadows = s.shadows := by
  simp only [State.showChange]; split <;> simp

@[simp] theorem State.showChange_house (s : State) : (s.showChange).house = s.house := by
  simp only [State.showChange]; split <;> simp

@[simp] theorem State.showChange_keeper (s : State) : (s.showChange).keeper = s.keeper := by
  simp only [State.showChange]; split <;> simp

@[simp] theorem State.showChange_host (s : State) : (s.showChange).host = s.host := by
  simp only [State.showChange]; split <;> simp

@[simp] theorem State.showChange_hk (s : State) : (s.showChange).hk = s.hk := by
  simp only [State.showChange]; split <;> simp

@[simp] theorem State.showChange_intake (s : State) : (s.showChange).intake = s.intake := by
  simp only [State.showChange]; split <;> simp

@[simp] theorem State.showChange_braid (s : State) : (s.showChange).braid = s.braid := by
  simp only [State.showChange]; split <;> simp

@[simp] theorem State.showChange_warp (s : State) : (s.showChange).warp = s.warp := by
  simp only [State.showChange]; split <;> simp

@[simp] theorem State.showChange_tone (s : State) : (s.showChange).tone = s.tone := by
  simp only [State.showChange]; split <;> simp

@[simp] theorem State.showChange_anode (s : State) : (s.showChange).anode = s.anode := by
  simp only [State.showChange]; split <;> simp

@[simp] theorem State.showChange_timer (s : State) : (s.showChange).timer = s.timer := by
  simp only [State.showChange]; split <;> simp

@[simp] theorem State.showChange_array (s : State) : (s.showChange).array = s.array := by
  simp only [State.showChange]; split <;> simp

@[simp] theorem State.showChange_guards (s : State) : (s.showChange).guards = s.guards := by
  simp only [State.showChange]; split <;> simp

@[simp] theorem State.showChange_twin (s : State) : (s.showChange).twin = s.twin := by
  simp only [State.showChange]; split <;> simp

/-! ### driveErr -/

@[simp] theorem State.driveErr_now (s : State) : (s.driveErr).now = s.now := by
  simp [State.driveErr]

@[simp] theorem State.driveErr_pending (s : State) : (s.driveErr).pending = s.pending := by
  simp [State.driveErr]

@[simp] theorem State.driveErr_freeCtr (s : State) : (s.driveErr).freeCtr = s.freeCtr := by
  simp [State.driveErr]

@[simp] theorem State.driveErr_dram (s : State) : (s.driveErr).dram = s.dram := by
  simp [State.driveErr]

@[simp] theorem State.driveErr_out (s : State) : (s.driveErr).out = s.out := by
  simp [State.driveErr]

@[simp] theorem State.driveErr_shadows (s : State) : (s.driveErr).shadows = s.shadows := by
  simp [State.driveErr]

@[simp] theorem State.driveErr_keeper (s : State) : (s.driveErr).keeper = s.keeper := by
  simp [State.driveErr]

@[simp] theorem State.driveErr_host (s : State) : (s.driveErr).host = s.host := by
  simp [State.driveErr]

@[simp] theorem State.driveErr_hk (s : State) : (s.driveErr).hk = s.hk := by
  simp [State.driveErr]

@[simp] theorem State.driveErr_intake (s : State) : (s.driveErr).intake = s.intake := by
  simp [State.driveErr]

@[simp] theorem State.driveErr_braid (s : State) : (s.driveErr).braid = s.braid := by
  simp [State.driveErr]

@[simp] theorem State.driveErr_warp (s : State) : (s.driveErr).warp = s.warp := by
  simp [State.driveErr]

@[simp] theorem State.driveErr_tone (s : State) : (s.driveErr).tone = s.tone := by
  simp [State.driveErr]

@[simp] theorem State.driveErr_anode (s : State) : (s.driveErr).anode = s.anode := by
  simp [State.driveErr]

@[simp] theorem State.driveErr_timer (s : State) : (s.driveErr).timer = s.timer := by
  simp [State.driveErr]

@[simp] theorem State.driveErr_array (s : State) : (s.driveErr).array = s.array := by
  simp [State.driveErr]

@[simp] theorem State.driveErr_guards (s : State) : (s.driveErr).guards = s.guards := by
  simp [State.driveErr]

@[simp] theorem State.driveErr_twin (s : State) : (s.driveErr).twin = s.twin := by
  simp [State.driveErr]

/-! ### driveLight -/

@[simp] theorem State.driveLight_now (s : State) : (s.driveLight).now = s.now := by
  simp [State.driveLight]

@[simp] theorem State.driveLight_pending (s : State) : (s.driveLight).pending = s.pending := by
  simp [State.driveLight]

@[simp] theorem State.driveLight_freeCtr (s : State) : (s.driveLight).freeCtr = s.freeCtr := by
  simp [State.driveLight]

@[simp] theorem State.driveLight_dram (s : State) : (s.driveLight).dram = s.dram := by
  simp [State.driveLight]

@[simp] theorem State.driveLight_out (s : State) : (s.driveLight).out = s.out := by
  simp [State.driveLight]

@[simp] theorem State.driveLight_shadows (s : State) : (s.driveLight).shadows = s.shadows := by
  simp [State.driveLight]

@[simp] theorem State.driveLight_keeper (s : State) : (s.driveLight).keeper = s.keeper := by
  simp [State.driveLight]

@[simp] theorem State.driveLight_host (s : State) : (s.driveLight).host = s.host := by
  simp [State.driveLight]

@[simp] theorem State.driveLight_hk (s : State) : (s.driveLight).hk = s.hk := by
  simp [State.driveLight]

@[simp] theorem State.driveLight_intake (s : State) : (s.driveLight).intake = s.intake := by
  simp [State.driveLight]

@[simp] theorem State.driveLight_braid (s : State) : (s.driveLight).braid = s.braid := by
  simp [State.driveLight]

@[simp] theorem State.driveLight_warp (s : State) : (s.driveLight).warp = s.warp := by
  simp [State.driveLight]

@[simp] theorem State.driveLight_tone (s : State) : (s.driveLight).tone = s.tone := by
  simp [State.driveLight]

@[simp] theorem State.driveLight_anode (s : State) : (s.driveLight).anode = s.anode := by
  simp [State.driveLight]

@[simp] theorem State.driveLight_timer (s : State) : (s.driveLight).timer = s.timer := by
  simp [State.driveLight]

@[simp] theorem State.driveLight_array (s : State) : (s.driveLight).array = s.array := by
  simp [State.driveLight]

@[simp] theorem State.driveLight_guards (s : State) : (s.driveLight).guards = s.guards := by
  simp [State.driveLight]

@[simp] theorem State.driveLight_twin (s : State) : (s.driveLight).twin = s.twin := by
  simp [State.driveLight]

@[simp] theorem State.driveErr_mode (s : State) : (s.driveErr).house.mode = s.house.mode := by
  simp [State.driveErr]

@[simp] theorem State.driveLight_mode (s : State) : (s.driveLight).house.mode = s.house.mode := by
  simp [State.driveLight]

/-! ### Accepted reports

Collecting a report writes a record, an event and a count: it leaves alone what neither `lose` nor `record` changes. -/

@[simp] theorem State.collect_now (s : State) (r : Report) (a b c d : Bool) : (s.collect r a b c d).now = s.now := by
  simp only [State.collect, apply_ite State.now, State.lose_now, State.record_now]
  split <;> (repeat' split) <;> simp

@[simp] theorem State.collect_pending (s : State) (r : Report) (a b c d : Bool) : (s.collect r a b c d).pending = s.pending := by
  simp only [State.collect, apply_ite State.pending, State.lose_pending, State.record_pending]
  split <;> (repeat' split) <;> simp

@[simp] theorem State.collect_freeCtr (s : State) (r : Report) (a b c d : Bool) : (s.collect r a b c d).freeCtr = s.freeCtr := by
  simp only [State.collect, apply_ite State.freeCtr, State.lose_freeCtr, State.record_freeCtr]
  split <;> (repeat' split) <;> simp

@[simp] theorem State.collect_dram (s : State) (r : Report) (a b c d : Bool) : (s.collect r a b c d).dram = s.dram := by
  simp only [State.collect, apply_ite State.dram, State.lose_dram, State.record_dram]
  split <;> (repeat' split) <;> simp

@[simp] theorem State.collect_shadows (s : State) (r : Report) (a b c d : Bool) : (s.collect r a b c d).shadows = s.shadows := by
  simp only [State.collect, apply_ite State.shadows, State.lose_shadows, State.record_shadows]
  split <;> (repeat' split) <;> simp

@[simp] theorem State.collect_hk (s : State) (r : Report) (a b c d : Bool) : (s.collect r a b c d).hk = s.hk := by
  simp only [State.collect, apply_ite State.hk, State.lose_hk, State.record_hk]
  split <;> (repeat' split) <;> simp

@[simp] theorem State.collect_intake (s : State) (r : Report) (a b c d : Bool) : (s.collect r a b c d).intake = s.intake := by
  simp only [State.collect, apply_ite State.intake, State.lose_intake, State.record_intake]
  split <;> (repeat' split) <;> simp

@[simp] theorem State.collect_braid (s : State) (r : Report) (a b c d : Bool) : (s.collect r a b c d).braid = s.braid := by
  simp only [State.collect, apply_ite State.braid, State.lose_braid, State.record_braid]
  split <;> (repeat' split) <;> simp

@[simp] theorem State.collect_warp (s : State) (r : Report) (a b c d : Bool) : (s.collect r a b c d).warp = s.warp := by
  simp only [State.collect, apply_ite State.warp, State.lose_warp, State.record_warp]
  split <;> (repeat' split) <;> simp

@[simp] theorem State.collect_tone (s : State) (r : Report) (a b c d : Bool) : (s.collect r a b c d).tone = s.tone := by
  simp only [State.collect, apply_ite State.tone, State.lose_tone, State.record_tone]
  split <;> (repeat' split) <;> simp

@[simp] theorem State.collect_anode (s : State) (r : Report) (a b c d : Bool) : (s.collect r a b c d).anode = s.anode := by
  simp only [State.collect, apply_ite State.anode, State.lose_anode, State.record_anode]
  split <;> (repeat' split) <;> simp

@[simp] theorem State.collect_timer (s : State) (r : Report) (a b c d : Bool) : (s.collect r a b c d).timer = s.timer := by
  simp only [State.collect, apply_ite State.timer, State.lose_timer, State.record_timer]
  split <;> (repeat' split) <;> simp

@[simp] theorem State.collect_array (s : State) (r : Report) (a b c d : Bool) : (s.collect r a b c d).array = s.array := by
  simp only [State.collect, apply_ite State.array, State.lose_array, State.record_array]
  split <;> (repeat' split) <;> simp

@[simp] theorem State.collect_guards (s : State) (r : Report) (a b c d : Bool) : (s.collect r a b c d).guards = s.guards := by
  simp only [State.collect, apply_ite State.guards, State.lose_guards, State.record_guards]
  split <;> (repeat' split) <;> simp

@[simp] theorem State.collect_twin (s : State) (r : Report) (a b c d : Bool) : (s.collect r a b c d).twin = s.twin := by
  simp only [State.collect, apply_ite State.twin, State.lose_twin, State.record_twin]
  split <;> (repeat' split) <;> simp

/-- A report whose fault brings no reaction leaves `now` alone. -/
theorem State.accept_now (s : State) (r : Report) (a b c d : Bool) (h : r.reaction = .nothing) :
    (s.accept r a b c d).now = s.now := by
  simp [State.accept, h, State.react]

/-- A report whose fault brings no reaction leaves `pending` alone. -/
theorem State.accept_pending (s : State) (r : Report) (a b c d : Bool) (h : r.reaction = .nothing) :
    (s.accept r a b c d).pending = s.pending := by
  simp [State.accept, h, State.react]

/-- A report whose fault brings no reaction leaves `freeCtr` alone. -/
theorem State.accept_freeCtr (s : State) (r : Report) (a b c d : Bool) (h : r.reaction = .nothing) :
    (s.accept r a b c d).freeCtr = s.freeCtr := by
  simp [State.accept, h, State.react]

/-- A report whose fault brings no reaction leaves `dram` alone. -/
theorem State.accept_dram (s : State) (r : Report) (a b c d : Bool) (h : r.reaction = .nothing) :
    (s.accept r a b c d).dram = s.dram := by
  simp [State.accept, h, State.react]

/-- A report whose fault brings no reaction leaves `shadows` alone. -/
theorem State.accept_shadows (s : State) (r : Report) (a b c d : Bool) (h : r.reaction = .nothing) :
    (s.accept r a b c d).shadows = s.shadows := by
  simp [State.accept, h, State.react]

/-- A report whose fault brings no reaction leaves `hk` alone. -/
theorem State.accept_hk (s : State) (r : Report) (a b c d : Bool) (h : r.reaction = .nothing) :
    (s.accept r a b c d).hk = s.hk := by
  simp [State.accept, h, State.react]

/-- A report whose fault brings no reaction leaves `intake` alone. -/
theorem State.accept_intake (s : State) (r : Report) (a b c d : Bool) (h : r.reaction = .nothing) :
    (s.accept r a b c d).intake = s.intake := by
  simp [State.accept, h, State.react]

/-- A report whose fault brings no reaction leaves `braid` alone. -/
theorem State.accept_braid (s : State) (r : Report) (a b c d : Bool) (h : r.reaction = .nothing) :
    (s.accept r a b c d).braid = s.braid := by
  simp [State.accept, h, State.react]

/-- A report whose fault brings no reaction leaves `warp` alone. -/
theorem State.accept_warp (s : State) (r : Report) (a b c d : Bool) (h : r.reaction = .nothing) :
    (s.accept r a b c d).warp = s.warp := by
  simp [State.accept, h, State.react]

/-- A report whose fault brings no reaction leaves `tone` alone. -/
theorem State.accept_tone (s : State) (r : Report) (a b c d : Bool) (h : r.reaction = .nothing) :
    (s.accept r a b c d).tone = s.tone := by
  simp [State.accept, h, State.react]

/-- A report whose fault brings no reaction leaves `anode` alone. -/
theorem State.accept_anode (s : State) (r : Report) (a b c d : Bool) (h : r.reaction = .nothing) :
    (s.accept r a b c d).anode = s.anode := by
  simp [State.accept, h, State.react]

/-- A report whose fault brings no reaction leaves `timer` alone. -/
theorem State.accept_timer (s : State) (r : Report) (a b c d : Bool) (h : r.reaction = .nothing) :
    (s.accept r a b c d).timer = s.timer := by
  simp [State.accept, h, State.react]

/-- A report whose fault brings no reaction leaves `array` alone. -/
theorem State.accept_array (s : State) (r : Report) (a b c d : Bool) (h : r.reaction = .nothing) :
    (s.accept r a b c d).array = s.array := by
  simp [State.accept, h, State.react]

/-- A report whose fault brings no reaction leaves `guards` alone. -/
theorem State.accept_guards (s : State) (r : Report) (a b c d : Bool) (h : r.reaction = .nothing) :
    (s.accept r a b c d).guards = s.guards := by
  simp [State.accept, h, State.react]

/-- A report whose fault brings no reaction leaves `twin` alone. -/
theorem State.accept_twin (s : State) (r : Report) (a b c d : Bool) (h : r.reaction = .nothing) :
    (s.accept r a b c d).twin = s.twin := by
  simp [State.accept, h, State.react]

end Sys2Proof.Machine
end

