-- ==== Sys2Proof/Laws/Blocks.lean ====
section
/-! SUPPORT. Which register blocks an operation can change: an event and a message to the host change the HOST block
alone, a fault report without a module-level reaction the KEEPER and HOST blocks. -/

namespace Sys2Proof.Machine

/-- The registers outside some blocks are the same in both states. -/
def Elsewhere (bs : List Nat) (s s' : State) : Prop :=
  ∀ off, ¬ off / 65536 ∈ bs → rread s'.regs off = rread s.regs off

namespace Elsewhere

variable {bs : List Nat} {s s' s'' : State}

theorem refl (bs : List Nat) (s : State) : Elsewhere bs s s := fun _ _ => rfl

theorem trans (h : Elsewhere bs s s') (k : Elsewhere bs s' s'') : Elsewhere bs s s'' :=
  fun o ho => (k o ho).trans (h o ho)

theorem of_regs (h : s'.regs = s.regs) : Elsewhere bs s s' := fun _ _ => by rw [h]

theorem set (h : Elsewhere bs s s') {f : Field} (v : Nat) (hf : f.off / 65536 ∈ bs) : Elsewhere bs s (s'.set f v) :=
  fun o ho => (rread_fset_other _ _ (fun e => ho (by rw [e]; exact hf))).trans (h o ho)

theorem setFlag (h : Elsewhere bs s s') {f : Field} (b : Bool) (hf : f.off / 65536 ∈ bs) : Elsewhere bs s (s'.setFlag f b) :=
  h.set _ hf

theorem bump (h : Elsewhere bs s s') {f : Field} (hf : f.off / 65536 ∈ bs) : Elsewhere bs s (s'.bump f) := h.set _ hf

theorem ite {c : Prop} [Decidable c] {a b : State} (ha : Elsewhere bs s a) (hb : Elsewhere bs s b) :
    Elsewhere bs s (if c then a else b) := by split <;> assumption

theorem foldl {β : Type} (g : State → β → State) (l : List β) (hg : ∀ x, ∀ b ∈ l, Elsewhere bs x (g x b)) :
    ∀ x : State, Elsewhere bs x (l.foldl g x) := by
  induction l with
  | nil => intro x; exact refl bs x
  | cons b r ih =>
    intro x
    exact (hg x b (by simp)).trans (ih (fun y c hc => hg y c (by simp [hc])) (g x b))

theorem mono {cs : List Nat} (h : Elsewhere bs s s') (hs : ∀ b ∈ bs, b ∈ cs) : Elsewhere cs s s' :=
  fun o ho => h o (fun m => ho (hs _ m))

theorem get (h : Elsewhere bs s s') {f : Field} (hf : ¬ f.off / 65536 ∈ bs) : s'.get f = s.get f := by
  unfold State.get fget; rw [h _ hf]

theorem flag (h : Elsewhere bs s s') {f : Field} (hf : ¬ f.off / 65536 ∈ bs) : s'.flag f = s.flag f := by
  unfold State.flag fget; rw [h _ hf]

theorem reg (h : Elsewhere bs s s') {o : Nat} (ho : ¬ o / 65536 ∈ bs) : s'.reg o = s.reg o := by
  unfold State.reg; rw [h _ ho]

end Elsewhere

open Reg

theorem State.emit_elsewhere (bs : List Nat) (s : State) (o : Output) : Elsewhere bs s (s.emit o) := Elsewhere.of_regs rfl

theorem State.toHost_elsewhere (bs : List Nat) (s : State) (o : Output) : Elsewhere bs s (s.toHost o) := by
  unfold State.toHost; exact Elsewhere.ite (Elsewhere.of_regs rfl) (Elsewhere.of_regs rfl)

theorem State.msix_elsewhere (s : State) {v : Nat} (hv : v < 72) : Elsewhere [2] s (s.msix v) := by
  unfold State.msix
  refine Elsewhere.ite ((Elsewhere.refl _ s).set _ ?_) (s.toHost_elsewhere _ _)
  have : v / 32 = 0 ∨ v / 32 = 1 ∨ v / 32 = 2 := by omega
  rcases this with h | h | h <;> simp only [h] <;> decide

theorem State.raise_elsewhere (s : State) {k : Nat} (hk : k < 8) : Elsewhere [2] s (s.raise k) := by
  have hc : ((⟨HOST_IRQ_CAUSE_OFF, k, 1⟩ : Field).off / 65536) ∈ [2] := by simp [HOST_IRQ_CAUSE_OFF]
  unfold State.raise
  exact Elsewhere.ite (Elsewhere.refl _ _) (Elsewhere.ite
    (((Elsewhere.refl _ s).set 1 hc).trans (State.msix_elsewhere _ (by omega)))
    ((Elsewhere.refl _ s).set 1 hc))

/-- The registers of a ring stand in the HOST block. -/
theorem ring_block {n base : Nat} (hn : n < 64) (h1 : 2 * 65536 ≤ base) (h2 : base + 63 * 64 < 3 * 65536) :
    (base + 64 * n) / 65536 ∈ [2] := by
  have : (base + 64 * n) / 65536 = 2 := by omega
  simp [this]

theorem State.ringMsg_elsewhere (s : State) {n : Nat} (hn : n < 64) : Elsewhere [2] s (s.ringMsg n) := by
  unfold State.ringMsg
  exact Elsewhere.ite ((Elsewhere.of_regs rfl).trans (State.msix_elsewhere _ (by omega))) (Elsewhere.of_regs rfl)

theorem State.writeRecord_elsewhere (s : State) {n : Nat} (w : List Nat) (hn : n < 64) :
    Elsewhere [2] s (s.writeRecord n w) := by
  unfold State.writeRecord
  refine (((((s.toHost_elsewhere [2] _).trans (State.toHost_elsewhere _ _ _)).set _ ?_).set _ ?_)).trans
    (State.ringMsg_elsewhere _ hn)
  · exact ring_block hn (by decide) (by decide)
  · exact ring_block hn (by decide) (by decide)

theorem State.deliver_elsewhere (s : State) {n : Nat} (w : List Nat) (hn : n < 64) : Elsewhere [2] s (s.deliver w n) := by
  unfold State.deliver
  refine Elsewhere.ite (s.writeRecord_elsewhere w hn) ((Elsewhere.of_regs rfl).bump ?_)
  exact ring_block hn (by decide) (by decide)

/-- An event changes registers of the HOST block alone. -/
theorem State.event_elsewhere (s : State) (e : Event) : Elsewhere [2] s (s.event e) := by
  unfold State.event
  refine Elsewhere.trans (Elsewhere.of_regs rfl) (Elsewhere.foldl _ _ (fun x n hn => ?_) _)
  exact State.deliver_elsewhere _ _ (by simp [State.subscribers] at hn; exact hn.1)

theorem State.lose_elsewhere (s : State) {cls : Nat} : Elsewhere [1, 2] s (s.lose cls) := by
  unfold State.lose
  have h : Elsewhere [1, 2] s ((s.bump KEEPER_LOST_COUNT).set ⟨KEEPER_LOST_OFF, cls, 1⟩ 1) :=
    ((Elsewhere.refl _ s).bump (by decide)).set 1 (by simp [KEEPER_LOST_OFF])
  exact Elsewhere.ite (h.trans ((State.raise_elsewhere _ (by decide)).mono (by decide))) h

theorem State.record_elsewhere (s : State) (r : Report) (cls : Nat) (real injected : Bool) :
    Elsewhere [1, 2] s (s.record r cls real injected) := by
  have h : ∀ (k : Keeper) (v : Nat) (e : Event),
      Elsewhere [1, 2] s ((State.set { s with keeper := k } KEEPER_SEQ_NEXT v).event e) := fun k v e =>
    Elsewhere.trans (Elsewhere.set (s' := { s with keeper := k }) (Elsewhere.of_regs rfl) v (by decide))
      ((State.event_elsewhere _ _).mono (by decide))
  have g : ∀ x : State, Elsewhere [1, 2] x (x.raise 0) := fun x => (State.raise_elsewhere x (by decide)).mono (by decide)
  rw [State.record]
  refine Elsewhere.ite ?_ ?_
  · refine Elsewhere.trans ?_ (g _)
    exact h _ _ _
  · exact h _ _ _

theorem State.driveErr_elsewhere (s : State) : Elsewhere [1] s s.driveErr := by
  unfold State.driveErr
  exact Elsewhere.setFlag (Elsewhere.trans (((Elsewhere.refl _ s).set _ (by decide)).set _ (by decide)) (Elsewhere.of_regs rfl))
    _ (by decide)

/-- A report without a module-level reaction changes registers of the KEEPER and HOST blocks alone. -/
theorem State.accept_elsewhere (s : State) (r : Report) (a b c d : Bool) (h : r.reaction = .nothing) :
    Elsewhere [1, 2] s (s.accept r a b c d) := by
  unfold State.accept
  simp only [h, State.react, ite_self]
  refine Elsewhere.trans ?_ ((State.driveErr_elsewhere _).mono (by decide))
  refine Elsewhere.trans ?_ (Elsewhere.ite (State.lose_elsewhere _) (State.record_elsewhere _ _ _ _ _))
  have h0 : Elsewhere [1, 2] s (s.bump (match r.class_ with
      | 0 => KEEPER_COUNTS_CE | 1 => KEEPER_COUNTS_CC | _ => KEEPER_COUNTS_FT)) := by
    refine (Elsewhere.refl _ s).bump ?_
    split <;> decide
  split
  · split
    · refine Elsewhere.ite (h0.set 1 ?_) h0
      unfold openBit; split <;> simp [KEEPER_OPEN_LO_OFF, KEEPER_OPEN_HI_OFF]
    · exact h0
  · exact h0

theorem State.fault_elsewhere (s : State) (code source subject : Nat)
    (h : (⟨code, source, subject, 0, 0, 0, 0⟩ : Report).reaction = .nothing) :
    Elsewhere [1, 2] s (s.fault code source subject) := State.accept_elsewhere _ _ _ _ _ _ h

theorem State.faultVal_elsewhere (s : State) (code source subject value limit : Nat)
    (h : (⟨code, source, subject, value, limit, 0, 0⟩ : Report).reaction = .nothing) :
    Elsewhere [1, 2] s (s.faultVal code source subject value limit) := State.accept_elsewhere _ _ _ _ _ _ h

end Sys2Proof.Machine
end

