-- ==== Sys2Proof/Tests/States.lean ====
section
/-! SUPPORT. The small states of the tests and of the witnesses: the state after reset with a mode and a few fields. -/

namespace Sys2Proof.Tests

open Sys2Proof.Machine Sys2Proof.Machine.Reg

/-- The state after reset, in a mode, with some fields set. -/
def st (m : Mode) (l : List (Field × Nat)) : State :=
  l.foldl (fun (s : State) e => s.set e.1 e.2) { State.reset with house := { State.reset.house with mode := m } }

/-- A module in a mode whose PCIe link is up, so that the host reaches it. -/
def up (m : Mode) (l : List (Field × Nat)) : State := st m ((HOST_LINK_UP, 1) :: l)

/-- A module in DARK with its frame timer running. -/
def timed (l : List (Field × Nat)) : State := up .dark ((STRIKE_STATUS_TIMER_RUN, 1) :: (STRIKE_SYNC_STATUS_STATE, 1) :: l)

/-- A module in STOWED whose wake sequence is at a stage. -/
def waking (n : Nat) (l : List (Field × Nat)) : State :=
  { st .stowed l with house := { State.reset.house with mode := .stowed, waking := some n } }

/-- A module in STOWED whose wake sequence waits for its next attempt. -/
def retrying (l : List (Field × Nat)) : State :=
  { st .stowed l with house := { State.reset.house with mode := .stowed, retryWait := true } }

/-- A powered module with a PLL that has lost lock. -/
def unlocked (n : Nat) : State := { up .dark [] with house := { State.reset.house with mode := .dark, pllUnlocked := [n] } }

/-- The frame timer runs with its part of the state replaced. -/
def ticking (f : Timer → Timer) (l : List (Field × Nat)) : State := { timed l with timer := f State.reset.timer }

/-- A configuration section that passes the check: the guards' records and an empty zone table. -/
def goodConfig : List Nat :=
  [2 * 2 ^ 16 + 2 ^ 8, 0, 0, 0] ++
  [2, 64, GUARD_A_CFG_LINK_OFF, 50 * 2 ^ 16 + 20, GUARD_NET_TIMING_OFF 0, 100 * 2 ^ 16 + 500, GUARD_NET_TIMING_OFF 1,
    100 * 2 ^ 16 + 500, GUARD_NET_CFG_OFF 0, 1 + 2 ^ 16, GUARD_NET_CFG_OFF 1, 1 + 2 ^ 16, GUARD_NET_TYPE_OFF 0, 0x88B5,
    GUARD_NET_TYPE_OFF 1, 0x88B5, GUARD_B_OVER_OFF, 4 * 2 ^ 16 + 5 * 2 ^ 8] ++
  (3 :: 4868 :: List.replicate 1217 0)

/-- The nominal ratios of R83, times 2^23. -/
def nominal : List Nat :=
  [265271, 333956, 420426, 529285, 666331, 838861, 1056063, 1329505, 1673747, 2107123, 2652711, 3339565, 4204263,
    5292854, 6663308, 8388608]

/-- A slot that nothing can start from, and a calibration image with nothing in it but the ratios. -/
def emptySlot : SlotImage := ⟨2, 0, 0, none, 0, [], []⟩
def noCal : CalImage := ⟨(List.replicate 16 nominal).flatten, [], [], [], [], [], [], [], [], [], []⟩

/-- What the boot ROM finds under the strap HALT, and under the strap SLOT 0 with a good slot. -/
def bootHaltData : BootData := ⟨3, 0, emptySlot, emptySlot, [], noCal, true, true⟩
def bootGoodData : BootData := ⟨1, 0, ⟨1, 1, 1, none, 0, goodConfig, []⟩, emptySlot, [], noCal, true, true⟩

/-- A survey slot that brings nothing. -/
def noSurvey : SurveyData := ⟨[], [], [], [], 0, 0, 0, 0, [], []⟩

/-- The frame timer after the survey slot, after a whole scan, and with a reference. -/
def surveyed : State := ticking (fun x => { x with phase := 1 }) []
def scanned : State := { ticking (fun x => { x with rowsRun := 512 }) [(STRIKE_STATUS_LATE_RUN, 2)] with
  array := { State.reset.array with back := [(5, 0x1234#64)] } }
def onPtp (l : List (Field × Nat)) : State :=
  ticking (fun x => { x with timing := { x.timing with source := 2 }, ptpAt := some 0, ptpValid := true }) l
def onSync : State := ticking (fun x => { x with timing := { x.timing with source := 1, mult := 1 }, edges := [7], syncValid := true }) []

/-- A pattern register has been written. -/
def patterned : State := { timed [(STRIKE_PATTERN_CTRL_ENABLE, 1), (STRIKE_PATTERN_END_Y1, 9)] with
  array := { State.reset.array with patternDirty := true } }

/-- A descriptor of index 0 with an opcode and its words from PARAM0 on, not begun. -/
def desc (op : Nat) (words : List Nat) : Desc := ⟨0, 2 ^ 24 * op :: words, 0, 0, false, none, 0⟩

/-- Ring 0 of a module in DARK is in RUN with a class and its descriptors in flight, and Bus Master Enable is set. -/
def running (cls : Nat) (r : Ring) (l : List (Field × Nat)) : State :=
  { up .dark ([(HOST_LINK_BME, 1), (RING_CFG_CLASS 0, cls), (RING_CFG_LOG2SIZE 0, 4), (RING_STATUS_STATE 0, 1),
      (RING_CTRL_ENABLE 0, 1), (RING_QUOTA_BW 0, 100), (RING_QUOTA_INFLIGHT 0, 4)] ++ l) with
    host := { State.reset.host with rings := [(0, r)] } }

/-- The same with one descriptor in flight. -/
def flight (cls : Nat) (d : Desc) (l : List (Field × Nat)) : State := running cls { Ring.off with inflight := [d] } l

/-- One wear checkpoint has been written. -/
def oddCkpt : State := { up .dark [(MBOX_STATUS_FW_READY, 1)] with tone := { State.reset.tone with ckpts := 1 } }

/-- A mesh image whose sum fails waits for its checks, its bytes all fetched. -/
def loadedDesc : Desc := { desc 0x20 [0, 0, 0, 0, 0, 33832] with started := true, used := 33832 }
def loading : State := { flight 0 loadedDesc [] with warp := { State.reset.warp with load := some ⟨1, [256, 0, 1], 0, 0⟩ } }

/-- A calibration block of one entry. -/
def goodBlock : List Nat := [257, 0, 1, 0x2144DF1C, 0, 0, 0, 0, 0]

/-- Rings that fetch slot 0, that have fetched a descriptor, and whose message waits since time 3. -/
def fetches : Ring := { Ring.off with fetching := [0] }
def hasFetched (d : Desc) : Ring := { Ring.off with fetched := [d] }
def heldBack : Ring := { Ring.off with lastMsg := some 3, msgWaits := true }

/-- A NOP whose work has ended. -/
def doneNop : Desc := { desc 1 [] with done := some (0, 0, 0) }

/-- A read of doorbell line 0 is outstanding for the third time. -/
def watching : State := { running 0 Ring.off [] with
  host := { State.reset.host with rings := [(0, Ring.off)], linesOut := [0], lineFails := [(0, 2)] } }

/-- The watcher has polled line 0 of an active ring once since IDLE rounds were 1. -/
def polledOnce : State :=
  { running 0 Ring.off [(⟨HOST_WATCH_STATUS_OFF, 0, 1⟩, 1), (HOST_WATCH_STATUS_FAST, 1), (HOST_WATCH_IDLE, 1)] with
    host := { State.reset.host with rings := [(0, Ring.off)], idleRounds := 1 } }

/-- A message waits for Bus Master Enable. -/
def waitsOut (l : List (Field × Nat)) : State := { up .dark l with host := { State.reset.host with stalled := [.msix 3] } }

/-- Mailbox channel 0 holds what is given, in DARK with module firmware ready. -/
def letters (m : Mbox) (l : List (Field × Nat)) : State :=
  { up .dark ((MBOX_STATUS_FW_READY, 1) :: l) with hk := { State.reset.hk with mbox := [(0, m)] } }

/-- The same in SERVICE, with a verified slot 1 and a flash operation. -/
def serving (m : Mbox) (f : Option FlashOp) : State :=
  { up .service [(MBOX_STATUS_FW_READY, 1)] with
    hk := { State.reset.hk with mbox := [(0, m)] }
    house := { State.reset.house with mode := .service, flashOp := f, slots := [(1, ⟨3, 4, true, none, []⟩)] } }

/-- HKC_0 holds LOCK_3. -/
def locked : State :=
  { up .dark [(MBOX_STATUS_FW_READY, 1), (LOCK_PEEK_HELD 3, 1), (LOCK_PEEK_OWNER 3, 1)] with
    hk := { State.reset.hk with holder := [(3, .hkc0)] } }

/-- The stop sequence for a request of ring 0 runs, with some islands stopped. -/
def stopping (asking : Bool) (k : Nat) : State :=
  { flight 0 { desc 0x30 [0] with started := true } [] with
    house := { State.reset.house with mode := .dark, stop := some ⟨some (0, 0), 0, asking, k⟩ } }

/-- The same at the tenth island, while an injection is active. -/
def refusing : State := { stopping true 9 with keeper := { State.reset.keeper with inj := some ⟨0x0101, 0, false, 0, 90⟩ } }

/-- A housekeeping core has just written the first register of TONE. -/
def overruled : State :=
  { up .dark [] with now := 5, access := { State.reset.access with wrote := [(0x60000, .hkc0, 5)] } }

/-- The sectors of colour 3 have differed from their rail in three frames in a row. -/
def differing : State :=
  { up .show [(⟨ANODE_RAIL_STATUS_OFF, 3, 1⟩, 1)] with anode := { State.reset.anode with diffRun := [(3, 3)] } }

/-- A lane holds what is given, in DARK. -/
def lanes (n : Nat) (x : Lane) (l : List (Field × Nat)) : State := { up .dark l with intake := ⟨[(n, x)], [], false, 0⟩ }

/-- Lanes one header short of lock, one invalid header short of losing it after a low eye scan, and one block before
the second marker of logical lane 3. -/
def almost : Lane := { Lane.cold with good := 63 }
def losing : Lane := { Lane.cold with locked := true, window := List.replicate 15 true, lowEyes := 1 }
def paired : Lane := { Lane.cold with locked := true, since := some 16383, marker := some (3, 6, 0) }

/-- An ALIGN block of logical lane 3 with MCOUNT 7. -/
def marker3 : List Nat := [0x4B, 3, 7, 0, 0, 255, 0x5A, 0xC3]

/-- Stream 2 with lane 0 of a map of lanes, 2 by 2 pixels of 4 bytes, a frame in progress or none. -/
def streams (f : Option StreamFrame) (map : Nat) : State :=
  { up .dark [(laneLink 0, 4), (laneLogical 0, 0), (INTAKE_LANE_PWR_STATE 0, 0), (INTAKE_STR_CFG_ENABLE 2, 1), (INTAKE_STR_CFG_LANES 2, map),
      (INTAKE_STR_SIZE_W 2, 2), (INTAKE_STR_SIZE_H 2, 2), (INTAKE_STR_CFG_RATE_MAX 2, 60), (CVU_UNIT_CFG_SELFTEST_OK 7, 1)] with
    intake := ⟨[], [(2, { Stream.cold with frame := f })], false, 0⟩ }

/-- Lane 3 is one block before its second marker, and lane 5's marker carries LANE 3 as well. -/
def doubled : State := { up .dark [(laneLink 3, 2), (laneLink 5, 3), (laneLogical 5, 5)] with
  intake := ⟨[(3, paired), (5, { paired with marker := some (3, 6, 0) })], [], false, 0⟩ }

/-- A mask with nothing in it; GUARD_A derives it; its publication waits for BRAID's check. -/
def aMask : Mask := ⟨2, 2, [], ⟨0, 0, 0, 0⟩, [], []⟩
def masked : State := { up .dark [] with guards := { State.reset.guards with deriving_ := some aMask } }
def waitingMask : State := { up .dark [] with braid := { State.reset.braid with waiting := some ⟨aMask, 77, 0, false⟩ } }

/-- GUARD_A's channel of a pair has released since time 0 and GUARD_B's has not. -/
def apart (pair : Nat) : State :=
  { up .dark [(GUARD_A_CFG_IN_T_DISC, 3)] with guards := { State.reset.guards with discSince := [(4 * pair + 1, 0)] } }

/-- An SSI frame of position 0x123456, its CRC-8 computed by hand from R414, and an encoder that has failed twice. -/
def goodFrame : List Bool := [false, false, false, true, false, false, true, false, false, false, true, true, false, true, false, false, false, true, false, true, false, true, true, false, false, false, true, false, true, true, false, true, false, true]
def badTwice : State := { up .show [(GUARD_B_POS_VALID 2, 1)] with guards := { State.reset.guards with encBad := [(5, 2)] } }

/-- Sector 0 has exceeded its limit in every sample but the last; PHOTO has been high nine times. -/
def overLit : State :=
  { up .show [(GUARD_B_OVER_N_TRIP, 1)] with guards := { State.reset.guards with ceilings := [0] } }
def photoHigh : State :=
  { up .dark [(GUARD_B_PHOTO_FITTED, 1), (GUARD_B_PHOTO_MAX, 7)] with guards := { State.reset.guards with photoRun := 9 } }

/-- A telegram of SEQ 9 with its CRC-32C computed by hand from R404 and R414, and the copy that it makes. -/
def telegram : List Nat := [1, 0, 0, 0, 9, 0, 0, 0, 0, 0, 0, 0, 0, 0, 0, 0, 0, 255, 0, 0, 0, 0, 0, 0, 255, 255, 255, 255, 114, 248, 53, 172]
def aCopy : Copy := ⟨telegram.take 28, 3⟩

/-- GUARD_A's network holds a buffer, and a last copy where `n` is 1; GUARD_B's PHY has failed to answer twice. -/
def netted (n : Nat) (b : List (List Nat × Nat)) : State :=
  { up .dark [(GUARD_A_CFG_LINK_TIMEOUT, 50), (GUARD_NET_TIMING_PERIOD 0, 100)] with guards := { State.reset.guards with
      netA := ⟨b, if n = 1 then some aCopy else none, false, 0, false, false, none, none⟩
      netB := ⟨[], none, false, 2, false, false, none, none⟩ } }

/-- A twin in a mode and a role, with its links running, its check-value units tested and SPLICE up. -/
def twin (m : Mode) (role : Nat) (l : List (Field × Nat)) : State :=
  up m ([(SPLICE_CFG_TWIN_EN, 1), (STRIKE_STATUS_TIMER_RUN, 1), (STRIKE_SYNC_STATUS_STATE, 1), (CVU_UNIT_CFG_SELFTEST_OK 2, 1),
    (CVU_UNIT_CFG_SELFTEST_OK 3, 1), (SPLICE_STATUS_ROLE, role), (SPLICE_STATUS_LINK_UP, 1)] ++ l)

/-- The same with a part of the twin logic replaced. -/
def twinAs (f : Twin → Twin) (m : Mode) (role : Nat) (l : List (Field × Nat)) : State :=
  { twin m role l with twin := f State.reset.twin }

/-- The step: JOIN has ended since time 0; the reading has been invalid since then; evidence has lasted; three averages
have been low, with pixels lit that expect 0.41 A. -/
def joinedAt0 : State := twinAs (fun x => { x with joinEndAt := some 0 }) .show 2 []
def conflicting : State := twinAs (fun x => { x with
  conflictSince := some 0, stepAt := some 0, beatTick := some ⟨3, true, false, false, false, 250000⟩ }) .solo 2 []
def thriceLow (m : Mode) : State := { twinAs (fun x => { x with lowRun := 3 }) m 0 ([0, 1, 2, 3].flatMap (fun c =>
    [(TONE_GREF_SEL c, 1), (TONE_GREF_FULL_CODE c, 4095), (STRIKE_RSTEP_RATIO (16 * c + 15), 8388607),
     (TONE_SREF_CODE c, 1023), (TONE_SREF_CLAMP c, 1023), (TONE_SREF_DARK c, 0), (TONE_SREF_STRIKE_DARK c, 0)])) with
  array := { State.reset.array with
    front := (List.range 640).map (fun i => (i % 128 + 1024 * (i / 128), 0xFFFFFFFFFFFFFFFF#64)) } }

/-- Fifteen wake words have come in STOWED. -/
def fifteen : State := { st .stowed [(SPLICE_CFG_TWIN_EN, 1)] with twin := { State.reset.twin with wakeSeen := 15 } }

/-- The lease has run out; a swing is due; a swing is offered; a heartbeat reports DARK. -/
def leaseOut : State := twinAs (fun x => { x with renewAt := some 0 }) .show 2 [(SPLICE_EPOCH_EPOCH, 6)]
def swingReady : State := twinAs (fun x => { x with swingDueAt := some 5 }) .show 1 [(SPLICE_STATUS_PAIR, 2)]
def offered : State := twinAs (fun x => { x with swing := some ⟨1, 4, false⟩ }) .show 1 [(SPLICE_STATUS_PAIR, 2)]
def heardDark (l : List (Field × Nat)) : State :=
  twinAs (fun x => { x with beatTick := some ⟨1, false, false, false, false, 0⟩ }) .dark 2 ((SPLICE_STATUS_PAIR, 2) :: l)

/-- One frame waits for its ACK; a hand-over waits for an ACK; the partner's STATUS reports a lane ALIGNED. -/
def unackedOne : State := twinAs (fun x => { x with unacked := [⟨6, 9, [6, 1, 0, 0, 9, 0, 0, 0], 0, .whileUp⟩] }) .dark 1 []
def heardLanes (l : List (Field × Nat)) : State :=
  { st .dark ([(SPLICE_CFG_TWIN_EN, 1), (STRIKE_STATUS_TIMER_RUN, 1), (CVU_UNIT_CFG_SELFTEST_OK 2, 1)] ++ l) with
    twin := { State.reset.twin with peerLanes := 1, peerLanesAt := some 0 } }

/-- The leader runs a join since time 0; a follower has been in the JOIN phase since then. -/
def joiningSince0 : State := twinAs (fun x => { x with joining := some ⟨none, 0, false, false, 2, 0, true, none, 0, false⟩ }) .dark 1 []
def inJoin : State := twinAs (fun x => { x with joinSince := some 0 }) .show 2 [(SPLICE_STATUS_JOIN, 1)]

/-- A zone table without axes or zones. -/
def noZones : ZoneTable := ⟨false, false, 0, 0, 0, 0, 0, [], [], [], []⟩

/-- A follower in DARK that nothing keeps from an emitting state. -/
def mayJoin (l : List (Field × Nat)) : State :=
  { twin .dark 2 ([(GUARD_A_STATUS_XCMP_OK, 1), (⟨GUARD_B_STATUS_OFF, 26, 1⟩, 1), (GUARD_A_CFG_LINK_MODE, 1),
      (GUARD_A_INPUTS_STOP_A, 1), (⟨GUARD_B_INPUTS_OFF, 30, 1⟩, 1), (GUARD_A_POS_VALID 0, 1), (GUARD_A_POS_VALID 1, 1),
      (GUARD_A_POS_VALID 2, 1), (GUARD_B_POS_VALID 0, 1), (GUARD_B_POS_VALID 1, 1), (GUARD_B_POS_VALID 2, 1)] ++ l) with
    guards := { State.reset.guards with zoneA := some noZones, zoneB := some noZones } }

/-- A SPLICE frame of a type at epoch 0 that asks for an ACK, with SEQ 9 and FRAME 0. -/
def frame (type : Nat) (payload : List Nat) : List Nat := spliceFrame type 1 9 0 0 9 payload

/-- The CAPS of a twin like this one, with a unique identifier of 1 and an order. -/
def caps (order : Nat) : List Nat :=
  [1, 0, 0, 0, 0, 0, 0, 0, order, 1, 0, 0, 0, 0, 0, 0, 0, 0, 0, 0, 0, 1, 0, 0] ++ bytesOf State.reset.timer.timing.words
    ++ List.replicate 28 0

/-- KEEPER writes a record until time 80; its queue holds one record, of SEQ 3; the ERR pair went to fault at time 0 for nothing
that lasts; the host holds LOCK_10. -/
def keeperBusy : State := { up .dark [] with keeper := { State.reset.keeper with busyUntil := 80 } }
def oneRecord : State :=
  { up .dark [] with keeper := { State.reset.keeper with hist := [⟨0x0501, 5, 0, true, false, false, 7, 1, 9, 3, 2 ^ 24, 1, 2, 3⟩] } }
def errAt0 : State := { up .dark [] with house := { State.reset.house with mode := .dark, errPin := .fault, errSince := 0 } }
def holdsTen (i : Option Injection) (l : List (Field × Nat)) : State :=
  { up .dark l with hk := { State.reset.hk with holder := [(10, .host)] }, keeper := { State.reset.keeper with inj := i } }

end Sys2Proof.Tests
end

