-- ==== Sys2Proof/WellFormed.lean ====
section
/-! DEFINITION. Well-formed commands: every operand within the range that the spec gives the thing it names (lanes 0 to 9,
streams and channels 0 to 7, rings 0 to 63, locks 0 to 15, quadrants and colours 0 to 3, islands 0 to 11, bytes below 256,
offsets inside MW0). The machine gives every command a meaning all the same. -/

namespace Sys2Proof

/-- Every number of a list is a byte. -/
def bytesOk (l : List Nat) : Bool := l.all (fun b => decide (b < 256))

/-- Every number of a good read is a 32-bit word. -/
def wordsOk (r : HostRead (List Nat)) : Bool :=
  match r with
  | .data l => l.all (fun w => decide (w < 2 ^ 32))
  | .unsupported | .completerAbort | .timeout | .poisoned => true

/-- The bytes that a read of a register asks for lie within the register (R17). -/
def Reader.ok (r : Reader) : Bool := decide (1 ≤ r.bytes) && decide (r.sub + r.bytes ≤ 4)

/-- The descriptor that met an error is one of a ring. -/
def EccError.ok : EccError → Bool
  | .single | .double none => true
  | .double (some d) => decide (d.1 < 64) && decide (d.2 < 2 ^ 32)

/-- The stored ratios of one quadrant and colour (R84): entry 15 is exactly 1, every entry lies within 0.1 dB of its nominal
ratio of R83, and every step between 1.9 dB and 2.1 dB. RATIO holds the ratio times 2^23, and 20 dB are a factor of 10. -/
def ratiosOk (l : List Nat) : Bool :=
  l.length == 16 && l.getD 15 0 == 8388608 && (List.range 15).all (fun r =>
    let lo := l.getD r 0 ^ 200
    let hi := l.getD (r + 1) 0 ^ 200
    decide (2 ^ 4600 ≤ lo * 10 ^ (20 * (15 - r) + 1)) && decide (lo * 10 ^ (20 * (15 - r)) ≤ 10 * 2 ^ 4600)
      && decide (lo * 10 ^ 19 ≤ hi) && decide (hi ≤ lo * 10 ^ 21))

/-- The preset matrices of a calibration image (R160): no channel of input white at full level exceeds 655,360 under any
lime rule. -/
def presetsOk (limeSub : List Nat) (presets : List (Nat × Int)) : Bool :=
  (List.range 3).all (fun space =>
    let m := fun k => ((presets.find? (fun e => e.1 == 12 * space + k)).map (fun e => e.2)).getD (Machine.presetDefault (12 * space + k))
    let p := (List.range 4).map (fun o => Machine.prelimOf (fun i => m (3 * o + i)) [Machine.l24One, Machine.l24One, Machine.l24One])
    [0, 1, 2].all (fun rule => (Machine.limeStage rule 255 limeSub p).all (fun v => decide (v ≤ 655360))))

/-- The calibration image holds what R84 and R160 give it. -/
def CalImage.ok (c : CalImage) : Bool :=
  (List.range 16).all (fun k => ratiosOk ((c.rstep.drop (16 * k)).take 16)) && presetsOk c.limeSub c.presets

/-- A command is well formed. -/
def Instr.wellFormed (i : Instr) : Bool :=
  match i with
  | .powerGood _ _ fuses corrected _ => decide (corrected < 2 ^ 16) && fuses.all (fun p => decide (0xF0004 ≤ p.1) && decide (p.1 < 0xF0040) && decide (p.2 < 2 ^ 32))
  | .lockOut _ => true
  | .brownOut _ _ fuses corrected _ => decide (corrected < 2 ^ 16) && fuses.all (fun p => decide (0xF0004 ≤ p.1) && decide (p.1 < 0xF0040) && decide (p.2 < 2 ^ 32))
  | .resetAssert _ => true
  | .resetRelease _ => true
  | .perstChange _ _ => true
  | .i2cWrite _ reg data => decide (reg < 256) && bytesOk data
  | .wake _ => true
  | .stageReady _ _ => true
  | .stageTimeout _ _ => true
  | .retryDelay _ => true
  | .bootComplete _ b => decide (b.bootSel < 4) && decide (b.addrSel < 4) && b.selfTest.all (fun n => decide (n < 12)) && b.cal.ok
  | .pllLock _ island _ => decide (island < 12)
  | .clockCheck _ _ _ => true
  | .dramEcc _ addr e => decide (addr < 2 ^ 33) && e.ok
  | .regWrite _ _ off bytes _ => decide (off < 2 ^ 20) && [1, 2, 4, 8].contains bytes
  | .pairRead _ r off => decide (off < 2 ^ 20) && r.ok
  | .frameNoRead _ r => r.ok
  | .beatStart _ b => decide (b < 32)
  | .rowSlot _ k wrong1 wrong2 => decide (k < 512) && (wrong1 ++ wrong2).all (fun e => e.1 / 1024 % 512 == k && decide (e.1 < 2 ^ 20))
  | .surveySlot _ _ => true
  | .quietInterval _ => true
  | .capturePoint _ => true
  | .strike _ => true
  | .timingCommit _ _ => true
  | .frameLoad _ _ _ => true
  | .lateClear _ _ _ => true
  | .rowErrClear _ _ _ => true
  | .timeOffset _ _ _ => true
  | .timeTrim _ _ _ => true
  | .ptpTimeout _ => true
  | .syncEdge _ => true
  | .syncMissing _ => true
  | .holdLimit _ => true
  | .peekGo _ _ _ => true
  | .qlinkLoss _ q => decide (q < 4)
  | .qlinkTrained _ q => decide (q < 4)
  | .defectJournal _ => true
  | .defectIndex _ _ _ => true
  | .tempSample _ _ => true
  | .railLimit _ c => decide (c < 4)
  | .railOc _ c _ => decide (c < 4)
  | .railVolt _ c _ _ => decide (c < 4)
  | .railAverage _ c _ _ _ => decide (c < 4)
  | .railWake _ => true
  | .chargeUpdate _ => true
  | .wearCheckpoint _ => true
  | .wearRecompute _ => true
  | .toneCommit _ _ => true
  | .layerCommitReg _ _ _ => true
  | .protIndex _ _ _ => true
  | .maskSample _ => true
  | .maskPublish _ => true
  | .maskVerify _ readSum _ => decide (readSum < 2 ^ 32)
  | .zoneEval _ => true
  | .meshLoad _ ring image => decide (ring < 64) && wordsOk image
  | .meshCheck _ => true
  | .meshSelectReg _ _ _ => true
  | .meshSelect _ ring => decide (ring < 64)
  | .scCoef _ _ off _ => decide (off < 2 ^ 20)
  | .laneBlock _ lane sync bytes => decide (lane < 10) && bytesOk bytes && bytes.length == 8 && decide (sync < 4)
  | .align _ lane bytes _ => decide (lane < 10) && bytesOk bytes && bytes.length == 8
  | .markerMissing _ lane => decide (lane < 10)
  | .laneTrained _ lane loss => decide (lane < 10) && decide (loss < 4096)
  | .sof _ lane bytes => decide (lane < 10) && bytesOk bytes && bytes.length == 8
  | .streamBlock _ lane bytes => decide (lane < 10) && bytesOk bytes && bytes.length == 8
  | .eof _ lane bytes => decide (lane < 10) && bytesOk bytes && bytes.length == 8
  | .lanePower _ _ lane _ => decide (lane < 8)
  | .eyeScan _ lane width height => decide (lane < 10) && decide (width < 256) && decide (height < 256)
  | .eyeGo _ _ _ => true
  | .eyeDone _ errors => decide (errors < 2 ^ 32)
  | .streamConfig _ _ stream _ => decide (stream < 8)
  | .streamTimeout _ stream => decide (stream < 8)
  | .laneErrClear _ _ lane _ => decide (lane < 8)
  | .strClear _ _ stream _ => decide (stream < 8)
  | .hostReset _ _ => true
  | .busMaster _ _ c => c.ok
  | .watchPoll _ => true
  | .hostNudge _ _ _ => true
  | .lineRead _ line r => decide (line < 8) && wordsOk r
  | .descFetch _ ring index r => decide (ring < 64) && decide (index < 2 ^ 32) && wordsOk r
  | .descAdmit _ ring => decide (ring < 64)
  | .descCompletion _ ring => decide (ring < 64)
  | .ringEnable _ _ ring => decide (ring < 64)
  | .ringDisable _ _ ring => decide (ring < 64)
  | .ringReset _ _ ring => decide (ring < 64)
  | .ringResetDone _ ring => decide (ring < 64)
  | .nop _ ring => decide (ring < 64)
  | .layerSet _ ring => decide (ring < 64)
  | .layerMove _ ring => decide (ring < 64)
  | .layerCommit _ ring => decide (ring < 64)
  | .regWriteDesc _ ring => decide (ring < 64)
  | .modeRequest _ ring _ => decide (ring < 64)
  | .setModeRequest _ ring _ => decide (ring < 64)
  | .frameWait _ ring => decide (ring < 64)
  | .surfWrite _ ring index data _ => decide (ring < 64) && decide (index < 2 ^ 32) && bytesOk data
  | .surfRead _ ring index => decide (ring < 64) && decide (index < 2 ^ 32)
  | .surfFill _ ring index => decide (ring < 64) && decide (index < 2 ^ 32)
  | .surfCopy _ ring index => decide (ring < 64) && decide (index < 2 ^ 32)
  | .calBlock _ ring block => decide (ring < 64) && wordsOk block
  | .telCharge _ ring index => decide (ring < 64) && decide (index < 2 ^ 32)
  | .telDrift _ ring index => decide (ring < 64) && decide (index < 2 ^ 32)
  | .telCalword _ ring index => decide (ring < 64) && decide (index < 2 ^ 32)
  | .telDefect _ ring index => decide (ring < 64) && decide (index < 2 ^ 32)
  | .telSensors _ ring index => decide (ring < 64) && decide (index < 2 ^ 32)
  | .telHistory _ ring index => decide (ring < 64) && decide (index < 2 ^ 32)
  | .irqHoldoff _ ring => decide (ring < 64)
  | .irqEnable _ _ _ => true
  | .mw2Access _ write addr data len => decide (addr + len ≤ 2 ^ 33) && bytesOk data && (!write || data.length == len)
  | .mboxTx _ _ ch _ => decide (ch < 8)
  | .mboxRx _ r ch => decide (ch < 8) && r.ok
  | .mboxTorn _ ch => decide (ch < 8)
  | .mboxReplyTimeout _ ch => decide (ch < 8)
  | .ping _ ch => decide (ch < 8)
  | .version _ ch => decide (ch < 8)
  | .badMessage _ ch => decide (ch < 8)
  | .dbellSet _ _ _ => true
  | .mboxReset _ _ ch _ => decide (ch < 8)
  | .lockRead _ lock r => decide (lock < 16) && r.ok
  | .lockRelease _ _ lock _ => decide (lock < 16)
  | .fwWatchdog _ => true
  | .fwReady _ => true
  | .xcmpCycle _ _ => true
  | .xcmpLost _ _ => true
  | .guardDecision _ _ => true
  | .terminal _ _ _ _ => true
  | .discrepancy _ pair => decide (pair < 2)
  | .encoder _ _ axis bits _ => decide (axis < 3) && bits.length == 34
  | .sectorCurrent _ ma => ma.length == 64 && ma.all (fun l => l.length == 4)
  | .photoSample _ code => decide (code < 4096)
  | .photoFault _ => true
  | .netFrame _ _ _ ethertype _ _ _ bytes => decide (ethertype < 2 ^ 16) && bytesOk bytes
  | .telegramCheck _ _ => true
  | .telegramSingle _ _ => true
  | .linkTimeout _ _ => true
  | .phyPoll _ _ _ => true
  | .phyRelease _ _ => true
  | .guardTest _ _ kind _ => decide (kind < 28)
  | .cvuCopy _ => true
  | .cvuClear _ _ _ => true
  | .anodeCurrent _ _ => true
  | .lightInput _ receiver _ _ => decide (receiver < 3)
  | .stepArm _ => true
  | .joinFail _ => true
  | .lightInvalid _ => true
  | .lightConflict _ => true
  | .tickSend _ => true
  | .tickWord _ word _ => decide (word < 2 ^ 28)
  | .tickLiveness _ => true
  | .statusSend _ => true
  | .ack _ bytes => bytesOk bytes
  | .caps _ bytes => bytesOk bytes
  | .status _ bytes => bytesOk bytes
  | .scan _ bytes => bytesOk bytes
  | .mirror _ bytes => bytesOk bytes
  | .commit _ bytes => bytesOk bytes
  | .joinEnter _ bytes _ => bytesOk bytes
  | .switch _ bytes => bytesOk bytes
  | .handover _ bytes => bytesOk bytes
  | .setChange _ bytes => bytesOk bytes
  | .joinAbort _ bytes => bytesOk bytes
  | .swingOffer _ bytes => bytesOk bytes
  | .swingAccept _ bytes => bytesOk bytes
  | .swingDecline _ bytes => bytesOk bytes
  | .event _ bytes => bytesOk bytes
  | .spliceResend _ => true
  | .timing _ bytes => bytesOk bytes
  | .spliceLink _ => true
  | .leaseRenew _ => true
  | .partnerLost _ => true
  | .leaseExpiry _ => true
  | .swingDue _ => true
  | .joinTimeout _ => true
  | .faultReport _ rs => rs.all (fun r => decide (r.code < 2 ^ 16) && decide (r.source < 12) && decide (r.cls < 3))
  | .faultJournal _ => true
  | .errHold _ => true
  | .keeperClear _ _ _ => true
  | .histIndex _ _ _ => true
  | .injectGo _ _ _ => true
  | .injectStop _ _ _ => true
  | .injectExpiry _ => true
  | .stopCheckpoint _ => true
  | .stopAnswer _ _ => true
  | .stopTimeout _ => true
  | .slotInfo _ ch => decide (ch < 8)
  | .slotWrite _ ch => decide (ch < 8)
  | .slotVerify _ ch => decide (ch < 8)
  | .slotActivate _ ch => decide (ch < 8)
  | .flashDone _ _ result => decide (result < 16)
  | .guardWatchdog _ _ => true
  | .guardMemory _ _ => true
  | .timingMissing _ => true
  | .pcieUp _ width speed _ => [1, 2, 4].contains width && decide (speed < 8)

end Sys2Proof
end

