-- ==== Sys2Proof/Tests/Slice0.lean ====
section
/-! SUPPORT. The model's own tests: the spec's worked examples and check values, ill-formed commands that the check refuses, and
for every clause of the statements that has hypotheses a state and operands that meet them. -/

namespace Sys2Proof.Tests

open Sys2Proof.Machine Sys2Proof.Machine.Reg

set_option Elab.async false

/-- The nine bytes of R414. -/
def nine : List Nat := [0x31, 0x32, 0x33, 0x34, 0x35, 0x36, 0x37, 0x38, 0x39]

/-! ### The spec's worked examples and check values -/

/-- R414's check values over the nine bytes 0x31 to 0x39. -/
theorem test_crc_check_values : (crc32c nine, crc32 nine, crc16 nine, crc8 (nine.flatMap (fun b => (bitsOf b).reverse))) =
    (0xE3069283, 0xCBF43926, 0x29B1, 0xDF) := by decide +kernel

/-- Worked example of 00_scope.md: pixel (700, 300) lies in SECTOR_21, TILE_1195, row band 4 and quadrant 1. -/
theorem test_pixel_placement : (sectorOf 700 300, tileOf 700 300, bandOf 300, quadOf 700 300) = (21, 1195, 4, 1) := by
  decide

/-- Worked example of 03_emission_array.md: the word of four channels of range and duty. -/
theorem test_pixel_word : pixelWord [(12, 4086), (0, 124), (0, 0), (11, 3336)] = 0xBD080000007CCFF6 := by decide

/-- Worked example of 05_tone_pipeline.md, with the two step ratios that it names: the hand-over from range 3 to range 4. -/
theorem test_hand_over :
    (q4 66146 529285, q4 66147 529285, q4 66147 666331, dmin4 (fun r => if r = 3 then 529285 else 666331) 4) =
      (16380, 16381, 13012, 13012) := by decide +kernel

/-- Worked example of 06_braid_compositor.md: LAYER_03's red over canvas point (300, 200), then mask code 12. -/
theorem test_layer_add : blendPx 1 49151 (Px.of [51400, 25700, 0, 32896]) [40000, 30000, 20000] = [59351, 39675, 20000] := by
  decide +kernel

theorem test_mask_code : [59351, 39675, 20000].map (fun c => c * maskGain 12 / 65536) = [20983, 14026, 7070] := by decide

/-- Worked example of 06_braid_compositor.md: the Coil block of 4 by 2 pixels decodes to its table. -/
theorem test_coil_block : coilDecode 4 8 4 2 ([0, 0, 4, 0x0A, 0x85, 0x12, 0x22, 0x84, 0xA2, 0x41, 0x01, 0x01, 0x10, 0x88, 0x86,
    0x17, 0x00, 0x42, 0x20, 0x86, 0x00] ++ List.replicate 11 0) = some [[10, 12, 14, 15, 11, 13, 14, 16],
      [20, 20, 21, 21, 20, 21, 21, 22], [30, 31, 31, 33, 30, 32, 32, 34], List.replicate 8 255] := by decide +kernel

/-! ### Decoding and well-formed commands -/

/-- No row of the table gives bits, so no word spells a command. -/
theorem test_no_word_decodes : [8, 16, 32, 64].all (fun n => (decodeTableWord n 0).isNone) = true := by decide

/-- Operands at the ends of their ranges are well formed. -/
theorem test_wf_accepts_ends : ([.nop 0 63, .ping 0 7, .lockRead 0 15 ⟨.host, 3, 1⟩, .markerMissing 0 9, .streamTimeout 0 7, .beatStart 0 31,
    .rowSlot 0 511 [(523264, 1)] [(1048575, 1)], .qlinkLoss 0 3, .pllLock 0 11 true, .regWrite 0 .host 0xFFFFF 8 0, .pcieUp 0 4 7 true,
    .mw2Access 0 true (2 ^ 33 - 1) [255] 1, .guardTest 0 .a 27 true, .tickWord 0 (2 ^ 28 - 1) false,
    .bootComplete 0 bootHaltData] : List Instr).all Instr.wellFormed = true := by decide +kernel

/-- A ring above 63. -/
theorem test_wf_refuses_rings : ([.meshLoad 0 64 .timeout, .meshSelect 0 64, .descFetch 0 64 0 .timeout, .descAdmit 0
    64, .descCompletion 0 64, .ringEnable 0 .host 64, .ringDisable 0 .host 64, .ringReset 0 .host 64, .ringResetDone 0
    64, .nop 0 64, .layerSet 0 64, .layerMove 0 64, .layerCommit 0 64, .regWriteDesc 0 64, .modeRequest 0 64 true,
    .setModeRequest 0 64 true, .frameWait 0 64, .surfWrite 0 64 0 [] none, .surfRead 0 64 0, .surfFill 0 64 0,
    .surfCopy 0 64 0, .calBlock 0 64 .timeout, .telCharge 0 64 0, .telDrift 0 64 0, .telCalword 0 64 0, .telDefect 0
    64 0, .telSensors 0 64 0, .telHistory 0 64 0, .irqHoldoff 0 64] : List Instr).all (fun i => !i.wellFormed) = true
    := by decide +kernel

/-- A descriptor index above 2^32 - 1. -/
theorem test_wf_refuses_indices : ([.descFetch 0 0 (2 ^ 32) .timeout, .surfRead 0 0 (2 ^ 32), .surfFill 0 0 (2 ^ 32),
    .surfCopy 0 0 (2 ^ 32), .telCharge 0 0 (2 ^ 32), .telDrift 0 0 (2 ^ 32), .telCalword 0 0 (2 ^ 32), .telDefect 0 0
    (2 ^ 32), .telSensors 0 0 (2 ^ 32), .telHistory 0 0 (2 ^ 32), .surfWrite 0 0 (2 ^ 32) [] none] : List Instr).all
    (fun i => !i.wellFormed) = true := by decide +kernel

/-- A word above 2^32 - 1. -/
theorem test_wf_refuses_words : ([.meshLoad 0 0 (.data [2 ^ 32]), .lineRead 0 0 (.data [2 ^ 32]), .descFetch 0 0 0
    (.data [2 ^ 32]), .calBlock 0 0 (.data [2 ^ 32])] : List Instr).all (fun i => !i.wellFormed) = true := by
    decide +kernel

/-- A mailbox channel above 7. -/
theorem test_wf_refuses_channels : ([.mboxTx 0 .host 8 0, .mboxRx 0 ⟨.host, 0, 4⟩ 8, .mboxTorn 0 8, .mboxReplyTimeout
    0 8, .ping 0 8, .version 0 8, .badMessage 0 8, .mboxReset 0 .host 8 0, .slotInfo 0 8, .slotWrite 0 8, .slotVerify
    0 8, .slotActivate 0 8] : List Instr).all (fun i => !i.wellFormed) = true := by decide +kernel

/-- A stream above 7, a Hawser lane above 7. -/
theorem test_wf_refuses_streams : ([.streamConfig 0 .host 8 0, .streamTimeout 0 8, .strClear 0 .host 8 0, .lanePower 0
    .host 8 0, .laneErrClear 0 .host 8 0] : List Instr).all (fun i => !i.wellFormed) = true := by decide +kernel

/-- A lane above 9. -/
theorem test_wf_refuses_lanes : ([.laneBlock 0 10 1 (List.replicate 8 0), .align 0 10 (List.replicate 8 0) 0,
    .markerMissing 0 10, .laneTrained 0 10 0, .sof 0 10 (List.replicate 8 0), .streamBlock 0 10 (List.replicate 8 0),
    .eof 0 10 (List.replicate 8 0), .eyeScan 0 10 0 0] : List Instr).all (fun i => !i.wellFormed) = true := by
    decide +kernel

/-- A block of other than eight bytes, a value outside its field. -/
theorem test_wf_refuses_blocks : ([.laneBlock 0 0 1 (List.replicate 7 0), .laneBlock 0 0 1 (List.replicate 8 256),
    .align 0 0 (List.replicate 7 0) 0, .align 0 0 (List.replicate 8 256) 0, .sof 0 0 (List.replicate 7 0), .sof 0 0
    (List.replicate 8 256), .streamBlock 0 0 (List.replicate 7 0), .streamBlock 0 0 (List.replicate 8 256), .eof 0 0
    (List.replicate 7 0), .eof 0 0 (List.replicate 8 256), .laneBlock 0 0 4 (List.replicate 8 0), .laneTrained 0 0
    4096, .eyeScan 0 0 256 0, .eyeScan 0 0 0 256, .eyeDone 0 (2 ^ 32)] : List Instr).all (fun i => !i.wellFormed) =
    true := by decide +kernel

/-- A byte above 255 in a frame of the twin, a TICK word above 28 bits. -/
theorem test_wf_refuses_splice : ([.ack 0 [256], .caps 0 [256], .status 0 [256], .scan 0 [256], .mirror 0 [256],
    .commit 0 [256], .switch 0 [256], .handover 0 [256], .setChange 0 [256], .joinAbort 0 [256], .swingOffer 0 [256],
    .swingAccept 0 [256], .swingDecline 0 [256], .event 0 [256], .timing 0 [256], .joinEnter 0 [256] true, .tickWord 0
    (2 ^ 28) false] : List Instr).all (fun i => !i.wellFormed) = true := by decide +kernel

/-- Fuse, strap, island, flash and fault operands out of range. -/
theorem test_wf_refuses_house : ([.powerGood 0 false [] 65536 false, .powerGood 0 false [(0xF0000, 0)] 0 false,
    .powerGood 0 false [(0xF0040, 0)] 0 false, .powerGood 0 false [(0xF0004, 2 ^ 32)] 0 false, .brownOut 0 false []
    65536 false, .brownOut 0 false [(0xF0000, 0)] 0 false, .brownOut 0 false [(0xF0040, 0)] 0 false, .brownOut 0 false
    [(0xF0004, 2 ^ 32)] 0 false, .i2cWrite 0 256 [], .i2cWrite 0 0 [256], .bootComplete 0 { bootHaltData with bootSel
    := 4 }, .bootComplete 0 { bootHaltData with addrSel := 4 }, .bootComplete 0 { bootHaltData with selfTest := [12]
    }, .pllLock 0 12 false, .dramEcc 0 (2 ^ 33) .single, .dramEcc 0 0 (.double (some (64, 0))), .bootComplete 0 {
    bootHaltData with cal := { noCal with rstep := [] } }, .flashDone 0 true 16, .faultReport 0 [⟨65536, 0, 0, 0, 0,
    0, 0⟩], .faultReport 0 [⟨0, 12, 0, 0, 0, 0, 0⟩], .faultReport 0 [⟨0, 0, 0, 0, 0, 0, 3⟩]] : List Instr).all (fun i
    => !i.wellFormed) = true := by decide +kernel

/-- Offsets, widths, addresses, lines, locks and link widths out of range. -/
theorem test_wf_refuses_registers : ([.regWrite 0 .host (2 ^ 20) 4 0, .regWrite 0 .host 0 3 0, .pairRead 0 ⟨.host, 0,
    4⟩ (2 ^ 20), .pairRead 0 ⟨.host, 2, 4⟩ 0, .frameNoRead 0 ⟨.host, 0, 0⟩, .scCoef 0 .host (2 ^ 20) 0, .mw2Access 0
    false (2 ^ 33) [] 1, .mw2Access 0 true 0 [256] 1, .mw2Access 0 true 0 [1, 2] 1, .lineRead 0 8 .timeout, .lockRead
    0 16 ⟨.host, 0, 4⟩, .lockRead 0 0 ⟨.host, 4, 1⟩, .mboxRx 0 ⟨.host, 3, 2⟩ 0, .busMaster 0 true ⟨false, 1024, 512,
    false, true⟩, .busMaster 0 true ⟨false, 128, 64, false, true⟩, .lockRelease 0 .host 16 0, .pcieUp 0 3 3 true,
    .pcieUp 0 4 8 true] : List Instr).all (fun i => !i.wellFormed) = true := by decide +kernel

/-- Beats, rows, quadrants, colours and sums out of range. -/
theorem test_wf_refuses_light : ([.beatStart 0 32, .rowSlot 0 512 [] [], .rowSlot 0 0 [(1024, 1)] [], .rowSlot 0 1 []
    [(0, 1)], .qlinkLoss 0 4, .qlinkTrained 0 4, .railLimit 0 4, .railOc 0 4 0, .railVolt 0 4 true 0, .railAverage 0 4
    0 0 0, .maskVerify 0 (2 ^ 32) false] : List Instr).all (fun i => !i.wellFormed) = true := by decide +kernel

/-- Pairs, axes, samples, frames and self-tests out of range. -/
theorem test_wf_refuses_guards : ([.discrepancy 0 2, .encoder 0 .a 3 (List.replicate 34 true) false, .encoder 0 .a 0
    (List.replicate 33 true) false, .sectorCurrent 0 (List.replicate 63 [0, 0, 0, 0]), .sectorCurrent 0
    (List.replicate 64 [0, 0, 0]), .photoSample 0 4096, .netFrame 0 .a true 65536 0 64 true [], .netFrame 0 .a true 0
    0 64 true [256], .guardTest 0 .a 28 true, .lightInput 0 3 true false] : List Instr).all (fun i => !i.wellFormed) =
    true := by decide +kernel

/-! ### Every statement's hypotheses can be met

One theorem for each clause of a statement that has hypotheses: a state and operands that meet all of them together. The name
gives the statement and the clause; a letter tells several witnesses of one clause apart. -/

/-- Two guards that read the same position from tables without axes have no axis apart. -/
theorem axesApart_nil_of_same (s : State) (h : s.guards.zoneA = some noZones) (a : s.zoneTable .a = some noZones)
    (b : s.zoneTable .b = some noZones)
    (e : s.encRaw .b 0 = s.encRaw .a 0 ∧ s.encRaw .b 1 = s.encRaw .a 1 ∧ s.encRaw .b 2 = s.encRaw .a 2) :
    s.axesApart = [] := by
  have p : s.position .b = s.position .a := by simp only [State.position, a, b, e]
  simp only [State.axesApart, p, Int.sub_self, h]
  decide +kernel

/-- Nothing keeps the follower of `mayJoin` out of an emitting state. -/
theorem mayJoin_enters : ((mayJoin []).pass 5).entryGround = none := by
  have x := axesApart_nil_of_same ((mayJoin []).pass 5) (by decide +kernel) (by decide +kernel) (by decide +kernel)
    (by decide +kernel)
  have f : ((mayJoin []).pass 5).faultBlocks = false ∧ ((mayJoin []).pass 5).safetyDemand = false
      ∧ ((mayJoin []).pass 5).guards.zoneA = some noZones ∧ ((mayJoin []).pass 5).guards.zoneB = some noZones
      ∧ ((mayJoin []).pass 5).encodersValid = true ∧ ((mayJoin []).pass 5).guardsAgree = true := by decide +kernel
  generalize (mayJoin []).pass 5 = s at x f
  simp [State.entryGround, x, f]

/-- Vector 3, the only one that waits, is not masked. -/
theorem waitsOut_unmasked (v : Nat) (h : Output.msix v ∈ (waitsOut [(MSIX_CTRL_MASK 3, 0)]).host.stalled) :
    (waitsOut [(MSIX_CTRL_MASK 3, 0)]).flag (MSIX_CTRL_MASK v) = false := by
  have h : Output.msix v ∈ [Output.msix 3] := h
  cases h with
  | head => decide +kernel
  | tail _ h => cases h

theorem witness_StepRunsFrontCommand_1 : ∃ (c : Instr) (rest : List Instr) (s : State), s.pending = c :: rest :=
  ⟨.nop 5 0, [.wake 7], { up .dark [] with pending := [.nop 5 0, .wake 7] }, by decide +kernel⟩

theorem witness_StepRunsFrontCommand_2 : ∃ (s : State), s.pending = [] :=
  ⟨up .dark [], by decide +kernel⟩

theorem witness_LightSafeKept_1 : ∃ (s s' : State), LightSafe s ∧ step s = .next s' :=
  ⟨{ up .dark [] with pending := [.retryDelay 5] }, { up .dark [] with now := 5 }, by decide +kernel, rfl⟩

theorem witness_FormsKept_1 : ∃ (s s' : State), Canon coldReg s.regs ∧ Mem.wf s.dram ∧ step s = .next s' :=
  ⟨{ up .dark [] with pending := [.retryDelay 5] }, { up .dark [] with now := 5 }, by unfold Canon; decide +kernel, by
    unfold Mem.wf Canon; decide +kernel, rfl⟩

theorem witness_QuietFrames_1 : ∃ (c : Instr) (s : State) (ps : List Part) (bs : List Nat), c.quietFrame = some (ps,
    bs) ∧ LightSafe s :=
  ⟨.tickSend 9, twin .dark 1 [], [.out, .twin], [], by decide +kernel⟩

theorem witness_ReportFrames_1 : ∃ (c : Instr) (ps : List Part) (bs : List Nat), c.reportFrame = some (ps, bs) :=
  ⟨.discrepancy 5 1, [.out, .access, .house, .keeper, .host, .hk, .intake, .guards, .twin], [0, 1, 2, 3, 4, 6, 8, 9,
    10, 11, 12, 14], by decide +kernel⟩

theorem witness_GuardBlocksReadOnly_1a : ∃ (s : State) (off : Nat), (off / 65536 = 9 ∨ off / 65536 = 10) ∧ LightSafe s
    :=
  ⟨up .dark [], 0x90000, by decide +kernel⟩

theorem witness_GuardBlocksReadOnly_1b : ∃ (s : State) (off : Nat), (off / 65536 = 9 ∨ off / 65536 = 10) ∧ LightSafe s
    :=
  ⟨up .dark [], 0xAFFFF, by decide +kernel⟩

theorem witness_GuardBlocksReadOnly_2 : ∃ (off : Nat), (off / 65536 = 9 ∨ off / 65536 = 10) :=
  ⟨0x9FFFF, by decide +kernel⟩

theorem witness_EmptyOffsets_1 : ∃ (off : Nat), regAt off = none :=
  ⟨0xFFFFC, by decide +kernel⟩

theorem witness_EmptyOffsets_2 : ∃ (s : State) (off : Nat), regAt off = none ∧ LightSafe s :=
  ⟨up .dark [], 0xFFFFC, by decide +kernel⟩

theorem witness_IdentityMesh_1 : ∃ (x y c : Nat), x < 1024 ∧ y < 1024 ∧ c < 3 :=
  ⟨1023, 1023, 2, by decide +kernel⟩

theorem witness_IdentityMesh_2 : ∃ (s : State) (x y c : Nat), s.get WARP_MESH_STATUS_IN_USE = 2 ∧ x < 1024 ∧ y < 1024
    ∧ c < 3 :=
  ⟨up .dark [(WARP_MESH_STATUS_IN_USE, 2)], 1023, 1023, 2, by decide +kernel⟩

theorem witness_IdentityMesh_3 : ∃ (s : State) (x y c : Nat), s.get WARP_MESH_STATUS_IN_USE = 2 ∧ x < 1024 ∧ y < 1024
    ∧ c < 3 ∧ (∀ r ∈ s.warp.comp.rows, r.1 ≠ y) :=
  ⟨up .dark [(WARP_MESH_STATUS_IN_USE, 2)], 1023, 1023, 2, by decide +kernel, by decide +kernel, by decide +kernel, by
    decide +kernel, fun _ h => nomatch h⟩

theorem witness_AppendMode_1 : ∃ (s : State), s.flag (CVU_UNIT_CFG_SELFTEST_OK 2) = true :=
  ⟨twin .dark 1 [], by decide +kernel⟩

theorem witness_AppendMode_2 : ∃ (s : State), s.sendsBoth :=
  ⟨twin .dark 1 [], by decide +kernel⟩

theorem witness_UnpoweredIslands_1 : ∃ (s : State) (t n k : Nat) (g : Guard) (p q : Bool) (b : List Nat) (bits : List
    Bool) (pc : PcieConf) (e : EccError) (c : Instr), s.powered = false ∧ LightSafe s ∧ c ∈ [Instr.clockCheck t g n,
    .terminal t g p q, .encoder t g n bits p, .netFrame t g p n k 64 q b, .telegramCheck t g, .telegramSingle t g,
    .phyPoll t g none, .phyRelease t g, .cvuCopy t, .guardWatchdog t g, .guardMemory t g, .hostReset t p, .busMaster t
    p pc, .watchPoll t, .mboxTorn t n, .mboxReplyTimeout t n, .ping t n, .version t n, .badMessage t n, .slotInfo t n,
    .slotWrite t n, .slotVerify t n, .flashDone t p n, .errHold t, .dramEcc t n e, .wearCheckpoint t, .wearRecompute
    t, .lightInput t n p q] :=
  ⟨st .stowed [], 5, 3, 2, .a, true, false, [1], [true], .cold, .single, .terminal 5 .a true false, by decide +kernel⟩

theorem witness_UnpoweredIslands_2 : ∃ (s : State), s.powered = false ∧ LightSafe s :=
  ⟨State.reset, by decide +kernel⟩

theorem witness_WriteAccess_1 : ∃ (s : State) (t : Nat) (m : Master) (v : Word) (c : Instr) (off : Nat), LightSafe s ∧
    s.writes m off = false ∧ (off, c) ∈ [(STRIKE_COMMIT_OFF, Instr.timingCommit t m), (STRIKE_FRAME_LOAD_OFF,
    .frameLoad t m v), (STRIKE_LATE_CLEAR_OFF, .lateClear t m v), (STRIKE_ROW_ERR_CLEAR_OFF, .rowErrClear t m v),
    (STRIKE_TIME_OFFSET_OFF, .timeOffset t m v), (STRIKE_TIME_TRIM_OFF, .timeTrim t m v), (STRIKE_PEEK_CTRL_OFF,
    .peekGo t m v), (STRIKE_DEFECT_INDEX_OFF, .defectIndex t m v), (TONE_COMMIT_OFF, .toneCommit t m),
    (BRAID_LAYER_COMMIT_OFF, .layerCommitReg t m v), (BRAID_PROT_INDEX_OFF, .protIndex t m v), (WARP_MESH_SELECT_OFF,
    .meshSelectReg t m v), (INTAKE_EYE_CTRL_OFF, .eyeGo t m v), (HOST_NUDGE_OFF, .hostNudge t m v), (HOST_IRQ_EN_OFF,
    .irqEnable t m v), (MBOX_DBELL_SET_OFF, .dbellSet t m v), (CVU_CLEAR_OFF, .cvuClear t m v), (KEEPER_CLEAR_OFF,
    .keeperClear t m v), (KEEPER_HIST_INDEX_OFF, .histIndex t m v), (KEEPER_INJ_CTRL_OFF, .injectGo t m v),
    (KEEPER_INJ_CTRL_OFF, .injectStop t m v)] :=
  ⟨up .dark [], 5, .guardB, 1#32, .toneCommit 5 .guardB, TONE_COMMIT_OFF, by decide +kernel⟩

theorem witness_WriteAccess_2a : ∃ (s : State) (off : Nat) (m : Master), LightSafe s ∧ m.isFw = true ∧ (off / 65536 ∈
    [2, 9, 10] ∨ off = SPLICE_HOST_EPOCH_OFF) :=
  ⟨up .dark [], SPLICE_HOST_EPOCH_OFF, .hkc3, by decide +kernel⟩

theorem witness_WriteAccess_2b : ∃ (s : State) (off : Nat) (m : Master), LightSafe s ∧ m.isFw = true ∧ (off / 65536 ∈
    [2, 9, 10] ∨ off = SPLICE_HOST_EPOCH_OFF) :=
  ⟨up .dark [], 0x20000, .hkc0, by decide +kernel⟩

theorem witness_WriteAccess_3a : ∃ (s : State) (off : Nat) (m : Master), LightSafe s ∧ m.isGuard = true ∧ off / 65536
    ≠ (if m = .guardA then 9 else 10) ∧ off / 65536 ≠ 13 ∧ (off < KEEPER_INJ_CTRL_OFF ∨ KEEPER_INJ_HOLD_OFF < off) ∧
    (m = .guardB ∨ off < TONE_SREF_OFF 0 ∨ TONE_SREF_OFF 256 ≤ off) :=
  ⟨up .dark [], 0xA0000, .guardA, by decide +kernel⟩

theorem witness_WriteAccess_3b : ∃ (s : State) (off : Nat) (m : Master), LightSafe s ∧ m.isGuard = true ∧ off / 65536
    ≠ (if m = .guardA then 9 else 10) ∧ off / 65536 ≠ 13 ∧ (off < KEEPER_INJ_CTRL_OFF ∨ KEEPER_INJ_HOLD_OFF < off) ∧
    (m = .guardB ∨ off < TONE_SREF_OFF 0 ∨ TONE_SREF_OFF 256 ≤ off) :=
  ⟨up .dark [], TONE_SREF_OFF 0, .guardB, by decide +kernel⟩

theorem witness_InputPowerCommands_1 : ∃ (s : State), s.house.mode = .off :=
  ⟨State.reset, by decide +kernel⟩

theorem witness_InputPowerCommands_2 : ∃ (s : State), s.house.mode = .off :=
  ⟨State.reset, by decide +kernel⟩

theorem witness_InputPowerCommands_3 : ∃ (s : State), s.house.mode = .stowed :=
  ⟨st .stowed [], by decide +kernel⟩

theorem witness_InputPowerCommands_4 : ∃ (s : State), s.house.mode ≠ .off :=
  ⟨up .show [], by decide +kernel⟩

theorem witness_ResetCommands_1 : ∃ (s : State), s.house.mode ≠ .off ∧ s.house.mode ≠ .fatal ∧ s.flag HOUSE_START_HELD
    = false ∧ s.hk.holder = [] :=
  ⟨up .show [], by decide +kernel⟩

theorem witness_ResetCommands_2 : ∃ (s : State), s.flag HOUSE_START_HELD = true :=
  ⟨st .stowed [(HOUSE_START_HELD, 1)], by decide +kernel⟩

theorem witness_ResetCommands_4 : ∃ (s : State), s.powered = true ∧ s.house.perstLow = false ∧ s.house.config = [] :=
  ⟨up .dark [], by decide +kernel⟩

theorem witness_WakeCommands_1 : ∃ (s : State), s.house.mode = .stowed ∧ s.flag HOUSE_START_HELD = false ∧
    s.house.stop = none ∧ s.house.waking = none ∧ s.house.retryWait = false :=
  ⟨st .stowed [], by decide +kernel⟩

theorem witness_WakeCommands_2 : ∃ (s : State), s.house.mode ≠ .off :=
  ⟨st .stowed [], by decide +kernel⟩

theorem witness_WakeCommands_3 : ∃ (s : State) (g : Stage), s.house.waking = some (stageNo g) ∧ g ≠ .logic :=
  ⟨waking 2 [], .memory, by decide +kernel⟩

theorem witness_WakeCommands_4 : ∃ (s : State), s.house.waking = some 3 ∧ s.house.brownMark = false ∧ s.house.wakeFail
    = false ∧ s.flag FUSE_STATUS_CORRUPT = false :=
  ⟨waking 3 [], by decide +kernel⟩

theorem witness_WakeCommands_5 : ∃ (s : State) (g : Stage), s.house.waking = some (stageNo g) ∧ s.get
    HOUSE_START_ATTEMPTS < 4 :=
  ⟨waking 3 [(HOUSE_START_ATTEMPTS, 3)], .logic, by decide +kernel⟩

theorem witness_WakeCommands_6 : ∃ (s : State) (g : Stage), s.house.waking = some (stageNo g) ∧ s.get
    HOUSE_START_ATTEMPTS = 4 ∧ s.house.mode = .stowed :=
  ⟨waking 0 [(HOUSE_START_ATTEMPTS, 4)], .regulator, by decide +kernel⟩

theorem witness_WakeCommands_7 : ∃ (s : State), s.house.retryWait = true ∧ s.get HOUSE_START_ATTEMPTS < 4 :=
  ⟨retrying [(HOUSE_START_ATTEMPTS, 3)], by decide +kernel⟩

theorem witness_BootComplete_1 : ∃ (s : State) (t : Nat) (b : BootData), s.house.mode = .boot ∧ s.flag HOUSE_BOOT_HALT
    = false ∧ b.selfTest = [] ∧ b.bootSel % 4 = 3 ∧ s.records t = true :=
  ⟨st .boot [], 5, bootHaltData, by decide +kernel⟩

theorem witness_BootComplete_2 : ∃ (s : State) (b : BootData), s.house.mode = .boot ∧ s.flag HOUSE_BOOT_HALT = false ∧
    b.selfTest = [] ∧ b.bootSel % 4 = 1 ∧ b.slot0.result = 1 ∧ cfgCheck b.slot0.config = (0, 0) ∧ b.slot0.calFail = 0
    :=
  ⟨st .boot [], bootGoodData, by decide +kernel⟩

theorem witness_ClockAndMemoryChecks_1 : ∃ (s : State) (n : Nat), s.powered = true ∧ n < 12 ∧
    s.house.pllUnlocked.contains n = false :=
  ⟨up .dark [], 11, by decide +kernel⟩

theorem witness_ClockAndMemoryChecks_2 : ∃ (s : State) (n : Nat), s.powered = true ∧ n < 12 ∧
    s.house.pllUnlocked.contains n = true :=
  ⟨unlocked 11, 11, by decide +kernel⟩

theorem witness_ClockAndMemoryChecks_3 : ∃ (s : State), s.powered = true :=
  ⟨up .dark [], by decide +kernel⟩

theorem witness_ClockAndMemoryChecks_4a : ∃ (s : State) (t a : Nat), s.powered = true ∧ modRegion ≤ a ∧ a < dramSize ∧
    s.records t = true :=
  ⟨up .dark [], 5, modRegion, by decide +kernel⟩

theorem witness_ClockAndMemoryChecks_4b : ∃ (s : State) (t a : Nat), s.powered = true ∧ modRegion ≤ a ∧ a < dramSize ∧
    s.records t = true :=
  ⟨up .dark [], 5, dramSize - 1, by decide +kernel⟩

theorem witness_ClockAndMemoryChecks_5a : ∃ (s : State) (a : Nat), s.powered = true ∧ modRegion ≤ a ∧ a < dramSize :=
  ⟨up .dark [], modRegion, by decide +kernel⟩

theorem witness_ClockAndMemoryChecks_5b : ∃ (s : State) (a : Nat), s.powered = true ∧ modRegion ≤ a ∧ a < dramSize :=
  ⟨up .dark [], dramSize - 1, by decide +kernel⟩

theorem witness_FrameParts_1 : ∃ (s : State) (b : Nat), s.timerRuns = true ∧ s.steady = true ∧ LightSafe s ∧ 1 ≤ b ∧ b
    < 32 ∧ b ≠ 16 :=
  ⟨timed [], 31, by decide +kernel⟩

theorem witness_FrameParts_2 : ∃ (s : State), s.timerRuns = true ∧ s.steady = true ∧ LightSafe s ∧ s.islandStopped 4 =
    false :=
  ⟨timed [], by decide +kernel⟩

theorem witness_FrameParts_3a : ∃ (s : State) (k : Nat), s.timerRuns = true ∧ s.islandStopped 5 = false ∧
    s.timer.phase = 0 ∧ k = s.timer.rowsRun ∧ k < 512 :=
  ⟨ticking (fun x => { x with rowsRun := 511 }) [], 511, by decide +kernel⟩

theorem witness_FrameParts_3b : ∃ (s : State) (k : Nat), s.timerRuns = true ∧ s.islandStopped 5 = false ∧
    s.timer.phase = 0 ∧ k = s.timer.rowsRun ∧ k < 512 ∧ s.pathLocked = false :=
  ⟨{ timed [] with house := { State.reset.house with mode := .dark, pllUnlocked := [5] } }, 0, by decide +kernel⟩

theorem witness_FrameParts_4 : ∃ (s : State), s.timer.phase ≠ 0 ∧ LightSafe s :=
  ⟨surveyed, by decide +kernel⟩

theorem witness_FrameParts_6 : ∃ (s : State), s.timerRuns = true ∧ s.islandStopped 5 = false ∧ s.timer.phase = 0 :=
  ⟨timed [], by decide +kernel⟩

theorem witness_FrameParts_7 : ∃ (s : State), s.timerRuns = true ∧ s.timer.phase = 1 :=
  ⟨surveyed, by decide +kernel⟩

theorem witness_StrikeAndCapture_1 : ∃ (s : State), s.timerRuns = true ∧ s.house.mode ≠ .fatal ∧ s.steady = true ∧
    s.islandStopped 5 = false ∧ s.timer.rowsRun = 512 ∧ s.timer.rowsOk = true :=
  ⟨scanned, by decide +kernel⟩

theorem witness_StrikeAndCapture_2 : ∃ (s : State), s.timerRuns = true ∧ s.house.mode ≠ .fatal ∧ s.steady = true ∧
    s.islandStopped 5 = false ∧ (s.timer.rowsRun < 512 ∨ s.timer.rowsOk = false) :=
  ⟨timed [], by decide +kernel⟩

theorem witness_StrikeAndCapture_3 : ∃ (s : State) (t : Nat), s.timerRuns = true ∧ s.timer.captureAt ≤
    s.timer.boundaryAt ∧ s.steady = true ∧ s.array.patternDirty = true ∧ 50000 + s.array.patternAt ≤ max s.now t :=
  ⟨patterned, 50000, by decide +kernel⟩

theorem witness_TimerRegisterWrites_1 : ∃ (s : State) (t : Nat) (m : Master), (s.pass t).takes m STRIKE_COMMIT_OFF =
    true ∧ s.timingRejected = false ∧ s.role ≠ 1 ∧ LightSafe s :=
  ⟨up .dark [], 5, .host, by decide +kernel⟩

theorem witness_TimerRegisterWrites_2 : ∃ (s : State) (t : Nat) (m : Master), (s.pass t).takes m STRIKE_COMMIT_OFF =
    true ∧ s.timingRejected = true :=
  ⟨twin .dark 2 [], 5, .host, by decide +kernel⟩

theorem witness_TimerRegisterWrites_3 : ∃ (s : State) (t : Nat) (m : Master), (s.pass t).takes m STRIKE_FRAME_LOAD_OFF
    = true ∧ s.activeSource ≠ 2 ∧ s.activeSource ≠ 3 :=
  ⟨up .dark [], 5, .host, by decide +kernel⟩

theorem witness_TimerRegisterWrites_4 : ∃ (s : State) (t : Nat) (m : Master), (s.pass t).takes m STRIKE_FRAME_LOAD_OFF
    = true ∧ LightSafe s ∧ (s.activeSource = 2 ∨ s.activeSource = 3) :=
  ⟨onPtp [], 5, .host, by decide +kernel⟩

theorem witness_TimerRegisterWrites_5 : ∃ (s : State) (t : Nat) (m : Master) (v : Word), (s.pass t).takes m
    STRIKE_LATE_CLEAR_OFF = true ∧ LightSafe s ∧ v.toNat % 2 = 1 :=
  ⟨up .dark [], 5, .host, 1#32, by decide +kernel⟩

theorem witness_TimerRegisterWrites_6 : ∃ (s : State) (t : Nat) (m : Master) (v : Word), (s.pass t).takes m
    STRIKE_ROW_ERR_CLEAR_OFF = true ∧ LightSafe s ∧ v.toNat % 2 = 1 :=
  ⟨up .dark [], 5, .host, 1#32, by decide +kernel⟩

theorem witness_TimerRegisterWrites_7 : ∃ (s : State) (t : Nat) (m : Master), (s.pass t).takes m
    STRIKE_TIME_OFFSET_OFF = true :=
  ⟨up .dark [], 5, .host, by decide +kernel⟩

theorem witness_TimerRegisterWrites_8 : ∃ (s : State) (t : Nat) (m : Master), (s.pass t).takes m STRIKE_TIME_TRIM_OFF
    = true :=
  ⟨up .dark [], 5, .host, by decide +kernel⟩

theorem witness_TimerReferences_1 : ∃ (s : State), s.timer.timing.source = 1 ∧ s.timerRuns = true ∧
    s.timer.edges.length < 15 :=
  ⟨onSync, by decide +kernel⟩

theorem witness_TimerReferences_2 : ∃ (s : State), s.timer.timing.source = 1 ∧ s.timerRuns = true :=
  ⟨onSync, by decide +kernel⟩

theorem witness_TimerReferences_3 : ∃ (s : State) (t x : Nat), s.timer.ptpAt = some x ∧ 4000000000 + x ≤ max s.now t
    :=
  ⟨onPtp [], 4000000000, 0, by decide +kernel⟩

theorem witness_TimerReferences_4 : ∃ (s : State) (t : Nat), s.lockState = 4 ∧ 1000000000 * s.holdLimit +
    s.timer.holdSince ≤ max s.now t :=
  ⟨onPtp [(STRIKE_SYNC_STATUS_STATE, 4)], 100000000000, by decide +kernel⟩

theorem witness_LinksPeekAndDefects_1 : ∃ (s : State) (t q : Nat), q < 4 ∧ s.records t = true :=
  ⟨up .dark [], 5, 3, by decide +kernel⟩

theorem witness_LinksPeekAndDefects_2 : ∃ (s : State) (q : Nat), q < 4 ∧ s.array.retrain.contains q = false ∧
    LightSafe s :=
  ⟨up .dark [], 3, by decide +kernel⟩

theorem witness_LinksPeekAndDefects_3 : ∃ (s : State) (t : Nat) (m : Master) (v : Word), (s.pass t).takes m
    STRIKE_PEEK_CTRL_OFF = true ∧ 2 ^ 31 ≤ v.toNat ∧ s.flag STRIKE_PEEK_STATUS_BUSY = false :=
  ⟨up .dark [], 5, .host, 2147483648#32, by decide +kernel⟩

theorem witness_LinksPeekAndDefects_4 : ∃ (s : State) (t : Nat) (m : Master) (v : Word), (s.pass t).takes m
    STRIKE_PEEK_CTRL_OFF = true ∧ 2 ^ 31 ≤ v.toNat ∧ s.flag STRIKE_PEEK_STATUS_BUSY = true ∧ LightSafe s :=
  ⟨up .dark [(STRIKE_PEEK_STATUS_BUSY, 1)], 5, .host, 2147483648#32, by decide +kernel⟩

theorem witness_LinksPeekAndDefects_5 : ∃ (s : State), LightSafe s :=
  ⟨up .dark [], by decide +kernel⟩

theorem witness_LinksPeekAndDefects_7 : ∃ (s : State) (t i : Nat) (m : Master), (s.pass t).takes m
    STRIKE_DEFECT_INDEX_OFF = true ∧ i < 4 :=
  ⟨up .dark [], 5, 3, .host, by decide +kernel⟩

theorem witness_RailsAndTemperatures_1 : ∃ (s : State) (c : Nat), s.buckRuns c = true ∧ LightSafe s :=
  ⟨up .show [(⟨ANODE_RAIL_STATUS_OFF, 3, 1⟩, 1)], 3, by decide +kernel⟩

theorem witness_RailsAndTemperatures_2 : ∃ (s : State) (c : Nat), c < 4 ∧ s.buckRuns c = true :=
  ⟨up .show [(⟨ANODE_RAIL_STATUS_OFF, 3, 1⟩, 1)], 3, by decide +kernel⟩

theorem witness_RailsAndTemperatures_3 : ∃ (s : State) (c : Nat), c < 4 ∧ s.buckRuns c = true :=
  ⟨up .show [(⟨ANODE_RAIL_STATUS_OFF, 3, 1⟩, 1)], 3, by decide +kernel⟩

theorem witness_RailsAndTemperatures_4 : ∃ (s : State) (c i10 : Nat), c < 4 ∧ s.buckRuns c = true ∧ 6000 < i10 :=
  ⟨up .show [(⟨ANODE_RAIL_STATUS_OFF, 3, 1⟩, 1)], 3, 6001, by decide +kernel⟩

theorem witness_RailsAndTemperatures_5a : ∃ (s : State) (c i1s i10 : Nat), c < 4 ∧ s.buckRuns c = true ∧ i10 ≤ 6000 ∧
    (4200 < i1s ∨ 3 ≤ sget (fun _ => 0) s.anode.diffRun c) ∧ 4200 < i1s :=
  ⟨up .show [(⟨ANODE_RAIL_STATUS_OFF, 3, 1⟩, 1)], 3, 4201, 6000, by decide +kernel⟩

theorem witness_RailsAndTemperatures_5b : ∃ (s : State) (c i1s i10 : Nat), c < 4 ∧ s.buckRuns c = true ∧ i10 ≤ 6000 ∧
    (4200 < i1s ∨ 3 ≤ sget (fun _ => 0) s.anode.diffRun c) ∧ 3 ≤ sget (fun _ => 0) s.anode.diffRun c :=
  ⟨differing, 3, 0, 0, by decide +kernel⟩

theorem witness_RailsAndTemperatures_6 : ∃ (s : State), s.house.mode.emitting = true :=
  ⟨up .show [], by decide +kernel⟩

theorem witness_ChargeAndWear_1 : ∃ (s : State), s.timerRuns = true ∧ s.islandStopped 4 = false ∧ LightSafe s :=
  ⟨timed [], by decide +kernel⟩

theorem witness_ChargeAndWear_2 : ∃ (s : State), s.timerRuns = true ∧ s.islandStopped 4 = false ∧ (∀ e ∈
    s.tone.charge, e.2 ≤ 0xFFFFFFFF) :=
  ⟨{ timed [] with tone := { State.reset.tone with charge := [(3, 0xFFFFFFFF)] } }, by decide +kernel⟩

theorem witness_ChargeAndWear_3 : ∃ (s : State), s.powered = true ∧ s.flag MBOX_STATUS_FW_READY = true ∧ s.tone.ckpts
    % 2 = 0 :=
  ⟨up .dark [(MBOX_STATUS_FW_READY, 1)], by decide +kernel⟩

theorem witness_ChargeAndWear_4 : ∃ (s : State), s.powered = true ∧ s.flag MBOX_STATUS_FW_READY = true ∧ s.tone.ckpts
    % 2 = 1 :=
  ⟨oddCkpt, by decide +kernel⟩

theorem witness_ChargeAndWear_5 : ∃ (s : State), s.powered = true ∧ s.flag MBOX_STATUS_FW_READY = true :=
  ⟨oddCkpt, by decide +kernel⟩

theorem witness_PathRegisterWrites_1 : ∃ (s : State) (t : Nat) (m : Master), (s.pass t).takes m TONE_COMMIT_OFF = true
    ∧ s.toneRejected = false ∧ s.role ≠ 1 ∧ LightSafe s :=
  ⟨up .dark [], 5, .host, by decide +kernel⟩

theorem witness_PathRegisterWrites_2 : ∃ (s : State) (t : Nat) (m : Master), (s.pass t).takes m TONE_COMMIT_OFF = true
    ∧ s.toneRejected = true ∧ LightSafe s :=
  ⟨twin .dark 2 [], 5, .host, by decide +kernel⟩

theorem witness_PathRegisterWrites_3 : ∃ (s : State) (t : Nat) (m : Master) (v : Word), (s.pass t).takes m
    BRAID_LAYER_COMMIT_OFF = true ∧ v.toNat % 2 ^ 15 ≠ 0 ∧ (s.pass t).commitCode (v.toNat % 2 ^ 15) = none ∧ s.role ≠
    1 ∧ LightSafe s :=
  ⟨up .dark [], 5, .host, 16384#32, by decide +kernel⟩

theorem witness_PathRegisterWrites_4 : ∃ (s : State) (t code l : Nat) (m : Master) (v : Word), (s.pass t).takes m
    BRAID_LAYER_COMMIT_OFF = true ∧ v.toNat % 2 ^ 15 ≠ 0 ∧ (s.pass t).commitCode (v.toNat % 2 ^ 15) = some (code, l) ∧
    LightSafe s :=
  ⟨twin .dark 2 [], 5, 8, 0, .host, 1#32, by decide +kernel⟩

theorem witness_PathRegisterWrites_5 : ∃ (s : State) (t : Nat) (m : Master), (s.pass t).takes m BRAID_PROT_INDEX_OFF =
    true :=
  ⟨up .dark [], 5, .host, by decide +kernel⟩

theorem witness_PathRegisterWrites_6 : ∃ (s : State) (t : Nat) (m : Master) (v : Word), (s.pass t).takes m
    WARP_MESH_SELECT_OFF = true ∧ s.selectIdle (v.toNat % 4) = false ∧ s.selectRejected (v.toNat % 4) = false :=
  ⟨up .dark [(WARP_MESH_STATUS_IN_USE, 0)], 5, .host, 2#32, by decide +kernel⟩

theorem witness_PathRegisterWrites_7 : ∃ (s : State) (t : Nat) (m : Master) (v : Word), (s.pass t).takes m
    WARP_MESH_SELECT_OFF = true ∧ s.selectRejected (v.toNat % 4) = true ∧ s.selectIdle (v.toNat % 4) = false ∧
    LightSafe s :=
  ⟨up .dark [], 5, .host, 1#32, by decide +kernel⟩

theorem witness_PathRegisterWrites_8 : ∃ (s : State) (t off : Nat) (m : Master), (s.pass t).takes m off = true ∧
    isCoef off = true ∧ LightSafe s ∧ (s.pass t).userFilter ((off - 0x51000) / 0x800) = false :=
  ⟨up .dark [], 5, 0x51000, .host, by decide +kernel⟩

theorem witness_MeshLoadAndCheck_1 : ∃ (s : State) (n : Nat) (d : Desc) (w : List Nat), s.flying n 0 0x20 = some d ∧
    d.started = false ∧ s.descFails 0 d [(d.p 2 != meshBytes, 3, 0), (d.p 0 % 4 != 0, 4, 0)] = none ∧ d.param 0 % 4 <
    2 ∧ s.warp.load = none ∧ s.mayMaster = true ∧ headerBad w (d.param 0 % 4) = false ∧ s.bankBusy (d.param 0 % 4) =
    false :=
  ⟨flight 0 (desc 0x20 [1, 0, 0, 0, 0, 33832]) [], 0, desc 0x20 [1, 0, 0, 0, 0, 33832], [256, 0, 1], by
    decide +kernel⟩

theorem witness_MeshLoadAndCheck_2 : ∃ (s : State) (l : MeshLoad) (d : Desc), s.warp.load = some l ∧ s.flyingAt l.ring
    l.index 0 0x20 = some d ∧ meshBytes ≤ d.used ∧ l.bank < 2 ∧ (meshChecks l.words).1 ≠ 0 :=
  ⟨loading, ⟨1, [256, 0, 1], 0, 0⟩, loadedDesc, by decide +kernel⟩

theorem witness_NopAndFrameWait_1 : ∃ (s : State) (n : Nat) (d : Desc), s.flying n 0 0x01 = some d ∧ s.descFails 0 d
    [] = none ∧ LightSafe s :=
  ⟨flight 0 (desc 1 []) [], 0, desc 1 [], by decide +kernel⟩

theorem witness_NopAndFrameWait_2 : ∃ (s : State) (n c x : Nat) (d : Desc), s.flying n 0 0x01 = some d ∧ s.descFails 0
    d [] = some (c, x) ∧ LightSafe s :=
  ⟨flight 0 (desc 1 [0, 0, 1]) [], 0, 2, 12, desc 1 [0, 0, 1], by decide +kernel⟩

theorem witness_NopAndFrameWait_3 : ∃ (s : State) (n : Nat) (d : Desc), s.flying n 0 0x38 = some d ∧ s.descFails 0 d
    [(!s.timerRuns, 8, s.house.mode.num)] = none ∧ LightSafe s ∧ 0 ≤ frameDiff s.frameNo (d.param 0) :=
  ⟨flight 0 (desc 0x38 [0]) [(STRIKE_STATUS_TIMER_RUN, 1), (STRIKE_SYNC_STATUS_STATE, 1)], 0, desc 0x38 [0], by
    decide +kernel⟩

theorem witness_NopAndFrameWait_4 : ∃ (s : State) (n : Nat) (d : Desc), s.flying n 0 0x38 = some d ∧ s.descFails 0 d
    [(!s.timerRuns, 8, s.house.mode.num)] = none ∧ LightSafe s ∧ frameDiff s.frameNo (d.param 0) < 0 :=
  ⟨flight 0 (desc 0x38 [1]) [(STRIKE_STATUS_TIMER_RUN, 1), (STRIKE_SYNC_STATUS_STATE, 1)], 0, desc 0x38 [1], by
    decide +kernel⟩

theorem witness_LayerAndMeshDescriptors_1 : ∃ (s : State) (n : Nat) (d : Desc), s.flying n 0 0x10 = some d ∧
    s.descFails 0 d [] = none ∧ d.p 0 % 16 ≠ 15 ∧ s.follows = false ∧ getBits (d.p 0) 8 1 = 0 ∧ LightSafe s :=
  ⟨flight 0 (desc 0x10 [0, 0, 0, 14]) [], 0, desc 0x10 [0, 0, 0, 14], by decide +kernel⟩

theorem witness_LayerAndMeshDescriptors_2 : ∃ (s : State) (n : Nat) (d : Desc), s.flying n 0 0x11 = some d ∧
    s.descFails 0 d [] = none ∧ d.p 0 % 16 ≠ 15 ∧ s.follows = false ∧ s.role ≠ 1 :=
  ⟨flight 0 (desc 0x11 [0, 0, 0, 14, 1, 2, 3]) [], 0, desc 0x11 [0, 0, 0, 14, 1, 2, 3], by decide +kernel⟩

theorem witness_LayerAndMeshDescriptors_3 : ∃ (s : State) (t n : Nat) (d : Desc), s.flying n 0 0x12 = some d ∧
    s.descFails 0 d [] = none ∧ d.param 0 % 2 ^ 15 ≠ 0 ∧ (s.pass t).commitCode (d.param 0 % 2 ^ 15) = none ∧ s.role ≠
    1 :=
  ⟨flight 0 (desc 0x12 [16384]) [], 5, 0, desc 0x12 [16384], by decide +kernel⟩

theorem witness_LayerAndMeshDescriptors_4 : ∃ (s : State) (t n c l : Nat) (d : Desc), s.flying n 0 0x12 = some d ∧
    s.descFails 0 d [] = none ∧ d.param 0 % 2 ^ 15 ≠ 0 ∧ (s.pass t).commitCode (d.param 0 % 2 ^ 15) = some (c, l) ∧
    LightSafe s :=
  ⟨flight 0 (desc 0x12 [1]) [(BRAID_STATUS_COMMIT_PENDING, 1)], 5, 0, 9, 0, desc 0x12 [1], by decide +kernel⟩

theorem witness_LayerAndMeshDescriptors_5 : ∃ (s : State) (n : Nat) (d : Desc), s.flying n 0 0x21 = some d ∧
    s.descFails 0 d [] = none ∧ s.selectIdle (d.param 0 % 4) = false ∧ s.selectRejected (d.param 0 % 4) = false :=
  ⟨flight 0 (desc 0x21 [2]) [(WARP_MESH_STATUS_IN_USE, 0)], 0, desc 0x21 [2], by decide +kernel⟩

theorem witness_RegWriteAndModeRequests_1 : ∃ (s : State) (t n : Nat) (d : Desc), s.flying n 0 0x18 = some d ∧
    s.descFails 0 d [] = none ∧ d.param 0 % 8 = 1 ∧ d.p 0 / 65536 = 6 ∧ d.p 0 % 4 = 0 ∧ d.p 0 ≠ TONE_COMMIT_OFF ∧
    (regAt (d.p 0)).isSome = true ∧ LightSafe s ∧ d.started = false ∧ d.used = 0 ∧ s.stalls (d.p 0) = false ∧ (s.pass
    t).outranked .host (d.p 0) = false :=
  ⟨flight 0 (desc 0x18 [1, 0, 0, 0x60000, 7]) [], 5, 0, desc 0x18 [1, 0, 0, 0x60000, 7], by decide +kernel⟩

theorem witness_RegWriteAndModeRequests_2a : ∃ (s : State) (n : Nat) (d : Desc), s.flying n 0 0x30 = some d ∧
    d.started = false ∧ s.descFails 0 d [] = none ∧ d.param 0 % 16 = 5 ∧ s.house.mode = .dark ∧ s.twinEn = false ∧
    s.changing = false ∧ d.param 0 / 256 % 2 = 0 :=
  ⟨flight 0 (desc 0x30 [5]) [], 0, desc 0x30 [5], by decide +kernel⟩

theorem witness_RegWriteAndModeRequests_2b : ∃ (s : State) (n : Nat) (d : Desc), s.flying n 0 0x30 = some d ∧
    d.started = false ∧ s.descFails 0 d [] = none ∧ d.param 0 % 16 = 5 ∧ s.house.mode = .dark ∧ s.twinEn = false ∧
    s.changing = false ∧ d.param 0 / 256 % 2 = 1 :=
  ⟨flight 0 (desc 0x30 [261]) [], 0, desc 0x30 [261], by decide +kernel⟩

theorem witness_RegWriteAndModeRequests_3a : ∃ (s : State) (n : Nat) (d : Desc), s.flying n 0 0x30 = some d ∧
    d.started = false ∧ s.descFails 0 d [] = none ∧ d.param 0 % 16 < 6 ∧ s.house.mode = modeOf (d.param 0 % 16) ∧
    s.twinEn = false ∧ LightSafe s ∧ d.param 0 / 256 % 2 = 0 :=
  ⟨flight 0 (desc 0x30 [1]) [], 0, desc 0x30 [1], by decide +kernel⟩

theorem witness_RegWriteAndModeRequests_3b : ∃ (s : State) (n : Nat) (d : Desc), s.flying n 0 0x30 = some d ∧
    d.started = false ∧ s.descFails 0 d [] = none ∧ d.param 0 % 16 < 6 ∧ s.house.mode = modeOf (d.param 0 % 16) ∧
    s.twinEn = false ∧ LightSafe s ∧ d.param 0 / 256 % 2 = 1 :=
  ⟨flight 0 (desc 0x30 [257]) [], 0, desc 0x30 [257], by decide +kernel⟩

theorem witness_SurfaceDescriptors_1a : ∃ (s : State) (t n i op : Nat) (d : Desc), s.flyingAt n i 1 op = some d ∧
    d.started = false ∧ d.used = 0 ∧ s.surfFails d = none ∧ d.rows = 1 ∧ 1 ≤ d.rowBytes ∧ d.modAddr % (if op = 4 then
    256 else 512) + d.rowBytes ≤ (if op = 4 then 256 else 512) ∧ s.turnOf n i = true ∧ (s.pass t).mayBurst n = true ∧
    s.mayMaster = true :=
  ⟨flight 1 (desc 1 [0, 0, 0, 8192, 0, 4096, 0, 512, 1]) [], 5, 0, 0, 1, desc 1 [0, 0, 0, 8192, 0, 4096, 0, 512, 1],
    by decide +kernel⟩

theorem witness_SurfaceDescriptors_1b : ∃ (s : State) (t n i op : Nat) (d : Desc), s.flyingAt n i 1 op = some d ∧
    d.started = false ∧ d.used = 0 ∧ s.surfFails d = none ∧ d.rows = 1 ∧ 1 ≤ d.rowBytes ∧ d.modAddr % (if op = 4 then
    256 else 512) + d.rowBytes ≤ (if op = 4 then 256 else 512) ∧ s.turnOf n i = true ∧ (s.pass t).mayBurst n = true ∧
    s.mayMaster = true :=
  ⟨flight 1 (desc 2 [0, 0, 0, 8192, 0, 4096, 0, 512, 1]) [], 5, 0, 0, 2, desc 2 [0, 0, 0, 8192, 0, 4096, 0, 512, 1],
    by decide +kernel⟩

theorem witness_SurfaceDescriptors_1c : ∃ (s : State) (t n i op : Nat) (d : Desc), s.flyingAt n i 1 op = some d ∧
    d.started = false ∧ d.used = 0 ∧ s.surfFails d = none ∧ d.rows = 1 ∧ 1 ≤ d.rowBytes ∧ d.modAddr % (if op = 4 then
    256 else 512) + d.rowBytes ≤ (if op = 4 then 256 else 512) ∧ s.turnOf n i = true ∧ (s.pass t).mayBurst n = true ∧
    s.mayMaster = true :=
  ⟨flight 1 (desc 3 [0, 0, 0, 0, 0, 4096, 0, 512, 1]) [], 5, 0, 0, 3, desc 3 [0, 0, 0, 0, 0, 4096, 0, 512, 1], by
    decide +kernel⟩

theorem witness_SurfaceDescriptors_1d : ∃ (s : State) (t n i op : Nat) (d : Desc), s.flyingAt n i 1 op = some d ∧
    d.started = false ∧ d.used = 0 ∧ s.surfFails d = none ∧ d.rows = 1 ∧ 1 ≤ d.rowBytes ∧ d.modAddr % (if op = 4 then
    256 else 512) + d.rowBytes ≤ (if op = 4 then 256 else 512) ∧ s.turnOf n i = true ∧ (s.pass t).mayBurst n = true ∧
    s.mayMaster = true :=
  ⟨flight 1 (desc 4 [0, 0, 0, 8192, 0, 4096, 0, 256, 1]) [], 5, 0, 0, 4, desc 4 [0, 0, 0, 8192, 0, 4096, 0, 256, 1],
    by decide +kernel⟩

theorem witness_CalBlocksAndDumps_1 : ∃ (s : State) (t n : Nat) (d : Desc) (w : List Nat), s.flying n 2 0x01 = some d
    ∧ d.p 2 % 4 = 0 ∧ 32 ≤ d.p 2 ∧ s.descFails 2 d [(decide (d.p 2 < 32) || d.p 2 % 4 != 0, 3, 0), (d.p 0 % 4 != 0, 4,
    0)] = none ∧ s.mayMaster = true ∧ d.p 2 = 32 + 4 * w.getD 2 0 ∧ s.calCode w = 0 ∧ getBits (w.getD 4 0) 0 1 = 0 ∧ 4
    * w.getD 2 0 ≤ d.used + (s.pass t).burstBytes n :=
  ⟨flight 2 (desc 1 [0, 0, 0, 0, 0, 36]) [(CVU_UNIT_CFG_SELFTEST_OK 6, 1)], 5, 0, desc 1 [0, 0, 0, 0, 0, 36],
    goodBlock, by decide +kernel⟩

theorem witness_CalBlocksAndDumps_2a : ∃ (s : State) (t n i op : Nat) (d : Desc) (c : Instr), s.flyingAt n i 3 op =
    some d ∧ d.used = 0 ∧ s.mayMaster = true ∧ s.turnOf n i = true ∧ s.descFails 3 d [(decide (d.p 2 < d.param 1 *
    (dumpTable op).2), 3, 0), (d.p 0 % 4 != 0, 4, 0), (decide ((dumpTable op).1 < d.param 0 + d.param 1), 5, 0)] =
    none ∧ d.param 1 ≠ 0 ∧ (5 ≤ op ∨ d.param 1 * (dumpTable op).2 ≤ (s.pass t).burstBytes n) ∧ (op, c) ∈ [(1,
    Instr.telCharge t n i), (2, .telDrift t n i), (3, .telCalword t n i), (4, .telDefect t n i), (5, .telSensors t n
    i), (6, .telHistory t n i)] :=
  ⟨flight 3 (desc 1 [0, 1, 0, 0, 0, 1024]) [], 5, 0, 0, 1, desc 1 [0, 1, 0, 0, 0, 1024], .telCharge 5 0 0, by
    decide +kernel⟩

theorem witness_CalBlocksAndDumps_2b : ∃ (s : State) (t n i op : Nat) (d : Desc) (c : Instr), s.flyingAt n i 3 op =
    some d ∧ d.used = 0 ∧ s.mayMaster = true ∧ s.turnOf n i = true ∧ s.descFails 3 d [(decide (d.p 2 < d.param 1 *
    (dumpTable op).2), 3, 0), (d.p 0 % 4 != 0, 4, 0), (decide ((dumpTable op).1 < d.param 0 + d.param 1), 5, 0)] =
    none ∧ d.param 1 ≠ 0 ∧ (5 ≤ op ∨ d.param 1 * (dumpTable op).2 ≤ (s.pass t).burstBytes n) ∧ (op, c) ∈ [(1,
    Instr.telCharge t n i), (2, .telDrift t n i), (3, .telCalword t n i), (4, .telDefect t n i), (5, .telSensors t n
    i), (6, .telHistory t n i)] :=
  ⟨flight 3 (desc 2 [0, 1, 0, 0, 0, 1024]) [], 5, 0, 0, 2, desc 2 [0, 1, 0, 0, 0, 1024], .telDrift 5 0 0, by
    decide +kernel⟩

theorem witness_CalBlocksAndDumps_2c : ∃ (s : State) (t n i op : Nat) (d : Desc) (c : Instr), s.flyingAt n i 3 op =
    some d ∧ d.used = 0 ∧ s.mayMaster = true ∧ s.turnOf n i = true ∧ s.descFails 3 d [(decide (d.p 2 < d.param 1 *
    (dumpTable op).2), 3, 0), (d.p 0 % 4 != 0, 4, 0), (decide ((dumpTable op).1 < d.param 0 + d.param 1), 5, 0)] =
    none ∧ d.param 1 ≠ 0 ∧ (5 ≤ op ∨ d.param 1 * (dumpTable op).2 ≤ (s.pass t).burstBytes n) ∧ (op, c) ∈ [(1,
    Instr.telCharge t n i), (2, .telDrift t n i), (3, .telCalword t n i), (4, .telDefect t n i), (5, .telSensors t n
    i), (6, .telHistory t n i)] :=
  ⟨flight 3 (desc 3 [0, 1, 0, 0, 0, 1024]) [], 5, 0, 0, 3, desc 3 [0, 1, 0, 0, 0, 1024], .telCalword 5 0 0, by
    decide +kernel⟩

theorem witness_CalBlocksAndDumps_2d : ∃ (s : State) (t n i op : Nat) (d : Desc) (c : Instr), s.flyingAt n i 3 op =
    some d ∧ d.used = 0 ∧ s.mayMaster = true ∧ s.turnOf n i = true ∧ s.descFails 3 d [(decide (d.p 2 < d.param 1 *
    (dumpTable op).2), 3, 0), (d.p 0 % 4 != 0, 4, 0), (decide ((dumpTable op).1 < d.param 0 + d.param 1), 5, 0)] =
    none ∧ d.param 1 ≠ 0 ∧ (5 ≤ op ∨ d.param 1 * (dumpTable op).2 ≤ (s.pass t).burstBytes n) ∧ (op, c) ∈ [(1,
    Instr.telCharge t n i), (2, .telDrift t n i), (3, .telCalword t n i), (4, .telDefect t n i), (5, .telSensors t n
    i), (6, .telHistory t n i)] :=
  ⟨flight 3 (desc 4 [0, 1, 0, 0, 0, 1024]) [], 5, 0, 0, 4, desc 4 [0, 1, 0, 0, 0, 1024], .telDefect 5 0 0, by
    decide +kernel⟩

theorem witness_CalBlocksAndDumps_2e : ∃ (s : State) (t n i op : Nat) (d : Desc) (c : Instr), s.flyingAt n i 3 op =
    some d ∧ d.used = 0 ∧ s.mayMaster = true ∧ s.turnOf n i = true ∧ s.descFails 3 d [(decide (d.p 2 < d.param 1 *
    (dumpTable op).2), 3, 0), (d.p 0 % 4 != 0, 4, 0), (decide ((dumpTable op).1 < d.param 0 + d.param 1), 5, 0)] =
    none ∧ d.param 1 ≠ 0 ∧ (5 ≤ op ∨ d.param 1 * (dumpTable op).2 ≤ (s.pass t).burstBytes n) ∧ (op, c) ∈ [(1,
    Instr.telCharge t n i), (2, .telDrift t n i), (3, .telCalword t n i), (4, .telDefect t n i), (5, .telSensors t n
    i), (6, .telHistory t n i)] :=
  ⟨flight 3 (desc 5 [0, 1, 0, 0, 0, 1024]) [], 5, 0, 0, 5, desc 5 [0, 1, 0, 0, 0, 1024], .telSensors 5 0 0, by
    decide +kernel⟩

theorem witness_CalBlocksAndDumps_2f : ∃ (s : State) (t n i op : Nat) (d : Desc) (c : Instr), s.flyingAt n i 3 op =
    some d ∧ d.used = 0 ∧ s.mayMaster = true ∧ s.turnOf n i = true ∧ s.descFails 3 d [(decide (d.p 2 < d.param 1 *
    (dumpTable op).2), 3, 0), (d.p 0 % 4 != 0, 4, 0), (decide ((dumpTable op).1 < d.param 0 + d.param 1), 5, 0)] =
    none ∧ d.param 1 ≠ 0 ∧ (5 ≤ op ∨ d.param 1 * (dumpTable op).2 ≤ (s.pass t).burstBytes n) ∧ (op, c) ∈ [(1,
    Instr.telCharge t n i), (2, .telDrift t n i), (3, .telCalword t n i), (4, .telDefect t n i), (5, .telSensors t n
    i), (6, .telHistory t n i)] :=
  ⟨flight 3 (desc 6 [0, 1, 0, 0, 0, 1024]) [], 5, 0, 0, 6, desc 6 [0, 1, 0, 0, 0, 1024], .telHistory 5 0 0, by
    decide +kernel⟩

theorem witness_DescriptorFetchAdmitComplete_1 : ∃ (s : State) (n index : Nat), (s.ring n).fetching.contains index =
    true :=
  ⟨running 0 fetches [], 0, 0, by decide +kernel⟩

theorem witness_DescriptorFetchAdmitComplete_2 : ∃ (s : State) (t n : Nat) (d : Desc) (rest : List Desc), n < 64 ∧
    (s.ring n).fetched = d :: rest ∧ (s.pass t).admissible n d = true :=
  ⟨running 0 (hasFetched (desc 1 [])) [], 5, 0, desc 1 [], [], by decide +kernel⟩

theorem witness_DescriptorFetchAdmitComplete_3 : ∃ (s : State) (t n : Nat) (d : Desc) (rest : List Desc), n < 64 ∧
    (s.ring n).fetched = d :: rest ∧ (s.pass t).admissible n d = true ∧ d.done = none ∧ opDefined (s.ringClass n) d.op
    = false :=
  ⟨running 0 (hasFetched (desc 0xFF [])) [], 5, 0, desc 0xFF [], [], by decide +kernel⟩

theorem witness_DescriptorFetchAdmitComplete_4 : ∃ (s : State) (n : Nat) (d : Desc) (rest : List Desc) (r : Nat × Nat
    × Nat), n < 64 ∧ (s.ring n).inflight = d :: rest ∧ d.done = some r ∧ s.mayMaster = true ∧ s.ringState n = 1 :=
  ⟨flight 0 doneNop [], 0, doneNop, [], (0, 0, 0), by decide +kernel⟩

theorem witness_RingStates_1 : ∃ (s : State) (t n : Nat) (m : Master), n < 64 ∧ (s.pass t).takes m (RING_CTRL_OFF n) =
    true ∧ s.ringState n = 0 ∧ s.ringClass n < 5 ∧ 4 ≤ s.get (RING_CFG_LOG2SIZE n) ∧ s.get (RING_CFG_LOG2SIZE n) ≤ 16
    ∧ s.flag HOST_DBELL_LO_VALID = true ∧ s.house.mode ≠ .boot :=
  ⟨up .dark [(RING_CFG_CLASS 63, 4), (RING_CFG_LOG2SIZE 63, 16), (HOST_DBELL_LO_VALID, 1)], 5, 63, .host, by
    decide +kernel⟩

theorem witness_RingStates_2a : ∃ (s : State) (t n code : Nat) (m : Master), n < 64 ∧ (s.pass t).takes m
    (RING_CTRL_OFF n) = true ∧ LightSafe s ∧ ((code = 5 ∧ s.ringState n ≠ 0) ∨ (code = 1 ∧ s.ringState n = 0 ∧ 5 ≤
    s.ringClass n) ∨ (code = 2 ∧ s.ringState n = 0 ∧ s.ringClass n < 5 ∧ (s.get (RING_CFG_LOG2SIZE n) < 4 ∨ 16 < s.get
    (RING_CFG_LOG2SIZE n))) ∨ (code = 4 ∧ s.ringState n = 0 ∧ s.ringClass n < 5 ∧ 4 ≤ s.get (RING_CFG_LOG2SIZE n) ∧
    s.get (RING_CFG_LOG2SIZE n) ≤ 16 ∧ s.flag HOST_DBELL_LO_VALID = false)) :=
  ⟨running 0 Ring.off [], 5, 0, 5, .host, by decide +kernel⟩

theorem witness_RingStates_2b : ∃ (s : State) (t n code : Nat) (m : Master), n < 64 ∧ (s.pass t).takes m
    (RING_CTRL_OFF n) = true ∧ LightSafe s ∧ ((code = 5 ∧ s.ringState n ≠ 0) ∨ (code = 1 ∧ s.ringState n = 0 ∧ 5 ≤
    s.ringClass n) ∨ (code = 2 ∧ s.ringState n = 0 ∧ s.ringClass n < 5 ∧ (s.get (RING_CFG_LOG2SIZE n) < 4 ∨ 16 < s.get
    (RING_CFG_LOG2SIZE n))) ∨ (code = 4 ∧ s.ringState n = 0 ∧ s.ringClass n < 5 ∧ 4 ≤ s.get (RING_CFG_LOG2SIZE n) ∧
    s.get (RING_CFG_LOG2SIZE n) ≤ 16 ∧ s.flag HOST_DBELL_LO_VALID = false)) :=
  ⟨up .dark [(RING_CFG_CLASS 63, 5)], 5, 63, 1, .host, by decide +kernel⟩

theorem witness_RingStates_2c : ∃ (s : State) (t n code : Nat) (m : Master), n < 64 ∧ (s.pass t).takes m
    (RING_CTRL_OFF n) = true ∧ LightSafe s ∧ ((code = 5 ∧ s.ringState n ≠ 0) ∨ (code = 1 ∧ s.ringState n = 0 ∧ 5 ≤
    s.ringClass n) ∨ (code = 2 ∧ s.ringState n = 0 ∧ s.ringClass n < 5 ∧ (s.get (RING_CFG_LOG2SIZE n) < 4 ∨ 16 < s.get
    (RING_CFG_LOG2SIZE n))) ∨ (code = 4 ∧ s.ringState n = 0 ∧ s.ringClass n < 5 ∧ 4 ≤ s.get (RING_CFG_LOG2SIZE n) ∧
    s.get (RING_CFG_LOG2SIZE n) ≤ 16 ∧ s.flag HOST_DBELL_LO_VALID = false)) :=
  ⟨up .dark [(RING_CFG_LOG2SIZE 63, 17)], 5, 63, 2, .host, by decide +kernel⟩

theorem witness_RingStates_2d : ∃ (s : State) (t n code : Nat) (m : Master), n < 64 ∧ (s.pass t).takes m
    (RING_CTRL_OFF n) = true ∧ LightSafe s ∧ ((code = 5 ∧ s.ringState n ≠ 0) ∨ (code = 1 ∧ s.ringState n = 0 ∧ 5 ≤
    s.ringClass n) ∨ (code = 2 ∧ s.ringState n = 0 ∧ s.ringClass n < 5 ∧ (s.get (RING_CFG_LOG2SIZE n) < 4 ∨ 16 < s.get
    (RING_CFG_LOG2SIZE n))) ∨ (code = 4 ∧ s.ringState n = 0 ∧ s.ringClass n < 5 ∧ 4 ≤ s.get (RING_CFG_LOG2SIZE n) ∧
    s.get (RING_CFG_LOG2SIZE n) ≤ 16 ∧ s.flag HOST_DBELL_LO_VALID = false)) :=
  ⟨up .dark [(RING_CFG_LOG2SIZE 63, 4)], 5, 63, 4, .host, by decide +kernel⟩

theorem witness_RingStates_3a : ∃ (s : State) (t n : Nat) (m : Master), n < 64 ∧ (s.pass t).takes m (RING_CTRL_OFF n)
    = true ∧ s.ringState n = 1 :=
  ⟨flight 0 (desc 1 []) [], 5, 0, .host, by decide +kernel⟩

theorem witness_RingStates_3b : ∃ (s : State) (t n : Nat) (m : Master), n < 64 ∧ (s.pass t).takes m (RING_CTRL_OFF n)
    = true ∧ s.ringState n = 1 :=
  ⟨running 0 Ring.off [], 5, 0, .host, by decide +kernel⟩

theorem witness_RingStates_4a : ∃ (s : State) (t n : Nat) (m : Master), n < 64 ∧ (s.pass t).takes m (RING_CTRL_OFF n)
    = true ∧ 1 ≤ s.ringState n ∧ s.ringState n ≤ 3 :=
  ⟨flight 0 (desc 1 []) [], 5, 0, .host, by decide +kernel⟩

theorem witness_RingStates_4b : ∃ (s : State) (t n : Nat) (m : Master), n < 64 ∧ (s.pass t).takes m (RING_CTRL_OFF n)
    = true ∧ 1 ≤ s.ringState n ∧ s.ringState n ≤ 3 :=
  ⟨up .dark [(RING_STATUS_STATE 63, 3)], 5, 63, .host, by decide +kernel⟩

theorem witness_RingStates_5 : ∃ (s : State) (n : Nat), n < 64 ∧ s.ringState n = 4 ∧ (s.ring n).inflight = [] :=
  ⟨up .dark [(RING_STATUS_STATE 63, 4)], 63, by decide +kernel⟩

theorem witness_DoorbellWatcher_1a : ∃ (s : State), s.powered = true ∧ s.mayMaster = true ∧ s.lineActive 0 = true ∧
    s.flag HOST_WATCH_STATUS_FAST = true ∧ max 1 (s.get HOST_WATCH_IDLE) ≤ s.host.idleRounds :=
  ⟨polledOnce, by decide +kernel⟩

theorem witness_DoorbellWatcher_1b : ∃ (s : State), s.powered = true ∧ s.mayMaster = true ∧ s.flag
    HOST_WATCH_STATUS_FAST = true ∧ s.host.idleRounds < max 1 (s.get HOST_WATCH_IDLE) :=
  ⟨running 0 Ring.off [(HOST_WATCH_STATUS_FAST, 1), (HOST_WATCH_IDLE, 2)], by decide +kernel⟩

theorem witness_DoorbellWatcher_2 : ∃ (s : State) (t : Nat) (m : Master), (s.pass t).takes m HOST_NUDGE_OFF = true ∧
    s.lineActive 0 = true ∧ s.mayMaster = true :=
  ⟨polledOnce, 5, .host, by decide +kernel⟩

theorem witness_DoorbellWatcher_3 : ∃ (s : State) (g k : Nat) (w : List Nat), g < 8 ∧ k < 8 ∧ s.host.linesOut.count g
    = 1 ∧ s.ringState (8 * g + k) = 1 ∧ s.ringClass (8 * g + k) < 4 ∧ 0 ≤ frameDiff (w.getD (2 * k) 0 % 2 ^ 32) (s.get
    (RING_INDEX_INDEX (8 * g + k))) ∧ (2 ^ 32 + w.getD (2 * k) 0 % 2 ^ 32 - s.get (RING_HEAD_HEAD (8 * g + k))) % 2 ^
    32 ≤ s.ringSize (8 * g + k) :=
  ⟨watching, 0, 0, [16], by decide +kernel⟩

theorem witness_DoorbellWatcher_4 : ∃ (s : State) (g : Nat) (r : HostRead (List Nat)), g < 8 ∧
    s.host.linesOut.contains g = true ∧ r.kind ≠ 0 ∧ 2 ≤ sget (fun _ => 0) s.host.lineFails g ∧ s.ringState (8 * g) =
    1 :=
  ⟨watching, 0, .poisoned, by decide +kernel⟩

theorem witness_HostLinkAndInterrupts_1a : ∃ (s : State) (t n x : Nat), n < 64 ∧ (s.ring n).msgWaits = true ∧ (s.ring
    n).lastMsg = some x ∧ x + s.get (RING_CFG_HOLDOFF n) * 1000 ≤ max s.now t ∧ s.mayMaster = true ∧ s.flag
    (MSIX_CTRL_MASK n) = true :=
  ⟨running 0 heldBack [], 3, 0, 3, by decide +kernel⟩

theorem witness_HostLinkAndInterrupts_1b : ∃ (s : State) (t n x : Nat), n < 64 ∧ (s.ring n).msgWaits = true ∧ (s.ring
    n).lastMsg = some x ∧ x + s.get (RING_CFG_HOLDOFF n) * 1000 ≤ max s.now t ∧ s.mayMaster = true ∧ s.flag
    (MSIX_CTRL_MASK n) = false :=
  ⟨running 0 heldBack [(MSIX_CTRL_MASK 0, 0)], 3, 0, 3, by decide +kernel⟩

theorem witness_HostLinkAndInterrupts_2 : ∃ (s : State) (t : Nat) (m : Master) (v : Word), (s.pass t).takes m
    HOST_IRQ_EN_OFF = true ∧ v.toNat / 2 ^ 7 % 2 = 1 ∧ s.get HOST_IRQ_EN_EN / 2 ^ 7 % 2 = 0 ∧ s.flag
    ⟨HOST_IRQ_CAUSE_OFF, 7, 1⟩ = true ∧ s.flag (MSIX_CTRL_MASK 71) = false ∧ s.mayMaster = true :=
  ⟨up .dark [(HOST_LINK_BME, 1), (MSIX_CTRL_MASK 71, 0), (⟨HOST_IRQ_CAUSE_OFF, 7, 1⟩, 1)], 5, .host, 128#32, by
    decide +kernel⟩

theorem witness_HostLinkAndInterrupts_3 : ∃ (s : State) (c : PcieConf), s.powered = true ∧ c.d3hot = false ∧ (∀ v,
    Output.msix v ∈ s.host.stalled → s.flag (MSIX_CTRL_MASK v) = false) :=
  ⟨waitsOut [(MSIX_CTRL_MASK 3, 0)], .cold, by decide +kernel, by decide +kernel, waitsOut_unmasked⟩

theorem witness_HostLinkAndInterrupts_4 : ∃ (s : State) (v : Nat) (c : PcieConf), s.powered = true ∧ c.d3hot = false ∧
    v < 72 ∧ s.host.stalled = [.msix v] ∧ s.flag (MSIX_CTRL_MASK v) = true :=
  ⟨waitsOut [], 3, .cold, by decide +kernel⟩

theorem witness_HostLinkAndInterrupts_5 : ∃ (s : State), s.powered = true :=
  ⟨waitsOut [], by decide +kernel⟩

theorem witness_HostLinkAndInterrupts_6 : ∃ (s : State), s.powered = true ∧ s.house.perstLow = false ∧ s.flag
    HOST_LINK_UP = false :=
  ⟨st .dark [], by decide +kernel⟩

theorem witness_HostResetAndMw2_1 : ∃ (s : State), s.powered = true ∧ s.house.config.all (fun e => !hostBlock e.1) =
    true ∧ s.hk.holder.all (fun h => h.2 != .host) = true :=
  ⟨running 0 fetches [], by decide +kernel⟩

theorem witness_HostResetAndMw2_2 : ∃ (s : State) (t addr : Nat) (data : List Nat), s.reaches .host = true ∧
    s.host.mw2Wait = [] ∧ addr + data.length ≤ dramSize ∧ (s.pass t).host.mw2Debt < bucketMax ∧ (s.pass
    t).host.mw2Debt + data.length ≤ bucketMax :=
  ⟨up .dark [], 5, modRegion - 1, [1, 2], by decide +kernel⟩

theorem witness_HostResetAndMw2_3 : ∃ (s : State) (t addr len : Nat), s.reaches .host = true ∧ s.host.mw2Wait = [] ∧
    addr + len ≤ dramSize ∧ (s.pass t).host.mw2Debt < bucketMax ∧ (s.pass t).host.mw2Debt + len ≤ bucketMax :=
  ⟨up .dark [], 5, dramSize - 2, 2, by decide +kernel⟩

theorem witness_MailboxQueues_1a : ∃ (s : State) (t n : Nat) (m : Master) (v : Word), n < 8 ∧ (s.pass t).takes m
    (MBOX_TX_OFF n) = true ∧ (s.mbox n).txCount ≠ 8 ∧ ((s.mbox n).txPart ++ [v.toNat]).length = msgLen (((s.mbox
    n).txPart ++ [v.toNat]).getD 0 0) + 1 :=
  ⟨letters { Mbox.empty with txPart := [1] } [], 5, 0, .host, 7#32, by decide +kernel⟩

theorem witness_MailboxQueues_1b : ∃ (s : State) (t n : Nat) (m : Master) (v : Word), n < 8 ∧ (s.pass t).takes m
    (MBOX_TX_OFF n) = true ∧ (s.mbox n).txCount ≠ 8 ∧ ((s.mbox n).txPart ++ [v.toNat]).length ≠ msgLen (((s.mbox
    n).txPart ++ [v.toNat]).getD 0 0) + 1 :=
  ⟨letters Mbox.empty [], 5, 7, .host, 2#32, by decide +kernel⟩

theorem witness_MailboxQueues_2 : ∃ (s : State) (t n : Nat) (m : Master), n < 8 ∧ (s.pass t).takes m (MBOX_TX_OFF n) =
    true ∧ (s.mbox n).txCount = 8 :=
  ⟨letters { Mbox.empty with tx := [[7, 0, 0, 0, 0, 0, 0, 0]] } [], 5, 0, .host, by decide +kernel⟩

theorem witness_MailboxQueues_3 : ∃ (s : State) (n w : Nat) (m : Reader) (r : List Nat) (rest : List (List Nat)), n <
    8 ∧ s.reaches m.master = true ∧ s.stalls (MBOX_RX_OFF n) = false ∧ (s.mbox n).rx = (w :: r) :: rest ∧ (s.mbox
    n).rxWait = [] :=
  ⟨letters { Mbox.empty with rx := [[1, 2]] } [], 0, 1, ⟨.host, 0, 1⟩, [2], [], by decide +kernel⟩

theorem witness_MailboxQueues_4 : ∃ (s : State) (n : Nat) (m : Reader), n < 8 ∧ s.reaches m.master = true ∧ s.stalls
    (MBOX_RX_OFF n) = false ∧ (s.mbox n).rx = [] ∧ LightSafe s :=
  ⟨up .dark [], 7, ⟨.host, 0, 4⟩, by decide +kernel⟩

theorem witness_MailboxQueues_5 : ∃ (s : State) (t n : Nat), n < 8 ∧ s.powered = true ∧ (s.mbox n).txPart ≠ [] ∧
    10000000 + (s.mbox n).txSince ≤ max s.now t :=
  ⟨letters { Mbox.empty with txPart := [3] } [], 10000000, 0, by decide +kernel⟩

theorem witness_MailboxQueues_6 : ∃ (s : State) (t n x : Nat) (w : List Nat), n < 8 ∧ s.powered = true ∧ (s.mbox
    n).rxWait = [(w, x)] ∧ 10000000 + x ≤ max s.now t ∧ s.records t = true :=
  ⟨letters { Mbox.empty with rxWait := [([5], 0)] } [], 10000000, 0, 0, [5], by decide +kernel⟩

theorem witness_MailboxQueues_7 : ∃ (s : State) (t n : Nat) (m : Master) (v : Word), n < 8 ∧ (s.pass t).takes m
    (MBOX_CH_CTRL_OFF n) = true ∧ v.toNat % 2 = 1 :=
  ⟨letters { Mbox.empty with tx := [[0]] } [], 5, 0, .host, 1#32, by decide +kernel⟩

theorem witness_FirmwareRequests_1 : ∃ (s : State) (ch : Nat) (msg : List Nat) (rest : List (List Nat)), s.asked ch 0
    msg rest :=
  ⟨letters { Mbox.empty with tx := [[0]] } [], 0, [0], [], by decide +kernel⟩

theorem witness_FirmwareRequests_2 : ∃ (s : State) (ch : Nat) (msg : List Nat) (rest : List (List Nat)), s.asked ch 1
    msg rest :=
  ⟨letters { Mbox.empty with tx := [[0x10000]] } [], 0, [0x10000], [], by decide +kernel⟩

theorem witness_FirmwareRequests_3 : ∃ (s : State) (ch : Nat) (msg : List Nat) (rest : List (List Nat)), ch < 8 ∧
    s.powered = true ∧ s.serves = true ∧ (s.mbox ch).got = [] ∧ (s.mbox ch).tx = msg :: rest ∧ s.goodRequest msg =
    false ∧ (s.mbox ch).rxWait = [] ∧ (s.mbox ch).rxCount ≤ 2 :=
  ⟨letters { Mbox.empty with tx := [[0x20000]] } [], 0, [0x20000], [], by decide +kernel⟩

theorem witness_FirmwareRequests_4a : ∃ (s : State) (ch : Nat) (msg : List Nat) (rest : List (List Nat)), s.asked ch
    0x100 msg rest ∧ s.slotState = true :=
  ⟨serving { Mbox.empty with tx := [[0x1000000]] } none, 0, [0x1000000], [], by decide +kernel⟩

theorem witness_FirmwareRequests_4b : ∃ (s : State) (ch : Nat) (msg : List Nat) (rest : List (List Nat)), s.asked ch
    0x100 msg rest ∧ s.slotState = false :=
  ⟨letters { Mbox.empty with tx := [[0x1000000]] } [], 0, [0x1000000], [], by decide +kernel⟩

theorem witness_FirmwareRequests_5a : ∃ (s : State) (ch st : Nat) (msg : List Nat) (rest : List (List Nat)), s.asked
    ch 0x101 msg rest ∧ msg.getD 4 0 ≠ 0 ∧ s.slotWriteStatus (msg.getD 1 0 % 2) (msg.getD 2 0) (msg.getD 3 0 + 2 ^ 32
    * (msg.getD 1 0 / 2 ^ 8 % 2)) (msg.getD 4 0) = st :=
  ⟨serving { Mbox.empty with tx := [[0x1010004, 1, 0, 0, 4096]] } none, 0, 0, [0x1010004, 1, 0, 0, 4096], [], by
    decide +kernel⟩

theorem witness_FirmwareRequests_5b : ∃ (s : State) (ch st : Nat) (msg : List Nat) (rest : List (List Nat)), s.asked
    ch 0x101 msg rest ∧ msg.getD 4 0 ≠ 0 ∧ s.slotWriteStatus (msg.getD 1 0 % 2) (msg.getD 2 0) (msg.getD 3 0 + 2 ^ 32
    * (msg.getD 1 0 / 2 ^ 8 % 2)) (msg.getD 4 0) = st :=
  ⟨serving { Mbox.empty with tx := [[0x1010004, 1, 1, 0, 4096]] } none, 0, 3, [0x1010004, 1, 1, 0, 4096], [], by
    decide +kernel⟩

theorem witness_FirmwareRequests_6 : ∃ (s : State) (ch : Nat) (msg : List Nat) (rest : List (List Nat)), s.asked ch
    0x102 msg rest ∧ s.slotState = true ∧ s.house.flashOp = none :=
  ⟨serving { Mbox.empty with tx := [[0x1020001, 1]] } none, 0, [0x1020001, 1], [], by decide +kernel⟩

theorem witness_FirmwareRequests_7 : ∃ (s : State) (ch : Nat) (msg : List Nat) (rest : List (List Nat)), s.asked ch
    0x103 msg rest ∧ s.slotState = true ∧ s.house.flashOp = none ∧ (s.slot (msg.getD 1 0 % 2)).verified = true ∧
    msg.getD 1 0 / 2 ^ 8 % 2 = 0 :=
  ⟨serving { Mbox.empty with tx := [[0x1030001, 1]] } none, 0, [0x1030001, 1], [], by decide +kernel⟩

theorem witness_FirmwareRequests_8a : ∃ (s : State) (f : FlashOp), s.powered = true ∧ s.house.flashOp = some f :=
  ⟨serving Mbox.empty (some ⟨0, 0x101, 1, 0, 0, 4096⟩), ⟨0, 0x101, 1, 0, 0, 4096⟩, by decide +kernel⟩

theorem witness_FirmwareRequests_8b : ∃ (s : State) (f : FlashOp), s.powered = true ∧ s.house.flashOp = some f :=
  ⟨serving Mbox.empty (some ⟨0, 0x102, 1, 0, 0, 0⟩), ⟨0, 0x102, 1, 0, 0, 0⟩, by decide +kernel⟩

theorem witness_LocksAndRecovery_1 : ∃ (s : State) (t : Nat) (m : Master), (s.pass t).takes m MBOX_DBELL_SET_OFF =
    true :=
  ⟨up .dark [], 5, .host, by decide +kernel⟩

theorem witness_LocksAndRecovery_2a : ∃ (s : State) (t n : Nat) (r : Reader) (w : Master), n < 16 ∧ s.reaches r.master
    = true ∧ s.stalls (LOCK_OFF n) = false ∧ (r.master = .host → n < 12) ∧ s.holder n = none ∧ (s.pass t).lockWinner n
    r.master = w :=
  ⟨up .dark [], 5, 11, ⟨.host, 0, 4⟩, .host, by decide +kernel⟩

theorem witness_LocksAndRecovery_2b : ∃ (s : State) (t n : Nat) (r : Reader) (w : Master), n < 16 ∧ s.reaches r.master
    = true ∧ s.stalls (LOCK_OFF n) = false ∧ (r.master = .host → n < 12) ∧ s.holder n = none ∧ (s.pass t).lockWinner n
    r.master = w :=
  ⟨up .dark [], 5, 15, ⟨.hkc3, 3, 1⟩, .hkc3, by decide +kernel⟩

theorem witness_LocksAndRecovery_2c : ∃ (s : State) (t n : Nat) (r : Reader) (w : Master), n < 16 ∧ s.reaches r.master
    = true ∧ s.stalls (LOCK_OFF n) = false ∧ (r.master = .host → n < 12) ∧ s.holder n = none ∧ (s.pass t).lockWinner n
    r.master = w :=
  ⟨{ up .dark [] with pending := [.lockRead 5 11 ⟨.hkc3, 0, 4⟩] }, 5, 11, ⟨.host, 0, 4⟩, .hkc3, by decide +kernel⟩

theorem witness_LocksAndRecovery_4 : ∃ (s : State) (n : Nat) (r : Reader) (h : Master), n < 16 ∧ s.reaches r.master =
    true ∧ s.stalls (LOCK_OFF n) = false ∧ s.holder n = some h ∧ h ≠ r.master ∧ LightSafe s :=
  ⟨locked, 3, ⟨.host, 0, 4⟩, .hkc0, by decide +kernel⟩

theorem witness_LocksAndRecovery_5 : ∃ (s : State) (t n : Nat) (m : Master) (v : Word), n < 16 ∧ (s.pass t).takes m
    (LOCK_OFF n) = true ∧ s.holder n = some m ∧ v.toNat % 2 = 1 :=
  ⟨locked, 5, 3, .hkc0, 1#32, by decide +kernel⟩

theorem witness_LocksAndRecovery_6 : ∃ (s : State) (t n : Nat) (m : Master), n < 16 ∧ (s.pass t).takes m (LOCK_OFF n)
    = true ∧ s.holder n ≠ some m ∧ LightSafe s :=
  ⟨locked, 5, 3, .host, by decide +kernel⟩

theorem witness_LocksAndRecovery_7a : ∃ (s : State), s.powered = true ∧ s.flag MBOX_STATUS_FW_READY = true :=
  ⟨locked, by decide +kernel⟩

theorem witness_LocksAndRecovery_7b : ∃ (s : State) (t : Nat), s.powered = true ∧ s.flag MBOX_STATUS_FW_READY = true ∧
    s.hk.holder.all (fun h => !h.2.isFw) = true ∧ s.records t = true :=
  ⟨up .dark [(MBOX_STATUS_FW_READY, 1)], 5, by decide +kernel⟩

theorem witness_LocksAndRecovery_8 : ∃ (s : State), s.powered = true ∧ s.romServes = false ∧ s.flag
    MBOX_STATUS_FW_READY = false :=
  ⟨up .dark [], by decide +kernel⟩

theorem witness_StopSequence_1 : ∃ (s : State) (q : StopSeq), s.house.stop = some q ∧ q.asking = false ∧
    s.house.pllUnlocked.contains 10 = false ∧ LightSafe s :=
  ⟨stopping false 0, ⟨some (0, 0), 0, false, 0⟩, by decide +kernel⟩

theorem witness_StopSequence_2 : ∃ (s : State) (q : StopSeq), s.house.stop = some q ∧ q.asking = false ∧
    s.house.pllUnlocked.contains 10 = false :=
  ⟨stopping false 0, ⟨some (0, 0), 0, false, 0⟩, by decide +kernel⟩

theorem witness_StopSequence_3a : ∃ (s : State) (q : StopSeq), s.house.stop = some q ∧ q.asking = true ∧ 0 < q.stopped
    ∧ q.stopped < 10 ∧ s.stopRefuses (stopOrder.getD q.stopped 0) q.waiter = false ∧ LightSafe s :=
  ⟨stopping true 9, ⟨some (0, 0), 0, true, 9⟩, by decide +kernel⟩

theorem witness_StopSequence_3b : ∃ (s : State) (q : StopSeq), s.house.stop = some q ∧ q.asking = true ∧ 0 < q.stopped
    ∧ q.stopped < 10 ∧ s.stopRefuses (stopOrder.getD q.stopped 0) q.waiter = false ∧ LightSafe s :=
  ⟨stopping true 1, ⟨some (0, 0), 0, true, 1⟩, by decide +kernel⟩

theorem witness_StopSequence_4 : ∃ (s : State) (q : StopSeq), s.house.stop = some q ∧ q.asking = true ∧ q.stopped = 0
    :=
  ⟨stopping true 0, ⟨some (0, 0), 0, true, 0⟩, by decide +kernel⟩

theorem witness_StopSequence_5 : ∃ (s : State) (q : StopSeq), s.house.stop = some q ∧ q.asking = true ∧ q.stopped = 10
    ∧ s.house.heldWake = none ∧ s.stopRefuses 1 q.waiter = false :=
  ⟨stopping true 10, ⟨some (0, 0), 0, true, 10⟩, by decide +kernel⟩

theorem witness_StopSequence_6a : ∃ (s : State) (q : StopSeq), s.house.stop = some q ∧ q.asking = true ∧ LightSafe s
    :=
  ⟨stopping true 0, ⟨some (0, 0), 0, true, 0⟩, by decide +kernel⟩

theorem witness_StopSequence_6b : ∃ (s : State) (q : StopSeq), s.house.stop = some q ∧ q.asking = true ∧ LightSafe s ∧
    s.stopRefuses (stopOrder.getD q.stopped 0) q.waiter = true :=
  ⟨refusing, ⟨some (0, 0), 0, true, 9⟩, by decide +kernel⟩

theorem witness_StopSequence_7 : ∃ (s : State) (q : StopSeq) (island : Nat), island < 16 ∧ q.waiter = some (0, 0) ∧ (∃
    e ∈ ((s.stopRefused q island).ring 0).inflight, e.index = 0) :=
  ⟨stopping true 10, ⟨some (0, 0), 0, true, 10⟩, 15, by decide +kernel⟩

theorem witness_PlainAccesses_1 : ∃ (s : State) (t off : Nat) (m : Master), (s.pass t).takes m off = true ∧ plainPath
    off = true ∧ m ≠ .guardA ∧ LightSafe s :=
  ⟨up .dark [], 5, 0x60000, .host, by decide +kernel⟩

theorem witness_PlainAccesses_2a : ∃ (s : State) (t i : Nat) (v : Word), i < 256 ∧ (s.pass t).takes .guardA
    (TONE_SREF_OFF i) = true ∧ getBits v.toNat 28 1 = 1 :=
  ⟨up .dark [], 5, 255, 0x10000000#32, by decide +kernel⟩

theorem witness_PlainAccesses_2b : ∃ (s : State) (t i : Nat) (v : Word), i < 256 ∧ (s.pass t).takes .guardA
    (TONE_SREF_OFF i) = true ∧ getBits v.toNat 28 1 = 0 :=
  ⟨up .dark [], 5, 0, 0#32, by decide +kernel⟩

theorem witness_PlainAccesses_3a : ∃ (s : State) (off : Nat) (m : Master), LightSafe s ∧ off % 4 = 0 ∧ s.writes m off
    = true ∧ (regAt off).isSome = true ∧ s.stalls off = true :=
  ⟨unlocked 4, 0x60000, .host, by decide +kernel⟩

theorem witness_PlainAccesses_3b : ∃ (s : State) (t off : Nat) (m : Master), LightSafe s ∧ off % 4 = 0 ∧ s.writes m
    off = true ∧ (regAt off).isSome = true ∧ s.stalls off = false ∧ (s.pass t).outranked m off = true :=
  ⟨overruled, 5, 0x60000, .host, by decide +kernel⟩

theorem witness_PlainAccesses_4a : ∃ (s : State) (off bytes : Nat) (m : Master), LightSafe s ∧ (bytes ≠ 4 ∨ off % 4 ≠
    0 ∨ s.writes m off = false ∨ regAt off = none) :=
  ⟨up .dark [], 0x60002, 4, .host, by decide +kernel⟩

theorem witness_PlainAccesses_4b : ∃ (s : State) (off bytes : Nat) (m : Master), LightSafe s ∧ (bytes ≠ 4 ∨ off % 4 ≠
    0 ∨ s.writes m off = false ∨ regAt off = none) :=
  ⟨up .dark [], 0x60000, 8, .host, by decide +kernel⟩

theorem witness_PlainAccesses_5 : ∃ (s : State) (off : Nat) (r : Reader), s.reaches r.master = true ∧ s.stalls off =
    false ∧ pairLower.contains off = true :=
  ⟨up .dark [], pairLower.getD 0 0, ⟨.host, 2, 1⟩, by decide +kernel⟩

theorem witness_PlainAccesses_6 : ∃ (s : State) (r : Reader), s.reaches r.master = true ∧ s.stalls STRIKE_FRAME_NO_OFF
    = false :=
  ⟨up .dark [], ⟨.guardB, 0, 4⟩, by decide +kernel⟩

theorem witness_LanesLockAndMark_1 : ∃ (s : State) (n : Nat), n < 10 ∧ s.laneHeld n = false ∧ s.get (laneLink n) = 1
    :=
  ⟨lanes 9 Lane.cold [(laneLink 9, 1)], 9, by decide +kernel⟩

theorem witness_LanesLockAndMark_2 : ∃ (s : State) (n sync : Nat), n < 10 ∧ s.laneHeld n = false ∧ 2 ≤ s.get (laneLink
    n) ∧ (s.lane n).locked = false ∧ (sync = 1 ∨ sync = 2) :=
  ⟨lanes 9 almost [(laneLink 9, 2)], 9, 2, by decide +kernel⟩

theorem witness_LanesLockAndMark_3 : ∃ (s : State) (t n sync : Nat), n < 10 ∧ s.laneHeld n = false ∧ 2 ≤ s.get
    (laneLink n) ∧ (s.lane n).locked = true ∧ (sync = 0 ∨ sync = 3) ∧ 15 ≤ (((s.lane n).window.take 63).filter
    id).length ∧ 3 ≤ s.get (laneLink n) ∧ s.records t = true :=
  ⟨lanes 9 losing [(laneLink 9, 3)], 5, 9, 3, by decide +kernel⟩

theorem witness_LanesLockAndMark_4a : ∃ (s : State) (n mc : Nat) (b : List Nat), n < 10 ∧ s.laneHeld n = false ∧ s.get
    (laneLink n) = 2 ∧ (s.lane n).locked = true ∧ (((s.lane n).window.take 63).filter id).length < 16 ∧ alignValid b =
    true ∧ (s.lane n).since = some 16383 ∧ ((s.lane n).marker.map (·.1) = some (b.getD 1 0 % 16)) ∧ field b 2 2 = mc ∧
    s.orderOk n (b.getD 1 0 % 16) = true :=
  ⟨lanes 3 paired [(laneLink 3, 2)], 3, 7, marker3, by decide +kernel⟩

theorem witness_LanesLockAndMark_4b : ∃ (s : State) (n mc : Nat) (b : List Nat), n < 10 ∧ s.laneHeld n = false ∧ s.get
    (laneLink n) = 2 ∧ (s.lane n).locked = true ∧ (((s.lane n).window.take 63).filter id).length < 16 ∧ alignValid b =
    true ∧ (s.lane n).since = some 16383 ∧ ((s.lane n).marker.map (·.1) = some (b.getD 1 0 % 16)) ∧ field b 2 2 = mc ∧
    s.orderOk n (b.getD 1 0 % 16) = false ∧ 5 ∈ s.twins n (b.getD 1 0 % 16) :=
  ⟨doubled, 3, 7, marker3, by decide +kernel⟩

theorem witness_LanesLockAndMark_5 : ∃ (s : State) (t n : Nat), n < 10 ∧ s.laneHeld n = false ∧ 3 ≤ s.get (laneLink n)
    ∧ s.records t = true :=
  ⟨lanes 9 paired [(laneLink 9, 4)], 5, 9, by decide +kernel⟩

theorem witness_StreamFrames_1a : ∃ (s : State) (t n g m : Nat) (b : List Nat), n < 10 ∧ s.deframe n = some g ∧
    s.streamOf g = some m ∧ (s.stream m).frame = none ∧ s.intake.stopped = false ∧ s.flag (CVU_UNIT_CFG_SELFTEST_OK 7)
    = true ∧ (s.pass t).sofCode n m b = 0 :=
  ⟨streams none 1, 5, 0, 0, 2, [0x78, 1, 2, 0, 0, 0, 0, 0], by decide +kernel⟩

theorem witness_StreamFrames_1b : ∃ (s : State) (t n g m : Nat) (b : List Nat), n < 10 ∧ s.deframe n = some g ∧
    s.streamOf g = some m ∧ (s.stream m).frame = none ∧ s.intake.stopped = false ∧ s.flag (CVU_UNIT_CFG_SELFTEST_OK 7)
    = true ∧ (s.pass t).sofCode n m b ≠ 0 :=
  ⟨streams none 1, 5, 0, 0, 2, [0x78, 2, 2, 0, 0, 0, 0, 0], by decide +kernel⟩

theorem witness_StreamFrames_2 : ∃ (s : State) (n g m : Nat) (f : StreamFrame), n < 10 ∧ s.deframe n = some g ∧
    s.streamOf g = some m ∧ (s.stream m).frame = some f ∧ f.nextLane = g ∧ f.blocks < 4 ∧ f.header.length < 24 :=
  ⟨streams (some ⟨0, 1, [], 1, 0⟩) 1, 0, 0, 2, ⟨0, 1, [], 1, 0⟩, by decide +kernel⟩

theorem witness_StreamFrames_3 : ∃ (s : State) (n g m : Nat) (b : List Nat) (f : StreamFrame), n < 10 ∧ s.deframe n =
    some g ∧ s.streamOf g = some m ∧ (s.stream m).frame = some f ∧ f.nextLane = g ∧ 5 ≤ f.blocks ∧ f.blocks - 5 <
    s.payloadBlocks m ∧ b.length = 8 :=
  ⟨streams (some ⟨0, 1, List.replicate 24 0, 5, 0⟩) 1, 0, 0, 2, [1, 2, 3, 4, 5, 6, 7, 8], ⟨0, 1, List.replicate 24 0,
    5, 0⟩, by decide +kernel⟩

theorem witness_StreamFrames_4 : ∃ (s : State) (n g m : Nat) (b : List Nat) (f : StreamFrame), n < 10 ∧ s.deframe n =
    some g ∧ s.streamOf g = some m ∧ (s.stream m).frame = some f ∧ f.map / 2 ^ g % 2 = 1 ∧ s.eofCode n m f b = 0 :=
  ⟨streams (some ⟨0, 1, List.replicate 24 0, 7, 0⟩) 1, 0, 0, 2, [0xB4, 2, 0, 0, 2, 0, 0, 0], ⟨0, 1, List.replicate 24
    0, 7, 0⟩, by decide +kernel⟩

theorem witness_StreamFrames_5 : ∃ (s : State) (t m : Nat), m < 8 ∧ s.flag (INTAKE_STR_CFG_ENABLE m) = true ∧ s.flag
    (INTAKE_STR_STATUS_UP m) = true ∧ (s.stream m).newestAt + s.streamLimit m ≤ max s.now t ∧ s.records t = true :=
  ⟨up .dark [(INTAKE_STR_CFG_ENABLE 7, 1), (INTAKE_STR_STATUS_UP 7, 1)], 100000000, 7, by decide +kernel⟩

theorem witness_LaneAndStreamControl_1a : ∃ (s : State) (t n : Nat) (m : Master) (v : Word), n < 8 ∧ (s.pass t).takes
    m (INTAKE_LANE_PWR_OFF n) = true ∧ s.house.mode.lanesRun = true ∧ v.toNat % 4 = 1 ∧ s.get (laneLink n) < 3 :=
  ⟨up .dark [], 5, 7, .host, 1#32, by decide +kernel⟩

theorem witness_LaneAndStreamControl_1b : ∃ (s : State) (t n : Nat) (m : Master) (v : Word), n < 8 ∧ (s.pass t).takes
    m (INTAKE_LANE_PWR_OFF n) = true ∧ s.house.mode.lanesRun = true ∧ v.toNat % 4 = 1 ∧ 3 ≤ s.get (laneLink n) :=
  ⟨up .dark [(laneLink 7, 3)], 5, 7, .host, 1#32, by decide +kernel⟩

theorem witness_LaneAndStreamControl_2 : ∃ (s : State) (t n : Nat), n < 10 ∧ 2 ≤ s.get (laneLink n) ∧ s.lanePow n ≠ 2
    ∧ s.flag INTAKE_EYE_STATUS_BUSY = false ∧ s.laneHeld n = false ∧ 1 ≤ (s.lane n).lowEyes ∧ s.records t = true :=
  ⟨lanes 7 losing [(laneLink 7, 2), (INTAKE_LANE_PWR_STATE 7, 0)], 5, 7, by decide +kernel⟩

theorem witness_LaneAndStreamControl_3a : ∃ (s : State) (t : Nat) (m : Master) (v : Word), (s.pass t).takes m
    INTAKE_EYE_CTRL_OFF = true ∧ s.flag INTAKE_EYE_STATUS_BUSY = false ∧ 2 ^ 31 ≤ v.toNat :=
  ⟨up .dark [], 5, .host, 4261412864#32, by decide +kernel⟩

theorem witness_LaneAndStreamControl_3b : ∃ (s : State) (t : Nat) (m : Master) (v : Word), (s.pass t).takes m
    INTAKE_EYE_CTRL_OFF = true ∧ s.flag INTAKE_EYE_STATUS_BUSY = false ∧ 2 ^ 31 ≤ v.toNat ∧ (getBits v.toNat 24 4 < 10
    ∧ 2 ≤ s.get (laneLink (getBits v.toNat 24 4)) ∧ s.lanePow (getBits v.toNat 24 4) ≠ 2) :=
  ⟨up .dark [(laneLink 7, 2), (INTAKE_LANE_PWR_STATE 7, 0)], 5, .host, 0x87000000#32, by decide +kernel⟩

theorem witness_LaneAndStreamControl_4 : ∃ (s : State), s.flag INTAKE_EYE_STATUS_BUSY = true :=
  ⟨up .dark [(INTAKE_EYE_STATUS_BUSY, 1)], by decide +kernel⟩

theorem witness_LaneAndStreamControl_5a : ∃ (s : State) (t k c : Nat) (m : Master) (v : Word), k < 8 ∧ (s.pass
    t).takes m (INTAKE_STR_CFG_OFF k) = true ∧ s.flag (INTAKE_STR_CFG_ENABLE k) = false ∧ 2 ^ 31 ≤ v.toNat ∧ ((s.pass
    t).setReg (INTAKE_STR_CFG_OFF k) (v.toNat &&& 0x4FFF00FF)).configCode k (s.trafficBut k) = c :=
  ⟨up .dark [(INTAKE_STR_SIZE_W 7, 2), (INTAKE_STR_SIZE_H 7, 2)], 5, 7, 0, .host, 0x803C0001#32, by decide +kernel⟩

theorem witness_LaneAndStreamControl_5b : ∃ (s : State) (t k c : Nat) (m : Master) (v : Word), k < 8 ∧ (s.pass
    t).takes m (INTAKE_STR_CFG_OFF k) = true ∧ s.flag (INTAKE_STR_CFG_ENABLE k) = false ∧ 2 ^ 31 ≤ v.toNat ∧ ((s.pass
    t).setReg (INTAKE_STR_CFG_OFF k) (v.toNat &&& 0x4FFF00FF)).configCode k (s.trafficBut k) = c :=
  ⟨up .dark [], 5, 7, 2, .host, 0x803C0000#32, by decide +kernel⟩

theorem witness_LaneAndStreamControl_6a : ∃ (s : State) (t k : Nat) (m : Master), k < 8 ∧ (s.pass t).takes m
    (INTAKE_STR_CFG_OFF k) = true ∧ s.flag (INTAKE_STR_CFG_ENABLE k) = true :=
  ⟨streams none 1, 5, 2, .host, by decide +kernel⟩

theorem witness_LaneAndStreamControl_6b : ∃ (s : State) (t k : Nat) (m : Master), k < 8 ∧ (s.pass t).takes m
    (INTAKE_STR_CFG_OFF k) = true ∧ s.flag (INTAKE_STR_CFG_ENABLE k) = true :=
  ⟨streams none 1, 5, 2, .host, by decide +kernel⟩

theorem witness_LaneAndStreamControl_7 : ∃ (s : State) (t k : Nat) (m : Master), k < 8 ∧ (s.pass t).takes m
    (INTAKE_STR_SIZE_OFF k) = true ∧ s.flag (INTAKE_STR_CFG_ENABLE k) = true :=
  ⟨streams none 1, 5, 2, .host, by decide +kernel⟩

theorem witness_LaneAndStreamControl_8 : ∃ (s : State) (t n : Nat) (m : Master) (v : Word), n < 8 ∧ (s.pass t).takes m
    (INTAKE_LANE_ERR_CLEAR_OFF n) = true ∧ v.toNat % 2 = 1 ∧ LightSafe s :=
  ⟨up .dark [], 5, 7, .host, 1#32, by decide +kernel⟩

theorem witness_LaneAndStreamControl_9 : ∃ (s : State) (t k : Nat) (m : Master) (v : Word), k < 8 ∧ (s.pass t).takes m
    (INTAKE_STR_CLEAR_OFF k) = true ∧ v.toNat % 2 = 1 :=
  ⟨up .dark [], 5, 7, .host, 1#32, by decide +kernel⟩

theorem witness_MasksAndClamp_1 : ∃ (s : State), s.house.mode.running = true :=
  ⟨up .show [], by decide +kernel⟩

theorem witness_MasksAndClamp_2 : ∃ (s : State) (m : Mask), s.house.mode.running = true ∧ s.guards.deriving_ = some m
    :=
  ⟨masked, aMask, by decide +kernel⟩

theorem witness_MasksAndClamp_3 : ∃ (s : State) (sum : Nat) (p : Published), s.braid.waiting = some p ∧ p.verified =
    false ∧ sum % 2 ^ 32 = p.sum :=
  ⟨waitingMask, 77, ⟨aMask, 77, 0, false⟩, by decide +kernel⟩

theorem witness_MasksAndClamp_4 : ∃ (s : State) (t sum : Nat) (u : Bool) (p : Published), s.braid.waiting = some p ∧
    p.verified = false ∧ (sum % 2 ^ 32 ≠ p.sum ∨ u = true) ∧ s.records t = true :=
  ⟨waitingMask, 5, 78, false, ⟨aMask, 77, 0, false⟩, by decide +kernel⟩

theorem witness_MasksAndClamp_5 : ∃ (s : State), s.house.mode.running = true ∧ s.maskValid = false :=
  ⟨up .dark [], by decide +kernel⟩

theorem witness_MasksAndClamp_6 : ∃ (n m : Nat), n ≤ m ∧ 0 < m ∧ m < 65536 :=
  ⟨1, 2, by decide +kernel⟩

theorem witness_GuardsTogether_1 : ∃ (s : State), s.house.mode.running = true ∧ s.get GUARD_A_ZONE_HASH_HASH ≠ s.get
    GUARD_B_ZONE_HASH_HASH :=
  ⟨up .show [(GUARD_A_ZONE_HASH_HASH, 1)], by decide +kernel⟩

theorem witness_GuardsTogether_2 : ∃ (s : State) (t : Nat) (g : Guard), s.house.mode.running = true ∧ s.flag
    KEEPER_STATUS_FATAL = false ∧ 300000 + (match g with | .a => s.guards.recAtA | .b => s.guards.recAtB) ≤ max s.now
    t :=
  ⟨up .show [], 300000, .a, by decide +kernel⟩

theorem witness_GuardsTogether_3 : ∃ (s : State), s.house.mode = .safe ∧ s.flag GUARD_A_STATUS_SAFE = false :=
  ⟨up .safe [], by decide +kernel⟩

theorem witness_GuardsTogether_4 : ∃ (s : State), s.house.mode = .safe ∧ s.flag ⟨GUARD_B_STATUS_OFF, 31, 1⟩ = false :=
  ⟨up .safe [], by decide +kernel⟩

theorem witness_TerminalsAndEncoders_1 : ∃ (s : State), s.powered = true ∧ s.house.mode.running = true ∧ (s.levels
    0).1 = true :=
  ⟨up .show [(GUARD_A_INPUTS_STOP_A, 1)], by decide +kernel⟩

theorem witness_TerminalsAndEncoders_2a : ∃ (s : State) (t pair : Nat) (e : Nat × Nat), pair < 2 ∧
    s.house.mode.running = true ∧ s.guards.discSince.find? (fun e => e.1 / 4 == pair && decide (s.tDisc ≤ (max s.now t
    - e.2) + s.discSlack)) = some e ∧ s.records t = true :=
  ⟨apart 1, 3000000, 1, (5, 0), by decide +kernel⟩

theorem witness_TerminalsAndEncoders_2b : ∃ (s : State) (t pair : Nat) (e : Nat × Nat), pair < 2 ∧
    s.house.mode.running = true ∧ s.guards.discSince.find? (fun e => e.1 / 4 == pair && decide (s.tDisc ≤ (max s.now t
    - e.2) + s.discSlack)) = some e :=
  ⟨apart 0, 3000000, 0, (1, 0), by decide +kernel⟩

theorem witness_TerminalsAndEncoders_3 : ∃ (s : State) (i : Nat) (g : Guard) (bits : List Bool), s.powered = true ∧ i
    < 3 ∧ s.encAccepts g i bits false = true :=
  ⟨up .show [], 2, .b, goodFrame, by decide +kernel⟩

theorem witness_TerminalsAndEncoders_4 : ∃ (s : State) (t i : Nat) (g : Guard) (bits : List Bool) (high : Bool),
    s.powered = true ∧ i < 3 ∧ s.encAccepts g i bits high = false ∧ sget (fun _ => 0) s.guards.encBad (3 * guardNo g +
    i) = 2 ∧ s.house.mode.running = true ∧ s.records t = true :=
  ⟨badTwice, 5, 2, .b, goodFrame, true, by decide +kernel⟩

theorem witness_LightMeasurements_1 : ∃ (s : State) (ma : List (List Nat)), s.house.mode.running = true ∧ LightSafe s
    ∧ (∀ i, i < 256 → (((ma.getD (i / 4) []).getD (i % 4) 0 : Nat) : Rat) ≤ s.overLimit i) :=
  ⟨up .show [], [], by decide +kernel⟩

theorem witness_LightMeasurements_2 : ∃ (s : State) (i : Nat) (ma : List (List Nat)), s.house.mode.running = true ∧ i
    < 256 ∧ s.overLimit i < (((ma.getD (i / 4) []).getD (i % 4) 0 : Nat) : Rat) ∧ sget (fun _ => 0) s.guards.overRun i
    + 1 = clampN 1 16 (s.get GUARD_B_OVER_N_TRIP) :=
  ⟨overLit, 0, [[30000, 0, 0, 0]], by decide +kernel⟩

theorem witness_LightMeasurements_3 : ∃ (s : State) (code : Nat), s.flag GUARD_B_PHOTO_FITTED = true ∧
    s.house.mode.running = true ∧ s.get GUARD_B_PHOTO_MAX < min code 4095 ∧ s.guards.photoRun = 9 :=
  ⟨photoHigh, 4095, by decide +kernel⟩

theorem witness_LightMeasurements_4 : ∃ (s : State), s.flag GUARD_B_PHOTO_FITTED = true ∧ s.house.mode.running = true
    ∧ photoInRange (s.get GUARD_B_PHOTO_VALUE) = false ∧ s.flag GUARD_B_PHOTO_FAULT = false :=
  ⟨photoHigh, by decide +kernel⟩

theorem witness_SafetyNetworks_1 : ∃ (s : State) (tags len : Nat) (g : Guard), s.powered = true ∧ (s.net g).phyReset =
    false ∧ 64 ≤ len ∧ len ≤ 1522 ∧ tags ≤ 1 ∧ (s.net g).buffer.length < 8 ∧ LightSafe s :=
  ⟨netted 0 [], 1, 1522, .a, by decide +kernel⟩

theorem witness_SafetyNetworks_2a : ∃ (s : State) (at_ : Nat) (g : Guard) (b : List Nat) (rest : List (List Nat ×
    Nat)), s.powered = true ∧ (s.net g).buffer = (b, at_) :: rest ∧ s.copyCode g b ⟨b.take 28, at_⟩ = 0 :=
  ⟨netted 0 [(telegram, 3)], 3, .a, telegram, [], by decide +kernel⟩

theorem witness_SafetyNetworks_2b : ∃ (s : State) (at_ : Nat) (g : Guard) (b : List Nat) (rest : List (List Nat ×
    Nat)), s.powered = true ∧ (s.net g).buffer = (b, at_) :: rest ∧ 2 ≤ s.copyCode g b ⟨b.take 28, at_⟩ ∧ s.copyCode g
    b ⟨b.take 28, at_⟩ ≤ 6 :=
  ⟨netted 0 [([1], 3)], 3, .a, [1], [], by decide +kernel⟩

theorem witness_SafetyNetworks_3 : ∃ (s : State) (t : Nat) (g : Guard) (c : Copy), s.powered = true ∧ (s.net g).last =
    some c ∧ (s.net g).compared ≠ some c.seq ∧ (∀ d, (s.net (otherGuard g)).last = some d → d.seq ≠ c.seq) ∧ c.at_ +
    s.tgPeriod g ≤ max s.now t :=
  ⟨netted 1 [], 100000003, .a, aCopy, by decide +kernel, by decide +kernel, by decide +kernel, fun d h => (nomatch
    (show (none : Option Copy) = some d from h)), by decide +kernel⟩

theorem witness_SafetyNetworks_4a : ∃ (s : State) (t : Nat), s.house.mode.emitting = true ∧ (s.pass t).fresh .a =
    false ∧ (s.pass t).fresh .b = false ∧ s.linkActs = false ∧ s.flag GUARD_A_CFG_LINK_MODE = true :=
  ⟨up .show [(GUARD_A_CFG_LINK_MODE, 1)], 5, by decide +kernel⟩

theorem witness_SafetyNetworks_4b : ∃ (s : State) (t : Nat), s.house.mode.emitting = true ∧ (s.pass t).fresh .a =
    false ∧ (s.pass t).fresh .b = false ∧ s.linkActs = false ∧ s.flag GUARD_A_CFG_LINK_MODE = false :=
  ⟨up .show [], 5, by decide +kernel⟩

theorem witness_SafetyNetworks_5 : ∃ (s : State) (t : Nat) (g : Guard), s.house.mode.running = true ∧ (s.pass t).fresh
    g = false ∧ (s.pass t).fresh (otherGuard g) = true ∧ (s.net g).staleSeen = false ∧ s.records t = true :=
  ⟨netted 1 [], 5, .b, by decide +kernel⟩

theorem witness_SafetyNetworks_6 : ∃ (s : State) (g : Guard), s.powered = true ∧ (s.net g).phyReset = false :=
  ⟨netted 0 [], .b, by decide +kernel⟩

theorem witness_SafetyNetworks_7 : ∃ (s : State) (t : Nat) (g : Guard), s.powered = true ∧ (s.net g).phyReset = false
    ∧ (s.net g).phyMiss = 2 ∧ s.records t = true :=
  ⟨netted 0 [], 5, .b, by decide +kernel⟩

theorem witness_SafetyNetworks_8 : ∃ (s : State), s.powered = true ∧ LightSafe s :=
  ⟨up .dark [], by decide +kernel⟩

theorem witness_GuardSelfChecks_1 : ∃ (s : State) (kind : Nat) (g : Guard), s.house.mode.running = true ∧ testKind g
    kind = true :=
  ⟨up .show [], 26, .a, by decide +kernel⟩

theorem witness_GuardSelfChecks_2 : ∃ (s : State) (kind : Nat) (g : Guard), s.house.mode.running = true ∧ testKind g
    kind = true :=
  ⟨up .show [], 27, .b, by decide +kernel⟩

theorem witness_GuardSelfChecks_3 : ∃ (s : State) (t : Nat) (g : Guard) (c : Instr), s.house.mode.running = true ∧ c ∈
    [Instr.guardWatchdog t g, .guardMemory t g] :=
  ⟨up .show [], 5, .b, .guardMemory 5 .b, by decide +kernel⟩

theorem witness_GuardSelfChecks_4 : ∃ (s : State) (n k : Nat), s.powered = true ∧ n ∈ [1, 4, 9, 11] ∧ k ∈ [4, 8, 12,
    16, 20] :=
  ⟨up .dark [], 11, 20, by decide +kernel⟩

theorem witness_GuardSelfChecks_5 : ∃ (s : State) (t : Nat) (m : Master), (s.pass t).takes m CVU_CLEAR_OFF = true :=
  ⟨up .dark [], 5, .host, by decide +kernel⟩

theorem witness_LightPairAndStep_1 : ∃ (s : State), s.powered = true ∧ s.twinEn = true :=
  ⟨twin .dark 1 [], by decide +kernel⟩

theorem witness_LightPairAndStep_2 : ∃ (s : State), s.powered = true ∧ s.twinEn = true :=
  ⟨twin .dark 1 [], by decide +kernel⟩

theorem witness_LightPairAndStep_3 : ∃ (s : State), s.powered = true ∧ s.twinEn = true :=
  ⟨twin .dark 1 [], by decide +kernel⟩

theorem witness_LightPairAndStep_4 : ∃ (s : State), s.house.mode = .show ∧ s.twinEn = true ∧ s.flag
    SPLICE_STATUS_ARMED = true ∧ s.flag SPLICE_STATUS_STEPPED = false ∧ s.get SPLICE_STATUS_LIGHT_IN ≠ 1 :=
  ⟨twin .show 2 [(SPLICE_STATUS_ARMED, 1), (SPLICE_STATUS_LIGHT_IN, 0)], by decide +kernel⟩

theorem witness_LightPairAndStep_5 : ∃ (s : State), s.house.mode = .show ∧ s.twinEn = true ∧ s.flag
    SPLICE_STATUS_ARMED = true :=
  ⟨twin .show 2 [(SPLICE_STATUS_ARMED, 1), (SPLICE_STATUS_LIGHT_IN, 0)], by decide +kernel⟩

theorem witness_LightPairAndStep_6 : ∃ (s : State), s.house.mode = .show ∧ s.twinEn = true ∧ s.flag
    SPLICE_STATUS_ARMED = true :=
  ⟨twin .show 2 [(SPLICE_STATUS_ARMED, 1), (SPLICE_STATUS_LIGHT_IN, 0)], by decide +kernel⟩

theorem witness_LightPairAndStep_7 : ∃ (s : State) (t : Nat), s.house.mode = .show ∧ s.twinEn = true ∧ s.flag
    SPLICE_STATUS_JOIN = false ∧ s.peerJoins = false ∧ s.get SPLICE_STATUS_LIGHT_IN = 0 ∧ s.twin.lightSince + 4000 ≤
    max s.now t :=
  ⟨twin .show 2 [(SPLICE_STATUS_LIGHT_IN, 0)], 4000, by decide +kernel⟩

theorem witness_LightPairAndStep_8 : ∃ (s : State) (t x : Nat), s.twin.joinEndAt = some x ∧ s.house.mode = .show ∧
    s.flag SPLICE_STATUS_JOIN = false ∧ s.flag SPLICE_STATUS_ARMED = false ∧ 100000 + x ≤ max s.now t ∧ s.records t =
    true :=
  ⟨joinedAt0, 100000, 0, by decide +kernel⟩

theorem witness_LightConflictAndDark_1 : ∃ (s : State) (t : Nat), s.twinEn = true ∧ s.get SPLICE_STATUS_LIGHT_IN = 2 ∧
    s.twin.lightNoted = false ∧ 100000 + s.twin.lightSince ≤ max s.now t ∧ s.records t = true :=
  ⟨twin .dark 1 [(SPLICE_STATUS_LIGHT_IN, 2)], 100000, by decide +kernel⟩

theorem witness_LightConflictAndDark_2 : ∃ (s : State) (t x : Nat), s.twin.conflictSince = some x ∧ (s.pass
    t).litEvidence ≠ 0 ∧ (∀ c ∈ s.house.change, c.cause ≠ 7) ∧ 200000 + x ≤ max s.now t :=
  ⟨conflicting, 200000, 0, by decide +kernel⟩

theorem witness_LightConflictAndDark_3 : ∃ (s : State) (t m : Nat), s.house.mode.emitting = true ∧ (s.pass
    t).expectedMa / 2 ≤ (m : Rat) + 200 ∧ LightSafe s :=
  ⟨up .show [], 5, 0, by decide +kernel⟩

theorem witness_LightConflictAndDark_4 : ∃ (s : State) (t m : Nat), s.house.mode.emitting = true ∧ (m : Rat) + 200 <
    (s.pass t).expectedMa / 2 ∧ s.twin.lowRun = 3 ∧ s.twin.darkMade = false ∧ s.house.change = none ∧ (s.house.mode =
    .show ∨ s.twinEn = true) :=
  ⟨thriceLow .show, 5, 0, by decide +kernel⟩

theorem witness_TickWords_1 : ∃ (s : State), s.twinRuns = true ∧ s.twin.tickStopped = false :=
  ⟨twin .dark 1 [], by decide +kernel⟩

theorem witness_TickWords_2 : ∃ (s : State), s.twinRuns = true ∧ LightSafe s :=
  ⟨twin .dark 1 [], by decide +kernel⟩

theorem witness_TickWords_3 : ∃ (s : State) (w : Nat), s.twinRuns = true ∧ s.house.mode ≠ .stowed ∧ tickCheck w = w %
    16 :=
  ⟨twin .dark 1 [], 0x1001, by decide +kernel⟩

theorem witness_TickWords_4 : ∃ (s : State) (w : Nat), s.twinRuns = true ∧ s.house.mode ≠ .stowed ∧ tickCheck w ≠ w %
    16 :=
  ⟨twin .dark 1 [], 1, by decide +kernel⟩

theorem witness_TickWords_5 : ∃ (s : State), s.twinRuns = true ∧ s.house.mode ≠ .stowed :=
  ⟨twin .dark 1 [], by decide +kernel⟩

theorem witness_TickWords_6 : ∃ (s : State) (w : Nat), s.house.mode = .stowed ∧ s.twinEn = true ∧ s.twin.wakeSeen = 15
    ∧ tickCheck w = w % 16 ∧ getBits w 12 4 = 15 ∧ s.house.waking = none ∧ s.house.retryWait = false ∧ s.house.stop =
    none ∧ s.flag HOUSE_START_HELD = false :=
  ⟨fifteen, 0xF00F, by decide +kernel⟩

theorem witness_LeaseAndToken_1 : ∃ (s : State), s.sendsBoth :=
  ⟨twin .dark 1 [], by decide +kernel⟩

theorem witness_LeaseAndToken_2 : ∃ (s : State), s.sendsBoth ∧ s.role = 1 :=
  ⟨twin .dark 1 [], by decide +kernel⟩

theorem witness_LeaseAndToken_3 : ∃ (s : State) (t : Nat), s.twinRuns = true ∧ s.get SPLICE_STATUS_PAIR = 2 ∧ (s.pass
    t).bothSilent = true ∧ s.records t = true :=
  ⟨twin .dark 1 [(SPLICE_STATUS_PAIR, 2)], 30000000, by decide +kernel⟩

theorem witness_LeaseAndToken_4 : ∃ (s : State) (t : Nat), s.twinRuns = true ∧ s.role = 2 ∧ (s.pass t).bothSilent =
    true ∧ (∀ x ∈ s.twin.renewAt, 50000000 + x ≤ max s.now t) :=
  ⟨leaseOut, 50000000, by decide +kernel⟩

theorem witness_LeaseAndToken_5 : ∃ (s : State) (t : Nat), s.twinRuns = true ∧ (s.role ≠ 2 ∨ (s.pass t).bothSilent =
    false) ∧ LightSafe s :=
  ⟨twin .dark 1 [], 5, by decide +kernel⟩

theorem witness_LeaseAndToken_6 : ∃ (s : State) (t x : Nat), s.twin.swingDueAt = some x ∧ s.twinRuns = true ∧ s.role =
    1 ∧ s.get SPLICE_STATUS_PAIR = 2 ∧ s.spliceUp = true ∧ s.twin.swing = none ∧ x ≤ max s.now t :=
  ⟨swingReady, 5, 5, by decide +kernel⟩

theorem witness_SpliceMessages_1 : ∃ (s : State) (b : List Nat), s.hears 0 b :=
  ⟨unackedOne, frame 0 [], by decide +kernel⟩

theorem witness_SpliceMessages_2 : ∃ (s : State) (b : List Nat), s.hears 1 b ∧ s.get SPLICE_STATUS_PAIR = 1 ∧
    s.capsReason (capsOf (rxFrame b).data) = 0 :=
  ⟨twin .dark 0 [(SPLICE_STATUS_PAIR, 1)], frame 1 (caps 0), by decide +kernel⟩

theorem witness_SpliceMessages_3 : ∃ (s : State) (b : List Nat), s.hears 1 b ∧ s.get SPLICE_STATUS_PAIR = 1 ∧
    s.capsReason (capsOf (rxFrame b).data) ≠ 0 :=
  ⟨twin .dark 0 [(SPLICE_STATUS_PAIR, 1)], frame 1 (caps 1), by decide +kernel⟩

theorem witness_SpliceMessages_4 : ∃ (s : State) (b : List Nat), s.hears 2 b :=
  ⟨twin .dark 2 [], frame 2 [1, 0, 3, 0, 0, 0, 0, 0, 0, 0, 0, 0, 0, 0, 0, 0], by decide +kernel⟩

theorem witness_SpliceMessages_5 : ∃ (s : State) (b : List Nat), s.hears 3 b :=
  ⟨twin .dark 2 [], frame 3 [1, 0, 0, 0, 0, 0, 2, 0], by decide +kernel⟩

theorem witness_SpliceMessages_6a : ∃ (s : State) (b : List Nat), s.hears 7 b ∧ s.role = 2 ∧ (rxFrame b).data.getD 0 0
    = 1 ∧ (s.get SPLICE_STATUS_PAIR = 2 ∧ s.heartbeat.map (·.state) = some s.house.mode.num ∧ s.flag
    SPLICE_STATUS_RESYNC = false ∧ s.anyOpen = false) :=
  ⟨heardDark [], frame 7 [1, 0, 0, 0, 1, 0, 0, 0, 4, 0, 0, 0], by decide +kernel⟩

theorem witness_SpliceMessages_6b : ∃ (s : State) (b : List Nat), s.hears 7 b ∧ s.role = 2 ∧ (rxFrame b).data.getD 0 0
    = 1 ∧ s.flag SPLICE_STATUS_RESYNC = true :=
  ⟨heardDark [(SPLICE_STATUS_RESYNC, 1)], frame 7 [1, 0, 0, 0, 1, 0, 0, 0, 4, 0, 0, 0], by decide +kernel⟩

theorem witness_SpliceMessages_7 : ∃ (s : State) (b : List Nat) (w : Swing), s.hears 7 b ∧ s.role = 1 ∧ s.twin.swing =
    some w ∧ (rxFrame b).data.getD 0 0 = 2 ∧ field (rxFrame b).data 4 4 = w.newEpoch :=
  ⟨offered, frame 7 [2, 0, 0, 0, 1, 0, 0, 0, 4, 0, 0, 0], ⟨1, 4, false⟩, by decide +kernel⟩

theorem witness_SpliceMessages_8 : ∃ (s : State) (b : List Nat) (w : Swing), s.hears 7 b ∧ s.role = 1 ∧ s.twin.swing =
    some w ∧ (rxFrame b).data.getD 0 0 = 3 ∧ field (rxFrame b).data 4 4 = w.newEpoch :=
  ⟨offered, frame 7 [3, 0, 0, 0, 1, 0, 0, 0, 4, 0, 0, 0], ⟨1, 4, false⟩, by decide +kernel⟩

theorem witness_SpliceMessages_9 : ∃ (s : State) (t : Nat), (∃ u ∈ s.twin.unacked, (s.pass t).deadlinePassed u = false
    ∧ 200000 + u.sentAt ≤ max s.now t) :=
  ⟨unackedOne, 200000, by decide +kernel⟩

theorem witness_MirrorAndLink_1 : ∃ (s : State) (t : Nat) (b : List Nat), s.hears 5 b ∧ s.role = 2 ∧ (rxFrame
    b).data.getD 0 0 = 1 ∧ (s.pass t).applyInTime 1 (field (rxFrame b).data 4 4) = true :=
  ⟨twin .dark 2 [], 5, frame 5 ([1, 0, 0, 0, 4, 0, 0, 0] ++ bytesOf State.reset.timer.timing.words), by
    decide +kernel⟩

theorem witness_MirrorAndLink_2 : ∃ (s : State) (t : Nat) (b : List Nat), s.hears 5 b ∧ s.role = 2 ∧ (rxFrame
    b).data.getD 0 0 = 1 ∧ (s.pass t).applyInTime 1 (field (rxFrame b).data 4 4) = false ∧ s.records t = true :=
  ⟨twin .dark 2 [], 5, frame 5 ([1, 0, 0, 0, 0, 0, 0, 0] ++ bytesOf State.reset.timer.timing.words), by
    decide +kernel⟩

theorem witness_MirrorAndLink_3 : ∃ (s : State) (t : Nat) (b : List Nat), s.hears 5 b ∧ s.role = 2 ∧ (rxFrame
    b).data.getD 0 0 = 3 ∧ (s.pass t).applyInTime 3 (field (rxFrame b).data 4 4) = true :=
  ⟨twin .dark 2 [], 5, frame 5 ([3, 0, 0, 0, 4, 0, 0, 0] ++ bytesOf (16384 :: List.replicate 11 0)), by
    decide +kernel⟩

theorem witness_MirrorAndLink_4 : ∃ (s : State) (b : List Nat), s.hears 4 b ∧ s.role = 2 ∧ s.twin.segs = [] ∧ field
    (rxFrame b).data 4 4 = 0 ∧ field (rxFrame b).data 8 4 = ((rxFrame b).data.drop 16).length :=
  ⟨twin .dark 2 [], frame 4 ([0, 0, 0, 0, 0, 0, 0, 0, 8, 0, 0, 0, 0, 0, 0, 0, 0, 0, 0, 0, 4, 0, 0, 0]), by
    decide +kernel⟩

theorem witness_MirrorAndLink_5 : ∃ (s : State) (b : List Nat), s.hears 8 b ∧ s.role = 2 :=
  ⟨twin .dark 2 [], frame 8 (List.replicate 40 1), by decide +kernel⟩

theorem witness_MirrorAndLink_6 : ∃ (s : State) (b : List Nat), s.hears 8 b ∧ s.role = 1 :=
  ⟨twin .dark 1 [], frame 8 (List.replicate 40 1), by decide +kernel⟩

theorem witness_MirrorAndLink_7 : ∃ (s : State) (b : List Nat), s.timerRuns = true ∧ s.activeSource = 3 ∧ timingValid
    b = true ∧ (∀ l ∈ s.twin.lastTiming, 0 < frameDiff (field b 1 4) l) :=
  ⟨{ twin .dark 2 [] with timer := { State.reset.timer with timing := { State.reset.timer.timing with source := 3 } }
    }, [0x2D, 4, 0, 0, 0, 4, 0xA5, 0x3C], by decide +kernel⟩

theorem witness_MirrorAndLink_8 : ∃ (s : State), s.timerRuns = true ∧ s.activeSource = 3 :=
  ⟨{ twin .dark 2 [] with timer := { State.reset.timer with timing := { State.reset.timer.timing with source := 3 } }
    }, by decide +kernel⟩

theorem witness_MirrorAndLink_9 : ∃ (s : State) (t x : Nat), s.twinRuns = true ∧ s.spliceUp = false ∧ s.lanesAligned ≠
    0 ∧ s.twin.peerLanesAt = some x ∧ max s.now t ≤ 3000000 + x ∧ s.twin.peerLanes % 4 ≠ 0 :=
  ⟨heardLanes [(laneLink 8, 4)], 3000000, 0, by decide +kernel⟩

theorem witness_MirrorAndLink_10 : ∃ (s : State), s.spliceUp = true ∧ s.lanesAligned = 0 :=
  ⟨twin .dark 1 [], by decide +kernel⟩

theorem witness_ModeMessages_1 : ∃ (s : State) (t : Nat) (b : List Nat), s.hears 6 b ∧ (rxFrame b).data.getD 0 0 = 1 ∧
    s.role = 2 ∧ s.house.mode = .dark ∧ s.house.change = none ∧ s.house.stop = none ∧ (s.pass t).entryGround = none :=
  ⟨mayJoin [], 5, frame 6 [1, 0, 0, 0, 4, 0, 0, 0], by decide +kernel, by decide +kernel, by decide +kernel, by
    decide +kernel, by decide +kernel, by decide +kernel, mayJoin_enters⟩

theorem witness_ModeMessages_2 : ∃ (s : State) (t : Nat) (b : List Nat), s.hears 6 b ∧ (s.pass t).entryGround.isSome =
    true :=
  ⟨twin .dark 2 [], 5, frame 6 [1, 0, 0, 0, 4, 0, 0, 0], by decide +kernel⟩

theorem witness_ModeMessages_3 : ∃ (s : State) (b : List Nat), s.hears 6 b ∧ (rxFrame b).data.getD 0 0 = 2 ∧ s.role =
    2 ∧ s.flag SPLICE_STATUS_JOIN = true :=
  ⟨inJoin, frame 6 [2, 0, 0, 0, 4, 0, 0, 0], by decide +kernel⟩

theorem witness_ModeMessages_4 : ∃ (s : State) (b : List Nat), s.hears 6 b ∧ (rxFrame b).data.getD 0 0 = 3 ∧
    s.house.mode = .show ∧ (∀ c ∈ s.house.change, c.cause ∉ [3, 4, 7]) :=
  ⟨twin .show 1 [], frame 6 [3, 0, 0, 0, 4, 0, 0, 0], by decide +kernel⟩

theorem witness_ModeMessages_5a : ∃ (s : State) (b : List Nat) (m : Mode), s.hears 6 b ∧ (rxFrame b).data.getD 0 0 = 4
    ∧ s.role = 2 ∧ setTarget ((rxFrame b).data.getD 1 0) = some m ∧ m ≠ s.house.mode ∧ (s.house.mode.emitting = true ∨
    s.house.mode = .dark ∨ s.house.mode = .service) ∧ m = .stowed ∧ s.house.mode.emitting = true :=
  ⟨twin .show 2 [], frame 6 [4, 0, 0, 0, 4, 0, 0, 0], .stowed, by decide +kernel⟩

theorem witness_ModeMessages_5b : ∃ (s : State) (b : List Nat) (m : Mode), s.hears 6 b ∧ (rxFrame b).data.getD 0 0 = 4
    ∧ s.role = 2 ∧ setTarget ((rxFrame b).data.getD 1 0) = some m ∧ m ≠ s.house.mode ∧ (s.house.mode.emitting = true ∨
    s.house.mode = .dark ∨ s.house.mode = .service) ∧ m ≠ .stowed :=
  ⟨twin .dark 2 [], frame 6 [4, 5, 0, 0, 4, 0, 0, 0], .service, by decide +kernel⟩

theorem witness_ModeMessages_5c : ∃ (s : State) (b : List Nat) (m : Mode), s.hears 6 b ∧ (rxFrame b).data.getD 0 0 = 4
    ∧ s.role = 2 ∧ setTarget ((rxFrame b).data.getD 1 0) = some m ∧ m ≠ s.house.mode ∧ (s.house.mode.emitting = true ∨
    s.house.mode = .dark ∨ s.house.mode = .service) ∧ m = .stowed ∧ s.house.mode.emitting = false :=
  ⟨twin .dark 2 [], frame 6 [4, 0, 0, 0, 4, 0, 0, 0], .stowed, by decide +kernel⟩

theorem witness_ModeMessages_6 : ∃ (s : State) (b : List Nat), s.hears 6 b ∧ (rxFrame b).data.getD 0 0 = 5 ∧ s.role =
    2 ∧ s.house.mode = .show ∧ s.flag SPLICE_STATUS_JOIN = true :=
  ⟨inJoin, frame 6 [5, 0, 0, 0, 4, 0, 0, 0], by decide +kernel⟩

theorem witness_ModeMessages_7 : ∃ (s : State) (t : Nat) (j : Join), s.twin.joining = some j ∧ j.switch = none ∧
    5000000000 + j.since ≤ max s.now t ∧ s.records t = true :=
  ⟨joiningSince0, 5000000000, ⟨none, 0, false, false, 2, 0, true, none, 0, false⟩, by decide +kernel⟩

theorem witness_ModeMessages_8 : ∃ (s : State) (t x : Nat), s.twin.joining = none ∧ s.twin.joinSince = some x ∧
    5000000000 + x ≤ max s.now t ∧ s.house.mode = .show ∧ s.flag SPLICE_STATUS_JOIN = true :=
  ⟨inJoin, 5000000000, 0, by decide +kernel⟩

theorem witness_KeeperReports_1a : ∃ (s : State) (t : Nat) (r : Report) (f : FaultRow), s.powered = true ∧ faultRow
    r.code = some f ∧ f.cls ≤ 1 ∧ f.react = .nothing ∧ s.records t = true :=
  ⟨up .dark [], 5, ⟨0x0202, 2, 0, 0, 0, 0, 1⟩, ⟨0x0202, 1, some 1, 6, .nothing⟩, by decide +kernel⟩

theorem witness_KeeperReports_1b : ∃ (s : State) (t : Nat) (r : Report) (f : FaultRow), s.powered = true ∧ faultRow
    r.code = some f ∧ f.cls ≤ 1 ∧ f.react = .nothing ∧ max s.now t < s.keeper.busyUntil :=
  ⟨keeperBusy, 5, ⟨0x0001, 0, 0, 0, 0, 0, 0⟩, ⟨0x0001, 0, none, 4, .nothing⟩, by decide +kernel⟩

theorem witness_KeeperReports_2a : ∃ (s : State) (r : Report) (f : FaultRow), s.powered = true ∧ faultRow r.code =
    some f ∧ f.react = .dark :=
  ⟨up .show [], ⟨0x0601, 6, 0, 0, 0, 0, 1⟩, ⟨0x0601, 1, some 12, 8, .dark⟩, by decide +kernel⟩

theorem witness_KeeperReports_2b : ∃ (s : State) (c : Nat) (r : Report) (f : FaultRow), s.powered = true ∧ faultRow
    r.code = some f ∧ f.react = .safe c ∧ s.house.mode.running = true :=
  ⟨up .show [], 7, ⟨0x0703, 7, 0, 0, 0, 0, 1⟩, ⟨0x0703, 1, some 18, 11, .safe 7⟩, by decide +kernel⟩

theorem witness_KeeperReports_2c : ∃ (s : State) (r : Report) (f : FaultRow), s.powered = true ∧ faultRow r.code =
    some f ∧ f.react = .fatal ∧ s.flag KEEPER_STATUS_FATAL = false :=
  ⟨up .show [], ⟨0x0701, 7, 0, 0, 0, 0, 2⟩, ⟨0x0701, 2, none, 14, .fatal⟩, by decide +kernel⟩

theorem witness_KeeperReports_3 : ∃ (s : State) (t : Nat) (m : Master) (v : Word), (s.pass t).takes m KEEPER_CLEAR_OFF
    = true ∧ v.toNat < 40 ∧ s.keeper.clearing = none ∧ guardOf v.toNat = none :=
  ⟨up .dark [(openBit 1, 1)], 5, .host, 1#32, by decide +kernel⟩

theorem witness_KeeperReports_4 : ∃ (s : State) (t : Nat) (m : Master) (v : Word) (g : Guard), (s.pass t).takes m
    KEEPER_CLEAR_OFF = true ∧ v.toNat < 40 ∧ s.house.mode.running = true ∧ s.flag (openBit v.toNat) = true ∧ guardOf
    v.toNat = some g :=
  ⟨up .show [(openBit 25, 1)], 5, .host, 25#32, .a, by decide +kernel⟩

theorem witness_KeeperReports_5 : ∃ (s : State) (t : Nat) (m : Master), (s.pass t).takes m KEEPER_HIST_INDEX_OFF =
    true :=
  ⟨oneRecord, 5, .host, by decide +kernel⟩

theorem witness_KeeperReports_6 : ∃ (s : State), s.flag KEEPER_STATUS_FATAL = true ∧ s.flag MBOX_STATUS_FW_READY =
    true ∧ 10 ∉ s.house.pllUnlocked :=
  ⟨up .fatal [(KEEPER_STATUS_FATAL, 1), (MBOX_STATUS_FW_READY, 1)], by decide +kernel⟩

theorem witness_KeeperReports_7a : ∃ (s : State) (t : Nat), s.powered = true ∧ s.house.errPin = .fault ∧ s.errSources
    = 0 ∧ LightSafe s ∧ 10000000 + s.house.errSince ≤ max s.now t :=
  ⟨errAt0, 10000000, by decide +kernel⟩

theorem witness_KeeperReports_7b : ∃ (s : State) (t : Nat), s.powered = true ∧ s.house.errPin = .fault ∧ s.errSources
    = 0 ∧ LightSafe s ∧ max s.now t < 10000000 + s.house.errSince :=
  ⟨errAt0, 9999999, by decide +kernel⟩

theorem witness_FaultInjection_1 : ∃ (s : State) (t : Nat) (m : Master) (v : Word) (c : Instr), (s.pass t).takes m
    KEEPER_INJ_CTRL_OFF = true ∧ s.holder 10 ≠ some m ∧ c ∈ [Instr.injectGo t m v, .injectStop t m v] :=
  ⟨up .dark [], 5, .host, 1#32, .injectGo 5 .host 1#32, by decide +kernel⟩

theorem witness_FaultInjection_2 : ∃ (s : State) (t : Nat) (m : Master) (v : Word), (s.pass t).takes m
    KEEPER_INJ_CTRL_OFF = true ∧ s.holder 10 = some m ∧ s.injectCode (v.toNat % 2 ^ 16) (s.reg KEEPER_INJ_SUBJECT_OFF)
    (v.toNat.testBit 29) ≠ 0 :=
  ⟨holdsTen none [], 5, .host, 0xFFFF#32, by decide +kernel⟩

theorem witness_FaultInjection_3 : ∃ (s : State) (t : Nat) (m : Master) (v : Word), (s.pass t).takes m
    KEEPER_INJ_CTRL_OFF = true ∧ s.holder 10 = some m ∧ s.injectCode (v.toNat % 2 ^ 16) (s.reg KEEPER_INJ_SUBJECT_OFF)
    (v.toNat.testBit 29) = 0 ∧ v.toNat.testBit 29 = false ∧ s.records t = true :=
  ⟨holdsTen none [], 5, .host, 0x80000101#32, by decide +kernel⟩

theorem witness_FaultInjection_4 : ∃ (s : State) (t : Nat) (m : Master) (i : Injection), (s.pass t).takes m
    KEEPER_INJ_CTRL_OFF = true ∧ s.holder 10 = some m ∧ s.keeper.inj = some i :=
  ⟨holdsTen (some ⟨0x0101, 0, false, 0, 90⟩) [], 5, .host, ⟨0x0101, 0, false, 0, 90⟩, by decide +kernel⟩

theorem witness_FaultInjection_5 : ∃ (s : State) (t : Nat) (i : Injection), s.keeper.inj = some i ∧ i.endsAt ≤ max
    s.now t :=
  ⟨holdsTen (some ⟨0x0101, 0, false, 0, 90⟩) [], 90, ⟨0x0101, 0, false, 0, 90⟩, by decide +kernel⟩

theorem witness_FaultInjection_6 : ∃ (s : State) (t : Nat), (∀ i ∈ s.keeper.inj, max s.now t < i.endsAt) ∧ LightSafe s
    :=
  ⟨holdsTen (some ⟨0x0101, 0, false, 0, 90⟩) [], 89, by decide +kernel⟩

end Sys2Proof.Tests
end

section
/-! PROOF. The canonical forms of the register file and of module DRAM (R17, R25, R49): each operation of the model keeps them,
in the order of the operations, then each command, then a step. -/

namespace Sys2Proof.Machine

/-- The register file and module DRAM are in their canonical forms. -/
def State.Formed (s : State) : Prop := Canon coldReg s.regs ∧ Mem.wf s.dram

namespace State.Formed

variable {s : State}

/-- The parts of a state beside its registers and DRAM may be any. -/
theorem same {now freeCtr : Nat} {pending : List Instr} {out : List Output} {shadows : List (Master × Nat × Nat)}
    {access : Accesses} {house : House} {keeper : Keeper} {host : HostIsl} {hk : Hk} {intake : Intake} {braid : Braid}
    {warp : Warp} {tone : Tone} {anode : Anode} {timer : Timer} {array : EmArray} {guards : Guards} {twin : Twin}
    (h : s.Formed) : (State.mk now pending freeCtr s.regs s.dram out shadows access house keeper host hk intake braid warp
      tone anode timer array guards twin).Formed := h

/-- A state with other registers, canonical ones, and the same DRAM. -/
theorem withRegs {s' : State} (h : s.Formed) (hr : Canon coldReg s'.regs) (hd : s'.dram = s.dram) : s'.Formed :=
  ⟨hr, hd ▸ h.2⟩

/-- A state with other DRAM, canonical, and the same registers. -/
theorem withDram {s' : State} (h : s.Formed) (hd : Mem.wf s'.dram) (hr : s'.regs = s.regs) : s'.Formed :=
  ⟨hr ▸ h.1, hd⟩

/-- Either branch is formed. -/
theorem ite {c : Prop} [Decidable c] {a b : State} (ha : a.Formed) (hb : b.Formed) : (if c then a else b).Formed := by
  split
  · exact ha
  · exact hb

/-- Either of two pairs holds a formed state. -/
theorem iteSnd {α : Type} {c : Prop} [Decidable c] {p q : α × State} (hp : p.2.Formed) (hq : q.2.Formed) :
    (if c then p else q).2.Formed := by
  split
  · exact hp
  · exact hq

/-- Either of two pairs holds a formed state. -/
theorem iteFst {α : Type} {c : Prop} [Decidable c] {p q : State × α} (hp : p.1.Formed) (hq : q.1.Formed) :
    (if c then p else q).1.Formed := by
  split
  · exact hp
  · exact hq

/-- The state taken from a pair by a match. -/
theorem snd {α : Type} {p : α × State} {a : α} {s' : State} (h : p.2.Formed) (e : p = (a, s')) : s'.Formed := by
  rw [e] at h
  exact h

/-- The state taken from a pair by a match. -/
theorem fst {α : Type} {p : State × α} {a : α} {s' : State} (h : p.1.Formed) (e : p = (s', a)) : s'.Formed := by
  rw [e] at h
  exact h

/-- A loop whose body keeps the forms keeps them. -/
theorem foldl {β : Type} {l : List β} {f : State → β → State} (h : s.Formed) (hf : ∀ s b, s.Formed → (f s b).Formed) :
    (l.foldl f s).Formed := by
  induction l generalizing s with
  | nil => exact h
  | cons b l ih => exact ih (hf s b h)

theorem set {f : Field} {v : Nat} (h : s.Formed) : (s.set f v).Formed := h.withRegs (fset_canon f v h.1) rfl

theorem setReg {off v : Nat} (h : s.Formed) : (s.setReg off v).Formed := h.withRegs (sput_canon _ _ h.1) rfl

open Reg

/-! ### The named operations (Machine/Ops) -/

theorem setFlag {f : Field} {b : Bool} (h : s.Formed) : (s.setFlag f b).Formed := h.set

theorem marked {f : Field} (h : s.Formed) : (s.marked f).Formed := h.same

theorem latch {f : Field} (h : s.Formed) : (s.latch f).Formed := h.set.marked

theorem bumpBy {f : Field} {n : Nat} (h : s.Formed) : (s.bumpBy f n).Formed := h.set

theorem bump {f : Field} (h : s.Formed) : (s.bump f).Formed := h.bumpBy

theorem count {f : Field} (h : s.Formed) : (s.count f).Formed := h.set

theorem at_ {t : Nat} (h : s.Formed) : (s.at_ t).Formed := h.same

theorem emit {o : Output} (h : s.Formed) : (s.emit o).Formed := h.same

theorem toHost {o : Output} (h : s.Formed) : (s.toHost o).Formed := .ite h.emit h.same

theorem msix {v : Nat} (h : s.Formed) : (s.msix v).Formed := .ite h.set h.toHost

theorem raise {k : Nat} (h : s.Formed) : (s.raise k).Formed := .ite h.marked (.ite h.latch.msix h.latch)

theorem free (h : s.Formed) : s.free.2.Formed := h.same

/-- A check-value unit's registers stay canonical where the change to them does. -/
theorem cvuSet {n : Nat} {f : List (Nat × BitVec 32) → List (Nat × BitVec 32)} (h : s.Formed)
    (hf : ∀ r, Canon coldReg r → Canon coldReg (f r)) : (s.cvuSet n f).Formed :=
  .ite h.same (h.withRegs (hf _ h.1) rfl)

theorem cvuPass {n value : Nat} (h : s.Formed) : (s.cvuPass n value).Formed :=
  h.cvuSet fun _ hr => fset_canon _ _ (fset_canon _ _ (fset_canon _ _ hr))

theorem cvuFail {n value expected : Nat} (h : s.Formed) : (s.cvuFail n value expected).Formed :=
  (Formed.ite h h.marked).cvuSet fun _ hr =>
    fset_canon _ _ (fset_canon _ _ (fset_canon _ _ (fset_canon _ _ (fset_canon _ _ (fset_canon _ _ hr)))))

theorem cvuCopy (h : s.Formed) : s.cvuCopy.Formed := by
  unfold State.cvuCopy
  extract_lets s1 _ s2
  have h1 : s1.Formed := h.foldl fun _ _ h => h.foldl fun _ _ h => .ite h (h.withRegs (sput_canon _ _ h.1) rfl)
  have h2 : s2.Formed := h1.foldl fun _ _ h => .ite h.latch h
  exact h2.same

/-! ### Operations that many commands share (Machine/Report) -/

theorem setRing {n : Nat} {r : Ring} (h : s.Formed) : (s.setRing n r).Formed := h.same

theorem ringMsg {n : Nat} (h : s.Formed) : (s.ringMsg n).Formed := .ite h.setRing.msix h.setRing

theorem ringSummary (h : s.Formed) : s.ringSummary.Formed := h.setFlag.set.set.set.set

theorem setRingState {n st : Nat} (h : s.Formed) : (s.setRingState n st).Formed := h.set.ringSummary

theorem writeRecord {n : Nat} {words : List Nat} (h : s.Formed) : (s.writeRecord n words).Formed :=
  h.toHost.toHost.set.set.ringMsg

theorem deliver {words : List Nat} {n : Nat} (h : s.Formed) : (s.deliver words n).Formed :=
  .ite h.writeRecord h.setRing.bump

theorem event {e : Event} (h : s.Formed) : (s.event e).Formed := h.same.foldl fun _ _ h => h.deliver

theorem overflow {n : Nat} (h : s.Formed) : (s.overflow n).Formed := .ite h h.same.setRing.writeRecord

theorem finish {ring index status detail result : Nat} (h : s.Formed) :
    (s.finish ring index status detail result).Formed :=
  h.setRing

theorem answer {w : Option (Nat × Nat)} {status detail : Nat} (h : s.Formed) : (s.answer w status detail).Formed := by
  unfold State.answer
  split
  · exact h
  · exact h.finish

theorem sendSplice {type : Nat} {keep : Option Deadline} {ackSeq : Nat} {payload : List Nat} (h : s.Formed) :
    (s.sendSplice type keep ackSeq payload).Formed :=
  .ite h h.same.emit.cvuPass

theorem setEvent {e : Event} (h : s.Formed) : (s.setEvent e).Formed :=
  .ite (.ite h.set.same.event.sendSplice h.set.same.event) (.ite (.ite h.sendSplice h) h.event)

theorem twinEvent {code : Nat} {setLevel : Bool} {w8 : Nat} (h : s.Formed) : (s.twinEvent code setLevel w8).Formed :=
  (Formed.ite h.setEvent h.event).raise

theorem setPair {p : Nat} (h : s.Formed) : (s.setPair p).Formed := .ite h h.set.raise

theorem setMbox {n : Nat} {m : Mbox} (h : s.Formed) : (s.setMbox n m).Formed :=
  h.same.set.setFlag.set.setFlag.set.setFlag.set.setFlag.setFlag.setFlag

theorem bell {b : Nat} (h : s.Formed) : (s.bell b).Formed := .ite h.latch (.ite h.latch.raise h.latch.same)

theorem wakeHkc1 (h : s.Formed) : s.wakeHkc1.Formed := h.same

theorem notifyHost {n : Nat} (h : s.Formed) : (s.notifyHost n).Formed := .ite h.bell h.raise

theorem notifyFw {n : Nat} (h : s.Formed) : (s.notifyFw n).Formed := .ite h.bell h.wakeHkc1

theorem fwReadAll (h : s.Formed) : s.fwReadAll.Formed := h.foldl fun _ _ h => .ite h h.setMbox

theorem fwSend {n : Nat} {msg : List Nat} (h : s.Formed) : (s.fwSend n msg).Formed :=
  .ite h.setMbox.notifyHost h.fwReadAll.setMbox

theorem notice {code : Nat} {data : List Nat} (h : s.Formed) : (s.notice code data).Formed :=
  .ite h (h.foldl fun _ _ h => h.fwSend)

theorem mboxMode (h : s.Formed) : s.mboxMode.Formed := by
  unfold State.mboxMode
  extract_lets _ _ _ _ s2
  have h2 : s2.Formed := .ite h.setFlag.wakeHkc1 h.setFlag
  exact .ite h (.ite ((h.setFlag.foldl fun _ _ h => h.bell).foldl fun _ _ h => h.bell) (.ite h2.raise h2))

theorem driveErr (h : s.Formed) : s.driveErr.Formed := h.set.set.same.setFlag

theorem driveLight (h : s.Formed) : s.driveLight.Formed := h.same.setFlag

theorem disableA (h : s.Formed) : s.disableA.Formed := h.set

theorem disableB (h : s.Formed) : s.disableB.Formed := h.set

theorem disable (h : s.Formed) : s.disable.Formed := h.disableA.disableB.same

theorem touch (h : s.Formed) : s.touch.Formed := h.same

theorem hold {why : Hold} {band colour : Nat} (h : s.Formed) : (s.hold why band colour).Formed :=
  (Formed.ite h.same.same.touch h.same.same).set

theorem holdAll {why : Hold} (h : s.Formed) : (s.holdAll why).Formed := h.foldl fun _ _ h => h.hold

theorem unhold {p : Hold → Bool} (h : s.Formed) : (s.unhold p).Formed := h.same

theorem gate {why : Gate} {i : Nat} (h : s.Formed) : (s.gate why i).Formed := (Formed.ite h.same h.same.touch).set

theorem gateAll {why : Gate} (h : s.Formed) : (s.gateAll why).Formed := h.foldl fun _ _ h => h.gate

theorem ungate {p : Gate × Nat → Bool} (h : s.Formed) : (s.ungate p).Formed := h.same

theorem showRailLim (h : s.Formed) : s.showRailLim.Formed := h.foldl fun _ _ h => h.setFlag

theorem stopBucks (h : s.Formed) : s.stopBucks.Formed := (h.set.set.foldl fun _ _ h => h.set).showRailLim

theorem showChange (h : s.Formed) : s.showChange.Formed := by
  unfold State.showChange
  extract_lets
  split
  · exact h.setFlag.set
  · exact h.setFlag.set
  · exact h.setFlag.set
  · exact h.setFlag.set

theorem setChange {c : Option Change} (h : s.Formed) : (s.setChange c).Formed := h.same.showChange

theorem setShare {g : Guard} {sigma : Nat} (h : s.Formed) : (s.setShare g sigma).Formed := by
  unfold State.setShare
  split
  · exact h.same.set
  · exact h.same.set

theorem enterTwin {m : Mode} (h : s.Formed) : (s.enterTwin m).Formed := by
  unfold State.enterTwin
  extract_lets s1
  have h1 : s1.Formed := h.foldl fun _ _ h => h.setFlag
  split
  · exact (h.foldl fun _ _ h => h.setFlag).same.set.set
  · exact (h.foldl fun _ _ h => h.setFlag).same.set.set
  · exact (h.foldl fun _ _ h => h.setFlag).same.set.set
  · exact h1.same.set.set

theorem enter {m : Mode} {cause safety : Nat} (h : s.Formed) : (s.enter m cause safety).Formed := by
  unfold State.enter
  extract_lets _ _ _ _ s2 _ _ _ _ _ s7
  have h2 : s2.Formed := .ite h.same.set h.same
  have h7 : s7.Formed :=
    .ite h2.set.set.set.enterTwin.setShare.setShare.setEvent h2.set.set.set.enterTwin.setShare.setShare.event
  exact h7.raise.notice.mboxMode.driveErr.driveLight

theorem abandon {status detail : Nat} (h : s.Formed) : (s.abandon status detail).Formed := by
  unfold State.abandon
  extract_lets s1 s2 s3 s4
  have h1 : s1.Formed := by
    unfold s1
    split
    · exact h
    · exact h.answer
  have h2 : s2.Formed := by
    unfold s2
    split
    · exact h1
    · exact h1.answer
  have h3 : s3.Formed := by
    unfold s3
    split
    · exact h2
    · exact h2.answer
  have h4 : s4.Formed := by
    unfold s4
    split
    · exact h3
    · exact h3.answer
  exact h4.same.showChange

theorem safetyEvent {g : Guard} {code chan colour subject value limit cause : Nat} (h : s.Formed) :
    (s.safetyEvent g code chan colour subject value limit cause).Formed :=
  h.event.raise

theorem setSafe {g : Guard} {safe : Bool} {cause : Nat} (h : s.Formed) : (s.setSafe g safe cause).Formed := by
  unfold State.setSafe
  split
  · exact h.setFlag.set
  · exact h.setFlag.set

theorem setCause {safe : Bool} {cause : Nat} (h : s.Formed) : (s.setCause safe cause).Formed := h.setSafe.setSafe

theorem ownPaths {g : Guard} (h : s.Formed) : (s.ownPaths g).Formed := by
  unfold State.ownPaths
  extract_lets
  split
  · exact h.same.gateAll.disableA
  · exact h.same.holdAll.disableB

theorem lose {cls : Nat} (h : s.Formed) : (s.lose cls).Formed := .ite h.bump.latch.raise h.bump.latch

theorem record {r : Report} {cls : Nat} {real injected : Bool} (h : s.Formed) :
    (s.record r cls real injected).Formed :=
  .ite h.same.set.event.raise h.same.set.event

theorem collect {r : Report} {real injected react strict : Bool} (h : s.Formed) :
    (s.collect r real injected react strict).Formed := by
  unfold State.collect
  extract_lets _ _ _ s2
  have h2 : s2.Formed := by
    unfold s2
    split
    · split
      · exact .ite h.bump.set h.bump
      · exact h.bump
    · exact h.bump
  exact .ite h2.lose h2.record

theorem note {r : Report} (h : s.Formed) : (s.note r).Formed := h.collect.driveErr

theorem noteFault {code source subject : Nat} (h : s.Formed) : (s.noteFault code source subject).Formed := h.note

/-! ### Link states of the lanes (Machine/Lanes) -/

theorem setLane {n : Nat} {l : Lane} (h : s.Formed) : (s.setLane n l).Formed := h.same

theorem setStream {m : Nat} {r : Stream} (h : s.Formed) : (s.setStream m r).Formed := h.same

theorem showLane {n : Nat} (h : s.Formed) : (s.showLane n).Formed := .ite h.setFlag h

theorem streamDown {m cause : Nat} (h : s.Formed) : (s.streamDown m cause).Formed :=
  .ite h.set.set.set h.set.set.set.event.note

theorem discard {m code : Nat} (h : s.Formed) : (s.discard m code).Formed :=
  .ite h.setStream.bump.set h.setStream.bump.set.note

theorem laneLeaves {logical : Nat} (h : s.Formed) : (s.laneLeaves logical).Formed := by
  unfold State.laneLeaves
  split
  · exact h
  · extract_lets s1
    have h1 : s1.Formed := by
      unfold s1
      split
      · exact .ite h.discard h
      · exact h
    exact .ite h1.streamDown h1

theorem eyeCut {n : Nat} (h : s.Formed) : (s.eyeCut n).Formed := .ite h.set.set.set h

theorem laneFalls {n link : Nat} {note : Bool} (h : s.Formed) : (s.laneFalls n link note).Formed := by
  unfold State.laneFalls
  extract_lets _ _ _ _ s2 s3
  have h2 : s2.Formed := .ite h.set.showLane.eyeCut h.set.showLane
  have h3 : s3.Formed := .ite h2.laneLeaves h2
  exact .ite h2 (.ite h3 (.ite h3.latch.set.set.noteFault h3.latch.set.set))

theorem laneOff {n : Nat} (h : s.Formed) : (s.laneOff n).Formed := h.laneFalls.setLane

theorem laneTrain {n : Nat} (h : s.Formed) : (s.laneTrain n).Formed := .ite h.set h

theorem lanesOff (h : s.Formed) : s.lanesOff.Formed := h.foldl fun _ _ h => h.laneOff

/-! ### Reactions to a fault (Machine/React) -/

theorem enterSafe {g : Guard} {cause : Nat} (h : s.Formed) : (s.enterSafe g cause).Formed := by
  unfold State.enterSafe
  split
  · exact h.abandon.ownPaths.setSafe.stopBucks.emit.enter.same.safetyEvent
  · exact h.abandon.ownPaths.setSafe.stopBucks.emit.enter.same.safetyEvent
  · exact h.abandon.ownPaths.setSafe.stopBucks.emit.enter.same.safetyEvent
  · exact h.abandon.ownPaths.setSafe.stopBucks.emit.enter.same.safetyEvent
  · exact h.abandon.ownPaths.setSafe.stopBucks.emit.enter.same.safetyEvent
  · exact .ite h.setCause h
  · exact h

theorem unpair (h : s.Formed) : s.unpair.Formed := h.setPair

theorem enterFatal {code : Nat} (h : s.Formed) : (s.enterFatal code).Formed :=
  .ite h h.set.set.same.abandon.disable.holdAll.gateAll.stopBucks.enter.unpair.lanesOff

theorem reactDark (h : s.Formed) : s.reactDark.Formed := by
  unfold State.reactDark
  extract_lets
  split
  · exact .ite h.disable h.disable.abandon.setChange
  · exact .ite h.disable h.disable.abandon.setChange
  · exact h.disable

theorem react {code source : Nat} {k : Reaction} (h : s.Formed) : (s.react code source k).Formed := by
  unfold State.react
  split
  · exact h
  · exact h.reactDark
  · exact h.enterSafe
  · exact h.enterFatal
  · exact .ite h h.enterSafe

theorem accept {r : Report} {real injected react strict : Bool} (h : s.Formed) :
    (s.accept r real injected react strict).Formed :=
  (Formed.ite h.collect.react h.collect).driveErr

theorem report {r : Report} (h : s.Formed) : (s.report r).Formed := h.accept

theorem fault {code source subject : Nat} (h : s.Formed) : (s.fault code source subject).Formed := h.report

theorem faultVal {code source subject value limit : Nat} (h : s.Formed) :
    (s.faultVal code source subject value limit).Formed :=
  h.report

theorem selfDark (h : s.Formed) : s.selfDark.Formed := h.disable.stopBucks.abandon.enter.same.fault

theorem endInjection (h : s.Formed) : s.endInjection.Formed := h.same.set

theorem freeLock {n : Nat} (h : s.Formed) : (s.freeLock n).Formed :=
  .ite h.same.set.set.set.set.set.set.endInjection h.same.set.set.set.set.set.set

theorem forceLock {n : Nat} (h : s.Formed) : (s.forceLock n).Formed := h.freeLock.bump.fault

theorem forceLocks {p : Master → Bool} (h : s.Formed) : (s.forceLocks p).Formed := h.foldl fun _ _ h => h.forceLock

/-! ### The passing of time and DRAM bandwidth (Machine/Pool) -/

theorem mw2Burst {r : Bool × Nat × List Nat × Nat} (h : s.Formed) : (s.mw2Burst r).1.Formed :=
  .iteFst (h.withDram (Mem.writes_wf _ _ _ h.2) rfl) (.iteFst h.same.emit h.same)

theorem mw2Go {k : Nat} (h : s.Formed) : (s.mw2Go k).Formed := by
  induction k generalizing s with
  | zero => exact h
  | succ k ih =>
    unfold State.mw2Go
    split
    · exact h
    · exact .ite h (ih h.mw2Burst.same)

theorem mw2Run (h : s.Formed) : s.mw2Run.Formed := h.mw2Go

theorem pass {t : Nat} (h : s.Formed) : (s.pass t).Formed :=
  .ite h.at_ ((h.foldl fun _ _ h => .ite h.setRing h).same.at_.mw2Run)

theorem debit {n bytes : Nat} (h : s.Formed) : (s.debit n bytes).Formed := h.setRing

theorem inside {f : State → State} (h : s.Formed) (hf : ∀ s, s.Formed → (f s).Formed) : (s.inside f).Formed :=
  .ite (hf _ h) h

theorem stall {w : Waiting} (h : s.Formed) : (s.stall w).Formed := h.same

theorem settle {now : Nat} {pending : List Instr} (h : s.Formed) : (s.settle now pending).Formed :=
  .ite h.same h.same.disable

theorem run {t : Nat} {f : State → State} (h : s.Formed) (hf : ∀ s, s.Formed → (f s).Formed) : (s.run t f).Formed :=
  (hf _ h.pass).settle

/-! ### INTAKE (Machine/Intake) -/

theorem lanesStart (h : s.Formed) : s.lanesStart.Formed := by
  unfold State.lanesStart
  extract_lets s1
  have h1 : s1.Formed := h.foldl fun _ _ h => .ite h.set h.set.setLane.laneTrain
  exact .ite h1 (h1.foldl fun _ _ h => h.laneTrain)

theorem blockInFrame {n logical sync type : Nat} (h : s.Formed) : (s.blockInFrame n logical sync type).Formed := by
  unfold State.blockInFrame
  dsimp only
  split
  · exact .ite (.ite h h.discard) (.ite h.discard h)
  · exact .ite h.bump h

theorem syncHeader {n : Nat} {bad : Bool} (h : s.Formed) : (s.syncHeader n bad).2.Formed :=
  .iteSnd ((Formed.ite h.bump h).setLane.latch.laneFalls) ((Formed.ite h.bump h).setLane)

theorem laneBlock {n sync : Nat} {bytes : List Nat} (h : s.Formed) : (s.laneBlock n sync bytes).Formed := by
  unfold State.laneBlock
  refine .ite h ?_
  split
  · rename_i s1 e1
    have h1 := h.syncHeader.snd e1
    exact h1
  · rename_i s2 e2
    have h2 := h.syncHeader.snd e2
    exact .ite h2.setLane h2.setLane.blockInFrame

theorem deskew {ks : List Nat} (h : s.Formed) : (s.deskew ks).Formed := by
  unfold State.deskew
  extract_lets
  split
  · refine Formed.foldl h fun s1 _ h1 => ?_
    split
    · exact h1.set.set.showLane
    · exact h1
  · exact h
  · exact h.foldl fun _ _ h => .ite h.laneFalls.latch.noteFault h

theorem deskewOf {n : Nat} (h : s.Formed) : (s.deskewOf n).Formed := by
  unfold State.deskewOf
  refine .ite ?_ h.deskew
  split
  · exact h
  · exact .ite h.deskew (.ite h.deskew h)

theorem showLoss {n : Nat} (h : s.Formed) : (s.showLoss n).Formed := h.set.set.set

theorem laneRefused {n : Nat} (h : s.Formed) : (s.laneRefused n).Formed :=
  (Formed.ite h h.laneFalls.showLoss).latch.noteFault

theorem laneMarked {n lane : Nat} (h : s.Formed) : (s.laneMarked n lane).Formed :=
  .ite h.set.set.showLane.setLane.set h.set.set.showLane.setLane

theorem alignBlock {n : Nat} {bytes : List Nat} {arrival : Nat} (h : s.Formed) :
    (s.alignBlock n bytes arrival).Formed := by
  unfold State.alignBlock
  refine .ite h ?_
  extract_lets _ _ _ s2
  have h2 : s2.Formed := .ite h.syncHeader.bump h.syncHeader
  refine .ite h.syncHeader ?_
  refine .ite h.syncHeader.setLane ?_
  refine .ite h2.setLane.deskewOf ?_
  exact .ite h2.setLane
    (.ite h2.setLane.laneMarked.deskewOf ((h2.setLane.foldl fun _ _ h => h.laneRefused).laneRefused))

theorem markerMissing {n : Nat} (h : s.Formed) : (s.markerMissing n).Formed :=
  .ite h (.ite h.setLane.laneFalls.showLoss h.setLane)

theorem laneTrained {n loss : Nat} (h : s.Formed) : (s.laneTrained n loss).Formed := .ite h h.setLane.set.showLoss

theorem sofBlock {n : Nat} {bytes : List Nat} (h : s.Formed) : (s.sofBlock n bytes).Formed := by
  unfold State.sofBlock
  split
  · exact h
  · exact .ite (.ite h.discard h) (.ite ((Formed.ite h.discard h).discard) ((Formed.ite h.discard h).setStream))

theorem storePayload {m buf i : Nat} {bytes : List Nat} (h : s.Formed) : (s.storePayload m buf i bytes).Formed :=
  h.setStream

theorem frameBlock {n : Nat} {bytes : List Nat} (h : s.Formed) : (s.frameBlock n bytes).Formed := by
  unfold State.frameBlock
  split
  · exact h
  · extract_lets
    split
    · exact h
    · refine .ite h ?_
      refine .ite ?_ (.ite h.discard h.setStream.storePayload)
      exact .ite h.setStream (.ite h.setStream.cvuFail.discard (.ite h.setStream.cvuPass h.setStream.cvuPass.discard))

theorem completeFrame {m : Nat} {f : StreamFrame} (h : s.Formed) : (s.completeFrame m f).Formed := by
  unfold State.completeFrame
  extract_lets _ _ _ s2
  have h2 : s2.Formed := .ite h.setStream.bump h.setStream
  exact .ite h2.bump.set.set h2.bump.set.set.set.set.set.event

theorem eofBlock {n : Nat} {bytes : List Nat} (h : s.Formed) : (s.eofBlock n bytes).Formed := by
  unfold State.eofBlock
  split
  · exact h
  · split
    · exact h
    · exact .ite h (.ite h.discard h.completeFrame)

theorem laneRequest {n req : Nat} (h : s.Formed) : (s.laneRequest n req).Formed := by
  unfold State.laneRequest
  extract_lets
  refine .ite h.set ?_
  refine .ite h.set.set.laneOff.setLane ?_
  exact .ite h.set.set.setLane.laneTrain (.ite (.ite h.set.setLane.set.laneTrain h.set.setLane) h.set.set.laneLeaves)

theorem eyeScan {n width height : Nat} (h : s.Formed) : (s.eyeScan n width height).Formed :=
  .ite h (.ite h.set.set.setLane.latch.noteFault h.set.set.setLane)

theorem eyeStart {v : Nat} (h : s.Formed) : (s.eyeStart v).Formed :=
  .ite h.setReg (.ite h (.ite h.setReg.set.set.set h.setReg.same.set.set.set))

theorem eyeEnd {errors : Nat} (h : s.Formed) : (s.eyeEnd errors).Formed := .ite h h.set.set.set

theorem configRejected {m code : Nat} (h : s.Formed) : (s.configRejected m code).Formed := h.latch.set.set

theorem streamOff {m : Nat} (h : s.Formed) : (s.streamOff m).Formed :=
  .ite h ((Formed.ite h.discard h).streamDown.set.foldl fun _ _ h => .ite h.set h)

theorem streamConfig {m v other : Nat} (h : s.Formed) : (s.streamConfig m v other).Formed := by
  unfold State.streamConfig
  extract_lets
  refine .ite h.streamOff.setReg ?_
  refine .ite h.configRejected ?_
  refine .ite h.setReg ?_
  exact .ite h.setReg.configRejected (.ite h.setReg.set.setStream.set.set.deskew h.setReg.set.setStream.set.set)

theorem streamSize {m v : Nat} (h : s.Formed) : (s.streamSize m v).Formed := .ite h.configRejected h.setReg

theorem streamTimeout {m : Nat} (h : s.Formed) : (s.streamTimeout m).Formed := .ite h.streamDown h

theorem takeStreams (h : s.Formed) : s.takeStreams.Formed := by
  unfold State.takeStreams
  refine Formed.foldl h fun s1 _ h1 => ?_
  extract_lets
  split
  · exact h1
  · exact .ite h1 (.ite h1.setStream.set.set.bump h1.setStream.set.set)

/-! ### BRAID (Machine/Braid) -/

theorem showAdmit (h : s.Formed) : s.showAdmit.Formed := h.set.set

theorem setLayer {l : Nat} {y : Layer} (h : s.Formed) : (s.setLayer l y).Formed := h.same

theorem layerRejected {code l : Nat} (h : s.Formed) : (s.layerRejected code l).Formed := h.latch.set.set

theorem layerAccept {mask : Nat} {frame : Option Nat} (h : s.Formed) : (s.layerAccept mask frame).Formed := h.same.set

theorem showHeld (h : s.Formed) : s.showHeld.Formed := h.foldl fun _ _ h => h.setFlag

theorem showScalers (h : s.Formed) : s.showScalers.Formed := by
  unfold State.showScalers
  refine Formed.foldl h fun s1 _ h1 => ?_
  split
  · exact h1.set.set.set
  · exact h1.set.set.set.set

theorem commitApplies {c : LayerCommit} (h : s.Formed) : (s.commitApplies c).Formed :=
  (h.same.set.foldl fun _ _ h => h.setLayer.setFlag.set).same.showAdmit.showScalers

theorem moveApplies {v : LayerMove} (h : s.Formed) : (s.moveApplies v).Formed := h.setLayer.setFlag

theorem captureCommit {e : Nat} (h : s.Formed) : (s.captureCommit e).Formed := by
  unfold State.captureCommit
  split
  · exact h
  · exact .ite h (.ite h.same h.commitApplies)

theorem captureMove {e : Nat} {held : List Nat} {v : LayerMove} (h : s.Formed) : (s.captureMove e held v).Formed :=
  .ite h.same (.ite h.same h.moveApplies)

theorem captureChanges {e : Nat} (h : s.Formed) : (s.captureChanges e).Formed :=
  (h.captureCommit.same.foldl fun _ _ h => h.captureMove).showHeld.showScalers

theorem captureScaler {l : Nat} (h : s.Formed) : (s.captureScaler l).Formed := by
  unfold State.captureScaler
  extract_lets _ _ _ _ _ s1 _ s3 s4
  have h1 : s1.Formed := .ite h.setFlag.setFlag h
  have h3 : s3.Formed := .ite h1.setLayer.latch h1.setLayer
  have h4 : s4.Formed := .ite h3.fault h3
  exact .ite h4.fault h4

theorem captureLayer {l : Nat} (h : s.Formed) : (s.captureLayer l).Formed := by
  unfold State.captureLayer
  extract_lets _ _ _ _ _ _ _ _ _ s4
  have h4 : s4.Formed := .ite h.setLayer.setFlag.set.fault h.setLayer.setFlag.set
  exact .ite (.ite h h.setLayer.set.set.captureScaler) h4.captureScaler

theorem gateSectors {why : Gate} {cs : List Nat} (h : s.Formed) : (s.gateSectors why cs).Formed :=
  h.foldl fun _ _ h => h.foldl fun _ _ h => h.gate

theorem captureMask {e : Nat} (h : s.Formed) : (s.captureMask e).Formed := by
  unfold State.captureMask
  extract_lets _ s1
  have h1 : s1.Formed := by
    unfold s1
    split
    · exact .ite h.same.set.set.set.setReg h
    · exact h
  split
  · exact h1
  · exact .ite (.ite h1.set.set.same.set.bump.gateSectors.fault h1.set.set.same.set.bump.gateSectors)
      h1.set.set.same.set

theorem captureBraid {e : Nat} (h : s.Formed) : (s.captureBraid e).Formed :=
  (h.captureChanges.takeStreams.foldl fun _ _ h => h.captureLayer).captureMask.same

theorem measureReads {a b : Nat} (h : s.Formed) : (s.measureReads a b).Formed :=
  .ite ((h.foldl fun _ _ h => h.set).set.latch.fault) ((h.foldl fun _ _ h => h.set).set)

theorem rateTraffic {old : Nat} (h : s.Formed) : (s.rateTraffic old).Formed := .ite h.showAdmit.latch.fault h.showAdmit

theorem corruptRow {l j : Nat} {c : List Nat} (h : s.Formed) : (s.corruptRow l j c).Formed := .ite h.same.latch.fault h

theorem pushLine {i j : Nat} {c : List Nat} {pic : Option Picture} (h : s.Formed) : (s.pushLine i j c pic).Formed :=
  h.same

theorem fetchLayer {st v l : Nat} (h : s.Formed) : (s.fetchLayer st v l).Formed := by
  unfold State.fetchLayer
  split
  · exact h
  · exact .ite h (.ite h.corruptRow (h.foldl fun _ _ h => .ite h h.corruptRow.pushLine))

theorem composeRow {st v : Nat} (h : s.Formed) : (s.composeRow st v).1.Formed := by
  unfold State.composeRow
  dsimp only
  exact h.foldl fun _ _ h => h.fetchLayer

theorem moveAccept {l dst out alpha : Nat} {frame : Option Nat} (h : s.Formed) :
    (s.moveAccept l dst out alpha frame).Formed :=
  h.setReg.setReg.set.same

theorem protIndex {v : Nat} (h : s.Formed) : (s.protIndex v).Formed := h.set.setReg.set

/-! ### WARP (Machine/Warp) -/

theorem loadResult {err where_ bank : Nat} (h : s.Formed) : (s.loadResult err where_ bank).Formed := h.set.set.setReg

theorem loadStart {words : List Nat} {bank ring index : Nat} (h : s.Formed) :
    (s.loadStart words bank ring index).2.Formed :=
  .iteSnd h.loadResult (.iteSnd h.loadResult h.set.set.set.same)

theorem bankTakes {bank : Nat} {words : List Nat} {err where_ split first : Nat} (h : s.Formed) :
    (s.bankTakes bank words err where_ split first).Formed :=
  .ite h.loadResult.same.set h.loadResult.same.set.set.set.set.setReg

theorem loadEnds (h : s.Formed) : s.loadEnds.Formed := by
  unfold State.loadEnds
  split
  · exact h
  · exact .ite h.same.set.bankTakes.finish h.same.set.bankTakes.finish

theorem selectAccept {bank e : Nat} (h : s.Formed) : (s.selectAccept bank e).Formed := h.set.set.setReg.set.same

theorem captureSelect {e : Nat} (h : s.Formed) : (s.captureSelect e).Formed := .ite h.set.set h

theorem advance {st stop : Nat} (h : s.Formed) : (s.advance st stop).Formed := h.foldl fun _ _ h => h.composeRow.same

theorem passRow {y : Nat} (h : s.Formed) : (s.passRow y).Formed := h.same

theorem passPair {k : Nat} (h : s.Formed) : (s.passPair k).Formed :=
  .ite h.advance.advance.passRow.passRow.same.advance.advance h.advance.advance.passRow.passRow.same

theorem warpSlot {k : Nat} (h : s.Formed) : (s.warpSlot k).Formed := h.foldl fun _ _ h => h.passPair

theorem composeBegins (h : s.Formed) : s.composeBegins.Formed := h.same

theorem scanReads (h : s.Formed) : s.scanReads.Formed := .ite h.measureReads h.measureReads

theorem footprintFault {tile : Nat} (h : s.Formed) : (s.footprintFault tile).Formed := by
  unfold State.footprintFault
  extract_lets _ _ s1 _ s2
  have h1 : s1.Formed := .ite h.bump.set.gateSectors h
  have h2 : s2.Formed := .ite h1 h1.same
  exact .ite h2.same.fault h2

theorem footprintEnds (h : s.Formed) : s.footprintEnds.Formed := h.ungate.same

theorem coefWrite {off v : Nat} (h : s.Formed) : (s.coefWrite off v).Formed := .ite h.latch h.setReg

/-! ### TONE (Machine/Tone) -/

theorem setCal {e w : Nat} (h : s.Formed) : (s.setCal e w).Formed := h.same

theorem measureWord {x y w : Nat} (h : s.Formed) : (s.measureWord x y w).Formed := h.same

theorem toneAccept {values : List (Nat × Nat)} {frame : Option Nat} (h : s.Formed) :
    (s.toneAccept values frame).Formed :=
  h.same.set

theorem showEff (h : s.Formed) : s.showEff.Formed := h.set

theorem captureTone {e : Nat} (h : s.Formed) : (s.captureTone e).Formed := by
  unfold State.captureTone
  split
  · exact h
  · exact .ite h.same.set.showEff h

theorem calCheck {w : List Nat} {code : Nat} (h : s.Formed) : (s.calCheck w code).Formed :=
  .ite h (.ite h.cvuFail h.cvuPass)

theorem calBlock {w : List Nat} (h : s.Formed) : (s.calBlock w).2.Formed := by
  unfold State.calBlock
  extract_lets _ _ _ _ _ _ _ s3
  have h3 : s3.Formed := .ite h.calCheck.set.same h.calCheck.set.same.set
  exact .iteSnd h.calCheck.set.set (.iteSnd h3.set (.iteSnd h3.same.set.set h3.same.set.set))

theorem calEntry {e : Nat × Nat × Nat} (h : s.Formed) : (s.calEntry e).Formed := by
  unfold State.calEntry
  extract_lets
  split
  · exact h.setCal
  · exact h.same
  · exact h.same
  · exact h.same
  · exact .ite h.same h.same
  · exact h.same
  · exact h

theorem captureCal (h : s.Formed) : s.captureCal.Formed := by
  unfold State.captureCal
  split
  · exact .ite ((h.foldl fun _ _ h => h.calEntry).same.set.set.count) h
  · exact h

theorem addCharge {e : Nat} {q : Rat} (h : s.Formed) : (s.addCharge e q).Formed := by
  unfold State.addCharge
  refine .ite h ?_
  dsimp only
  split
  · exact h.same
  · exact h.free.same

theorem sampleCharge (h : s.Formed) : s.sampleCharge.Formed := by
  unfold State.sampleCharge
  split
  · exact h
  · exact h.same
  · exact h.same

theorem chooseSample (h : s.Formed) : s.chooseSample.Formed := h.same

theorem chargeUpdate (h : s.Formed) : s.chargeUpdate.Formed :=
  .ite h ((h.same.foldl fun _ _ h => h.addCharge).chooseSample)

theorem checkpoint {hours : Nat} (h : s.Formed) : (s.checkpoint hours).Formed := h.same

theorem wearRecompute (h : s.Formed) : s.wearRecompute.Formed :=
  .ite ((h.foldl fun _ _ h => h.setCal).same.set.fault) ((h.foldl fun _ _ h => h.setCal).same.set)

theorem moveDerate (h : s.Formed) : s.moveDerate.Formed := h.set

theorem governOwn (h : s.Formed) : s.governOwn.Formed := by
  unfold State.governOwn
  extract_lets
  split
  · exact h.same.set.set.set.set.foldl fun _ _ h => h.set

theorem governDark (h : s.Formed) : s.governDark.Formed := h.same.governOwn.same

theorem governPartner (h : s.Formed) : s.governPartner.Formed := by
  unfold State.governPartner
  refine .ite h ?_
  split
  · exact .ite h.same.set h.latch.fault
  · exact h.latch.fault

/-! ### The frame timer (Machine/Timer) -/

theorem setLock {n : Nat} (h : s.Formed) : (s.setLock n).Formed := (Formed.ite h h.raise).same.set

theorem forgetPhase (h : s.Formed) : s.forgetPhase.Formed := h.same

theorem relock (h : s.Formed) : s.relock.Formed := by
  unfold State.relock
  extract_lets
  split
  · exact h.set.setFlag.forgetPhase.same.setLock
  · exact h.set.setFlag.forgetPhase.setLock
  · exact .ite h.set.setFlag.forgetPhase.setLock h.set.setFlag.same.setLock.fault
  · exact h.set.setFlag.same.setLock
  · exact .ite h.set.setFlag.forgetPhase.setLock h.set.setFlag
  · exact h.set.setFlag

theorem phaseEvent {err : Int} {base : Nat} (h : s.Formed) : (s.phaseEvent err base).Formed := by
  unfold State.phaseEvent
  extract_lets
  split
  · exact .ite (.ite h.setReg.same.setLock h.setReg.same.same) h.setReg.same.same
  · exact .ite h.setReg.same.same.setLock.fault h.setReg.same
  · exact h.setReg.same

theorem syncLost (h : s.Formed) : s.syncLost.Formed := h.same.relock

theorem syncEdge (h : s.Formed) : s.syncEdge.Formed := by
  unfold State.syncEdge
  refine .ite h ?_
  extract_lets _ _ _ _ _ _ _ s4
  have h4 : s4.Formed := .ite h.same (.ite h.same.set.same.relock (.ite h.same.set.syncLost h.same.set))
  exact .ite h4.phaseEvent h4

theorem syncMissing (h : s.Formed) : s.syncMissing.Formed := .ite h h.syncLost

theorem holdExpires (h : s.Formed) : s.holdExpires.Formed := .ite h.setLock h

theorem stepTime {by_ : Int} (h : s.Formed) : (s.stepTime by_).Formed := h.same

theorem ptpSteered (h : s.Formed) : s.ptpSteered.Formed := h.same.relock

theorem timeOffset {v : Nat} (h : s.Formed) : (s.timeOffset v).Formed := h.stepTime.ptpSteered

theorem timeTrim {v : Nat} (h : s.Formed) : (s.timeTrim v).Formed := h.stepTime.setReg.ptpSteered

theorem ptpTimeout (h : s.Formed) : s.ptpTimeout.Formed := by
  unfold State.ptpTimeout
  split
  · exact h
  · exact .ite h.same.relock h

theorem timingAccept {v : Timing} {frame : Option Nat} (h : s.Formed) : (s.timingAccept v frame).Formed := h.same.set

theorem frameLoad {v : Nat} (h : s.Formed) : (s.frameLoad v).Formed := .ite h.latch h.same

theorem numberFrame {old new : Nat} {load : Bool} (h : s.Formed) : (s.numberFrame old new load).Formed :=
  .ite h.setReg.faultVal h.setReg

theorem timingBoundary {n : Nat} (h : s.Formed) : (s.timingBoundary n).Formed := by
  unfold State.timingBoundary
  split
  · exact h
  · exact .ite h ((Formed.ite h.same.forgetPhase.set.setLock.rateTraffic h.same.forgetPhase.set.setLock).relock)

theorem advanceFrame (h : s.Formed) : s.advanceFrame.Formed := by
  unfold State.advanceFrame
  extract_lets
  split
  · exact h.same.numberFrame
  · split
    · exact .ite h.same.numberFrame h.numberFrame
    · exact h.numberFrame

theorem planPeriod (h : s.Formed) : s.planPeriod.Formed := .ite h.same h.same

theorem timerBoundary (h : s.Formed) : s.timerBoundary.Formed := by
  unfold State.timerBoundary
  extract_lets _ _ _ _ _ _ _ _ s6 s7
  have h6 : s6.Formed := h.setReg.timingBoundary.advanceFrame.set.set.same.phaseEvent
  have h7 : s7.Formed := .ite (.ite h6.numberFrame h6) h.setReg.timingBoundary.advanceFrame.set.set.same
  exact h7.planPeriod

theorem timerStart (h : s.Formed) : s.timerStart.Formed := by
  unfold State.timerStart
  extract_lets _ _ _ _ _ _ _ _ _ s5
  have h5 : s5.Formed := by
    unfold s5
    split
    · exact h.same.same.set.setLock.set.set.set.numberFrame
    · exact h.same.same.set.setLock.set.set.set.numberFrame
    · exact h.same.same.set.setLock.set.set.set.same.numberFrame
    · exact h.same.same.set.setLock.set.set.set.numberFrame
  exact h5.planPeriod.relock.chooseSample

theorem timerStop (h : s.Formed) : s.timerStop.Formed := h.set.setLock.set

theorem lateClear {v : Nat} (h : s.Formed) : (s.lateClear v).Formed := .ite h.set h

/-! ### The emission array (Machine/Array) -/

theorem qlinkLoss {q : Nat} (h : s.Formed) : (s.qlinkLoss q).Formed := .ite h h.latch.set.same.fault

theorem retrainLinks (h : s.Formed) : s.retrainLinks.Formed := h.same

theorem qlinkTrained {q : Nat} (h : s.Formed) : (s.qlinkTrained q).Formed := .ite h h.set

theorem setKill {e : Nat} {on : Bool} (h : s.Formed) : (s.setKill e on).Formed := h.same

theorem openSeg {n : Nat} (h : s.Formed) : (s.openSeg n).Formed := h.same

theorem toneState {e st : Nat} (h : s.Formed) : (s.toneState e st).Formed := h.setCal

theorem showDefects (h : s.Formed) : s.showDefects.Formed := h.set.setFlag

theorem setDefects {l : List Defect} {d : Defect} (h : s.Formed) : (s.setDefects l d).Formed :=
  h.same.showDefects.count.event

theorem putDefect {x y c cond cause tries : Nat} (h : s.Formed) : (s.putDefect x y c cond cause tries).Formed := by
  unfold State.putDefect
  extract_lets
  split
  · exact h.setDefects.toneState
  · exact .ite h.fault h.setDefects.toneState

theorem defectIndex {v : Nat} (h : s.Formed) : (s.defectIndex v).Formed := h.set.set.foldl fun _ _ h => h.setReg

theorem defectJournal (h : s.Formed) : s.defectJournal.Formed := h.same

theorem setFuse {q : Nat} {l : List FuseJob} (h : s.Formed) : (s.setFuse q l).Formed := h.same.set

theorem emitterDies {x y c cause tries : Nat} (h : s.Formed) : (s.emitterDies x y c cause tries).Formed :=
  h.setFuse.setKill.putDefect.fault

theorem confirmOpen {x y c half : Nat} (h : s.Formed) : (s.confirmOpen x y c half).Formed := by
  unfold State.confirmOpen
  extract_lets
  refine .ite h ?_
  refine .ite h.openSeg ?_
  refine .ite h.openSeg.emitterDies ?_
  split
  · exact .ite h.openSeg.setKill.putDefect.fault h.openSeg
  · exact h.openSeg.putDefect.fault

theorem confirmShort {x y c half : Nat} (h : s.Formed) : (s.confirmShort x y c half).Formed :=
  .ite h (.ite h.setKill.bump.emitterDies h.setKill.putDefect.setFuse)

theorem fuseBlow {q : Nat} (h : s.Formed) : (s.fuseBlow q).Formed := by
  unfold State.fuseBlow
  split
  · extract_lets
    split
    · exact h.setFuse.setDefects
    · exact h.setFuse
  · exact h

theorem driftClass {n cls : Nat} (h : s.Formed) : (s.driftClass n cls).Formed := h.same

theorem fuseVerify {q : Nat} {isOpen : Bool} (h : s.Formed) : (s.fuseVerify q isOpen).Formed := by
  unfold State.fuseVerify
  split
  · refine .ite ?_ (.ite h.setFuse.bump.emitterDies h.setFuse)
    exact .ite h.setFuse.openSeg.driftClass.bump.fault.emitterDies
      h.setFuse.openSeg.driftClass.bump.setKill.putDefect.fault
  · exact h

theorem drift {n vf leak : Nat} {scheduled : Bool} (h : s.Formed) : (s.drift n vf leak scheduled).Formed := h.same

theorem driftStale {n : Nat} (h : s.Formed) : (s.driftStale n).Formed := h.same

theorem measureSeg {scheduled : Bool} {r : SegRead} (h : s.Formed) : (s.measureSeg scheduled r).Formed :=
  .ite h.drift.same (.ite h.drift.driftClass h.drift)

theorem remeasure {c : Confirm} {r : SegRead} (h : s.Formed) : (s.remeasure c r).Formed :=
  .ite h.drift.bump (.ite h.drift.bump.driftClass.confirmOpen h.drift.bump.driftClass.confirmShort)

theorem remeasurePixel {d : SurveyData} {jobs : List (Nat × FuseJob)} {cs : List Confirm} {p : Nat × Nat} (h : s.Formed) :
    (s.remeasurePixel d jobs cs p).Formed := by
  unfold State.remeasurePixel
  refine Formed.foldl h fun s1 _ h1 => ?_
  extract_lets
  split
  · exact h1.drift.fuseVerify
  · split
    · exact h1.remeasure
    · exact h1.measureSeg

theorem remeasureGroup {d : SurveyData} {under : List (Nat × Nat)} (h : s.Formed) :
    (s.remeasureGroup d under).Formed :=
  (h.same.foldl fun _ _ h => h.remeasurePixel).bumpBy.foldl fun _ _ h => h.latch.fault

theorem scheduledGroups {d : SurveyData} {k : Nat} {under : List (Nat × Nat)} (h : s.Formed) :
    (s.scheduledGroups d k under).Formed :=
  (h.foldl fun _ _ h => .ite h h.measureSeg).foldl fun _ _ h => h.foldl fun _ _ h => h.driftStale

theorem survey {d : SurveyData} (h : s.Formed) : (s.survey d).Formed := by
  unfold State.survey
  extract_lets _ _ _ _ _ _ _ _ _ s4
  have h4 : s4.Formed := h.setFlag.same.remeasureGroup.foldl fun _ _ h => .ite h.fuseBlow h
  exact .ite h.setFlag.same.same.bumpBy (.ite h4 (.ite h4.scheduledGroups.same.set.count h4.scheduledGroups.same.set))

theorem peekGo {v : Nat} (h : s.Formed) : (s.peekGo v).Formed := .ite h.setReg (.ite h h.setReg.set.set.same)

theorem peekCapture (h : s.Formed) : s.peekCapture.Formed := .ite h h.setReg.setReg.setReg.set.set.set

theorem capturePattern (h : s.Formed) : s.capturePattern.Formed := .ite h.same h

/-! ### ANODE (Machine/Anode) -/

theorem buckStops {c : Nat} (h : s.Formed) : (s.buckStops c).Formed := h.same.set.set.set.touch.showRailLim

theorem startBucks (h : s.Formed) : s.startBucks.Formed := h.same.touch.foldl fun _ _ h => .ite h h.set.set

theorem railLimit {c : Nat} (h : s.Formed) : (s.railLimit c).Formed := .ite h.same h

theorem railOc {c ma : Nat} (h : s.Formed) : (s.railOc c ma).Formed := .ite h h.buckStops.faultVal

theorem railVolt {c : Nat} {high : Bool} {mv : Nat} (h : s.Formed) : (s.railVolt c high mv).Formed :=
  .ite h (.ite h.buckStops.faultVal h.buckStops.faultVal)

theorem railWindow {d : SurveyData} (h : s.Formed) : (s.railWindow d).Formed := h.same

theorem railAverage1 {c i1s i100 i10 : Nat} (h : s.Formed) : (s.railAverage1 c i1s i100 i10).Formed := by
  unfold State.railAverage1
  extract_lets _ _ _ _ _ _ s3
  have h3 : s3.Formed := .ite h.set.same.latch.faultVal h.set.same
  exact .ite h3 (.ite h3.buckStops.faultVal (.ite h3.buckStops.faultVal (.ite h3.buckStops.fault h3)))

theorem railAverage {c i1s i100 i10 : Nat} (h : s.Formed) : (s.railAverage c i1s i100 i10).Formed :=
  .ite h.railAverage1.showRailLim h

theorem windowOpens {closed : List Nat} (h : s.Formed) : (s.windowOpens closed).Formed := h.same

theorem snapshot {d : SurveyData} (h : s.Formed) : (s.snapshot d).Formed := by
  unfold State.snapshot
  extract_lets s1 _ _ s4 s5 s6
  have h1 : s1.Formed := h.foldl fun _ _ h => h.set
  have h4 : s4.Formed := h1.set.set.set.set.foldl fun _ _ h => h.foldl fun _ _ h => h.set
  have h5 : s5.Formed := h4.foldl fun _ _ h => h.set
  have h6 : s6.Formed := h5.foldl fun _ _ h => h.set
  exact .ite h1.set.set.set.set h6.setReg

theorem trackRail {d : SurveyData} {pOld : List Rat} {c : Nat} (h : s.Formed) : (s.trackRail d pOld c).Formed :=
  .ite h (.ite ((Formed.ite h h.touch).set.setFlag.faultVal) ((Formed.ite h h.touch).set.setFlag))

theorem trackLow {d : SurveyData} {band c : Nat} (h : s.Formed) : (s.trackLow d band c).Formed :=
  .ite ((Formed.ite h.same.latch h.same).faultVal) (.ite h.same.latch h.same)

theorem track {d : SurveyData} {pOld : List Rat} (h : s.Formed) : (s.track d pOld).Formed :=
  ((h.foldl fun _ _ h => h.trackRail).foldl fun _ _ h => h.trackLow).showRailLim

theorem govCheck (h : s.Formed) : s.govCheck.Formed :=
  .ite h (.ite h (.ite h.same (.ite h.same h.same.showEff.faultVal)))

theorem readSensor {i : Nat} {r : Option Int} (h : s.Formed) : (s.readSensor i r).Formed := by
  unfold State.readSensor
  split
  · exact h.same.set
  · exact .ite ((Formed.ite h.same h).set.fault) ((Formed.ite h.same h).set)

theorem tempCrossed {g k : Nat} {hot : Option (Nat × Int)} (h : s.Formed) : (s.tempCrossed g k hot).Formed := by
  unfold State.tempCrossed
  extract_lets
  split
  · exact h.faultVal
  · exact h.faultVal
  · exact h.disable.stopBucks.faultVal

theorem tempThreshold {g k : Nat} (h : s.Formed) : (s.tempThreshold g k).Formed :=
  .ite h.same.same.tempCrossed (.ite h.same.same h.same)

theorem showThermal (h : s.Formed) : s.showThermal.Formed := h.setFlag

theorem tempSample {raw : List (Option Int)} (h : s.Formed) : (s.tempSample raw).Formed :=
  ((h.foldl fun _ _ h => h.readSensor).foldl fun _ _ h => h.tempThreshold).showThermal

/-! ### The guards (Machine/Guards) -/

theorem setNet {g : Guard} {n : Net} (h : s.Formed) : (s.setNet g n).Formed := by
  unfold State.setNet
  split
  · exact h.same
  · exact h.same

theorem clampSector {sec : Nat} (h : s.Formed) : (s.clampSector sec).Formed := by
  unfold State.clampSector
  extract_lets _ _ s2
  have h2 : s2.Formed := h.set.set.foldl fun _ _ h => h.gate
  split
  · exact .ite h2 h2.safetyEvent
  · extract_lets s3
    have h3 : s3.Formed := h.foldl fun _ _ h => (Formed.ite h h.touch).set
    exact .ite h3 (.ite h3.set h3.set.safetyEvent)

theorem showCap {sec : Nat} (h : s.Formed) : (s.showCap sec).Formed := h.setFlag.set

theorem zoneEval (h : s.Formed) : s.zoneEval.Formed := by
  unfold State.zoneEval
  extract_lets _ _ _ _ s3 s4
  have h3 : s3.Formed := by
    unfold s3
    split
    · exact h.set.setFlag
    · exact h.set.setFlag.set
  have h4 : s4.Formed := h3.foldl fun _ _ h => h.showCap
  exact .ite h4 (h4.foldl fun _ _ h => h.clampSector)

theorem clampRelease (h : s.Formed) : s.clampRelease.Formed :=
  .ite h (h.setFlag.ungate.foldl fun _ _ h => h.set.set.foldl fun _ _ h => (Formed.ite h h.touch).set)

theorem maskSample (h : s.Formed) : s.maskSample.Formed := h.same.set.same

theorem maskPublish (h : s.Formed) : s.maskPublish.Formed := by
  unfold State.maskPublish
  split
  · exact h
  · exact h.same.setReg.same

theorem maskVerify {readSum : Nat} {uncorrectable : Bool} (h : s.Formed) :
    (s.maskVerify readSum uncorrectable).Formed := by
  unfold State.maskVerify
  split
  · exact h
  · exact .ite h (.ite h.set.same h.same.bump.fault)

theorem maskStrike (h : s.Formed) : s.maskStrike.Formed := h.same.foldl fun _ _ h => h.setReg

theorem scanStart (h : s.Formed) : s.scanStart.Formed := h.same.foldl fun _ _ h => h.set.set

theorem tapFails {tile : Nat} {e : Rat × Rat} (h : s.Formed) : (s.tapFails tile e).Formed := by
  unfold State.tapFails
  extract_lets _ _ s1 _ _ _ s4
  have h1 : s1.Formed := .ite h.bump h
  have h4 : s4.Formed := h1.set.same.foldl fun _ _ h => h.hold
  exact .ite h4.safetyEvent.faultVal h4.safetyEvent

theorem tapCheck (h : s.Formed) : s.tapCheck.Formed := by
  unfold State.tapCheck
  refine .ite h ?_
  split
  · refine .ite h ?_
    refine Formed.foldl h fun s1 _ h1 => ?_
    split
    · exact h1.tapFails
    · exact h1
  · exact h

theorem tapStrike (h : s.Formed) : s.tapStrike.Formed := h.same

theorem showSigBands (h : s.Formed) : s.showSigBands.Formed := h.set

theorem regionResult {r result sig want : Nat} (h : s.Formed) : (s.regionResult r result sig want).Formed := by
  unfold State.regionResult
  extract_lets _ _ s2 _ s4
  have h2 : s2.Formed := .ite h.set.setReg.cvuPass (.ite h.set.setReg.cvuFail h.set.setReg)
  have h4 : s4.Formed := .ite (h2.bump.foldl fun _ _ h => h.foldl fun _ _ h => h.hold) h2.bump
  exact .ite h2 (.ite h4.showSigBands h4.showSigBands.faultVal.raise)

theorem regionsDiscard (h : s.Formed) : s.regionsDiscard.Formed := (h.foldl fun _ _ h => h.setReg).same

theorem regionsExpected {bad : List Nat} (h : s.Formed) : (s.regionsExpected bad).Formed := by
  unfold State.regionsExpected
  extract_lets _ _ _ _ _ s3
  have h3 : s3.Formed := h.same.same.foldl fun _ _ h => h.fault
  refine Formed.foldl h3.setReg fun s5 _ h5 => ?_
  split
  · exact h5.set
  · exact h5.regionResult
  · exact h5.setReg

theorem regionsPartner (h : s.Formed) : s.regionsPartner.Formed := by
  unfold State.regionsPartner
  extract_lets _ _ s1 _ s2
  have h1 : s1.Formed := by
    unfold s1
    refine Formed.foldl h fun s3 _ h3 => ?_
    refine .ite h3 ?_
    extract_lets
    split
    · exact h3.regionResult
    · exact h3.regionResult
  have h2 : s2.Formed := .ite h1.bump h1
  exact .ite h2.bump h2

theorem regionsStrike (h : s.Formed) : s.regionsStrike.Formed := h.same.unhold.showSigBands

theorem closeSwitches (h : s.Formed) : s.closeSwitches.Formed :=
  h.foldl fun _ _ h => .ite h ((Formed.ite h h.touch).set)

theorem sectorCurrent {ma : List (List Nat)} (h : s.Formed) : (s.sectorCurrent ma).Formed := by
  unfold State.sectorCurrent
  refine .ite h ?_
  dsimp only
  split
  · exact h.same
  · exact h.same.set.set.setReg.setReg.ownPaths.enterSafe.safetyEvent.faultVal

theorem photoSample {code : Nat} (h : s.Formed) : (s.photoSample code).Formed := by
  unfold State.photoSample
  refine .ite h ?_
  extract_lets _ _ _ s2
  have h2 : s2.Formed := .ite h.set.set h.set
  exact .ite h2.same h2.same.ownPaths.enterSafe.safetyEvent.faultVal

theorem photoFault (h : s.Formed) : s.photoFault.Formed := .ite h h.set.ownPaths.enterSafe.safetyEvent.faultVal

theorem showGuards (h : s.Formed) : s.showGuards.Formed := h.setFlag.setFlag.set.set.set.set.set.set.set.set

theorem stopDemand {g : Guard} {cause : Nat} (h : s.Formed) : (s.stopDemand g cause).Formed :=
  .ite h.showGuards h.showGuards.ownPaths.enterSafe.safetyEvent

theorem latchPair {pair interval : Nat} (h : s.Formed) : (s.latchPair pair interval).Formed :=
  (Formed.ite h.set.set.same.showGuards.enterSafe h.set.set.same.showGuards).safetyEvent.faultVal

theorem unlatch {pair : Nat} (h : s.Formed) : (s.unlatch pair).Formed := by
  unfold State.unlatch
  refine .ite h (.ite h.same (.ite h (.ite ?_ (.ite h.same h))))
  dsimp only
  split
  · exact .ite h.same.set h.same
  · exact h.same.set

theorem discTimes {g : Guard} {pair : Nat} {level : Bool} (h : s.Formed) : (s.discTimes g pair level).Formed := by
  unfold State.discTimes
  dsimp only
  split
  · exact h.same
  · exact .ite h.same.latchPair h.same.set

theorem terminal {g : Guard} {zonePin level : Bool} (h : s.Formed) : (s.terminal g zonePin level).Formed := by
  unfold State.terminal
  extract_lets _ _ _ s1
  have h1 : s1.Formed := by
    unfold s1
    split
    · exact h.set.set
    · exact h.set.set
  exact .ite h1 (.ite h1.showGuards (.ite h1.discTimes.unlatch.showGuards.stopDemand h1.discTimes.unlatch.showGuards))

theorem discrepancy {pair : Nat} (h : s.Formed) : (s.discrepancy pair).Formed := by
  unfold State.discrepancy
  split
  · exact .ite h.latchPair h
  · exact h

theorem encoderFrame {g : Guard} {i : Nat} {bits : List Bool} {lineHigh : Bool} (h : s.Formed) :
    (s.encoderFrame g i bits lineHigh).Formed := by
  unfold State.encoderFrame
  extract_lets _ _ _ _ _ _ _ _ _ _ _ _ s1 _ _ _ _ _ _ s2
  have h1 : s1.Formed := .ite h (.ite h.cvuPass h.cvuFail)
  refine .ite (.ite h1.set.set.setFlag.same.showGuards.safetyEvent h1.set.set.setFlag.same.showGuards) ?_
  have h2 : s2.Formed := .ite h1.bump h1.bump
  exact .ite h2.same (.ite h2.same.set.showGuards h2.same.set.showGuards.ownPaths.enterSafe.safetyEvent.fault)

theorem netFrame {g : Guard} {destOk : Bool} {ethertype tags len : Nat} {fcsOk : Bool} {bytes : List Nat} (h : s.Formed) :
    (s.netFrame g destOk ethertype tags len fcsOk bytes).Formed :=
  .ite h (.ite h (.ite h.bump (.ite h (.ite h.bump.set h.setNet))))

theorem combine (h : s.Formed) : s.combine.Formed := .ite h h.same

theorem linkClears (h : s.Formed) : s.linkClears.Formed := by
  unfold State.linkClears
  exact h.set.set.showGuards.safetyEvent

theorem linkRecovers {g : Guard} {c : Copy} (h : s.Formed) : (s.linkRecovers g c).Formed := by
  unfold State.linkRecovers
  split
  · exact h.linkClears
  · exact .ite h (.ite h.same h.same.same.linkClears)
  · exact h

theorem copyDiscard {g : Guard} {code : Nat} (h : s.Formed) : (s.copyDiscard g code).Formed := h.bump.set

theorem copyActs {g : Guard} {c : Copy} (h : s.Formed) : (s.copyActs g c).Formed := by
  unfold State.copyActs
  extract_lets _ _ _ s1 _ _ _ _ s5
  have h1 : s1.Formed := .ite h h.setReg
  have h5 : s5.Formed := h1.setNet.setReg.set.setReg.count.combine.linkRecovers.showGuards
  exact .ite h5.stopDemand h5

theorem telegramCheck {g : Guard} (h : s.Formed) : (s.telegramCheck g).Formed := by
  unfold State.telegramCheck
  extract_lets
  split
  · exact h
  · extract_lets _ _ _ s1
    have h1 : s1.Formed := .ite h.cvuFail h.cvuPass
    exact .ite h1.setNet.copyActs (.ite h1.setNet.bump (.ite h1.setNet.copyDiscard.fault h1.setNet.copyDiscard))

theorem telegramSingle {g : Guard} (h : s.Formed) : (s.telegramSingle g).Formed := by
  unfold State.telegramSingle
  extract_lets
  split
  · exact h
  · exact .ite h h.setNet.bump.bump

theorem linkStarts (h : s.Formed) : s.linkStarts.Formed := h.set.set.same.safetyEvent.fault

theorem linkTimeoutPasses {g : Guard} (h : s.Formed) : (s.linkTimeoutPasses g).Formed := by
  unfold State.linkTimeoutPasses
  extract_lets
  refine .ite h ?_
  exact .ite (.ite h.showGuards.setNet h.showGuards.setNet.linkStarts) (.ite h.showGuards h.showGuards.setNet.fault)

theorem phyPoll {g : Guard} {answer : Option (Bool × Bool × Bool)} (h : s.Formed) : (s.phyPoll g answer).Formed := by
  unfold State.phyPoll
  extract_lets
  refine .ite h ?_
  split
  · exact h.setNet.setFlag.setFlag.setFlag.set
  · exact .ite h.setNet h.setNet.set.fault

theorem leaveSafe (h : s.Formed) : s.leaveSafe.Formed := by
  unfold State.leaveSafe
  exact h.unhold.ungate.setCause.enter.same.safetyEvent

theorem resetEvaluate (h : s.Formed) : s.resetEvaluate.Formed := by
  unfold State.resetEvaluate
  extract_lets
  refine .ite h.same ?_
  split
  · exact h.same.safetyEvent
  · exact .ite h.same.safetyEvent h.same.leaveSafe

theorem restartRecord (h : s.Formed) : s.restartRecord.Formed := .ite h.same.resetEvaluate (.ite h.same.same h.same)

theorem compareCopies {g : Guard} (h : s.Formed) : (s.compareCopies g).Formed := by
  unfold State.compareCopies
  split
  · exact .ite h (.ite h.setNet.same (.ite h.setNet.bump h.setNet.bump.same.fault))
  · exact h

theorem itemLasts {g : Guard} {item : Nat} {differs : Bool} (h : s.Formed) : (s.itemLasts g item differs).2.Formed :=
  .iteSnd h.same h.same

theorem compareAxes {g : Guard} (h : s.Formed) : (s.compareAxes g).Formed :=
  h.same.foldl fun _ _ h => h.ownPaths.enterSafe.safetyEvent.fault

theorem xcmpCycle {g : Guard} (h : s.Formed) : (s.xcmpCycle g).Formed := by
  unfold State.xcmpCycle
  refine .ite h ?_
  cases g with
  | a =>
    dsimp only
    split
    · exact h.emit.same.setFlag.setFlag.count.compareAxes.itemLasts.itemLasts
        |>.compareCopies.setFlag.combine.showGuards.set.faultVal
    · exact h.emit.same.setFlag.setFlag.count.compareAxes.itemLasts.itemLasts
        |>.compareCopies.setFlag.combine.showGuards.restartRecord
  | b =>
    dsimp only
    split
    · exact h.emit.same.itemLasts.itemLasts.compareCopies.setFlag.combine.showGuards.set.faultVal
    · exact h.emit.same.itemLasts.itemLasts.compareCopies.setFlag.combine.showGuards

theorem xcmpLost {g : Guard} (h : s.Formed) : (s.xcmpLost g).Formed := by
  unfold State.xcmpLost
  extract_lets _ _ _ s3
  have h3 : s3.Formed := by
    unfold s3
    split
    · exact h.ownPaths.hold.set
    · exact h.ownPaths.hold.set
  exact .ite h h3.fault

theorem guardFollows {g : Guard} (h : s.Formed) : (s.guardFollows g).Formed := .ite h h.ownPaths.setSafe

theorem guardInternal {g : Guard} {value : Nat} (h : s.Formed) : (s.guardInternal g value).Formed :=
  (Formed.ite h.ownPaths h).faultVal

theorem clockCheck {g : Guard} {deviation : Nat} (h : s.Formed) : (s.clockCheck g deviation).Formed :=
  .ite h.same h.same.ownPaths.enterSafe.faultVal

theorem guardWatchdog {g : Guard} (h : s.Formed) : (s.guardWatchdog g).Formed := h.same.guardInternal

theorem guardTestEnds {g : Guard} {kind : Nat} {passed : Bool} (h : s.Formed) :
    (s.guardTestEnds g kind passed).Formed :=
  .ite ((Formed.ite h.same.set h.same).count) (.ite h.same.guardInternal.set.report h.same.guardInternal)

theorem testLock (h : s.Formed) : s.testLock.Formed := h.count.set

theorem guardTest {g : Guard} {kind : Nat} {passed : Bool} (h : s.Formed) : (s.guardTest g kind passed).Formed :=
  (Formed.ite h.fault h.testLock).guardTestEnds

theorem passTest {passed : Bool} (h : s.Formed) : (s.passTest passed).Formed := (Formed.ite h h.testLock).guardTestEnds

theorem guardsEvaluate (h : s.Formed) : s.guardsEvaluate.Formed := by
  unfold State.guardsEvaluate
  extract_lets _ _ _ start s1 s2 s3 s4
  have hstart : ∀ s pair, State.Formed s → (start s pair).Formed := fun _ _ h => .ite h h.same
  have h1 : s1.Formed := hstart _ _ (hstart _ _ h.same.showGuards)
  have h2 : s2.Formed := .ite h1.stopDemand h1
  have h3 : s3.Formed := .ite h2.stopDemand h2
  have h4 : s4.Formed := .ite h3.stopDemand h3
  exact h4.foldl fun _ _ h => .ite h.ownPaths.enterSafe.fault h

theorem linkEntry (h : s.Formed) : s.linkEntry.Formed := .ite h h.linkStarts

/-! ### Twin operation (Machine/Twin) -/

theorem setSel {full : Bool} (h : s.Formed) : (s.setSel full).Formed := h.touch.foldl fun _ _ h => h.setFlag

theorem stepFollows (h : s.Formed) : s.stepFollows.Formed := h.set.count.same.twinEvent.abandon.setChange

theorem stepNow (h : s.Formed) : s.stepNow.Formed := .ite h.setSel.stepFollows h

theorem guardStep {g : Guard} (h : s.Formed) : (s.guardStep g).Formed := .ite h.setShare h

theorem stepArm (h : s.Formed) : s.stepArm.Formed := .ite h.set.guardStep.guardStep h

theorem joinFail (h : s.Formed) : s.joinFail.Formed := by
  unfold State.joinFail
  split
  · exact h
  · exact .ite h.same.setSel.fault.twinEvent.stepFollows h

theorem noteEvidence (h : s.Formed) : s.noteEvidence.Formed := h.same

theorem lightConflict (h : s.Formed) : s.lightConflict.Formed := by
  unfold State.lightConflict
  extract_lets
  split
  · exact h.noteEvidence
  · exact .ite h.noteEvidence h.noteEvidence.disable.abandon.setChange.twinEvent.fault

theorem heartbeatHandover {hb : Heartbeat} (h : s.Formed) : (s.heartbeatHandover hb).Formed :=
  .ite h.abandon.setChange h

theorem heartbeatTaken {hb : Heartbeat} (h : s.Formed) : (s.heartbeatTaken hb).Formed :=
  h.set.heartbeatHandover.noteEvidence

theorem lightAnode {p n : Bool} (h : s.Formed) : (s.lightAnode p n).Formed :=
  .ite h ((Formed.ite h.same.set.stepNow h.same.set).noteEvidence)

theorem lightInput {receiver : Nat} {p n : Bool} (h : s.Formed) : (s.lightInput receiver p n).Formed := by
  unfold State.lightInput
  extract_lets
  refine .ite h ?_
  split
  · exact h.lightAnode
  · exact h.setFlag.setFlag.guardStep
  · exact h.setFlag.setFlag.guardStep
  · exact h

theorem lightInvalid (h : s.Formed) : s.lightInvalid.Formed := .ite h.same.fault.twinEvent h

theorem darkFollows (h : s.Formed) : s.darkFollows.Formed := .ite h.selfDark h

theorem anodeCurrent {measuredMa : Nat} (h : s.Formed) : (s.anodeCurrent measuredMa).Formed :=
  .ite h.same h.same.same.driveLight.fault.darkFollows

theorem sendTick {renew : Bool} (h : s.Formed) : (s.sendTick renew).Formed := .ite h h.same.emit

theorem tickLiveness (h : s.Formed) : s.tickLiveness.Formed := .ite h.same h

theorem tickBad {aborted : Bool} (h : s.Formed) : (s.tickBad aborted).Formed := .ite h.bump.same h.bump.same.fault

theorem renewal (h : s.Formed) : s.renewal.Formed := .ite h (.ite h.same h.same)

theorem takeRole {role epoch : Nat} (h : s.Formed) : (s.takeRole role epoch).Formed := by
  unfold State.takeRole
  extract_lets _ _ _ _ s3
  have h3 : s3.Formed := .ite h.set.setReg.same.relock h.set.setReg.same
  exact .ite h3.raise h3

theorem leads (h : s.Formed) : s.leads.Formed := (Formed.ite h.set h).same

theorem resync (h : s.Formed) : s.resync.Formed := h.same.set

theorem higherEpoch {epoch : Nat} (h : s.Formed) : (s.higherEpoch epoch).Formed := by
  unfold State.higherEpoch
  extract_lets _ s1
  have h1 : s1.Formed := by
    unfold s1
    split
    · exact h.answer
    · exact h
  exact .ite h1.same.showChange.takeRole.count.twinEvent.resync (.ite h.same.takeRole.resync h)

theorem takeover (h : s.Formed) : s.takeover.Formed := h.same.set.takeRole.leads.count.twinEvent

theorem leaseExpiry (h : s.Formed) : s.leaseExpiry.Formed := .ite h.takeover h

theorem partnerLost (h : s.Formed) : s.partnerLost.Formed := .ite h.same.setPair.fault.twinEvent h

theorem tickWord {w : Nat} {aborted : Bool} (h : s.Formed) : (s.tickWord w aborted).2.Formed := by
  unfold State.tickWord
  extract_lets _ _ _ _ _ _ _ _ s2 s3
  have h2 : s2.Formed := .ite h.same.higherEpoch h.same
  have h3 : s3.Formed := .ite h2.renewal h2
  exact .iteSnd h (.iteSnd (.iteSnd h.same h.same) (.iteSnd h (.iteSnd h.tickBad h3.heartbeatTaken)))

theorem sendStatus {renew : Bool} (h : s.Formed) : (s.sendStatus renew).Formed := .ite h h.sendSplice.same

theorem leaseRenew (h : s.Formed) : s.leaseRenew.Formed := .ite h.sendStatus.sendTick.same h

theorem sendCaps (h : s.Formed) : s.sendCaps.Formed := h.sendSplice

theorem linkUp (h : s.Formed) : s.linkUp.Formed := (Formed.ite h.set.same h.set.same.setPair).sendCaps.relock

theorem linkDown (h : s.Formed) : s.linkDown.Formed := .ite h.set.same.relock h.set.same

theorem linkRefresh (h : s.Formed) : s.linkRefresh.Formed := .ite h (.ite h.linkUp h.linkDown)

theorem spliceFails {b : List Nat} (h : s.Formed) : (s.spliceFails b).Formed := .ite h.cvuFail h.cvuFail.same.fault

theorem sendAck {seq : Nat} (h : s.Formed) : (s.sendAck seq).Formed := h.sendSplice

theorem spliceIn {type : Nat} {b : List Nat} (h : s.Formed) : (s.spliceIn type b).2.Formed := by
  unfold State.spliceIn
  extract_lets _ _ _ _ _ s4
  have h4 : s4.Formed := .ite h.cvuPass.same.setReg.higherEpoch h.cvuPass.same.setReg
  exact .iteSnd h (.iteSnd h.spliceFails (.iteSnd h4 (.iteSnd h4 (.iteSnd h4 (.iteSnd h4.sendAck h4.sendAck.same)))))

theorem ackIn {b : List Nat} (h : s.Formed) : (s.ackIn b).Formed := by
  unfold State.ackIn
  split
  · rename_i s1 e1
    have h1 := h.spliceIn.snd e1
    exact h1
  · rename_i s2 e2
    have h2 := h.spliceIn.snd e2
    exact h2.same

theorem spliceResend (h : s.Formed) : s.spliceResend.Formed := h.same.foldl fun _ _ h => h.emit.cvuPass

theorem mismatch {reason : Nat} (h : s.Formed) : (s.mismatch reason).Formed :=
  .ite h ((Formed.ite h.setPair.set.set.same.relock h.setPair.set.set.same).faultVal.twinEvent)

theorem paired {c : Caps} (h : s.Formed) : (s.paired c).Formed := by
  unfold State.paired
  split
  · split
    · rename_i s1 e1
      have h1 := h.free.snd e1
      extract_lets _ _ _ _ s5
      have h5 : s5.Formed := .ite h1.set.set.setPair.takeRole.same.leads h1.set.set.setPair.takeRole.same.resync
      exact .ite h5.twinEvent h5

theorem capsIn {b : List Nat} (h : s.Formed) : (s.capsIn b).Formed := by
  unfold State.capsIn
  split
  · rename_i s1 e1
    have h1 := h.spliceIn.snd e1
    exact h1
  · rename_i s2 e2
    have h2 := h.spliceIn.snd e2
    extract_lets _ _ _ _ _ _ _ s6 _ s7
    have h6 : s6.Formed := .ite h2.same.setReg.setReg.set.set.set.setPair.sendCaps h2.same.setReg.setReg.set.set.set
    have h7 : s7.Formed := .ite h6.twinEvent h6
    exact .ite h6 (.ite h6.mismatch (.ite h7 h7.paired))

theorem statusIn {b : List Nat} (h : s.Formed) : (s.statusIn b).Formed := by
  unfold State.statusIn
  split
  · rename_i s1 e1
    have h1 := h.spliceIn.snd e1
    exact h1
  · rename_i s2 e2
    have h2 := h.spliceIn.snd e2
    exact (Formed.ite h2.same.linkRefresh.renewal h2.same.linkRefresh).heartbeatTaken

theorem sendScan (h : s.Formed) : s.sendScan.Formed := .ite h.sendSplice h

theorem scanIn {b : List Nat} (h : s.Formed) : (s.scanIn b).Formed := by
  unfold State.scanIn
  split
  · rename_i s1 e1
    have h1 := h.spliceIn.snd e1
    exact h1
  · rename_i s2 e2
    have h2 := h.spliceIn.snd e2
    exact h2.same

theorem sendCommit {block frame : Nat} {values : List Nat} (h : s.Formed) : (s.sendCommit block frame values).Formed :=
  .ite h.sendSplice h

theorem timingCommit (h : s.Formed) : s.timingCommit.Formed := by
  unfold State.timingCommit
  refine .ite h.latch.raise ?_
  dsimp only
  split
  · exact h.timingAccept.sendCommit
  · exact h.timingAccept

theorem toneCommit (h : s.Formed) : s.toneCommit.Formed := by
  unfold State.toneCommit
  refine .ite h.latch ?_
  dsimp only
  split
  · exact h.toneAccept.sendCommit
  · exact h.toneAccept

theorem layerCommitSet {mask : Nat} (h : s.Formed) : (s.layerCommitSet mask).2.Formed := by
  unfold State.layerCommitSet
  extract_lets
  refine .iteSnd ?_ ?_
  · exact h
  · split
    · exact h.layerRejected
    · split
      · exact h.layerAccept.sendCommit
      · exact h.layerAccept

theorem moveSet {l dst out alpha : Nat} (h : s.Formed) : (s.moveSet l dst out alpha).Formed := by
  unfold State.moveSet
  dsimp only
  split
  · exact h.moveAccept.sendCommit
  · exact h.moveAccept

theorem meshSelectSet {bank : Nat} (h : s.Formed) : (s.meshSelectSet bank).2.Formed :=
  .iteSnd h (.iteSnd h.latch (.ite h.selectAccept.sendCommit h.selectAccept))

theorem selectMirrored {bank e : Nat} (h : s.Formed) : (s.selectMirrored bank e).Formed :=
  .ite h.latch.fault h.selectAccept

theorem commitMirrored {block frame : Nat} {w : List Nat} (h : s.Formed) :
    (s.commitMirrored block frame w).Formed := by
  unfold State.commitMirrored
  split
  · exact h.timingAccept
  · exact h.toneAccept
  · exact h.same.set
  · exact h.selectMirrored
  · exact .ite h.moveAccept h
  · exact h

theorem commitIn {b : List Nat} (h : s.Formed) : (s.commitIn b).Formed := by
  unfold State.commitIn
  split
  · rename_i s1 e1
    have h1 := h.spliceIn.snd e1
    exact h1
  · rename_i s2 e2
    have h2 := h.spliceIn.snd e2
    exact .ite h2 (.ite h2 (.ite h2.commitMirrored h2.bump.fault.commitMirrored))

theorem sendBoundary (h : s.Formed) : s.sendBoundary.Formed := .ite h h.emit.sendSplice.setReg

theorem stageLayers {r : List Nat} {e : Nat} (h : s.Formed) : (s.stageLayers r e).Formed :=
  (h.foldl fun _ _ h => h.foldl fun _ _ h => h.setReg).same.set

theorem resyncTake {r : List Nat} (h : s.Formed) : (s.resyncTake r).Formed := by
  unfold State.resyncTake
  extract_lets _ _ _ s2 _ _ s4 _ s5
  have h2 : s2.Formed := .ite h.stageLayers h.stageLayers.selectMirrored
  have h4 : s4.Formed := .ite h2.setReg.setReg.setReg h2.setReg.setReg.setReg.timingAccept
  have h5 : s5.Formed := h4.foldl fun _ _ h => h.setReg
  exact h5.toneAccept.setReg.same

theorem captureResync {e : Nat} (h : s.Formed) : (s.captureResync e).Formed := by
  unfold State.captureResync
  split
  · exact .ite h.same.set h
  · exact h

theorem recordTaken {r : List Nat} (h : s.Formed) : (s.recordTaken r).Formed := by
  unfold State.recordTaken
  extract_lets _ s2
  have h2 : s2.Formed := h.setReg.foldl fun _ _ h => h.setReg
  exact .ite h2.mismatch (.ite (.ite h2 h2.resyncTake) (.ite h2 (.ite h2.same h2.same.bump.fault.twinEvent.resync)))

theorem mirrorIn {b : List Nat} (h : s.Formed) : (s.mirrorIn b).Formed := by
  unfold State.mirrorIn
  split
  · rename_i s1 e1
    have h1 := h.spliceIn.snd e1
    exact h1
  · rename_i s2 e2
    have h2 := h.spliceIn.snd e2
    refine .ite h2 ?_
    extract_lets
    split
    · exact h2.same.recordTaken
    · exact h2.same

theorem eventIn {b : List Nat} (h : s.Formed) : (s.eventIn b).Formed := by
  unfold State.eventIn
  split
  · rename_i s1 e1
    have h1 := h.spliceIn.snd e1
    exact h1
  · rename_i s2 e2
    have h2 := h.spliceIn.snd e2
    exact .ite h2.setEvent (.ite (.ite h2.set.same.event.raise h2.set.same.event) h2)

theorem timingIn {b : List Nat} (h : s.Formed) : (s.timingIn b).Formed := .ite h h.same.relock.phaseEvent

theorem timingMissing (h : s.Formed) : s.timingMissing.Formed := .ite h h.same.relock

theorem sendSwing {op epoch frame : Nat} (h : s.Formed) : (s.sendSwing op epoch frame).Formed := h.sendSplice

theorem swingOffer (h : s.Formed) : s.swingOffer.Formed := h.same.sendSwing

theorem swingDue (h : s.Formed) : s.swingDue.Formed := by
  unfold State.swingDue
  split
  · exact h
  · exact .ite h.swingOffer h

theorem refuseHandover {detail : Nat} (h : s.Formed) : (s.refuseHandover detail).Formed := by
  unfold State.refuseHandover
  split
  · exact h
  · exact h.answer.same.showChange

theorem swingEnds (h : s.Formed) : s.swingEnds.Formed := by
  unfold State.swingEnds
  split
  · exact .ite h.refuseHandover h
  · exact h

theorem swingOfferIn {b : List Nat} (h : s.Formed) : (s.swingOfferIn b).Formed := by
  unfold State.swingOfferIn
  split
  · rename_i s1 e1
    have h1 := h.spliceIn.snd e1
    exact h1
  · rename_i s2 e2
    have h2 := h.spliceIn.snd e2
    exact .ite h2 (.ite h2.same.sendSwing h2.sendSwing)

theorem swingAcceptIn {b : List Nat} (h : s.Formed) : (s.swingAcceptIn b).Formed := by
  unfold State.swingAcceptIn
  split
  · rename_i s1 e1
    have h1 := h.spliceIn.snd e1
    exact h1
  · rename_i s2 e2
    have h2 := h.spliceIn.snd e2
    split
    · exact h2
    · exact .ite h2.same h2

theorem swingDeclineIn {b : List Nat} (h : s.Formed) : (s.swingDeclineIn b).Formed := by
  unfold State.swingDeclineIn
  split
  · rename_i s1 e1
    have h1 := h.spliceIn.snd e1
    exact h1
  · rename_i s2 e2
    have h2 := h.spliceIn.snd e2
    split
    · exact h2
    · exact .ite h2.same.twinEvent.swingEnds h2

theorem swingBoundary (h : s.Formed) : s.swingBoundary.Formed := by
  unfold State.swingBoundary
  split
  · exact h
  · refine .ite h ?_
    extract_lets
    refine .ite h.same.takeRole.leads.count.twinEvent ?_
    exact .ite h.same.takeRole.count (.ite h.same.same.fault.twinEvent.swingEnds h.same)

theorem sendMode {op target reason frame : Nat} {keep : Deadline} (h : s.Formed) :
    (s.sendMode op target reason frame keep).Formed :=
  h.sendSplice

theorem joinCall {j : Join} (h : s.Formed) : (s.joinCall j).Formed :=
  .ite ((Formed.ite h.sendMode h).same.setChange) ((Formed.ite h.sendMode h).same.showChange)

theorem joinStart {waiter : Option (Nat × Nat)} {own peer : Bool} (h : s.Formed) :
    (s.joinStart waiter own peer).Formed :=
  h.joinCall

theorem joinEnds (h : s.Formed) : s.joinEnds.Formed := .ite h.same.set h

theorem joinBoundary (h : s.Formed) : s.joinBoundary.Formed := by
  unfold State.joinBoundary
  split
  · exact h
  · extract_lets _ _ _ _ _ s1
    have h1 : s1.Formed := .ite h.sendMode h
    refine .ite (.ite h.joinCall h) ?_
    refine .ite h ?_
    split
    · exact .ite h.same h1.same
    · exact .ite h ((Formed.ite h.same.joinEnds.setChange h.same.joinEnds.showChange).twinEvent.answer)

theorem switchBoundary (h : s.Formed) : s.switchBoundary.Formed := by
  unfold State.switchBoundary
  split
  · exact h
  · exact .ite h h.same.joinEnds

theorem joinReturns (h : s.Formed) : s.joinReturns.Formed := by
  unfold State.joinReturns
  refine .ite h.abandon.setChange ?_
  split
  · exact .ite h.setChange h
  · exact h

theorem joinTimeout (h : s.Formed) : s.joinTimeout.Formed := by
  unfold State.joinTimeout
  split
  · refine .ite h ?_
    extract_lets _ _ s2 s3
    have h2 : s2.Formed := .ite h.same.sendMode h.same
    have h3 : s3.Formed := (Formed.ite h2.joinReturns h2).showChange
    exact h3.answer.fault.twinEvent
  · split
    · exact .ite h h.joinReturns
    · exact h

theorem handoverSend {hb : Handover} (h : s.Formed) : (s.handoverSend hb).Formed := h.sendMode.same.setChange

theorem handoverStart {target : Mode} {waiter : Option (Nat × Nat)} (h : s.Formed) :
    (s.handoverStart target waiter).Formed := by
  unfold State.handoverStart
  extract_lets
  refine .ite h.setChange ?_
  exact .ite h.answer (.ite (.ite h.answer ((Formed.ite h.same h.same.swingOffer).showChange)) h.handoverSend)

theorem setChangeStart {target : Mode} {waiter : Option (Nat × Nat)} (h : s.Formed) :
    (s.setChangeStart target waiter).Formed :=
  h.sendMode.same.setChange

theorem handoverBoundary (h : s.Formed) : s.handoverBoundary.Formed := by
  unfold State.handoverBoundary
  split
  · exact h
  · split
    · exact .ite (.ite h.handoverSend h.refuseHandover) h
    · exact .ite h.refuseHandover (.ite h.same h)

theorem modeIn {op : Nat} {b : List Nat} (h : s.Formed) : (s.modeIn op b).2.Formed := by
  unfold State.modeIn
  split
  · rename_i s1 e1
    have h1 := h.spliceIn.snd e1
    exact h1
  · rename_i s2 e2
    have h2 := h.spliceIn.snd e2
    exact .iteSnd h2 h2

theorem switchIn {b : List Nat} (h : s.Formed) : (s.switchIn b).Formed := by
  unfold State.switchIn
  split
  · rename_i s1 e1
    have h1 := h.modeIn.snd e1
    exact .ite h1.same h1
  · rename_i s2 e2
    have h2 := h.modeIn.snd e2
    exact h2

theorem handoverIn {b : List Nat} (h : s.Formed) : (s.handoverIn b).Formed := by
  unfold State.handoverIn
  split
  · rename_i s1 e1
    have h1 := h.modeIn.snd e1
    exact .ite h1.abandon.setChange h1
  · rename_i s2 e2
    have h2 := h.modeIn.snd e2
    exact h2

theorem setChangeIn {b : List Nat} (h : s.Formed) : (s.setChangeIn b).Formed := by
  unfold State.setChangeIn
  split
  · rename_i s1 e1
    have h1 := h.modeIn.snd e1
    exact h1
  · rename_i s2 e2
    have h2 := h.modeIn.snd e2
    split
    · exact h2
    · exact .ite h2 h2.abandon.setChange

theorem joinAbortIn {b : List Nat} (h : s.Formed) : (s.joinAbortIn b).Formed := by
  unfold State.joinAbortIn
  split
  · rename_i s1 e1
    have h1 := h.modeIn.snd e1
    exact .ite h1.joinReturns h1
  · rename_i s2 e2
    have h2 := h.modeIn.snd e2
    exact h2

theorem twinBoundary (h : s.Formed) : s.twinBoundary.Formed :=
  h.swingBoundary.joinBoundary.switchBoundary.handoverBoundary.sendBoundary

/-! ### HOST (Machine/Host) -/

theorem setDesc {n index : Nat} {f : Desc → Desc} (h : s.Formed) : (s.setDesc n index f).Formed := h.setRing

theorem dmaError {addr kind n : Nat} {line : Bool} (h : s.Formed) : (s.dmaError addr kind n line).Formed :=
  h.setReg.setReg.bump.set.setFlag.set.raise

theorem haltRing {n err : Nat} (h : s.Formed) : (s.haltRing n err).Formed :=
  .ite h.set.setRingState.setRing.raise.event h

theorem forgetRing {n : Nat} (h : s.Formed) : (s.forgetRing n).Formed := h.same

theorem releaseCommits {n : Nat} (h : s.Formed) : (s.releaseCommits n).Formed := .ite h.same.same h.same

theorem ringOff {n : Nat} (h : s.Formed) : (s.ringOff n).Formed :=
  h.forgetRing.releaseCommits.setRing.set.set.set.setRingState

theorem stopLoad {n : Nat} (h : s.Formed) : (s.stopLoad n).Formed := by
  unfold State.stopLoad
  split
  · exact .ite h.same.set h
  · exact h

theorem ringsOff (h : s.Formed) : s.ringsOff.Formed := h.foldl fun _ _ h => .ite h h.stopLoad.ringOff

theorem ringReset {n : Nat} (h : s.Formed) :
    (s.ringReset n).Formed := .ite h h.forgetRing.stopLoad.setRing.setRingState

theorem ringResetDone {n : Nat} (h : s.Formed) : (s.ringResetDone n).Formed := .ite h.ringOff h

theorem ringEnable {n : Nat} (h : s.Formed) : (s.ringEnable n).Formed :=
  .ite h.set h.set.setRing.set.set.set.set.set.set.setRingState.set.same

theorem ringDisable {n : Nat} (h : s.Formed) : (s.ringDisable n).Formed :=
  .ite h.set (.ite h.set.setRing.setRingState.ringOff h.set.setRing.setRingState)

theorem ringCtrl {n v : Nat} (h : s.Formed) : (s.ringCtrl n v).Formed :=
  .ite ((Formed.ite h.ringReset h).ringEnable) ((Formed.ite h.ringReset h).ringDisable)

theorem askLine {g : Nat} (h : s.Formed) : (s.askLine g).Formed := .ite h h.same.toHost

theorem readLine {g : Nat} (h : s.Formed) : (s.readLine g).Formed := .ite h h.askLine

theorem watchPoll (h : s.Formed) : s.watchPoll.Formed :=
  .ite h ((Formed.ite h (.ite h.same.set h.same)).foldl fun _ _ h => h.readLine)

theorem watchFast (h : s.Formed) : s.watchFast.Formed := h.same.set

theorem nudge {v : Nat} (h : s.Formed) : (s.nudge v).Formed :=
  .ite h.watchFast (h.watchFast.foldl fun _ _ h => .ite h.askLine h)

theorem fetchTo {n index : Nat} (h : s.Formed) : (s.fetchTo n index).Formed := h.setRing.foldl fun _ _ h => h.toHost

theorem takeIndex {n v : Nat} (h : s.Formed) : (s.takeIndex n v).Formed := by
  unfold State.takeIndex
  extract_lets
  refine .ite h ?_
  refine .ite (.ite h.set.watchFast.haltRing h.set.watchFast.overflow) ?_
  exact .ite h.set.watchFast.haltRing (.ite h.set.watchFast.fetchTo h.set.watchFast)

theorem lineRead {g : Nat} {r : HostRead (List Nat)} (h : s.Formed) : (s.lineRead g r).Formed := by
  unfold State.lineRead
  refine .ite h ?_
  dsimp only
  split
  · exact h.same.same.foldl fun _ _ h => h.takeIndex
  · exact .ite h.same.dmaError.bump.same.askLine (h.same.dmaError.bump.same.foldl fun _ _ h => h.haltRing)

theorem descFetch {n index : Nat} {r : HostRead (List Nat)} (h : s.Formed) : (s.descFetch n index r).Formed := by
  unfold State.descFetch
  extract_lets
  refine .ite h ?_
  split
  · exact h.setRing
  · exact h.setRing.dmaError.haltRing

theorem descAdmit {n : Nat} (h : s.Formed) : (s.descAdmit n).Formed := by
  unfold State.descAdmit
  extract_lets
  split
  · exact h
  · exact .ite h (.ite h.setRing.set h.setRing.set.finish)

theorem descCompletion {n : Nat} (h : s.Formed) : (s.descCompletion n).Formed := by
  unfold State.descCompletion
  extract_lets
  split
  · exact h
  · split
    · exact h
    · refine .ite h ?_
      extract_lets _ _ _ _ _ s5 _ s7
      have h5 : s5.Formed := .ite h.emit.emit.setRing.set.set.set.bump h.emit.emit.setRing.set.set.set
      have h7 : s7.Formed := .ite h5.releaseCommits.ringMsg h5.releaseCommits
      exact .ite h7.ringOff h7

theorem holdoffEnds {n : Nat} (h : s.Formed) : (s.holdoffEnds n).Formed := .ite h.setRing.msix h

theorem irqEnable {v : Nat} (h : s.Formed) : (s.irqEnable v).Formed := h.set.foldl fun _ _ h => .ite h.msix h

theorem msixCtrl {v w : Nat} (h : s.Formed) : (s.msixCtrl v w).Formed := .ite h.set.set.toHost h.set

theorem busMaster {bme : Bool} {conf : PcieConf} (h : s.Formed) : (s.busMaster bme conf).Formed := by
  unfold State.busMaster
  extract_lets
  refine .ite h.setFlag.same ?_
  refine Formed.foldl h.setFlag.same.same fun s4 _ h4 => ?_
  split
  · exact h4.msix
  · exact h4.emit

theorem hostCold (h : s.Formed) : s.hostCold.Formed := by
  unfold State.hostCold
  refine Formed.foldl ?_ fun _ _ h => h.setReg
  exact ⟨⟨h.1.1.filter _, fun e he => h.1.2 e (List.mem_filter.mp he).1⟩, h.2⟩

theorem mboxDrop {n : Nat} {f : Field} (h : s.Formed) : (s.mboxDrop n f).Formed := h.setMbox.latch.bump

theorem mboxTear {n : Nat} (h : s.Formed) : (s.mboxTear n).Formed := .ite h h.mboxDrop

theorem hostReset {linkUp : Bool} (h : s.Formed) : (s.hostReset linkUp).Formed := by
  unfold State.hostReset
  extract_lets _ _ s2 s3
  have h2 : s2.Formed := .ite h.ringsOff.hostCold.setReg.set.set h.ringsOff.hostCold
  have h3 : s3.Formed := h2.foldl fun _ _ h => h.mboxTear
  exact h3.fault.forceLocks

theorem pcieUp {width speed : Nat} {ptm : Bool} (h : s.Formed) : (s.pcieUp width speed ptm).Formed :=
  .ite h h.set.set.set.setFlag

theorem perst {asserted : Bool} (h : s.Formed) : (s.perst asserted).Formed := .ite h.same.hostReset h.same

theorem mw2 {write : Bool} {addr : Nat} {data : List Nat} {len : Nat} (h : s.Formed) :
    (s.mw2 write addr data len).Formed :=
  .ite h h.same.mw2Run

/-! ### Mailboxes and locks (Machine/Mbox) -/

theorem mboxPush {n w : Nat} (h : s.Formed) : (s.mboxPush n w).Formed :=
  .ite h.mboxDrop (.ite h.setMbox.notifyFw h.setMbox)

theorem mboxTorn {n : Nat} (h : s.Formed) : (s.mboxTorn n).Formed := .ite h.mboxTear h

theorem mboxFlush {n k : Nat} (h : s.Formed) : (s.mboxFlush n k).Formed := by
  induction k generalizing s with
  | zero => exact h
  | succ k ih =>
    unfold State.mboxFlush
    dsimp only
    split
    · exact h
    · exact .ite (ih h.setMbox.notifyHost) h

theorem mboxRead {n : Nat} (h : s.Formed) : (s.mboxRead n).2.Formed := by
  unfold State.mboxRead
  extract_lets
  split
  · exact h.setMbox.mboxFlush
  · exact h.latch

theorem mboxReplyTimeout {n : Nat} (h : s.Formed) : (s.mboxReplyTimeout n).Formed := by
  unfold State.mboxReplyTimeout
  extract_lets
  split
  · exact h
  · exact .ite h h.setMbox.bump.bump.fault.mboxFlush

theorem mboxReset {n v : Nat} (h : s.Formed) : (s.mboxReset n v).Formed := .ite h h.setMbox.set.set.same

theorem dbellSet {v : Nat} (h : s.Formed) : (s.dbellSet v).Formed := h.foldl fun _ _ h => h.bell

theorem takeRequest {n code : Nat} (h : s.Formed) : (s.takeRequest n code).2.Formed := by
  unfold State.takeRequest
  extract_lets
  split
  · exact h
  · exact .iteSnd h.setMbox h

theorem reply {n : Nat} {msg data : List Nat} (h : s.Formed) : (s.reply n msg data).Formed := h.fwSend

theorem ping {n : Nat} (h : s.Formed) : (s.ping n).Formed := by
  unfold State.ping
  split
  · rename_i s1 e1
    have h1 := h.takeRequest.snd e1
    exact h1
  · rename_i s2 e2
    have h2 := h.takeRequest.snd e2
    exact h2.reply

theorem version {n : Nat} (h : s.Formed) : (s.version n).Formed := by
  unfold State.version
  split
  · rename_i s1 e1
    have h1 := h.takeRequest.snd e1
    exact h1
  · rename_i s2 e2
    have h2 := h.takeRequest.snd e2
    exact h2.reply

theorem badMessage {n : Nat} (h : s.Formed) : (s.badMessage n).Formed := by
  unfold State.badMessage
  extract_lets
  split
  · exact h
  · exact .ite h h.setMbox.fwSend

theorem acquire {n : Nat} {m : Master} (h : s.Formed) :
    (s.acquire n m).Formed := h.same.count.set.set.set.set.set.setFlag

theorem lockRead {n : Nat} {m : Master} (h : s.Formed) : (s.lockRead n m).2.Formed := by
  unfold State.lockRead
  refine .iteSnd ?_ ?_
  · exact h
  · split
    · exact h
    · exact h.acquire

theorem lockRelease {n : Nat} {m : Master} {v : Nat} (h : s.Formed) : (s.lockRelease n m v).Formed :=
  .ite (.ite h.freeLock h) h.bump

theorem fwWatchdog (h : s.Formed) : s.fwWatchdog.Formed :=
  .ite h ((h.set.set.foldl fun _ _ h => h.setMbox).mboxMode.bell.fault.forceLocks)

theorem fwReady (h : s.Formed) : s.fwReady.Formed :=
  .ite h (.ite h.set.set.bell.same.mboxMode.notice h.set.set.bell.same.mboxMode)

theorem setSlot {n : Nat} {x : Slot} (h : s.Formed) : (s.setSlot n x).Formed := h.same

theorem slotInfo {n : Nat} (h : s.Formed) : (s.slotInfo n).Formed := by
  unfold State.slotInfo
  split
  · rename_i s1 e1
    have h1 := h.takeRequest.snd e1
    exact h1
  · rename_i s2 e2
    have h2 := h.takeRequest.snd e2
    exact .ite h2.reply h2.reply

theorem flashNotice {n status code result : Nat} (h : s.Formed) : (s.flashNotice n status code result).Formed :=
  .ite h.bell.fwSend h.bell

theorem slotWrite {n : Nat} (h : s.Formed) : (s.slotWrite n).Formed := by
  unfold State.slotWrite
  split
  · rename_i s1 e1
    have h1 := h.takeRequest.snd e1
    exact h1
  · rename_i s2 e2
    have h2 := h.takeRequest.snd e2
    exact .ite h2.reply (.ite h2.reply.flashNotice h2.reply.setSlot.same)

theorem slotVerify {n : Nat} (h : s.Formed) : (s.slotVerify n).Formed := by
  unfold State.slotVerify
  split
  · rename_i s1 e1
    have h1 := h.takeRequest.snd e1
    exact h1
  · rename_i s2 e2
    have h2 := h.takeRequest.snd e2
    exact .ite h2.reply h2.reply.same

theorem slotActivate {n : Nat} (h : s.Formed) : (s.slotActivate n).2.Formed := by
  unfold State.slotActivate
  split
  · rename_i s1 e1
    have h1 := h.takeRequest.snd e1
    exact h1
  · rename_i s2 e2
    have h2 := h.takeRequest.snd e2
    exact .iteSnd h2.reply h2.reply.setSlot

theorem flashDone {ok : Bool} {result : Nat} (h : s.Formed) : (s.flashDone ok result).Formed := by
  unfold State.flashDone
  split
  · exact h
  · exact .ite (.ite h.same.setSlot.flashNotice h.same.flashNotice) ((Formed.ite h.same.setSlot h.same).flashNotice)

/-! ### KEEPER (Machine/Keeper) -/

theorem reports {rs : List Report} (h : s.Formed) : (s.reports rs).Formed :=
  .ite h (h.foldl fun _ _ h => .ite h.accept h)

theorem clearBits {bits refused : List Nat} (h : s.Formed) : (s.clearBits bits refused).1.Formed := by
  unfold State.clearBits
  induction bits generalizing s refused with
  | nil => exact h
  | cons b bits ih =>
    rw [List.foldl_cons]
    split
    · exact ih h
    · exact ih h.set

theorem clearDone {refused : List Nat} (h : s.Formed) : (s.clearDone refused).Formed := by
  unfold State.clearDone
  extract_lets _ _ s2
  have h2 : s2.Formed := by
    unfold s2
    split
    · exact h.same.set.set.set
    · exact h.same.set.set.set
  exact h2.driveErr

theorem keeperClear {v : Nat} (h : s.Formed) : (s.keeperClear v).Formed :=
  .ite h (.ite h.set.set.set.clearBits.clearDone h.set.set.set.clearBits.same.driveErr)

theorem guardConfirms {g : Guard} (h : s.Formed) : (s.guardConfirms g).Formed := by
  unfold State.guardConfirms
  split
  · exact h
  · exact .ite h.clearBits.clearDone h.clearBits.same.driveErr

theorem histIndex {v : Nat} (h : s.Formed) : (s.histIndex v).Formed := (h.set.foldl fun _ _ h => h.setReg).set

theorem faultJournal (h : s.Formed) : s.faultJournal.Formed := .ite h.same h

theorem contain {code subject : Nat} (h : s.Formed) : (s.contain code subject).Formed := by
  unfold State.contain
  extract_lets
  split
  · exact h.set.set
  · split
    · exact h.gateSectors
    · exact h
  · exact h.gateSectors
  · exact h.latch
  · exact h.toneState
  · exact (h.foldl fun _ _ h => h.set).set
  · exact h.buckStops
  · exact h.buckStops
  · exact h.buckStops
  · exact h.buckStops
  · exact h.buckStops
  · exact h.disable.stopBucks
  · exact h.set.showGuards
  · exact h.same
  · exact h.set.set
  · exact h.setPair
  · exact h.set
  · exact h.set.set.mboxMode
  · exact h.foldl fun _ _ h => h.hold
  · exact .ite (h.foldl fun _ _ h => h.foldl fun _ _ h => h.hold) h
  · exact h

theorem containDark {code : Nat} (h : s.Formed) : (s.containDark code).Formed := by
  unfold State.containDark
  split
  · exact .ite h.disable.stopBucks.abandon.enter h
  · exact .ite h.disable.abandon.setChange h
  · exact h

theorem injectGo {m : Master} (h : s.Formed) : (s.injectGo m).Formed := by
  unfold State.injectGo
  extract_lets _ _ _ _ _ _ _ _ _ _ _ s4
  have h4 : s4.Formed := .ite h.set.same.set.set.contain h.set.same.set.set
  exact .ite h.set (.ite h4.accept.containDark h4.accept)

theorem injWrite {m : Master} {off v : Nat} (h : s.Formed) : (s.injWrite m off v).Formed := by
  unfold State.injWrite
  refine .ite h.bump ?_
  refine .ite h.setReg ?_
  exact .ite h.set
    (.ite ((Formed.ite h.set.set.endInjection h.set.set).injectGo) (.ite h.set.set.endInjection h.set.set))

theorem injectExpiry (h : s.Formed) : s.injectExpiry.Formed := by
  unfold State.injectExpiry
  split
  · exact .ite h.endInjection h
  · exact h

/-! ### Writes and reads of MW0 (Machine/RegAccess) -/

theorem plainWrite {m : Master} {off v : Nat} (h : s.Formed) : (s.plainWrite m off v).Formed := h.setReg

theorem writeStream {m v : Nat} (h : s.Formed) : (s.writeStream m v).Formed := h.streamConfig.showAdmit

theorem laneErrClear {n v : Nat} (h : s.Formed) : (s.laneErrClear n v).Formed := .ite h.setReg h

theorem spliceClear {v : Nat} (h : s.Formed) : (s.spliceClear v).Formed :=
  .ite ((Formed.ite h.setReg h).setReg) (.ite h.setReg h)

theorem streamClear {m v : Nat} (h : s.Formed) : (s.streamClear m v).Formed := .ite h h.setReg.setReg.set

theorem rowErrClear {v : Nat} (h : s.Formed) : (s.rowErrClear v).Formed := .ite h.setReg h

theorem cvuClear {v : Nat} (h : s.Formed) : (s.cvuClear v).Formed := h.foldl fun _ _ h => .ite h h.setReg.setReg

theorem patternWrite {m : Master} {off v : Nat} (h : s.Formed) : (s.patternWrite m off v).Formed := h.plainWrite.same

theorem tlimWrite {m : Master} {g v : Nat} (h : s.Formed) : (s.tlimWrite m g v).Formed := h.plainWrite

theorem causeClear {m : Master} {v : Nat} (h : s.Formed) : (s.causeClear m v).Formed :=
  h.plainWrite.foldl fun _ _ h => .ite h h.set

theorem writeHost {m : Master} {off v : Nat} (h : s.Formed) : (s.writeHost m off v).Formed := by
  unfold State.writeHost
  refine .ite h.keeperClear ?_
  refine .ite h.histIndex ?_
  refine .ite h.injWrite ?_
  refine .ite h.nudge ?_
  refine .ite (.ite h.plainWrite h) ?_
  refine .ite h.irqEnable ?_
  refine .ite h.causeClear ?_
  split
  · exact h.msixCtrl
  · split
    · exact h.ringCtrl
    · exact .ite h h.plainWrite

theorem writeIntake {m : Master} {off v : Nat} (h : s.Formed) : (s.writeIntake m off v).Formed := by
  unfold State.writeIntake
  refine .ite h.eyeStart ?_
  split
  · exact h.laneRequest
  · split
    · exact h.laneErrClear
    · split
      · exact h.writeStream
      · split
        · exact h.streamSize
        · split
          · exact h.streamClear
          · exact h.plainWrite

theorem srefWrite {m : Master} {i v : Nat} (h : s.Formed) : (s.srefWrite m i v).Formed :=
  .ite h.plainWrite (.ite ((Formed.ite h h.touch.set).gate) ((Formed.ite h h.touch.set).ungate))

theorem writePath {m : Master} {off v : Nat} (h : s.Formed) : (s.writePath m off v).Formed := by
  unfold State.writePath
  refine .ite h.layerCommitSet ?_
  refine .ite h.protIndex ?_
  refine .ite h.meshSelectSet ?_
  refine .ite h.coefWrite ?_
  refine .ite (.ite h.toneCommit h) ?_
  split
  · exact h.srefWrite
  · exact h.plainWrite

theorem writeStrike {m : Master} {off v : Nat} (h : s.Formed) : (s.writeStrike m off v).Formed := by
  unfold State.writeStrike
  refine .ite (.ite h.timingCommit h) ?_
  refine .ite h.frameLoad ?_
  refine .ite h.lateClear ?_
  refine .ite h.rowErrClear ?_
  refine .ite h.timeOffset ?_
  refine .ite h.timeTrim ?_
  refine .ite h.peekGo ?_
  refine .ite h.defectIndex ?_
  refine .ite h.patternWrite ?_
  split
  · exact h.tlimWrite
  · exact h.plainWrite

theorem writeHouse {m : Master} {off v : Nat} (h : s.Formed) : (s.writeHouse m off v).Formed := by
  unfold State.writeHouse
  refine .ite h.spliceClear ?_
  refine .ite h.dbellSet ?_
  refine .ite h.cvuClear ?_
  split
  · exact h.mboxPush
  · split
    · exact h.mboxReset
    · split
      · exact h.lockRelease
      · exact h.plainWrite

theorem regTakes {m : Master} {off v : Nat} (h : s.Formed) : (s.regTakes m off v).Formed := by
  unfold State.regTakes
  refine .ite h ?_
  split
  · exact h.writeHost
  · exact h.writeHost
  · exact h.writeHost
  · exact h.writeIntake
  · exact h.writePath
  · exact h.writePath
  · exact h.writePath
  · exact h.writeStrike
  · exact h.writeStrike
  · exact h.writeHouse

theorem wroteNow {m : Master} {off : Nat} (h : s.Formed) : (s.wroteNow m off).Formed := h.same

theorem regLands {m : Master} {off v : Nat} (h : s.Formed) : (s.regLands m off v).Formed := .ite h h.regTakes.wroteNow

theorem regWrite {m : Master} {off bytes v : Nat} (h : s.Formed) : (s.regWrite m off bytes v).Formed :=
  .ite (.ite h.stall h.regLands) h

theorem dropShadow {m : Master} {off : Nat} (h : s.Formed) : (s.dropShadow m off).Formed := h.same

theorem setShadow {m : Master} {off v : Nat} (h : s.Formed) : (s.setShadow m off v).Formed := h.dropShadow.same

theorem regRead {m : Master} {off : Nat} (h : s.Formed) : (s.regRead m off).2.Formed := by
  unfold State.regRead
  refine .iteSnd ?_ ?_
  · exact h
  · split
    · exact h.lockRead
    · split
      · exact h.mboxRead
      · refine .iteSnd ?_ ?_
        · exact h.setShadow
        · refine .iteSnd ?_ ?_
          · exact h.setShadow
          · split
            · exact h.dropShadow
            · exact h

theorem readNow {r : Reader} {off : Nat} (h : s.Formed) : (s.readNow r off).Formed := h.regRead.emit

theorem readOut {r : Reader} {off : Nat} (h : s.Formed) : (s.readOut r off).Formed := .ite h (.ite h.stall h.readNow)

theorem resume {w : Waiting} (h : s.Formed) : (s.resume w).Formed := by
  unfold State.resume
  split
  · exact h.regLands
  · exact h.readNow

theorem resumeIsland {island : Nat} (h : s.Formed) :
    (s.resumeIsland island).Formed := h.same.foldl fun _ _ h => h.resume

/-! ### The descriptors (Machine/Descr) -/

theorem moved {n index bytes : Nat} (h : s.Formed) : (s.moved n index bytes).Formed := h.debit.setDesc

theorem begins {n index : Nat} (h : s.Formed) : (s.begins n index).Formed := h.setDesc

theorem moveFor {n total : Nat} {d : Desc} (h : s.Formed) : (s.moveFor n total d).2.Formed := .ite h h.moved

theorem nop {n : Nat} (h : s.Formed) : (s.nop n).Formed := by
  unfold State.nop
  split
  · exact h
  · split
    · exact h.finish
    · exact h.finish

theorem bindRing {n : Nat} (h : s.Formed) : (s.bindRing n).Formed := h.same

theorem bindMove {n : Nat} (h : s.Formed) : (s.bindMove n).Formed := by
  unfold State.bindMove
  split
  · exact .ite h.same h
  · exact h

theorem layerError {n index code l : Nat} (h : s.Formed) : (s.layerError n index code l).Formed :=
  h.layerRejected.finish

theorem stageLayer {l : Nat} {words : List Nat} (h : s.Formed) : (s.stageLayer l words).Formed :=
  h.foldl fun _ _ h => h.plainWrite

theorem layerSetDesc {n : Nat} (h : s.Formed) : (s.layerSetDesc n).Formed := by
  unfold State.layerSetDesc
  split
  · exact h
  · split
    · exact h.finish
    · extract_lets
      refine .ite h.layerError ?_
      refine .ite ?_ ?_
      · split
        · exact h.layerError
        · exact h.finish
      · refine .ite h.stageLayer.finish ?_
        split
        · rename_i s2 e2
          have h2 := h.stageLayer.layerCommitSet.snd e2
          exact h2.finish
        · rename_i s3 e3
          have h3 := h.stageLayer.layerCommitSet.snd e3
          exact h3.bindRing.finish

theorem layerMoveDesc {n : Nat} (h : s.Formed) : (s.layerMoveDesc n).Formed := by
  unfold State.layerMoveDesc
  split
  · exact h
  · split
    · exact h.finish
    · exact .ite h.layerError (.ite h.layerError h.moveSet.bindMove.finish)

theorem layerCommitDesc {n : Nat} (h : s.Formed) : (s.layerCommitDesc n).Formed := by
  unfold State.layerCommitDesc
  split
  · exact h
  · split
    · exact h.finish
    · extract_lets
      refine .ite h.finish ?_
      split
      · rename_i s1 e1
        have h1 := h.layerCommitSet.snd e1
        exact h1.finish
      · rename_i s2 e2
        have h2 := h.layerCommitSet.snd e2
        exact h2.bindRing.finish

theorem regPairs {d : Desc} {count fuel k : Nat} (h : s.Formed) : (s.regPairs d count fuel k).2.Formed := by
  induction fuel generalizing s k with
  | zero => exact h
  | succ fuel ih => exact .iteSnd h (.iteSnd (ih h) (.iteSnd h (ih h.regLands)))

theorem regWriteDescr {n : Nat} (h : s.Formed) : (s.regWriteDescr n).Formed := by
  unfold State.regWriteDescr
  split
  · exact h
  · dsimp only
    split
    · exact h.finish
    · split
      · exact h.finish
      · exact .ite h.begins.regPairs.finish h.begins.regPairs.setDesc

theorem frameWaitDesc {n : Nat} (h : s.Formed) : (s.frameWaitDesc n).Formed := by
  unfold State.frameWaitDesc
  split
  · exact h
  · split
    · exact h.finish
    · exact .ite h.finish h.begins

theorem frameWaits (h : s.Formed) : s.frameWaits.Formed := h.foldl fun _ _ h => .ite h.finish h

theorem waitsStop (h : s.Formed) : s.waitsStop.Formed := h.foldl fun _ _ h => h.finish

theorem hostReadFails {n index addr kind : Nat} (h : s.Formed) : (s.hostReadFails n index addr kind).Formed :=
  h.dmaError.finish

theorem dropBank {bank : Nat} (h : s.Formed) : (s.dropBank bank).Formed := .ite h h.set

theorem meshLoadDesc {n : Nat} {image : HostRead (List Nat)} (h : s.Formed) : (s.meshLoadDesc n image).Formed := by
  unfold State.meshLoadDesc
  split
  · exact h
  · extract_lets _ s1
    have h1 : s1.Formed := .ite h.stopLoad h.dropBank
    split
    · exact h.finish
    · refine .ite h.loadResult.finish ?_
      refine .ite h ?_
      split
      · refine .ite h.moveFor ?_
        split
        · rename_i s2 e2
          have h2 := h.loadStart.snd e2
          exact h2.begins.moveFor
        · rename_i s3 _ e3
          have h3 := h.loadStart.snd e3
          exact h3.finish
      · exact h1.hostReadFails

theorem meshCheckDone (h : s.Formed) : s.meshCheckDone.Formed := by
  unfold State.meshCheckDone
  split
  · exact h
  · split
    · exact .ite h.loadEnds h
    · exact h

theorem meshSelectDesc {n : Nat} (h : s.Formed) : (s.meshSelectDesc n).Formed := by
  unfold State.meshSelectDesc
  split
  · exact h
  · split
    · exact h.finish
    · extract_lets
      split
      · rename_i s1 e1
        have h1 := h.meshSelectSet.snd e1
        exact h1.finish
      · rename_i s2 e2
        have h2 := h.meshSelectSet.snd e2
        exact h2.finish

theorem sendRows {d : Desc} {p fuel len : Nat} (h : s.Formed) : (s.sendRows d p fuel len).Formed := by
  induction fuel generalizing s p len with
  | zero => exact h
  | succ fuel ih =>
    cases len with
    | zero => exact h
    | succ len => exact ih h.emit

/-- Bytes written one by one, each to its own address, keep the canonical form. -/
theorem scatter_wf {m : List Host.Cell} {addr : Nat → Nat} {k : Nat} {l : List Nat} (h : Mem.wf m) :
    Mem.wf (Mem.scatter m addr k l) := by
  induction l generalizing m k with
  | nil => exact h
  | cons b l ih => exact ih (Mem.write_wf _ _ h)

/-- Bytes copied one by one keep the canonical form. -/
theorem copy_wf {m : List Host.Cell} {dst src : Nat → Nat} {p k : Nat} (h : Mem.wf m) :
    Mem.wf (Mem.copy m dst src p k) := by
  induction k generalizing m p with
  | zero => exact h
  | succ k ih => exact ih (Mem.write_wf _ _ h)

theorem burst {d : Desc} {p len : Nat} {data : List Nat} (h : s.Formed) : (s.burst d p len data).Formed := by
  unfold State.burst
  split
  · exact h.withDram (scatter_wf h.2) rfl
  · exact h.sendRows
  · exact h.withDram (scatter_wf h.2) rfl
  · exact h.withDram (copy_wf h.2) rfl

theorem bursts {n : Nat} {d : Desc} {used : Nat} {data : List Nat} {failed : Option (Nat × Nat)} {k : Nat} (h : s.Formed) :
    
    (s.bursts n d used data failed k).2.Formed := by
  induction k generalizing s used data failed with
  | zero => exact h
  | succ k ih =>
    unfold State.bursts
    refine .iteSnd h (.iteSnd h ?_)
    dsimp only
    split
    · exact h
    · exact .iteSnd h (ih h.burst.debit)

theorem surfRun {n index op : Nat} {data : List Nat} {failed : Option (Nat × Nat)} (h : s.Formed) :
    (s.surfRun n index op data failed).Formed := by
  unfold State.surfRun
  split
  · exact h
  · split
    · exact h.finish
    · refine .ite h.begins.finish (.ite h.begins ?_)
      dsimp only
      split
      · exact h.begins.bursts.setDesc
      · exact h.begins.bursts.setDesc.finish
      · exact h.begins.bursts.setDesc.hostReadFails

theorem calBlockDesc {n : Nat} {block : HostRead (List Nat)} (h : s.Formed) : (s.calBlockDesc n block).Formed := by
  unfold State.calBlockDesc
  split
  · exact h
  · extract_lets
    split
    · exact h.finish
    · refine .ite h ?_
      split
      · extract_lets _ go
        refine .ite h.finish ?_
        have hgo : go.2.Formed := .iteSnd h h.moveFor
        exact .ite hgo (.ite hgo.calBlock.finish hgo.calBlock.finish)
      · exact h.hostReadFails

theorem telRun {n index op : Nat} (h : s.Formed) : (s.telRun n index op).Formed := by
  unfold State.telRun
  split
  · exact h
  · dsimp only
    split
    · exact h.finish
    · refine .ite h.finish (.ite h (.ite h.begins (.ite (Formed.finish ?_) ?_)))
      · exact .ite h.begins.emit.setDesc h.begins.emit.moved
      · exact .ite h.begins.emit.setDesc h.begins.emit.moved

/-! ### Mode requests (Machine/Modes) -/

theorem applyOverlay {mode : Nat} (h : s.Formed) : (s.applyOverlay mode).Formed :=
  (h.foldl fun _ _ h => .ite h.stall h.regTakes).set.set.set

theorem runOverlay (h : s.Formed) : s.runOverlay.Formed := by
  unfold State.runOverlay
  extract_lets s1
  have h1 : s1.Formed := by
    unfold s1
    split
    · split
      · exact h.applyOverlay.setChange
      · exact h
    · exact h
  split
  · exact h1.same.applyOverlay
  · exact h1

theorem startStop {waiter : Option (Nat × Nat)} {cause : Nat} (h : s.Formed) : (s.startStop waiter cause).Formed :=
  h.defectJournal.same.showChange

theorem enterEmission {target : Mode} {cause : Nat} (h : s.Formed) : (s.enterEmission target cause).Formed :=
  .ite h.enter.same.set.startBucks.linkEntry.same.set h.enter.same.set.startBucks.linkEntry

theorem takeChange {c : Change} (h : s.Formed) : (s.takeChange c).Formed := by
  unfold State.takeChange
  extract_lets _ _ _ _ s3 s4
  have h3 : s3.Formed := .ite h.enter.same.set h.enter
  have h4 : s4.Formed := by
    unfold s4
    split
    · exact h3.twinEvent
    · exact h3
  refine .ite h.startStop ?_
  refine .ite h.answer ?_
  refine .ite ?_ (.ite h4.answer (.ite h.enterEmission.answer h.enter.answer))
  exact .ite h.disable.stopBucks.enter.startStop h.disable.stopBucks.enter.answer

theorem boundaryChange (h : s.Formed) : s.boundaryChange.Formed := by
  unfold State.boundaryChange
  split
  · exact h
  · extract_lets _ s1
    have h1 : s1.Formed := by
      unfold s1
      split
      · exact h.applyOverlay
      · exact h
    exact .ite h h1.setChange.takeChange

theorem tested {waiter : Option (Nat × Nat)} {passed : Bool} {go : State → State} (h : s.Formed)
    (hg : ∀ s, s.Formed → (go s).Formed) : (s.tested waiter passed go).Formed :=
  .ite (hg _ h.passTest) h.passTest.answer

theorem startRequest {target : Mode} {set : Bool} {waiter : Option (Nat × Nat)} {passed : Bool} (h : s.Formed) :
    (s.startRequest target set waiter passed).Formed := by
  unfold State.startRequest
  extract_lets m simple
  have hs : ∀ s t after stow, State.Formed s → (simple s t after stow).Formed :=
    fun _ _ _ _ h => h.applyOverlay.setChange
  refine .ite (.ite (.ite (h.tested fun _ h => h.joinStart) h.joinStart) h.setChangeStart) ?_
  refine .ite h.handoverStart (.ite (h.tested fun _ h => hs _ _ _ _ h) (.ite (hs _ _ _ _ h) ?_))
  exact .ite (.ite (hs _ _ _ _ h) (hs _ _ _ _ h)) (.ite h.startStop (hs _ _ _ _ h))

theorem wakePartner {target : Mode} {set : Bool} (h : s.Formed) : (s.wakePartner target set).Formed := .ite h.same h

theorem modeRequestDesc {n : Nat} {set passed : Bool} (h : s.Formed) : (s.modeRequestDesc n set passed).Formed := by
  unfold State.modeRequestDesc
  split
  · exact h
  · refine .ite h ?_
    extract_lets
    split
    · exact h.finish
    · refine .ite h.finish ?_
      refine .ite h.finish ?_
      refine .ite h.finish ?_
      split
      · exact h.wakePartner.finish
      · exact h.begins.startRequest

theorem joinEnterIn {b : List Nat} {passed : Bool} (h : s.Formed) : (s.joinEnterIn b passed).Formed := by
  unfold State.joinEnterIn
  split
  · next s' e => exact h.modeIn.snd e
  · next s' e =>
    have h' := h.modeIn.snd e
    exact .ite h' (.ite (.ite h'.setChange (h'.tested fun _ h => h.setChange)) (.ite h'.setChange h'))

/-! ### Power and the wake sequence (Machine/Power) -/

/-- What a power-down keeps of the registers is canonical: it is written into an empty file. -/
theorem keptRegs_canon (stow : Bool) (r : List (Nat × BitVec 32)) : Canon coldReg (keptRegs stow r) := by
  unfold keptRegs
  induction r with
  | nil => exact canon_nil
  | cons e r ih => exact sput_canon _ _ ih

theorem powerDown {stow : Bool} (_ : s.Formed) : (s.powerDown stow).Formed := by
  unfold State.powerDown
  extract_lets _ _ _ _ _ _ _ _ _ _ _ _ _ _ s1 _ s2 s3
  have h1 : s1.Formed := ⟨keptRegs_canon _ _, canon_nil⟩
  have h2 : s2.Formed := .ite h1.set.set.set h1.set
  have h3 : s3.Formed := .ite (h2.foldl fun _ _ h => h.setMbox) h2
  exact h3.driveErr.driveLight

theorem reset : State.reset.Formed := ⟨canon_nil, canon_nil⟩

theorem unpowered : s.unpowered.Formed := reset.same

theorem wakeStart {source kind : Nat} (h : s.Formed) : (s.wakeStart source kind).Formed := h.set.set.set.set.same

theorem wakeEvent {source : Nat} (h : s.Formed) : (s.wakeEvent source).Formed :=
  .ite h (.ite (.ite h h.same) (.ite h.wakeStart h))

theorem enterBoot (h : s.Formed) : s.enterBoot.Formed := by
  unfold State.enterBoot
  extract_lets _ _ _ _ _ _ s4 s5
  have h4 : s4.Formed := .ite h.same.set.set.mboxMode.driveErr.fault h.same.set.set.mboxMode.driveErr
  have h5 : s5.Formed := .ite h4.fault h4
  exact .ite h5.fault h5

theorem stageReady {g : Stage} (h : s.Formed) : (s.stageReady g).Formed := .ite h (.ite h.enterBoot h.same)

theorem stageTimeout {g : Stage} (h : s.Formed) : (s.stageTimeout g).Formed :=
  .ite h (.ite h.set.same h.set.same.driveErr)

theorem retryDelay (h : s.Formed) : s.retryDelay.Formed := .ite h h.set.same

theorem loadFuses {fuses : List (Nat × Nat)} {corrected : Nat} {corrupt : Bool} (h : s.Formed) :
    (s.loadFuses fuses corrected corrupt).Formed :=
  (h.foldl fun _ _ h => h.foldl fun _ _ h => .ite h.set h).set.set.setFlag

theorem coldStart {resetLow brown : Bool} {fuses : List (Nat × Nat)} {corrected : Nat} {corrupt : Bool} (_ : s.Formed) :
    (s.coldStart resetLow brown fuses corrected corrupt).Formed :=
  .ite unpowered.same.set.loadFuses.same.set.driveErr unpowered.same.set.loadFuses.wakeStart

theorem powerGood {resetLow : Bool} {fuses : List (Nat × Nat)} {corrected : Nat} {corrupt : Bool} (h : s.Formed) :
    (s.powerGood resetLow fuses corrected corrupt).Formed :=
  .ite h h.coldStart

theorem brownOut {resetLow : Bool} {fuses : List (Nat × Nat)} {corrected : Nat} {corrupt : Bool} (h : s.Formed) :
    (s.brownOut resetLow fuses corrected corrupt).Formed :=
  .ite h h.coldStart

theorem lockOut (h : s.Formed) : s.lockOut.Formed := .ite h unpowered

theorem resetAssert (h : s.Formed) : s.resetAssert.Formed :=
  .ite h.same (.ite h.same.forceLocks h.same.forceLocks.set.driveErr.same.powerDown)

theorem resetRelease (h : s.Formed) : s.resetRelease.Formed := .ite h.same h.same.same.set.wakeStart.driveErr

theorem i2cWrite {reg : Nat} {data : List Nat} (h : s.Formed) : (s.i2cWrite reg data).Formed :=
  .ite h (.ite h.same.wakeEvent h.same)

theorem wakeI2c (h : s.Formed) : s.wakeI2c.Formed := h.i2cWrite

theorem stopCheckpoint (h : s.Formed) : s.stopCheckpoint.Formed := by
  unfold State.stopCheckpoint
  split
  · exact h
  · exact .ite h h.checkpoint.defectJournal.same

theorem stopIntake (h : s.Formed) : s.stopIntake.Formed := (h.foldl fun _ _ h => .ite h.discard h).same

theorem stopRefused {q : StopSeq} {island : Nat} (h : s.Formed) : (s.stopRefused q island).Formed :=
  h.set.set.bump.answer.same.showChange

theorem stow {q : StopSeq} (h : s.Formed) : (s.stow q).Formed := by
  unfold State.stow
  extract_lets _ _ _ s2 s3 held _ _ s6
  have h2 : s2.Formed := h.set.same.showChange.enter.answer
  have h3 : s3.Formed := by
    unfold s3
    split
    · exact h2.descCompletion
    · exact h2
  have h6 : s6.Formed := (h3.ringsOff.timerStop.foldl fun _ _ h => h.mboxTear).forceLocks.powerDown
  unfold held
  split
  · exact h6.wakeStart
  · exact h6

theorem stopAnswer {accept : Bool} (h : s.Formed) : (s.stopAnswer accept).Formed := by
  unfold State.stopAnswer
  split
  · exact h
  · exact .ite h (.ite h.stopRefused (.ite ((Formed.ite h.stopIntake h).same) ((Formed.ite h.stopIntake h).stow)))

theorem activate {ch : Nat} (h : s.Formed) : (s.activate ch).Formed := by
  unfold State.activate
  split
  · rename_i s1 e1
    have h1 := h.slotActivate.snd e1
    exact h1
  · rename_i s2 e2
    have h2 := h.slotActivate.snd e2
    exact h2.checkpoint.forceLocks.powerDown.wakeStart

theorem pllLock {island : Nat} {locked : Bool} (h : s.Formed) : (s.pllLock island locked).Formed := by
  unfold State.pllLock
  extract_lets _ _ _ _ s3
  have h3 : s3.Formed := by
    unfold s3
    split
    · exact h.same.guardInternal
    · exact h.same.guardInternal
    · exact h.same.fault
    · exact h.same.driveLight
    · exact h.same.fault
  exact .ite h (.ite ((Formed.ite h.same.driveLight.fault h.same).driveErr.resumeIsland) h3.driveErr)

/-! ### The start from BOOT (Machine/Boot) -/

theorem configReg {off v : Nat} (h : s.Formed) : (s.configReg off v).Formed := h.foldl fun _ _ h => .ite h.set h

theorem flashCheck {ok : Bool} (h : s.Formed) : (s.flashCheck ok).Formed := .ite h.free.cvuPass h.free.free.cvuFail

theorem calibrationCheck {fail : Nat} (h : s.Formed) : (s.calibrationCheck fail).Formed :=
  .ite h.flashCheck h.flashCheck.fault

theorem trySlot {b : BootData} {n : Nat} (h : s.Formed) : (s.trySlot b n).2.2.Formed := by
  unfold State.trySlot
  have h1 : ((slotSpans (imageOf b n).result).foldl (fun (s : State) ok => s.flashCheck ok) s).Formed :=
    h.foldl fun _ _ h => h.flashCheck
  dsimp only
  split
  · split
    · exact h1.fault
    · exact h1.fault
    · exact h1.fault
    · exact h1.fault
    · exact h1.fault
    · exact h1
  · split
    · exact h1.set.set
    · split
      · exact h1.set.set.calibrationCheck
      · split
        · exact h1.set.set.calibrationCheck.calibrationCheck
        · exact h1.set.set.calibrationCheck.calibrationCheck

theorem trySlots {b : BootData} {order : List Nat} (h : s.Formed) : (s.trySlots b order).2.Formed := by
  induction order generalizing s with
  | nil => exact h
  | cons n rest ih => exact .iteSnd h.trySlot.set.set.set (ih h.trySlot.set)

theorem seeSlot {b : BootData} {n : Nat} (h : s.Formed) : (s.seeSlot b n).Formed := .ite h h.setSlot

theorem takeZones {g : Guard} {words : List Nat} {reached : Bool} (h : s.Formed) :
    (s.takeZones g words reached).Formed := by
  unfold State.takeZones
  extract_lets bytes want f
  cases reached with
  | true => exact .ite h.setReg.same.cvuPass h.setReg.same.cvuFail.fault
  | false => exact .ite h.free.setReg.same.cvuPass h.free.setReg.same.cvuFail.fault

theorem loadCalibration {c : CalImage} (h : s.Formed) : (s.loadCalibration c).Formed := by
  unfold State.loadCalibration
  extract_lets put rstep s1
  have hput : ∀ s off l, State.Formed s → (put s off l).Formed := fun _ _ _ h => h.foldl fun _ _ h => h.configReg
  have h1 : s1.Formed := hput _ _ _ (hput _ _ _ (hput _ _ _ h))
  exact h1.same.foldl fun _ _ h => h.setCal

theorem loadDefects (h : s.Formed) : s.loadDefects.Formed :=
  (h.same.foldl fun _ _ h => (Formed.ite h.setKill h).toneState).showDefects

theorem loadWear {b : BootData} (h : s.Formed) : (s.loadWear b).Formed := by
  unfold State.loadWear
  extract_lets _ s1
  have h1 : s1.Formed := h.foldl fun _ _ h => h.flashCheck
  split
  · exact h1.same
  · exact h1.latch.fault.foldl fun _ _ h => h.setCal

theorem loadRecord {b : BootData} {r : CfgRecord} (h : s.Formed) : (s.loadRecord b r).Formed := by
  unfold State.loadRecord
  extract_lets
  split
  · exact h.foldl fun _ _ h => h.configReg
  · exact h.foldl fun _ _ h => h.configReg
  · exact h.takeZones.takeZones
  · exact h.foldl fun _ _ h => h.configReg.configReg
  · exact h.bankTakes
  · exact h.same
  · exact h.setFlag.setReg.setReg.setReg
  · exact h

theorem startSelection (h : s.Formed) : s.startSelection.Formed := h.set.set

theorem regionsConfig (h : s.Formed) : s.regionsConfig.Formed := h.foldl fun _ _ h => .ite h.fault h

theorem previousFatal (h : s.Formed) : s.previousFatal.Formed := by
  unfold State.previousFatal
  split
  · exact h.set.set.set
  · exact h

theorem loadAll {b : BootData} {n : Nat} (h : s.Formed) : (s.loadAll b n).Formed := by
  unfold State.loadAll
  extract_lets _ s1 _ s3
  have h1 : s1.Formed := h.foldl fun _ _ h => h.configReg
  have h3 : s3.Formed := h1.loadCalibration.foldl fun _ _ h => h.loadRecord
  exact h3.same.configReg.startSelection.showEff.loadWear.loadDefects.previousFatal.regionsConfig

theorem selfTest {failed : List Nat} {n : Nat} (h : s.Formed) :
    (s.selfTest failed n).Formed := .ite h.set (.ite h h.report)

theorem bootHalt (h : s.Formed) : s.bootHalt.Formed := h.set.fault

theorem release (h : s.Formed) : s.release.Formed := by
  unfold State.release
  extract_lets _ _ s2
  have h2 : s2.Formed := .ite h.timerStart.lanesStart.setCause.enter h.timerStart.lanesStart.applyOverlay.enter
  exact h2.showAdmit.guardsEvaluate.set.set.driveErr

theorem bootComplete {b : BootData} (h : s.Formed) : (s.bootComplete b).Formed := by
  unfold State.bootComplete
  refine .ite h ?_
  extract_lets _ _ _ _ s4
  have h4 : s4.Formed := h.same.set.set.seeSlot.seeSlot.foldl fun _ _ h => h.selfTest
  refine .ite h4 ?_
  refine .ite h4.bootHalt ?_
  split
  · rename_i s5 e5
    have h5 := h4.trySlots.snd e5
    exact h5.bootHalt
  · rename_i s6 e6
    have h6 := h4.trySlots.snd e6
    exact h6.fwReady.loadAll.release

/-! ### The output frame (Machine/Frame) -/

theorem putWord {x y w : Nat} (h : s.Formed) : (s.putWord x y w).Formed := h.same

theorem scanPixel {x y : Nat} (h : s.Formed) : (s.scanPixel x y).Formed :=
  .ite h.putWord (.ite h.putWord.measureWord.same.footprintFault h.putWord.measureWord.same)

theorem scanBegins (h : s.Formed) : s.scanBegins.Formed := h.composeBegins.same

theorem writeRow {k q : Nat} {wrong : List (Nat × BitVec 64)} (h : s.Formed) : (s.writeRow k q wrong).Formed :=
  h.foldl fun _ _ h => h.same

theorem rowQuad {k : Nat} {wrong1 wrong2 : List (Nat × BitVec 64)} {q : Nat} (h : s.Formed) :
    (s.rowQuad k wrong1 wrong2 q).Formed :=
  .ite h.same (.ite h.writeRow (.ite h.writeRow.bump.writeRow h.writeRow.bump.writeRow.same.bump))

theorem rowSlot {k : Nat} {wrong1 wrong2 : List (Nat × BitVec 64)} (h : s.Formed) :
    (s.rowSlot k wrong1 wrong2).Formed := by
  unfold State.rowSlot
  refine .ite h ?_
  extract_lets s1 _ _ _ s3 s4
  have h1 : s1.Formed := .ite h.scanBegins h
  have h3 : s3.Formed := .ite h1.same.warpSlot h1.same
  have h4 : s4.Formed := h3.foldl fun _ _ h => h.scanPixel
  exact .ite h1.same.same (h4.foldl fun _ _ h => h.rowQuad)

theorem surveySlot {d : SurveyData} (h : s.Formed) : (s.surveySlot d).Formed := by
  unfold State.surveySlot
  refine .ite h ?_
  extract_lets _ _ _ _ _ _ _ s5 _ _ s8
  have h5 : s5.Formed := by
    unfold s5
    refine .ite ?_ ?_
    · exact h.same.railWindow.footprintEnds.scanReads.set.moveDerate.governOwn
    · exact h.same.railWindow.footprintEnds.scanReads.set.moveDerate.governDark
  have h8 : s8.Formed := h5.snapshot.govCheck.track.survey.retrainLinks.regionsExpected.tapCheck
  exact h8.peekCapture.sendScan

theorem quiet (h : s.Formed) : s.quiet.Formed := .ite h h.same.regionsPartner.governPartner

theorem capture (h : s.Formed) : s.capture.Formed :=
  .ite h h.runOverlay.captureBraid.captureSelect.captureTone.captureCal.capturePattern.captureResync.same

theorem strikeDark {on : Bool} (h : s.Formed) : (s.strikeDark on).Formed :=
  .ite h (h.setFlag.touch.foldl fun _ _ h => h.setFlag)

theorem strikeLate (h : s.Formed) : s.strikeLate.Formed := by
  unfold State.strikeLate
  extract_lets _ _ _ s3
  have h3 : s3.Formed := .ite h.regionsDiscard.bump.set.fault h.regionsDiscard.bump.set
  exact .ite h3.strikeDark.fault h3

theorem loadPair (h : s.Formed) : s.loadPair.Formed := h.foldl fun _ _ h => h.set.set

theorem loadSectors (h : s.Formed) : s.loadSectors.Formed := h.foldl fun _ _ h => .ite h h.set

theorem gatesEnd (h : s.Formed) : s.gatesEnd.Formed := h.foldl fun _ _ h => .ite h.touch.set h

theorem strikeGood (h : s.Formed) : s.strikeGood.Formed := by
  unfold State.strikeGood
  extract_lets _ _ _ _ _ _ s4 s5
  have h4 : s4.Formed := h.same.set.strikeDark.loadPair.loadSectors.gatesEnd.maskStrike.clampRelease
  have h5 : s5.Formed := .ite h4 h4.ungate
  exact h5.tapStrike.regionsStrike.closeSwitches

theorem enableLight (h : s.Formed) : s.enableLight.Formed := .ite h.set.set h

theorem frameVector (h : s.Formed) : s.frameVector.Formed := .ite h (.ite h.same h.same.raise)

theorem strike (h : s.Formed) : s.strike.Formed := by
  unfold State.strike
  refine .ite h ?_
  refine .ite h.timerStop.waitsStop ?_
  extract_lets _ _ s2 _ _ _ _ s6
  have h2 : s2.Formed := .ite h.runOverlay (.ite h.runOverlay.strikeLate h.runOverlay.strikeGood.enableLight)
  have h6 : s6.Formed := h2.windowOpens.same.timerBoundary.twinBoundary.boundaryChange
  exact h6.scanStart.frameWaits.frameVector

theorem beatStart {b : Nat} (h : s.Formed) : (s.beatStart b).Formed :=
  .ite h (.ite h.runOverlay.set.sampleCharge h.runOverlay.set)

/-! ### The commands of the guards (Machine/GuardCmds) -/

theorem guarded {f : State → State} (h : s.Formed) (hf : ∀ s, s.Formed → (f s).Formed) : (s.guarded f).Formed :=
  .ite (hf _ h) h

theorem phyRelease {g : Guard} (h : s.Formed) : (s.phyRelease g).Formed := h.setNet

/-! ### The commands of the pixel path (Machine/PathCmds) -/

theorem dramFails {n index : Nat} (h : s.Formed) : (s.dramFails n index).Formed := by
  unfold State.dramFails
  split
  · exact h
  · exact h.stopLoad.finish

theorem dramError {addr : Nat} {e : EccError} (h : s.Formed) : (s.dramError addr e).Formed := by
  unfold State.dramError
  refine .ite h ?_
  split
  · exact h.faultVal
  · exact h.faultVal
  · exact h.dramFails.faultVal

theorem railsAwake (h : s.Formed) : s.railsAwake.Formed := .ite h.same h

theorem hourly (h : s.Formed) : s.hourly.Formed := .ite h.checkpoint h

theorem wearStep (h : s.Formed) : s.wearStep.Formed := .ite h.wearRecompute h

/-! ### The commands (Machine/Dispatch) -/

/-- An answer whose next state, where there is one, is formed. -/
def Answer : Host.Outcome State Fault Refusal → Prop
  | .next s' => s'.Formed
  | _ => True

/-- Every command answers a formed state: each arm runs an operation that keeps the forms. -/
theorem exec (c : Instr) (h : s.Formed) : Answer (exec c s) := by
  cases c with
  | powerGood => exact h.run fun _ h => h.powerGood
  | lockOut => exact h.run fun _ h => h.lockOut
  | brownOut => exact h.run fun _ h => h.brownOut
  | resetAssert => exact h.run fun _ h => h.resetAssert
  | resetRelease => exact h.run fun _ h => h.resetRelease
  | perstChange => exact h.run fun _ h => h.perst
  | i2cWrite => exact h.run fun _ h => h.i2cWrite
  | wake => exact h.run fun _ h => h.wakeI2c
  | stageReady => exact h.run fun _ h => h.stageReady
  | stageTimeout => exact h.run fun _ h => h.stageTimeout
  | retryDelay => exact h.run fun _ h => h.retryDelay
  | bootComplete => exact h.run fun _ h => h.bootComplete
  | pllLock => exact h.run fun _ h => h.pllLock
  | clockCheck => exact h.run fun _ h => h.inside fun _ h => h.clockCheck
  | dramEcc => exact h.run fun _ h => h.inside fun _ h => h.dramError
  | regWrite => exact h.run fun _ h => h.regWrite
  | pairRead => exact h.run fun _ h => .ite h.readOut h
  | frameNoRead => exact h.run fun _ h => h.readOut
  | beatStart => exact h.run fun _ h => h.beatStart
  | rowSlot => exact h.run fun _ h => h.rowSlot
  | surveySlot => exact h.run fun _ h => h.surveySlot
  | quietInterval => exact h.run fun _ h => h.quiet
  | capturePoint => exact h.run fun _ h => h.capture
  | strike => exact h.run fun _ h => h.strike
  | timingCommit => exact h.run fun _ h => h.regWrite
  | frameLoad => exact h.run fun _ h => h.regWrite
  | lateClear => exact h.run fun _ h => h.regWrite
  | rowErrClear => exact h.run fun _ h => h.regWrite
  | timeOffset => exact h.run fun _ h => h.regWrite
  | timeTrim => exact h.run fun _ h => h.regWrite
  | ptpTimeout => exact h.run fun _ h => h.ptpTimeout
  | syncEdge => exact h.run fun _ h => h.syncEdge
  | syncMissing => exact h.run fun _ h => h.syncMissing
  | holdLimit => exact h.run fun _ h => h.holdExpires
  | peekGo => exact h.run fun _ h => h.regWrite
  | qlinkLoss => exact h.run fun _ h => h.qlinkLoss
  | qlinkTrained => exact h.run fun _ h => h.qlinkTrained
  | defectJournal => exact h.run fun _ h => h.defectJournal
  | defectIndex => exact h.run fun _ h => h.regWrite
  | tempSample => exact h.run fun _ h => h.tempSample
  | railLimit => exact h.run fun _ h => h.railLimit
  | railOc => exact h.run fun _ h => h.railOc
  | railVolt => exact h.run fun _ h => h.railVolt
  | railAverage => exact h.run fun _ h => h.railAverage
  | railWake => exact h.run fun _ h => h.railsAwake
  | chargeUpdate => exact h.run fun _ h => h.chargeUpdate
  | wearCheckpoint => exact h.run fun _ h => h.inside fun _ h => h.hourly
  | wearRecompute => exact h.run fun _ h => h.inside fun _ h => h.wearStep
  | toneCommit => exact h.run fun _ h => h.regWrite
  | layerCommitReg => exact h.run fun _ h => h.regWrite
  | protIndex => exact h.run fun _ h => h.regWrite
  | maskSample => exact h.run fun _ h => h.guarded fun _ h => h.maskSample
  | maskPublish => exact h.run fun _ h => h.guarded fun _ h => h.maskPublish
  | maskVerify => exact h.run fun _ h => h.maskVerify
  | zoneEval => exact h.run fun _ h => h.guarded fun _ h => h.zoneEval
  | meshLoad => exact h.run fun _ h => h.meshLoadDesc
  | meshCheck => exact h.run fun _ h => h.meshCheckDone
  | meshSelectReg => exact h.run fun _ h => h.regWrite
  | meshSelect => exact h.run fun _ h => h.meshSelectDesc
  | scCoef => exact h.run fun _ h => .ite h.regWrite h
  | laneBlock => exact h.run fun _ h => h.laneBlock
  | align => exact h.run fun _ h => h.alignBlock
  | markerMissing => exact h.run fun _ h => .ite h.markerMissing h
  | laneTrained => exact h.run fun _ h => h.laneTrained
  | sof => exact h.run fun _ h => .ite h.sofBlock h
  | streamBlock => exact h.run fun _ h => .ite h.frameBlock h
  | eof => exact h.run fun _ h => .ite h.eofBlock h
  | lanePower => exact h.run fun _ h => .ite h.regWrite h
  | eyeScan => exact h.run fun _ h => h.eyeScan
  | eyeGo => exact h.run fun _ h => h.regWrite
  | eyeDone => exact h.run fun _ h => h.eyeEnd
  | streamConfig => exact h.run fun _ h => .ite h.regWrite h
  | streamTimeout => exact h.run fun _ h => .ite h.streamTimeout h
  | laneErrClear => exact h.run fun _ h => .ite h.regWrite h
  | strClear => exact h.run fun _ h => .ite h.regWrite h
  | hostReset => exact h.run fun _ h => h.inside fun _ h => h.hostReset
  | busMaster => exact h.run fun _ h => h.inside fun _ h => h.busMaster
  | watchPoll => exact h.run fun _ h => h.inside fun _ h => h.watchPoll
  | hostNudge => exact h.run fun _ h => h.regWrite
  | lineRead => exact h.run fun _ h => h.lineRead
  | descFetch => exact h.run fun _ h => h.descFetch
  | descAdmit => exact h.run fun _ h => .ite h.descAdmit h
  | descCompletion => exact h.run fun _ h => .ite h.descCompletion h
  | ringEnable => exact h.run fun _ h => .ite h.regWrite h
  | ringDisable => exact h.run fun _ h => .ite h.regWrite h
  | ringReset => exact h.run fun _ h => .ite h.regWrite h
  | ringResetDone => exact h.run fun _ h => .ite h.ringResetDone h
  | nop => exact h.run fun _ h => h.nop
  | layerSet => exact h.run fun _ h => h.layerSetDesc
  | layerMove => exact h.run fun _ h => h.layerMoveDesc
  | layerCommit => exact h.run fun _ h => h.layerCommitDesc
  | regWriteDesc => exact h.run fun _ h => h.regWriteDescr
  | modeRequest => exact h.run fun _ h => h.modeRequestDesc
  | setModeRequest => exact h.run fun _ h => h.modeRequestDesc
  | frameWait => exact h.run fun _ h => h.frameWaitDesc
  | surfWrite => exact h.run fun _ h => h.surfRun
  | surfRead => exact h.run fun _ h => h.surfRun
  | surfFill => exact h.run fun _ h => h.surfRun
  | surfCopy => exact h.run fun _ h => h.surfRun
  | calBlock => exact h.run fun _ h => h.calBlockDesc
  | telCharge => exact h.run fun _ h => h.telRun
  | telDrift => exact h.run fun _ h => h.telRun
  | telCalword => exact h.run fun _ h => h.telRun
  | telDefect => exact h.run fun _ h => h.telRun
  | telSensors => exact h.run fun _ h => h.telRun
  | telHistory => exact h.run fun _ h => h.telRun
  | irqHoldoff => exact h.run fun _ h => .ite h.holdoffEnds h
  | irqEnable => exact h.run fun _ h => h.regWrite
  | mw2Access => exact h.run fun _ h => h.mw2
  | mboxTx => exact h.run fun _ h => .ite h.regWrite h
  | mboxRx => exact h.run fun _ h => .ite h.readOut h
  | mboxTorn => exact h.run fun _ h => .ite (h.inside fun _ h => h.mboxTorn) h
  | mboxReplyTimeout => exact h.run fun _ h => .ite (h.inside fun _ h => h.mboxReplyTimeout) h
  | ping => exact h.run fun _ h => .ite (h.inside fun _ h => h.ping) h
  | version => exact h.run fun _ h => .ite (h.inside fun _ h => h.version) h
  | badMessage => exact h.run fun _ h => .ite (h.inside fun _ h => h.badMessage) h
  | dbellSet => exact h.run fun _ h => h.regWrite
  | mboxReset => exact h.run fun _ h => .ite h.regWrite h
  | lockRead => exact h.run fun _ h => .ite h.readOut h
  | lockRelease => exact h.run fun _ h => .ite h.regWrite h
  | fwWatchdog => exact h.run fun _ h => h.fwWatchdog
  | fwReady => exact h.run fun _ h => h.fwReady
  | xcmpCycle => exact h.run fun _ h => h.guarded fun _ h => h.xcmpCycle.guardConfirms
  | xcmpLost => exact h.run fun _ h => h.xcmpLost
  | guardDecision => exact h.run fun _ h => h.guardFollows
  | terminal => exact h.run fun _ h => h.inside fun _ h => h.terminal
  | discrepancy => exact h.run fun _ h => h.discrepancy
  | encoder => exact h.run fun _ h => .ite (h.inside fun _ h => h.encoderFrame) h
  | sectorCurrent => exact h.run fun _ h => h.sectorCurrent
  | photoSample => exact h.run fun _ h => h.photoSample
  | photoFault => exact h.run fun _ h => h.photoFault
  | netFrame => exact h.run fun _ h => h.inside fun _ h => h.netFrame
  | telegramCheck => exact h.run fun _ h => h.inside fun _ h => h.telegramCheck
  | telegramSingle => exact h.run fun _ h => h.inside fun _ h => h.telegramSingle
  | linkTimeout => exact h.run fun _ h => h.linkTimeoutPasses
  | phyPoll => exact h.run fun _ h => h.inside fun _ h => h.phyPoll
  | phyRelease => exact h.run fun _ h => h.inside fun _ h => h.phyRelease
  | guardTest => exact h.run fun _ h => h.guarded fun _ h => .ite h.guardTest h
  | cvuCopy => exact h.run fun _ h => h.inside fun _ h => h.cvuCopy
  | cvuClear => exact h.run fun _ h => h.regWrite
  | anodeCurrent => exact h.run fun _ h => h.anodeCurrent
  | lightInput => exact h.run fun _ h => h.inside fun _ h => h.lightInput
  | stepArm => exact h.run fun _ h => h.stepArm
  | joinFail => exact h.run fun _ h => h.joinFail
  | lightInvalid => exact h.run fun _ h => h.lightInvalid
  | lightConflict => exact h.run fun _ h => h.lightConflict
  | tickSend => exact h.run fun _ h => h.sendTick
  | tickWord =>
    refine h.run fun _ h => ?_
    split
    · next e => exact (h.tickWord.snd e).wakeEvent
    · next e => exact h.tickWord.snd e
  | tickLiveness => exact h.run fun _ h => h.tickLiveness
  | statusSend => exact h.run fun _ h => h.sendStatus
  | ack => exact h.run fun _ h => h.ackIn
  | caps => exact h.run fun _ h => h.capsIn
  | status => exact h.run fun _ h => h.statusIn
  | scan => exact h.run fun _ h => h.scanIn
  | mirror => exact h.run fun _ h => h.mirrorIn
  | commit => exact h.run fun _ h => h.commitIn
  | joinEnter => exact h.run fun _ h => h.joinEnterIn
  | switch => exact h.run fun _ h => h.switchIn
  | handover => exact h.run fun _ h => h.handoverIn
  | setChange => exact h.run fun _ h => h.setChangeIn
  | joinAbort => exact h.run fun _ h => h.joinAbortIn
  | swingOffer => exact h.run fun _ h => h.swingOfferIn
  | swingAccept => exact h.run fun _ h => h.swingAcceptIn
  | swingDecline => exact h.run fun _ h => h.swingDeclineIn
  | event => exact h.run fun _ h => h.eventIn
  | spliceResend => exact h.run fun _ h => h.spliceResend
  | timing => exact h.run fun _ h => h.timingIn
  | spliceLink => exact h.run fun _ h => h.linkRefresh
  | leaseRenew => exact h.run fun _ h => h.leaseRenew
  | partnerLost => exact h.run fun _ h => h.partnerLost
  | leaseExpiry => exact h.run fun _ h => h.leaseExpiry
  | swingDue => exact h.run fun _ h => h.swingDue
  | joinTimeout => exact h.run fun _ h => h.joinTimeout
  | faultReport => exact h.run fun _ h => h.reports
  | faultJournal => exact h.run fun _ h => h.faultJournal
  | errHold => exact h.run fun _ h => h.inside fun _ h => h.driveErr
  | keeperClear => exact h.run fun _ h => h.regWrite
  | histIndex => exact h.run fun _ h => h.regWrite
  | injectGo => exact h.run fun _ h => h.regWrite
  | injectStop => exact h.run fun _ h => h.regWrite
  | injectExpiry => exact h.run fun _ h => h.injectExpiry
  | stopCheckpoint => exact h.run fun _ h => h.stopCheckpoint
  | stopAnswer => exact h.run fun _ h => h.stopAnswer
  | stopTimeout => exact h.run fun _ h => h.stopAnswer
  | slotInfo => exact h.run fun _ h => .ite (h.inside fun _ h => h.slotInfo) h
  | slotWrite => exact h.run fun _ h => .ite (h.inside fun _ h => h.slotWrite) h
  | slotVerify => exact h.run fun _ h => .ite (h.inside fun _ h => h.slotVerify) h
  | slotActivate => exact h.run fun _ h => h.activate
  | flashDone => exact h.run fun _ h => h.inside fun _ h => h.flashDone
  | guardWatchdog => exact h.run fun _ h => h.inside fun _ h => h.guardWatchdog
  | guardMemory => exact h.run fun _ h => h.inside fun _ h => h.guardInternal
  | timingMissing => exact h.run fun _ h => h.timingMissing
  | pcieUp => exact h.run fun _ h => h.pcieUp

/-- A step of a formed state answers a formed one. -/
theorem step {s' : State} (h : s.Formed) (e : step s = .next s') : s'.Formed := by
  have answer : Answer (Machine.step s) := by
    unfold Machine.step
    split
    · exact h
    · exact Formed.exec _ h.same
  rw [e] at answer
  exact answer

end State.Formed

end Sys2Proof.Machine

/-- Settles O4: every operation of the model keeps both forms, and so does each command that runs one. -/
theorem formsKept : Obligations.FormsKept := by
  intro s s' hr hd e
  exact Sys2Proof.Machine.State.Formed.step ⟨hr, hd⟩ e

end

section
/-! PROOF. The state after reset, and the accesses to MW0 (R17 to R24): which writes are discarded, which wait, and what a
write of a plain register and a read of the lower register of a pair leave. -/

namespace Sys2Proof.Machine

open Reg

/-! ### Commands that keep the light -/

/-- A command that keeps the clock, the queue, the mode and the enables of a light-safe state needs no settling. -/
theorem State.run_of_lightSafe {s : State} {t : Nat} {g : State → State} (h : LightSafe s)
    (hn : (g (s.pass t)).now = (s.pass t).now) (hp : (g (s.pass t)).pending = (s.pass t).pending)
    (hh : (g (s.pass t)).house = s.house)
    (ha : (g (s.pass t)).get GUARD_A_STATUS_EN_A = s.get GUARD_A_STATUS_EN_A)
    (hb : (g (s.pass t)).get GUARD_B_STATUS_EN_B = s.get GUARD_B_STATUS_EN_B) : s.run t g = g (s.pass t) := by
  apply State.run_of s t g hn hp
  rw [hh, ha, hb]
  cases hm : s.house.mode.emitting
  · exact .inr (h hm)
  · exact .inl rfl

/-- A command that leaves the state as time made it leaves it so after settling, too. -/
theorem State.run_same {s : State} {t : Nat} {g : State → State} (h : LightSafe s) (hg : g (s.pass t) = s.pass t) :
    s.run t g = s.pass t := by
  have run : s.run t g = g (s.pass t) :=
    State.run_of_lightSafe h (by rw [hg]) (by rw [hg]) (by rw [hg, State.pass_house]) (by rw [hg, State.pass_get])
      (by rw [hg, State.pass_get])
  rw [run, hg]

/-! ### Access across the passing of time -/

@[simp] theorem State.pass_powered (s : State) (t : Nat) : (s.pass t).powered = s.powered := by
  simp only [State.powered, State.pass_house]

@[simp] theorem State.pass_reaches (s : State) (t : Nat) (m : Master) : (s.pass t).reaches m = s.reaches m := by
  simp only [State.reaches, State.pass_powered, State.pass_flag, State.pass_conf]

@[simp] theorem State.pass_writes (s : State) (t : Nat) (m : Master) (off : Nat) :
    (s.pass t).writes m off = s.writes m off := by
  simp only [State.writes, State.pass_reaches]

@[simp] theorem State.pass_stalls (s : State) (t off : Nat) : (s.pass t).stalls off = s.stalls off := by
  simp only [State.stalls, State.pass_house]

/-! ### Writes that are discarded or wait -/

/-- A write narrower than 32 bits, one that is not aligned, one without access and one to an offset without a register
change nothing. -/
theorem State.regWrite_discarded {s : State} {m : Master} {off bytes : Nat} (v : Nat)
    (h : bytes ≠ 4 ∨ off % 4 ≠ 0 ∨ s.writes m off = false ∨ regAt off = none) : s.regWrite m off bytes v = s := by
  have guard : (bytes == 4 && off % 4 == 0 && s.writes m off && (regAt off).isSome) = false := by
    rcases h with h | h | h | h <;> simp [h]
  simp [State.regWrite, guard]

/-- A 32-bit write that is not discarded waits for an island without its PLL and lands at any other. -/
theorem State.regWrite_arrives {s : State} {m : Master} {off : Nat} (v : Nat) (ha : off % 4 = 0) (hw : s.writes m off = true)
    (hr : (regAt off).isSome = true) :
    s.regWrite m off 4 v = if s.stalls off then s.stall ⟨m, off, some v, 0, 4⟩ else s.regLands m off v := by
  simp [State.regWrite, ha, hw, hr]

/-- A discarded write has no effect as a command of its own. -/
theorem State.run_discarded {s : State} {t : Nat} {m : Master} {off bytes : Nat} (v : Nat) (hs : LightSafe s)
    (h : bytes ≠ 4 ∨ off % 4 ≠ 0 ∨ s.writes m off = false ∨ regAt off = none) :
    s.run t (fun s => s.regWrite m off bytes v) = s.pass t :=
  State.run_same hs (State.regWrite_discarded v (by rwa [State.pass_writes]))

/-- A discarded REGISTER_WRITE leaves the state to the passing of time. -/
theorem regWrite_noEffect {s : State} {t off bytes : Nat} {m : Master} {v : Word} (hs : LightSafe s)
    (h : bytes ≠ 4 ∨ off % 4 ≠ 0 ∨ s.writes m off = false ∨ regAt off = none) : NoEffect (.regWrite t m off bytes v) t s :=
  congrArg Host.Outcome.next (State.run_discarded v.toNat hs h)

/-- A master without write access to a register writes nothing there. -/
theorem State.writes_of_mayWrite {m : Master} {off : Nat} (s : State) (h : mayWrite m off = false) :
    s.writes m off = false := by
  rw [State.writes, h, Bool.and_false]

/-- The host has no write access to the blocks of the guards (R22). -/
theorem mayWrite_host {off : Nat} (h : off / 65536 = 9 ∨ off / 65536 = 10) : mayWrite .host off = false := by
  rcases h with h | h <;> simp [mayWrite, h]

/-- Firmware has no write access to the HOST and guard blocks and to SPLICE_HOST_EPOCH (R548). -/
theorem mayWrite_fw {m : Master} {off : Nat} (hm : m.isFw = true)
    (h : off / 65536 ∈ [2, 9, 10] ∨ off = SPLICE_HOST_EPOCH_OFF) : mayWrite m off = false := by
  have closed : (off / 65536 != 2 && off / 65536 != 9 && off / 65536 != 10 && off != SPLICE_HOST_EPOCH_OFF) = false := by
    rcases h with h | h
    · simp only [List.mem_cons, List.not_mem_nil, or_false] at h
      rcases h with h | h | h <;> simp [h]
    · simp [h]
  cases m with
  | hkc0 | hkc1 | hkc2 | hkc3 => exact closed
  | host | guardA | guardB => cases hm

/-- A guard has no write access outside its own block, the locks and the injection registers, but GUARD_A's to the sector
references of TONE (R549). -/
theorem mayWrite_guard {m : Master} {off : Nat} (hm : m.isGuard = true)
    (hown : off / 65536 ≠ (if m = .guardA then 9 else 10))
    (hlock : off / 65536 ≠ 13) (hinj : off < KEEPER_INJ_CTRL_OFF ∨ KEEPER_INJ_HOLD_OFF < off)
    (hsref : m = .guardB ∨ off < TONE_SREF_OFF 0 ∨ TONE_SREF_OFF 256 ≤ off) : mayWrite m off = false := by
  have inj : (decide (KEEPER_INJ_CTRL_OFF ≤ off) && decide (off ≤ KEEPER_INJ_HOLD_OFF)) = false := by
    rcases hinj with h | h
    · simp [Nat.not_le.mpr h]
    · simp [Nat.not_le.mpr h]
  cases m with
  | guardA =>
    have sref : (decide (TONE_SREF_OFF 0 ≤ off) && decide (off < TONE_SREF_OFF 256)) = false := by
      rcases hsref with h | h | h
      · cases h
      · simp [Nat.not_le.mpr h]
      · simp [Nat.not_lt.mpr h]
    have hown : off / 65536 ≠ 9 := hown
    simp [mayWrite, hown, hlock, inj, sref, Bool.and_assoc]
  | guardB =>
    have hown : off / 65536 ≠ 10 := hown
    simp [mayWrite, hown, hlock, inj]
  | host | hkc0 | hkc1 | hkc2 | hkc3 => cases hm

/-! ### Fields of a register -/

/-- The fields lie in the word and apart from each other. -/
def apart : List FieldDef → Bool
  | [] => true
  | f :: fs => f.lsb + f.width ≤ 32 && fs.all (fun g => f.lsb + f.width ≤ g.lsb || g.lsb + g.width ≤ f.lsb) && apart fs

theorem apart_cons {f : FieldDef} {fs : List FieldDef} : apart (f :: fs) = true ↔
    f.lsb + f.width ≤ 32 ∧ (∀ g ∈ fs, f.lsb + f.width ≤ g.lsb ∨ g.lsb + g.width ≤ f.lsb) ∧ apart fs = true := by
  simp [apart, and_assoc]

/-- The register tables of MW0 have their fields apart. -/
theorem regTable_apart : regTable.all (fun r => apart r.fields) = true := by decide +kernel

theorem fieldsAt_apart (off : Nat) : apart (fieldsAt off) = true := by
  unfold fieldsAt regAt
  split
  · next r hr =>
    split at hr
    · exact List.all_eq_true.mp regTable_apart r (List.mem_of_find?_eq_some hr)
    · cases hr
  · rfl

theorem fits_of_apart {f : FieldDef} : ∀ {fs : List FieldDef}, apart fs = true → f ∈ fs → f.lsb + f.width ≤ 32
  | g :: gs, h, hf => by
    obtain ⟨fits, -, rest⟩ := apart_cons.mp h
    rcases List.mem_cons.mp hf with rfl | hf
    · exact fits
    · exact fits_of_apart rest hf

/-- The word `w` with each of the fields set to its value. -/
def setFields (val : FieldDef → Nat) (fs : List FieldDef) (w : Nat) : Nat :=
  fs.foldl (fun w f => setBits w f.lsb f.width (val f)) w

/-- Setting fields leaves bits apart from all of them alone. -/
theorem getBits_setFields_other (val : FieldDef → Nat) {l k : Nat} : ∀ (fs : List FieldDef) (w : Nat),
    (∀ g ∈ fs, l + k ≤ g.lsb ∨ g.lsb + g.width ≤ l) → getBits (setFields val fs w) l k = getBits w l k
  | [], _, _ => rfl
  | f :: fs, w, h => by
    have rest := getBits_setFields_other val fs (setBits w f.lsb f.width (val f)) fun g hg =>
      h g (List.mem_cons_of_mem _ hg)
    calc getBits (setFields val (f :: fs) w) l k
        = getBits (setBits w f.lsb f.width (val f)) l k := rest
      _ = getBits w l k := getBits_setBits_other _ _ (h f List.mem_cons_self).symm

/-- Of fields apart from each other, each reads the value it was set to. -/
theorem getBits_setFields (val : FieldDef → Nat) {f : FieldDef} : ∀ (fs : List FieldDef) (w : Nat),
    apart fs = true → f ∈ fs → getBits (setFields val fs w) f.lsb f.width = val f % 2 ^ f.width
  | g :: gs, w, h, hf => by
    obtain ⟨-, others, rest⟩ := apart_cons.mp h
    rcases List.mem_cons.mp hf with rfl | hf
    · exact (getBits_setFields_other val gs _ others).trans (getBits_setBits_same _ _ _ _)
    · exact getBits_setFields val gs _ rest hf

/-- A field after a write fits its width. -/
theorem fieldAfter_lt (m : Master) (off old new fresh : Nat) (f : FieldDef) :
    fieldAfter m off old new fresh f < 2 ^ f.width := by
  have o := getBits_lt old f.lsb f.width
  unfold fieldAfter
  cases accessOf m off f with
  | rw => exact getBits_lt _ _ _
  | w1c => exact Nat.or_lt_two_pow (Nat.lt_of_le_of_lt (Nat.sub_le _ _) o) (Nat.lt_of_le_of_lt Nat.and_le_left o)
  | _ => exact o

/-! ### Writes of plain registers -/

theorem State.plainWrite_eq (s : State) (m : Master) (off v : Nat) : s.plainWrite m off v =
    s.setReg off (setFields (fieldAfter m off (s.reg off) v (s.freshBits off)) (fieldsAt off) (s.reg off)) := rfl

/-- A plain write sets each field of its register by the access of the master to it (R19). -/
theorem State.plainWrite_get (s : State) (m : Master) (off v : Nat) {f : FieldDef} (hf : f ∈ fieldsAt off) :
    (s.plainWrite m off v).get ⟨off, f.lsb, f.width⟩ = fieldAfter m off (s.reg off) v (s.freshBits off) f := by
  rw [State.plainWrite_eq, State.get_setReg_same _ (f := ⟨off, f.lsb, f.width⟩) _ (fits_of_apart (fieldsAt_apart off) hf),
    getBits_setFields _ _ _ (fieldsAt_apart off) hf, Nat.mod_eq_of_lt (fieldAfter_lt _ _ _ _ _ _)]

theorem State.plainWrite_reg_other (s : State) (m : Master) {off o : Nat} (v : Nat) (h : o ≠ off) :
    (s.plainWrite m off v).reg o = s.reg o := State.reg_setReg_other _ _ h

theorem State.plainWrite_get_other (s : State) (m : Master) {off : Nat} (v : Nat) {f : Field} (h : f.off ≠ off) :
    (s.plainWrite m off v).get f = s.get f := State.get_setReg_other _ _ h

/-- The copy of a register in a series that an offset is. -/
theorem copyAt_eq_some {base count stride off i : Nat} (h : copyAt base count stride off = some i) :
    off = base + stride * i := by
  unfold copyAt at h
  split at h
  · next c =>
    simp only [Bool.and_eq_true, decide_eq_true_eq, beq_iff_eq] at c
    obtain ⟨⟨above, aligned⟩, -⟩ := c
    have whole := Nat.div_add_mod (off - base) stride
    rw [aligned, Option.some.inj h] at whole
    omega
  · cases h

/-- A write that a register takes lands there. -/
theorem State.regWrite_takes {s : State} {m : Master} {off : Nat} (v : Nat) (h : s.takes m off = true) :
    s.regWrite m off 4 v = (s.regTakes m off v).wroteNow m off := by
  simp only [State.takes, Bool.and_eq_true, Bool.not_eq_true', beq_iff_eq] at h
  obtain ⟨⟨⟨⟨⟨writes, register⟩, aligned⟩, locked⟩, unranked⟩, -⟩ := h
  simp [State.regWrite_arrives v aligned writes register, locked, State.regLands, unranked]

/-- In the blocks BRAID, WARP and TONE a register that takes a write does so by `writePath`. -/
theorem State.regTakes_path {s : State} {m : Master} {off : Nat} (v : Nat) (h : s.takes m off = true)
    (hb : off / 65536 = 4 ∨ off / 65536 = 5 ∨ off / 65536 = 6) : s.regTakes m off v = s.writePath m off v := by
  have runs : s.commitStopped off = false := by
    simp only [State.takes, Bool.and_eq_true, Bool.not_eq_true'] at h
    exact h.2
  rcases hb with hb | hb | hb <;> simp [State.regTakes, runs, hb]

/-- A master beside GUARD_A writes a register without a behaviour of its own by the access codes. -/
theorem State.writePath_plain (s : State) {m : Master} {off : Nat} (v : Nat) (hp : plainPath off = true) (hm : m ≠ .guardA) :
    s.writePath m off v = s.plainWrite m off v := by
  simp only [plainPath, Bool.and_eq_true, bne_iff_ne, ne_eq, decide_eq_true_eq] at hp
  obtain ⟨⟨⟨⟨⟨-, layerCommit⟩, prot⟩, mesh⟩, coef⟩, toneCommit⟩ := hp
  have coef : ¬ (0x51000 ≤ off ∧ off < 0x52000) := by omega
  unfold State.writePath
  simp only [beq_iff_eq, Bool.and_eq_true, decide_eq_true_eq, layerCommit, prot, mesh, coef, toneCommit, if_false]
  split
  · next i hi =>
    rw [State.srefWrite, if_pos (by simpa using hm), copyAt_eq_some hi]
    simp [TONE_SREF_OFF]
  · rfl

theorem plainPath_block {off : Nat} (h : plainPath off = true) : off / 65536 = 4 ∨ off / 65536 = 5 ∨ off / 65536 = 6 := by
  simp only [plainPath, Bool.and_eq_true, decide_eq_true_eq] at h
  omega

/-- A plain write that a register of BRAID, WARP or TONE takes is the whole effect of its command (R19). -/
theorem State.run_plainPath {s : State} {t off : Nat} {m : Master} (v : Nat) (hs : LightSafe s)
    (ht : (s.pass t).takes m off = true) (hp : plainPath off = true) (hm : m ≠ .guardA) :
    s.run t (fun s => s.regWrite m off 4 v) = ((s.pass t).plainWrite m off v).wroteNow m off := by
  have effect : (s.pass t).regWrite m off 4 v = ((s.pass t).plainWrite m off v).wroteNow m off := by
    rw [State.regWrite_takes v ht, State.regTakes_path v ht (plainPath_block hp), State.writePath_plain _ v hp hm]
  have light : ∀ f : Field, f.off / 65536 = 9 ∨ f.off / 65536 = 10 →
      (((s.pass t).plainWrite m off v).wroteNow m off).get f = s.get f := fun f hf =>
    have ne : f.off ≠ off := by have := plainPath_block hp; rintro rfl; omega
    (State.plainWrite_get_other _ m v ne).trans (State.pass_get s t f)
  rw [← effect] at light ⊢
  exact State.run_of_lightSafe hs (by rw [effect]; rfl) (by rw [effect]; rfl) (by rw [effect]; exact State.pass_house s t)
    (light _ (.inl rfl)) (light _ (.inr rfl))

/-! ### GUARD_A's writes of the sector references -/

/-- CLAMP of a sector reference takes a value (R120). -/
def State.clampSref (s : State) (i k : Nat) : State :=
  if s.get (TONE_SREF_CLAMP i) == k then s else s.touch.set (TONE_SREF_CLAMP i) k

theorem State.srefWrite_guardA (s : State) (i v : Nat) : s.srefWrite .guardA i v =
    if getBits v 28 1 == 1 then (s.clampSref i (getBits v 16 10)).gate .register i
    else (s.clampSref i (getBits v 16 10)).ungate (fun g => g.1 == .register && g.2 == i) := rfl

theorem State.clampSref_get_same (s : State) (i : Nat) {k : Nat} (hk : k < 2 ^ 10) :
    (s.clampSref i k).get (TONE_SREF_CLAMP i) = k := by
  unfold State.clampSref
  split
  · next h => exact beq_iff_eq.mp h
  · rw [State.get_set_same _ _ (by decide : 16 + 10 ≤ 32)]
    exact Nat.mod_eq_of_lt hk

/-- CLAMP alone changes: a field below or above its bits keeps its value. -/
theorem State.clampSref_get_other (s : State) (i k : Nat) {f : Field} (hf : f.lsb + f.width ≤ 32)
    (h : 26 ≤ f.lsb ∨ f.lsb + f.width ≤ 16) : (s.clampSref i k).get f = s.get f := by
  unfold State.clampSref
  split
  · rfl
  · exact State.get_set_other _ _ hf (.inr h)

theorem State.gate_flag_same (s : State) (why : Gate) (i : Nat) : (s.gate why i).flag (TONE_SREF_DARK i) = true := by
  rw [State.flag_iff, State.gate, State.get_set_same _ _ (by decide : 28 + 1 ≤ 32)]
  rfl

/-- DARK alone changes: a field below or above its bit keeps its value. -/
theorem State.gate_get_other (s : State) (why : Gate) (i : Nat) {f : Field} (hf : f.lsb + f.width ≤ 32)
    (h : 29 ≤ f.lsb ∨ f.lsb + f.width ≤ 28) : (s.gate why i).get f = s.get f := by
  rw [State.gate, State.get_set_other (f := TONE_SREF_DARK i) _ _ hf (.inr h)]
  exact (apply_ite (State.get · f) _ _ _).trans (ite_self (s.get f))

/-- The fields below DARK after GUARD_A's write are those that its CLAMP leaves. -/
theorem State.srefWrite_guardA_get (s : State) (i v : Nat) {f : Field} (hf : f.lsb + f.width ≤ 28) :
    (s.srefWrite .guardA i v).get f = (s.clampSref i (getBits v 16 10)).get f := by
  rw [State.srefWrite_guardA]
  split
  · exact State.gate_get_other _ _ _ (by omega) (.inr hf)
  · rfl

theorem State.srefWrite_guardA_dark (s : State) (i v : Nat) (h : getBits v 28 1 = 1) :
    (s.srefWrite .guardA i v).flag (TONE_SREF_DARK i) = true := by
  rw [State.srefWrite_guardA, h]
  exact State.gate_flag_same _ _ _

theorem State.srefWrite_guardA_keeps_dark (s : State) (i v : Nat) (h : getBits v 28 1 = 0) :
    (s.srefWrite .guardA i v).flag (TONE_SREF_DARK i) = s.flag (TONE_SREF_DARK i) := by
  rw [State.srefWrite_guardA, h]
  exact congrArg (· == 1) (State.clampSref_get_other s i _ (by decide : 28 + 1 ≤ 32) (.inl (by decide : 26 ≤ 28)))

theorem copyAt_sref {i : Nat} (h : i < 256) : copyAt (TONE_SREF_OFF 0) 256 4 (TONE_SREF_OFF i) = some i := by
  simp [copyAt, TONE_SREF_OFF, h]

/-- A write of a sector reference is `srefWrite` (R120, R121). -/
theorem State.writePath_sref (s : State) (m : Master) {i : Nat} (v : Nat) (hi : i < 256) :
    s.writePath m (TONE_SREF_OFF i) v = s.srefWrite m i v := by
  have away : TONE_SREF_OFF i ≠ BRAID_LAYER_COMMIT_OFF ∧ TONE_SREF_OFF i ≠ BRAID_PROT_INDEX_OFF ∧
      TONE_SREF_OFF i ≠ WARP_MESH_SELECT_OFF ∧ ¬ (0x51000 ≤ TONE_SREF_OFF i ∧ TONE_SREF_OFF i < 0x52000) ∧
      TONE_SREF_OFF i ≠ TONE_COMMIT_OFF := by
    simp only [TONE_SREF_OFF, BRAID_LAYER_COMMIT_OFF, BRAID_PROT_INDEX_OFF, WARP_MESH_SELECT_OFF, TONE_COMMIT_OFF]
    omega
  obtain ⟨layerCommit, prot, mesh, coef, toneCommit⟩ := away
  simp only [State.writePath, copyAt_sref hi, beq_iff_eq, Bool.and_eq_true, decide_eq_true_eq, layerCommit, prot, mesh, coef,
    toneCommit, if_false]

/-- What a field of a sector reference reads after the command of a write that it takes. -/
theorem State.run_sref_get {s : State} {t i : Nat} {m : Master} (v : Nat) (hi : i < 256)
    (ht : (s.pass t).takes m (TONE_SREF_OFF i) = true) {f : Field} (ho : f.off = TONE_SREF_OFF i)
    (hf : f.lsb + f.width ≤ 32) :
    (s.run t (fun s => s.regWrite m (TONE_SREF_OFF i) 4 v)).get f = ((s.pass t).srefWrite m i v).get f := by
  have block : TONE_SREF_OFF i / 65536 = 6 := by simp only [TONE_SREF_OFF]; omega
  have away : ∀ o, o / 65536 ≠ 6 → f.off ≠ o := by rintro o h rfl; exact h (ho ▸ block)
  rw [State.run_get _ _ _ hf (.inl (away _ (by decide))) (.inl (away _ (by decide))), State.regWrite_takes v ht,
    State.regTakes_path v ht (.inr (.inr block)), State.writePath_sref _ m v hi]
  rfl

/-! ### Reads of pairs -/

/-- A master finds the shadow that was set for it. -/
theorem State.shadow_setShadow_same (s : State) (m : Master) (off v : Nat) :
    (s.setShadow m off v).shadow m off = some v := by
  simp [State.shadow, State.setShadow]

/-- The lower registers of the pairs, and STRIKE_FRAME_NO, are registers, and neither locks nor mailboxes. -/
theorem pairLower_register {off : Nat} (h : off = STRIKE_FRAME_NO_OFF ∨ off ∈ pairLower) : (regAt off).isNone = false ∧
    copyAt (LOCK_OFF 0) 16 4 off = none ∧ copyAt (MBOX_RX_OFF 0) 8 4096 off = none :=
  have all : ∀ o ∈ STRIKE_FRAME_NO_OFF :: pairLower, (regAt o).isNone = false ∧ copyAt (LOCK_OFF 0) 16 4 o = none ∧
    copyAt (MBOX_RX_OFF 0) 8 4096 o = none := by decide +kernel
  all off (List.mem_cons.mpr h)

/-- A read of a lower register returns it and latches the upper one for its master (R24). -/
theorem State.regRead_pairLower {s : State} {m : Master} {off : Nat} (hm : s.reaches m = true) (h : off ∈ pairLower) :
    s.regRead m off = (s.view off, s.setShadow m (off + 4) (s.view (off + 4))) := by
  obtain ⟨register, lock, mbox⟩ := pairLower_register (.inr h)
  simp [State.regRead, hm, register, lock, mbox, h]

/-- A read of STRIKE_FRAME_NO returns it and latches STRIKE_BEAT for its master (R78). -/
theorem State.regRead_frameNo {s : State} {m : Master} (hm : s.reaches m = true) :
    s.regRead m STRIKE_FRAME_NO_OFF =
      (s.view STRIKE_FRAME_NO_OFF, s.setShadow m STRIKE_BEAT_OFF (s.view STRIKE_BEAT_OFF)) := by
  obtain ⟨register, lock, mbox⟩ := pairLower_register (.inl rfl)
  have single : STRIKE_FRAME_NO_OFF ∉ pairLower := by decide
  simp [State.regRead, hm, register, lock, mbox, single]

/-- A read of a locked island answers at once. -/
theorem State.readOut_locked {s : State} {r : Reader} {off : Nat} (hm : s.reaches r.master = true)
    (hs : s.stalls off = false) : s.readOut r off = s.readNow r off := by
  simp [State.readOut, hm, hs]

theorem State.view_frameNo (s : State) : s.view STRIKE_FRAME_NO_OFF = s.frameNo := by
  have plain : s.view STRIKE_FRAME_NO_OFF = s.reg STRIKE_FRAME_NO_OFF := rfl
  have word : s.frameNo = s.reg STRIKE_FRAME_NO_OFF / 2 ^ 0 % 2 ^ 32 := rfl
  rw [plain, word, Nat.pow_zero, Nat.div_one]
  exact (Nat.mod_eq_of_lt (rread s.regs STRIKE_FRAME_NO_OFF).isLt).symm

/-- A command that reads a register whose read latches a value shows the bytes asked for and leaves the shadow for the
master. -/
theorem State.run_latch {s : State} {t : Nat} {r : Reader} {off upper v w : Nat} {g : State → State}
    (hg : g (s.pass t) = (s.pass t).readNow r off)
    (h : (s.pass t).regRead r.master off = (v, (s.pass t).setShadow r.master upper w)) :
    (s.run t g).out = .readData (cutRead r.sub r.bytes v) :: (s.pass t).out ∧
    (s.run t g).shadow r.master upper = some w ∧ (s.run t g).dram = (s.pass t).dram := by
  have read : g (s.pass t) = ((s.pass t).setShadow r.master upper w).emit (.readData (cutRead r.sub r.bytes v)) := by
    rw [hg, State.readNow, h]
  refine ⟨?_, ?_, ?_⟩
  · rw [State.run_out, read]; rfl
  · rw [State.shadow, State.run_shadows, read]
    exact State.shadow_setShadow_same _ _ _ _
  · rw [State.run_dram, read]; rfl

end Sys2Proof.Machine

open Sys2Proof Sys2Proof.Machine Sys2Proof.Machine.Reg

/-- Settles O5: the state after reset lists no register, no byte and no mailbox, so each reads as it does when unlisted. -/
theorem resetState : Obligations.ResetState := by
  have dark : LightSafe State.reset := fun _ => by decide +kernel
  obtain ⟨regs, dram⟩ := State.Formed.reset
  exact ⟨rfl, rfl, fun _ => rfl, rfl, rfl, rfl, fun _ => rfl, fun _ => rfl, dark, regs, dram⟩

/-- Settles O8: the host has no write access to the blocks of the guards, and a descriptor's list ends before them. -/
theorem guardBlocksReadOnly : Obligations.GuardBlocksReadOnly := by
  refine ⟨fun s t off bytes v hb hs => ?_, fun off hb => ?_⟩
  · exact regWrite_noEffect hs (.inr (.inr (.inl (State.writes_of_mayWrite s (mayWrite_host hb)))))
  · have above : ¬ off / 65536 ≤ 8 := by omega
    simp [regWriteOk, above]

/-- Settles O9: a read finds no register, and a write is discarded for want of one. -/
theorem emptyOffsets : Obligations.EmptyOffsets := by
  refine ⟨fun s m off h => ?_, fun s t off bytes m v h hs => ?_⟩
  · simp [State.regRead, h]
  · exact regWrite_noEffect hs (.inr (.inr (.inr h)))

/-- Settles O13: each of the commands is a register write, and one without access is discarded. -/
theorem writeAccess : Obligations.WriteAccess := by
  refine ⟨fun s t m v c off hs hw hc => ?_, fun s t off bytes m v hs hm hb => ?_,
    fun s t off bytes m v hs hm hown hlock hinj hsref => ?_⟩
  · have discarded : ∀ value, s.run t (fun s => s.regWrite m off 4 value) = s.pass t := fun value =>
      State.run_discarded value hs (.inr (.inr (.inl hw)))
    simp only [List.mem_cons, List.not_mem_nil, Prod.mk.injEq] at hc
    repeat
      rcases hc with ⟨rfl, rfl⟩ | hc
      · exact congrArg Host.Outcome.next (discarded _)
    cases hc
  · exact regWrite_noEffect hs (.inr (.inr (.inl (State.writes_of_mayWrite s (mayWrite_fw hm hb)))))
  · exact regWrite_noEffect hs (.inr (.inr (.inl (State.writes_of_mayWrite s (mayWrite_guard hm hown hlock hinj hsref)))))

/-- Settles O42: each access goes its one way, to its register, to the queue of its island, or nowhere. -/
theorem plainAccesses : Obligations.PlainAccesses := by
  refine ⟨?plain, ?sectorReference, ?late, ?discarded, ?pair, ?frameNo⟩
  case plain =>
    intro s t off m v ht hp hm hs
    refine ⟨_, congrArg Host.Outcome.next (State.run_plainPath v.toNat hs ht hp hm), fun f hf => ?_, fun o ho => ?_⟩
    · exact (State.plainWrite_get _ m off _ hf).trans (by rw [State.pass_reg])
    · exact (State.plainWrite_reg_other _ m _ ho).trans (State.pass_reg s t o)
  case sectorReference =>
    intro s t i v hi ht
    refine ⟨_, rfl, ?_, ?_, fun hd => ?_, fun hd => ?_⟩
    · rw [State.run_sref_get _ hi ht rfl (by decide : 16 + 10 ≤ 32),
        State.srefWrite_guardA_get _ _ _ (by decide : 16 + 10 ≤ 28)]
      exact State.clampSref_get_same _ _ (getBits_lt _ _ _)
    · rw [State.run_sref_get _ hi ht rfl (by decide : 0 + 10 ≤ 32),
        State.srefWrite_guardA_get _ _ _ (by decide : 0 + 10 ≤ 28),
        State.clampSref_get_other _ _ _ (by decide : 0 + 10 ≤ 32) (.inr (by decide : 0 + 10 ≤ 16)), State.pass_get]
    · rw [State.flag_iff, State.run_sref_get _ hi ht rfl (by decide : 28 + 1 ≤ 32), ← State.flag_iff]
      exact State.srefWrite_guardA_dark _ i _ hd
    · rw [State.flag_iff, State.run_sref_get _ hi ht rfl (by decide : 28 + 1 ≤ 32), ← State.flag_iff,
        State.srefWrite_guardA_keeps_dark _ i _ hd, State.pass_flag]
  case late =>
    intro s t off m v hs ha hw hr
    have arrives := State.regWrite_arrives (s := s.pass t) v.toNat ha (by rwa [State.pass_writes]) hr
    rw [State.pass_stalls] at arrives
    refine ⟨fun unlocked => ?_, fun locked outranked => ?_⟩
    · rw [if_pos unlocked] at arrives
      rw [← arrives]
      exact congrArg Host.Outcome.next (State.run_of_lightSafe hs (by rw [arrives]; rfl) (by rw [arrives]; rfl)
        (by rw [arrives]; exact State.pass_house s t) (by rw [arrives]; exact State.pass_get s t _)
        (by rw [arrives]; exact State.pass_get s t _))
    · rw [if_neg (by simp [locked]), State.regLands, if_pos outranked] at arrives
      exact congrArg Host.Outcome.next (State.run_same hs arrives)
  case discarded => exact fun s t off bytes m v hs h => regWrite_noEffect hs h
  case pair =>
    intro s t off r hm hst hoff
    have reaches : (s.pass t).reaches r.master = true := by rwa [State.pass_reaches]
    refine ⟨_, rfl, State.run_latch ?_ (State.regRead_pairLower reaches (List.contains_iff_mem.mp hoff))⟩
    rw [if_pos hoff]
    exact State.readOut_locked reaches (by rwa [State.pass_stalls])
  case frameNo =>
    intro s t r hm hst
    have reaches : (s.pass t).reaches r.master = true := by rwa [State.pass_reaches]
    have number : (s.pass t).view STRIKE_FRAME_NO_OFF = s.frameNo := (State.view_frameNo _).trans (State.pass_get s t _)
    obtain ⟨out, shadow, -⟩ := State.run_latch (g := fun s => s.readOut r STRIKE_FRAME_NO_OFF)
      (State.readOut_locked reaches (by rwa [State.pass_stalls])) (State.regRead_frameNo reaches)
    exact ⟨_, rfl, number ▸ out, shadow⟩

end

section
/-! PROOF. Without the logic supplies no event of an island has an effect (R30, R480, R498, R503, R505). -/

namespace Sys2Proof.Machine

/-- Without the logic supplies an effect inside the module does not happen (R30). -/
theorem State.inside_unpowered {s : State} (f : State → State) (h : s.powered = false) : s.inside f = s := by
  rw [State.inside, if_neg (by simp [h])]

/-- A command whose whole effect lies inside an unpowered module leaves the state to the passing of time. -/
theorem State.run_unpowered {s : State} {t : Nat} {f : State → State} (hs : LightSafe s) (h : s.powered = false) :
    s.run t (fun s => s.inside f) = s.pass t :=
  State.run_same hs (State.inside_unpowered f (by rwa [State.pass_powered]))

/-- The same where the command first checks that its operand names something. -/
theorem State.run_unpowered_ite {s : State} {t : Nat} {f : State → State} {c : Prop} [Decidable c] (hs : LightSafe s)
    (h : s.powered = false) : s.run t (fun s => if c then s.inside f else s) = s.pass t :=
  State.run_same hs (by rw [State.inside_unpowered f (by rwa [State.pass_powered]), ite_self])

/-- No master reaches the registers of an unpowered module (R30). -/
theorem State.writes_unpowered {s : State} (m : Master) (off : Nat) (h : s.powered = false) : s.writes m off = false := by
  simp [State.writes, State.reaches, h]

end Sys2Proof.Machine

open Sys2Proof Sys2Proof.Machine Sys2Proof.Machine.Reg

/-- Settles O12: each listed command is an effect inside the module, and every register write is discarded. -/
theorem unpoweredIslands : Obligations.UnpoweredIslands := by
  refine ⟨fun s t n k g p q b bits pc e c hp hs hc => ?_, fun s t off bytes m v hp hs => ?_⟩
  · have inside (f) : (.next (s.run t fun s => s.inside f) : Host.Outcome State Fault Refusal) = .next (s.pass t) :=
      congrArg _ (State.run_unpowered hs hp)
    have named (a : Prop) [Decidable a] (f) :
        (.next (s.run t fun s => if a then s.inside f else s) : Host.Outcome State Fault Refusal) = .next (s.pass t) :=
      congrArg _ (State.run_unpowered_ite hs hp)
    simp only [List.mem_cons, List.not_mem_nil, or_false] at hc
    rcases hc with rfl | rfl | rfl | rfl | rfl | rfl | rfl | rfl | rfl | rfl | rfl | rfl | rfl | rfl | rfl | rfl | rfl | rfl |
      rfl | rfl | rfl | rfl | rfl | rfl | rfl | rfl | rfl | rfl
    exacts [inside _, inside _, named _ _, inside _, inside _, inside _, inside _, inside _, inside _, inside _, inside _,
      inside _, inside _, inside _, named _ _, named _ _, named _ _, named _ _, named _ _, named _ _, named _ _, named _ _,
      inside _, inside _, inside _, inside _, inside _, inside _]
  · exact regWrite_noEffect hs (.inr (.inr (.inl (State.writes_unpowered m off hp))))

end

section
/-! PROOF. The register writes of the frame timer (R43, R64, R74, R75, R77, R94). -/

namespace Sys2Proof.Machine

open Reg

/-! ### Registers after a command -/

/-- Settling leaves every register alone but the two that hold the enables. -/
theorem State.settle_reg (s : State) (n : Nat) (q : List Instr) {off : Nat} (ha : off ≠ GUARD_A_STATUS_OFF)
    (hb : off ≠ GUARD_B_STATUS_OFF) : (s.settle n q).reg off = s.reg off := by
  unfold State.settle
  extract_lets s1
  have dark : s1.disable.reg off = s1.reg off := (State.reg_set_other _ _ hb).trans (State.reg_set_other _ _ ha)
  split
  · rfl
  · exact dark

theorem State.run_reg (s : State) (t : Nat) (g : State → State) {off : Nat} (ha : off ≠ GUARD_A_STATUS_OFF)
    (hb : off ≠ GUARD_B_STATUS_OFF) : (s.run t g).reg off = (g (s.pass t)).reg off := State.settle_reg _ _ _ ha hb

/-! ### Writes to the block STRIKE -/

/-- In the blocks STRIKE and ANODE a register that takes a write does so by `writeStrike`. -/
theorem State.regTakes_strike {s : State} {m : Master} {off : Nat} (v : Nat) (h : s.takes m off = true)
    (hb : off / 65536 = 7 ∨ off / 65536 = 8) : s.regTakes m off v = s.writeStrike m off v := by
  have runs : s.commitStopped off = false := by
    simp only [State.takes, Bool.and_eq_true, Bool.not_eq_true'] at h
    exact h.2
  rcases hb with hb | hb <;> simp [State.regTakes, runs, hb]

/-- A write that a register of STRIKE takes. -/
theorem State.regWrite_strike {s : State} {m : Master} {off : Nat} (v : Nat) (h : s.takes m off = true)
    (hb : off / 65536 = 7 ∨ off / 65536 = 8) : s.regWrite m off 4 v = (s.writeStrike m off v).wroteNow m off := by
  rw [State.regWrite_takes v h, State.regTakes_strike v h hb]

/-- A write of STRIKE that changes registers of its own block alone, beside the accesses and the timer, is the whole effect of
its command. -/
theorem State.run_strikeWrite {s s' : State} {t : Nat} {m : Master} {off v : Nat} (hs : LightSafe s)
    (ht : (s.pass t).takes m off = true) (hb : off / 65536 = 7 ∨ off / 65536 = 8)
    (hw : (s.pass t).writeStrike m off v = s') (hn : s'.now = (s.pass t).now) (hp : s'.pending = (s.pass t).pending)
    (hh : s'.house = (s.pass t).house) (hr : Elsewhere [7] (s.pass t) s') :
    s.run t (fun s => s.regWrite m off 4 v) = s'.wroteNow m off := by
  have effect : (s.pass t).regWrite m off 4 v = s'.wroteNow m off := by rw [State.regWrite_strike v ht hb, hw]
  have light (f : Field) (hf : ¬ f.off / 65536 ∈ [7]) : ((s.pass t).regWrite m off 4 v).get f = s.get f := by
    rw [effect, ← State.pass_get s t f]
    exact hr.get hf
  rw [← effect]
  exact State.run_of_lightSafe hs (by rw [effect]; exact hn) (by rw [effect]; exact hp)
    (by rw [effect, ← State.pass_house s t]; exact hh) (light _ (by decide)) (light _ (by decide))

theorem State.writeStrike_frameLoad (s : State) (m : Master) (v : Nat) :
    s.writeStrike m STRIKE_FRAME_LOAD_OFF v = s.frameLoad v := rfl

theorem State.writeStrike_lateClear (s : State) (m : Master) (v : Nat) :
    s.writeStrike m STRIKE_LATE_CLEAR_OFF v = s.lateClear v := rfl

theorem State.writeStrike_rowErrClear (s : State) (m : Master) (v : Nat) :
    s.writeStrike m STRIKE_ROW_ERR_CLEAR_OFF v = s.rowErrClear v := rfl

theorem State.writeStrike_timeOffset (s : State) (m : Master) (v : Nat) :
    s.writeStrike m STRIKE_TIME_OFFSET_OFF v = s.timeOffset v := rfl

theorem State.writeStrike_timeTrim (s : State) (m : Master) (v : Nat) :
    s.writeStrike m STRIKE_TIME_TRIM_OFF v = s.timeTrim v := rfl

/-! ### Timing commits and loads -/

@[simp] theorem State.pass_follows (s : State) (t : Nat) : (s.pass t).follows = s.follows := by
  simp only [State.follows, State.role, State.twinEn, State.pass_get, State.pass_flag]

@[simp] theorem State.pass_timingRejected (s : State) (t : Nat) : (s.pass t).timingRejected = s.timingRejected := by
  simp only [State.timingRejected, State.pass_get, State.pass_flag, State.pass_follows]

@[simp] theorem State.pass_stagedTiming (s : State) (t : Nat) : (s.pass t).stagedTiming = s.stagedTiming := by
  simp only [State.stagedTiming, State.pass_get, State.pass_flag]

@[simp] theorem State.pass_activeSource (s : State) (t : Nat) : (s.pass t).activeSource = s.activeSource := by
  simp [State.activeSource, State.role, State.spliceUp]

/-- A timing commit outside a leader takes no frame of a twin set (R74). -/
theorem State.timingCommit_own {s : State} (hr : s.timingRejected = false) (hl : s.role ≠ 1) :
    s.timingCommit = s.timingAccept s.stagedTiming none := by
  simp [State.timingCommit, hr, State.applyFrame, hl]

theorem State.timingCommit_rejected {s : State} (hr : s.timingRejected = true) :
    s.timingCommit = (s.latch STRIKE_SYNC_STATUS_COMMIT_REJ).raise 5 := by
  simp [State.timingCommit, hr]

/-- A load under PTP or PARTNER is rejected (R77). -/
theorem State.frameLoad_rejected {s : State} (v : Nat) (h : s.activeSource = 2 ∨ s.activeSource = 3) :
    s.frameLoad v = s.latch STRIKE_SYNC_STATUS_LOAD_REJ := by
  simp [State.frameLoad, h]

/-- Under any other source it waits for the boundary. -/
theorem State.frameLoad_held {s : State} (v : Nat) (h2 : s.activeSource ≠ 2) (h3 : s.activeSource ≠ 3) :
    s.frameLoad v = { s with timer := { s.timer with load := some (v % 2 ^ 32, s.now) } } := by
  simp [State.frameLoad, h2, h3]

/-! ### Module time across a change of lock state -/

/-- What the timer knows of module time and of the PTP reference (R64). -/
def State.ptpClock (s : State) : Int × Nat × Bool × Option Nat :=
  (s.timer.timeVal, s.timer.timeAt, s.timer.ptpValid, s.timer.ptpAt)

theorem State.ptpClock_of_timer {s s' : State} (h : s'.timer = s.timer) : s'.ptpClock = s.ptpClock := by
  simp only [State.ptpClock, h]

@[simp] theorem State.set_ptpClock (s : State) (f : Field) (v : Nat) : (s.set f v).ptpClock = s.ptpClock := rfl

@[simp] theorem State.setFlag_ptpClock (s : State) (f : Field) (b : Bool) : (s.setFlag f b).ptpClock = s.ptpClock := rfl

@[simp] theorem State.forgetPhase_ptpClock (s : State) : s.forgetPhase.ptpClock = s.ptpClock := rfl

/-- A report without a reaction leaves the timer alone. -/
theorem State.fault_ptpClock (s : State) {code source subject : Nat}
    (h : (⟨code, source, subject, 0, 0, 0, 0⟩ : Report).reaction = .nothing) :
    (s.fault code source subject).ptpClock = s.ptpClock := State.ptpClock_of_timer (State.accept_timer _ _ _ _ _ _ h)

@[simp] theorem State.setLock_ptpClock (s : State) (n : Nat) : (s.setLock n).ptpClock = s.ptpClock := by
  have timer : (if s.lockState == n then s else s.raise 5).ptpClock = s.ptpClock := by
    split
    · rfl
    · exact State.ptpClock_of_timer (State.raise_timer s 5)
  exact timer

/-- A change of lock state moves neither module time nor the PTP reference. -/
@[simp] theorem State.relock_ptpClock (s : State) : s.relock.ptpClock = s.ptpClock := by
  unfold State.relock
  extract_lets valid s1 free
  have same : s1.ptpClock = s.ptpClock := rfl
  split
  · exact (State.setLock_ptpClock _ 2).trans same
  · exact (State.setLock_ptpClock _ 1).trans same
  · split
    · exact (State.setLock_ptpClock _ 1).trans same
    · exact ((State.fault_ptpClock _ (by decide)).trans (State.setLock_ptpClock _ 4)).trans same
  · exact (State.setLock_ptpClock _ 2).trans same
  · split
    · exact (State.setLock_ptpClock _ 1).trans same
    · exact same
  · exact same

/-- A timer register beside STRIKE_SYNC_STATUS keeps its value in a change of lock state. -/
theorem State.setLock_reg (s : State) (n : Nat) {off : Nat} (h2 : off / 65536 ≠ 2) (ho : off ≠ STRIKE_SYNC_STATUS_OFF) :
    (s.setLock n).reg off = s.reg off := by
  unfold State.setLock
  rw [State.reg_set_other _ _ ho]
  change (if s.lockState == n then s else s.raise 5).reg off = s.reg off
  split
  · rfl
  · exact (State.raise_elsewhere s (k := 5) (by decide)).reg (by simpa using h2)

theorem State.relock_reg (s : State) {off : Nat} (hb : ¬ off / 65536 ∈ [1, 2]) (ho : off ≠ STRIKE_SYNC_STATUS_OFF) :
    s.relock.reg off = s.reg off := by
  have h2 : off / 65536 ≠ 2 := fun h => hb (by simp [h])
  unfold State.relock
  extract_lets valid s1 free
  have same : s1.reg off = s.reg off := (State.reg_set_other _ _ ho).trans (State.reg_set_other _ _ ho)
  have locked (x : State) (n : Nat) (hx : x.reg off = s1.reg off) : (x.setLock n).reg off = s.reg off :=
    ((State.setLock_reg x n h2 ho).trans hx).trans same
  split
  · exact locked _ 2 rfl
  · exact locked _ 1 rfl
  · split
    · exact locked _ 1 rfl
    · exact ((State.fault_elsewhere _ _ _ _ (by decide)).reg hb).trans (locked _ 4 rfl)
  · exact locked _ 2 rfl
  · split
    · exact locked _ 1 rfl
    · exact same
  · exact same

/-- A steered PTP reference is valid from now on (R64). -/
theorem State.ptpSteered_ptpClock (s : State) :
    s.ptpSteered.ptpClock = (s.timer.timeVal, s.timer.timeAt, true, some s.now) := State.relock_ptpClock _

theorem State.timeOffset_ptpClock (s : State) (v : Nat) :
    (s.timeOffset v).ptpClock = (s.moduleTime + signedBits 32 (v % 2 ^ 32), s.now, true, some s.now) :=
  State.ptpSteered_ptpClock _

theorem State.timeTrim_ptpClock (s : State) (v : Nat) :
    (s.timeTrim v).ptpClock = (s.moduleTime, s.now, true, some s.now) := by
  refine (State.ptpSteered_ptpClock _).trans ?_
  rw [← Int.add_zero s.moduleTime]
  rfl

/-- A number in the two's complement of 32 bits fits 32 bits. -/
theorem twos_mod (i : Int) : twos 32 i % 2 ^ 32 = twos 32 i := by
  unfold twos
  omega

/-- The register of the trim holds the limited rate (R64). -/
theorem State.timeTrim_reg (s : State) (v : Nat) : (s.timeTrim v).reg STRIKE_TIME_TRIM_OFF =
    twos 32 (clampI (-200000) 200000 (signedBits 32 (v % 2 ^ 32))) := by
  unfold State.timeTrim State.ptpSteered
  rw [State.relock_reg _ (by decide) (by decide)]
  exact (State.reg_setReg_same _ _ _).trans (twos_mod _)

end Sys2Proof.Machine

open Sys2Proof Sys2Proof.Machine Sys2Proof.Machine.Reg

/-- Settles O21: each write reaches its own operation of the timer, and what follows it leaves the timer's part alone. -/
theorem timerRegisterWrites : Obligations.TimerRegisterWrites := by
  refine ⟨?accepted, ?rejected, ?loads, ?loadRejected, ?lateClear, ?rowErrClear, ?offset, ?trim⟩
  case accepted =>
    intro s t m ht hr hl hs
    refine congrArg Host.Outcome.next (State.run_strikeWrite hs ht (by decide) ?_ rfl rfl rfl ?_)
    · have own := State.timingCommit_own (s := s.pass t) (by simpa using hr) (by simpa [State.role] using hl)
      rwa [State.pass_stagedTiming] at own
    · exact Elsewhere.set (Elsewhere.of_regs rfl) _ (by decide)
  case rejected =>
    intro s t m ht hr
    have effect : (s.pass t).regWrite m STRIKE_COMMIT_OFF 4 1 =
        (((s.pass t).latch STRIKE_SYNC_STATUS_COMMIT_REJ).raise 5).wroteNow m STRIKE_COMMIT_OFF := by
      rw [State.regWrite_strike 1 ht (by decide), ← State.timingCommit_rejected (by simpa using hr)]
      rfl
    refine ⟨_, rfl, ?_, ?_⟩
    · rw [State.run_get _ _ _ (by decide) (by decide) (by decide), effect]
      refine ((State.raise_elsewhere _ (by decide)).get (by decide)).trans ?_
      exact State.get_set_same _ _ (by decide)
    · rw [State.run_timer, effect]
      exact (State.raise_timer _ _).trans (State.pass_timer s t)
  case loads =>
    intro s t m v ht h2 h3
    have effect := State.regWrite_strike v.toNat ht (by decide)
    rw [State.writeStrike_frameLoad, State.frameLoad_held _ (by rwa [State.pass_activeSource])
      (by rwa [State.pass_activeSource])] at effect
    refine ⟨_, rfl, ?_, ?_⟩
    · rw [State.run_timer, effect]
      exact congrArg (fun n => some (v.toNat % 2 ^ 32, n)) (State.pass_now s t)
    · rw [State.frameNo, State.run_get _ _ _ (by decide) (by decide) (by decide), effect]
      exact State.pass_get s t _
  case loadRejected =>
    intro s t m v ht hs h
    refine congrArg Host.Outcome.next (State.run_strikeWrite hs ht (by decide) ?_ rfl rfl rfl ?_)
    · rw [State.writeStrike_frameLoad, State.frameLoad_rejected _ (by rwa [State.pass_activeSource])]
    · exact Elsewhere.set (.refl _ _) _ (by decide)
  case lateClear =>
    intro s t m v ht hs hv
    refine congrArg Host.Outcome.next (State.run_strikeWrite hs ht (by decide) ?_ rfl rfl rfl ?_)
    · rw [State.writeStrike_lateClear, State.lateClear, if_pos (beq_iff_eq.mpr hv)]
    · exact Elsewhere.set (.refl _ _) _ (by decide)
  case rowErrClear =>
    intro s t m v ht hs hv
    refine congrArg Host.Outcome.next (State.run_strikeWrite hs ht (by decide) ?_ rfl rfl rfl ?_)
    · rw [State.writeStrike_rowErrClear, State.rowErrClear, if_pos (beq_iff_eq.mpr hv)]
    · exact fun o ho => rread_rwrite_other _ _ (fun e => ho (by rw [e]; decide))
  case offset =>
    intro s t m v ht
    have clock := State.timeOffset_ptpClock (s.pass t) v.toNat
    rw [State.pass_now, Nat.mod_eq_of_lt v.isLt] at clock
    have timer : (s.run t fun s => s.regWrite m STRIKE_TIME_OFFSET_OFF 4 v.toNat).timer =
        ((s.pass t).timeOffset v.toNat).timer := by
      rw [State.run_timer, State.regWrite_strike _ ht (by decide), State.writeStrike_timeOffset]
      rfl
    rw [← State.ptpClock_of_timer timer] at clock
    exact ⟨_, rfl, by simpa only [State.ptpClock, Prod.mk.injEq] using clock⟩
  case trim =>
    intro s t m v ht
    have effect := State.regWrite_strike v.toNat ht (by decide)
    rw [State.writeStrike_timeTrim] at effect
    have clock := State.timeTrim_ptpClock (s.pass t) v.toNat
    simp only [State.ptpClock, Prod.mk.injEq] at clock
    obtain ⟨time, -, valid, -⟩ := clock
    refine ⟨_, rfl, ?_, ?_, ?_⟩
    · have reg := State.timeTrim_reg (s.pass t) v.toNat
      rw [Nat.mod_eq_of_lt v.isLt] at reg
      rw [State.run_reg _ _ _ (by decide) (by decide), effect]
      exact reg
    · rw [State.run_timer, effect]
      exact time
    · rw [State.run_timer, effect]
      exact valid

end

section
/-! PROOF. The frames of the commands that report no fault: a message of a vector that the module does not have, which no run
brings about, sets a pending bit outside the HOST block. -/

namespace Sys2Proof.Machine

open Reg

/-- A vector beyond the 72 of R337 whose pending bit lies at the first offset of the INTAKE block. -/
def strayVector : Nat := 32 * 0x1C00

/-- A module in DARK with a masked message of that vector waiting for Bus Master Enable. -/
def strayStalled : State :=
  { Tests.up .dark [(MSIX_CTRL_MASK strayVector, 1)] with host := { State.reset.host with stalled := [.msix strayVector] } }

/-- Its pending bit, bit 0 of INTAKE_CTRL, becomes set when Bus Master Enable rises. -/
theorem strayStalled_busMaster :
    (strayStalled.run 0 fun s => s.inside fun s => s.busMaster true .cold).reg INTAKE_CTRL_OFF ≠
      strayStalled.reg INTAKE_CTRL_OFF := by decide +kernel

end Sys2Proof.Machine

open Sys2Proof Sys2Proof.Machine Sys2Proof.Machine.Reg

/-- Refutes O6: the statement is about every state, and so about one whose waiting messages name a vector that is none of the
72. BUS_MASTER_ENABLE then sets a pending bit in the INTAKE block, where its frame names the HOST block alone. -/
theorem not_quietFrames : ¬ Obligations.QuietFrames := by
  intro h
  have dark : LightSafe strayStalled := fun _ => by decide +kernel
  obtain ⟨-, regs⟩ := h (.busMaster 0 true .cold) strayStalled _ _ rfl dark _ rfl
  exact strayStalled_busMaster (regs INTAKE_CTRL_OFF (by decide))

end

section
/-! PROOF. The strike: what follows the timer's part of a boundary leaves STRIKE_STATUS alone, so a suppressed strike is seen in
LATE_RUN, and in a state whose discarded signatures name that register the count goes wrong. -/

namespace Sys2Proof.Machine

open Reg

/-! ### The end of a strike -/

/-- The ceilings of the scan that starts stand in the GUARD_B block. -/
theorem State.scanStart_elsewhere (s : State) : Elsewhere [10] s s.scanStart := by
  unfold State.scanStart
  have noted (g : Guards) : Elsewhere [10] s { s with guards := g } := Elsewhere.of_regs rfl
  refine (noted _).trans (Elsewhere.foldl _ _ (fun x n hn => ?_) _)
  have block : GUARD_B_CEIL_OFF n / 65536 ∈ [10] := by
    have lt := List.mem_range.mp hn
    simp only [GUARD_B_CEIL_OFF, List.mem_singleton]
    omega
  exact Elsewhere.set (Elsewhere.set (.refl _ x) (f := GUARD_B_CEIL_LOW n) _ block) (f := GUARD_B_CEIL_HIGH n) _ block

/-- Descriptors that waited for a frame end without a register's change. -/
theorem State.frameWaits_elsewhere (s : State) : Elsewhere [] s s.frameWaits := by
  unfold State.frameWaits
  refine Elsewhere.foldl _ _ (fun x e _ => ?_) _
  split
  · exact Elsewhere.of_regs rfl
  · exact .refl _ _

theorem State.frameVector_elsewhere (s : State) : Elsewhere [2] s s.frameVector := by
  unfold State.frameVector
  have counted (h : HostIsl) : Elsewhere [2] s { s with host := h } := Elsewhere.of_regs rfl
  exact .ite (.refl _ _) (.ite (counted _) ((counted _).trans (State.raise_elsewhere _ (by decide))))

/-- The end of a strike leaves the registers of STRIKE alone. -/
theorem State.strikeEnd_get (s : State) {f : Field} (hf : f.off / 65536 = 7) :
    s.scanStart.frameWaits.frameVector.get f = s.get f := by
  have ends : Elsewhere [2, 10] s s.scanStart.frameWaits.frameVector :=
    (((State.scanStart_elsewhere s).mono (by decide)).trans ((State.frameWaits_elsewhere _).mono (by decide))).trans
      ((State.frameVector_elsewhere _).mono (by decide))
  exact ends.get (by simp [hf])

/-! ### A strike that is suppressed -/

/-- With no overlay and no change of state waiting none is applied. -/
theorem State.runOverlay_steady {s : State} (h : s.steady = true) : s.runOverlay = s := by
  simp only [State.steady, Bool.and_eq_true, Option.isNone_iff_eq_none] at h
  obtain ⟨⟨⟨overlay, change⟩, -⟩, -⟩ := h
  simp [State.runOverlay, overlay, change]

/-- The frame boundary that ends a strike, up to the start of the next scan. -/
def State.strikeBoundary (s : State) (closed : List Nat) : State :=
  let s := s.windowOpens closed
  let s : State := { s with array := { s.array with peekWait := s.array.peekWait - 1 } }
  s.timerBoundary.twinBoundary.boundaryChange

/-- A strike of a frame that lacks a row is suppressed (R43). -/
theorem State.strike_late {s : State} (ht : s.timerRuns = true) (hm : s.house.mode ≠ .fatal) (hs : s.steady = true)
    (h5 : s.islandStopped 5 = false) (hr : s.timer.rowsRun < 512 ∨ s.timer.rowsOk = false) :
    s.strike = (s.strikeLate.strikeBoundary s.closedBands).scanStart.frameWaits.frameVector := by
  have late : (decide (s.timer.rowsRun < 512) || !s.timer.rowsOk) = true := by simpa using hr
  simp [State.strike, ht, hm, State.runOverlay_steady hs, h5, late, State.strikeBoundary]

/-! ### The counterexample -/

/-- A module in DARK whose frame timer runs and of whose frame no row slot has run. Among the registers that a suppressed strike
restores stands STRIKE_STATUS, with one late frame where the register shows none. -/
def strayDiscard : State :=
  { Tests.timed [] with guards := { State.reset.guards with sigOld := [(STRIKE_STATUS_OFF, 2 ^ 24 + 2 ^ 16)] } }

theorem strayDiscard_lateRun :
    (strayDiscard.strikeLate.strikeBoundary strayDiscard.closedBands).get STRIKE_STATUS_LATE_RUN = 2 := by decide +kernel

end Sys2Proof.Machine

open Sys2Proof Sys2Proof.Machine Sys2Proof.Machine.Reg

/-- Refutes O20: the statement is about every state, and so about one in which the signature registers to be restored at a
suppressed strike (R229) include STRIKE_STATUS. The strike counts from the restored LATE_RUN, 1, and not from the 0 before it. -/
theorem not_strikeAndCapture : ¬ Obligations.StrikeAndCapture := by
  rintro ⟨-, late, -⟩
  have runs : strayDiscard.timerRuns = true := by decide +kernel
  have light : strayDiscard.house.mode ≠ .fatal := by decide +kernel
  have steady : strayDiscard.steady = true := by decide +kernel
  have going : strayDiscard.islandStopped 5 = false := by decide +kernel
  have short : strayDiscard.timer.rowsRun < 512 ∨ strayDiscard.timer.rowsOk = false := .inl (by decide +kernel)
  obtain ⟨s', answer, -, count, -⟩ := late strayDiscard 0 runs light steady going short
  have struck : strayDiscard.run 0 State.strike = s' := Host.Outcome.next.inj answer
  have shown : strayDiscard.get STRIKE_STATUS_LATE_RUN = 0 := by decide +kernel
  have same : strayDiscard.pass 0 = strayDiscard := rfl
  rw [← struck, State.run_get _ _ _ (by decide) (by decide) (by decide), same, State.strike_late runs light steady going short,
    State.strikeEnd_get _ (by decide), strayDiscard_lateRun, shown] at count
  exact absurd count (by decide)

end

section
/-! PROOF. Which PLLs are unlocked and which clocks are bad is written by PLL_LOCK_LOSS and CLOCK_CHECK_WINDOW alone: one lemma for
each operation that a report, an event, a message or a register access is made of. -/

namespace Sys2Proof.Machine

/-- What registers, faults, events and messages leave alone: which PLLs have lost lock, and which guards' clocks were found bad. -/
structure SameClocks (a s : State) : Prop where
  pll : s.house.pllUnlocked = a.house.pllUnlocked
  clock : s.guards.clockBad = a.guards.clockBad

namespace SameClocks

variable {a s s' : State}

theorem refl (s : State) : SameClocks s s := ⟨rfl, rfl⟩

theorem of (h : SameClocks a s) (pll : s'.house.pllUnlocked = s.house.pllUnlocked)
    (clock : s'.guards.clockBad = s.guards.clockBad) : SameClocks a s' :=
  ⟨pll.trans h.pll, clock.trans h.clock⟩

/-- The parts of a state beside HOUSE's and the guards' may be any. -/
theorem same {now freeCtr : Nat} {pending : List Instr} {regs : List (Nat × BitVec 32)} {dram : List Host.Cell}
    {out : List Output} {shadows : List (Master × Nat × Nat)} {access : Accesses} {keeper : Keeper}
    {host : HostIsl} {hk : Hk} {intake : Intake} {braid : Braid} {warp : Warp} {tone : Tone} {anode : Anode} {timer : Timer}
    {array : EmArray} {twin : Twin} (h : SameClocks a s) :
    SameClocks a (State.mk now pending freeCtr regs dram out shadows access s.house keeper host hk intake braid warp tone anode
      timer array s.guards twin) :=
  h.of rfl rfl

open Reg

theorem ite {c : Prop} [Decidable c] {x y : State} (ha : SameClocks a x) (hb : SameClocks a y) :
    SameClocks a (if c then x else y) := by
  split
  · exact ha
  · exact hb

theorem iteSnd {α : Type} {c : Prop} [Decidable c] {p q : α × State} (hp : SameClocks a p.2) (hq : SameClocks a q.2) :
    SameClocks a (if c then p else q).2 := by
  split
  · exact hp
  · exact hq

theorem foldl {β : Type} {l : List β} {f : State → β → State} (h : SameClocks a s)
    (hf : ∀ s b, SameClocks a s → SameClocks a (f s b)) : SameClocks a (l.foldl f s) := by
  induction l generalizing s with
  | nil => exact h
  | cons b l ih => exact ih (hf s b h)

/-! ### Registers, messages and records -/

theorem set {f : Field} {v : Nat} (h : SameClocks a s) : SameClocks a (s.set f v) := h.same

theorem setReg {off v : Nat} (h : SameClocks a s) : SameClocks a (s.setReg off v) := h.same

theorem setFlag {f : Field} {b : Bool} (h : SameClocks a s) : SameClocks a (s.setFlag f b) := h.set

theorem marked {f : Field} (h : SameClocks a s) : SameClocks a (s.marked f) := h.same

theorem latch {f : Field} (h : SameClocks a s) : SameClocks a (s.latch f) := h.set.marked

theorem bumpBy {f : Field} {n : Nat} (h : SameClocks a s) : SameClocks a (s.bumpBy f n) := h.set

theorem bump {f : Field} (h : SameClocks a s) : SameClocks a (s.bump f) := h.bumpBy

theorem count {f : Field} (h : SameClocks a s) : SameClocks a (s.count f) := h.set

theorem emit {o : Output} (h : SameClocks a s) : SameClocks a (s.emit o) := h.same

theorem toHost {o : Output} (h : SameClocks a s) : SameClocks a (s.toHost o) := .ite h.emit h.same

theorem msix {v : Nat} (h : SameClocks a s) : SameClocks a (s.msix v) := .ite h.set h.toHost

theorem raise {k : Nat} (h : SameClocks a s) : SameClocks a (s.raise k) := .ite h.marked (.ite h.latch.msix h.latch)

theorem cvuSet {n : Nat} {f : List (Nat × BitVec 32) → List (Nat × BitVec 32)} (h : SameClocks a s) :
    SameClocks a (s.cvuSet n f) :=
  .ite (h.of rfl rfl) (h.of rfl rfl)

theorem cvuPass {n value : Nat} (h : SameClocks a s) : SameClocks a (s.cvuPass n value) := h.cvuSet

/-! ### Rings, events and SPLICE messages -/

theorem setRing {n : Nat} {r : Ring} (h : SameClocks a s) : SameClocks a (s.setRing n r) := h.same

theorem ringMsg {n : Nat} (h : SameClocks a s) : SameClocks a (s.ringMsg n) := .ite h.setRing.msix h.setRing

theorem ringSummary (h : SameClocks a s) : SameClocks a s.ringSummary := h.setFlag.set.set.set.set

theorem setRingState {n st : Nat} (h : SameClocks a s) : SameClocks a (s.setRingState n st) := h.set.ringSummary

theorem writeRecord {n : Nat} {words : List Nat} (h : SameClocks a s) : SameClocks a (s.writeRecord n words) :=
  h.toHost.toHost.set.set.ringMsg

theorem deliver {words : List Nat} {n : Nat} (h : SameClocks a s) : SameClocks a (s.deliver words n) :=
  .ite h.writeRecord h.setRing.bump

theorem event {e : Event} (h : SameClocks a s) : SameClocks a (s.event e) := h.same.foldl fun _ _ h => h.deliver

theorem finish {ring index status detail result : Nat} (h : SameClocks a s) :
    SameClocks a (s.finish ring index status detail result) :=
  h.setRing

theorem answer {w : Option (Nat × Nat)} {status detail : Nat} (h : SameClocks a s) : SameClocks a (s.answer w status detail) := by
  unfold State.answer
  split
  · exact h
  · exact h.finish

theorem sendSplice {type : Nat} {keep : Option Deadline} {ackSeq : Nat} {payload : List Nat} (h : SameClocks a s) :
    SameClocks a (s.sendSplice type keep ackSeq payload) :=
  .ite h h.same.emit.cvuPass

theorem setEvent {e : Event} (h : SameClocks a s) : SameClocks a (s.setEvent e) :=
  .ite (.ite h.set.same.event.sendSplice h.set.same.event) (.ite (.ite h.sendSplice h) h.event)

theorem setPair {p : Nat} (h : SameClocks a s) : SameClocks a (s.setPair p) := .ite h h.set.raise

/-! ### Mailboxes and notices -/

theorem setMbox {n : Nat} {m : Mbox} (h : SameClocks a s) : SameClocks a (s.setMbox n m) :=
  h.same.set.setFlag.set.setFlag.set.setFlag.set.setFlag.setFlag.setFlag

theorem bell {b : Nat} (h : SameClocks a s) : SameClocks a (s.bell b) := .ite h.latch (.ite h.latch.raise h.latch.same)

theorem wakeHkc1 (h : SameClocks a s) : SameClocks a s.wakeHkc1 := h.same

theorem notifyHost {n : Nat} (h : SameClocks a s) : SameClocks a (s.notifyHost n) := .ite h.bell h.raise

theorem notifyFw {n : Nat} (h : SameClocks a s) : SameClocks a (s.notifyFw n) := .ite h.bell h.wakeHkc1

theorem fwReadAll (h : SameClocks a s) : SameClocks a s.fwReadAll := h.foldl fun _ _ h => .ite h h.setMbox

theorem fwSend {n : Nat} {msg : List Nat} (h : SameClocks a s) : SameClocks a (s.fwSend n msg) :=
  .ite h.setMbox.notifyHost h.fwReadAll.setMbox

theorem notice {code : Nat} {data : List Nat} (h : SameClocks a s) : SameClocks a (s.notice code data) :=
  .ite h (h.foldl fun _ _ h => h.fwSend)

theorem mboxMode (h : SameClocks a s) : SameClocks a s.mboxMode := by
  unfold State.mboxMode
  extract_lets _ _ _ _ s2
  have h2 : SameClocks a s2 := .ite h.setFlag.wakeHkc1 h.setFlag
  exact .ite h (.ite ((h.setFlag.foldl fun _ _ h => h.bell).foldl fun _ _ h => h.bell) (.ite h2.raise h2))

/-! ### Enables, holds and gates -/

theorem driveErr (h : SameClocks a s) : SameClocks a s.driveErr := h.of rfl rfl

theorem driveLight (h : SameClocks a s) : SameClocks a s.driveLight := h.of rfl rfl

theorem disableA (h : SameClocks a s) : SameClocks a s.disableA := h.set

theorem disableB (h : SameClocks a s) : SameClocks a s.disableB := h.set

theorem disable (h : SameClocks a s) : SameClocks a s.disable := h.disableA.disableB.of rfl rfl

theorem touch (h : SameClocks a s) : SameClocks a s.touch := h.same

theorem hold {why : Hold} {band colour : Nat} (h : SameClocks a s) : SameClocks a (s.hold why band colour) :=
  SameClocks.set (.ite (.touch (.of h rfl rfl)) (.of h rfl rfl))

theorem holdAll {why : Hold} (h : SameClocks a s) : SameClocks a (s.holdAll why) := h.foldl fun _ _ h => h.hold

theorem gate {why : Gate} {i : Nat} (h : SameClocks a s) : SameClocks a (s.gate why i) :=
  SameClocks.set (.ite (.of h rfl rfl) (.touch (.of h rfl rfl)))

theorem gateAll {why : Gate} (h : SameClocks a s) : SameClocks a (s.gateAll why) := h.foldl fun _ _ h => h.gate

theorem ungate {p : Gate × Nat → Bool} (h : SameClocks a s) : SameClocks a (s.ungate p) := h.of rfl rfl

theorem showRailLim (h : SameClocks a s) : SameClocks a s.showRailLim := h.foldl fun _ _ h => h.setFlag

theorem stopBucks (h : SameClocks a s) : SameClocks a s.stopBucks := (h.set.set.foldl fun _ _ h => h.set).showRailLim

theorem showChange (h : SameClocks a s) : SameClocks a s.showChange := by
  unfold State.showChange
  extract_lets
  split
  · exact h.setFlag.set
  · exact h.setFlag.set
  · exact h.setFlag.set
  · exact h.setFlag.set

theorem setChange {c : Option Change} (h : SameClocks a s) : SameClocks a (s.setChange c) :=
  SameClocks.showChange (.of h rfl rfl)

/-! ### States of the module -/

theorem setShare {g : Guard} {sigma : Nat} (h : SameClocks a s) : SameClocks a (s.setShare g sigma) := by
  unfold State.setShare
  split
  · exact SameClocks.set (.of h rfl rfl)
  · exact SameClocks.set (.of h rfl rfl)

theorem enterTwin {m : Mode} (h : SameClocks a s) : SameClocks a (s.enterTwin m) := by
  unfold State.enterTwin
  extract_lets s1
  have h1 : SameClocks a s1 := h.foldl fun _ _ h => h.setFlag
  split
  · exact (h.foldl fun _ _ h => h.setFlag).same.set.set
  · exact (h.foldl fun _ _ h => h.setFlag).same.set.set
  · exact (h.foldl fun _ _ h => h.setFlag).same.set.set
  · exact h1.same.set.set

theorem enter {m : Mode} {cause safety : Nat} (h : SameClocks a s) : SameClocks a (s.enter m cause safety) := by
  unfold State.enter
  extract_lets _ _ _ _ s2 _ _ _ _ _ s7
  have h2 : SameClocks a s2 := .ite (.set (.of h rfl rfl)) (.of h rfl rfl)
  have h7 : SameClocks a s7 :=
    .ite h2.set.set.set.enterTwin.setShare.setShare.setEvent h2.set.set.set.enterTwin.setShare.setShare.event
  exact h7.raise.notice.mboxMode.driveErr.driveLight

theorem abandon {status detail : Nat} (h : SameClocks a s) : SameClocks a (s.abandon status detail) := by
  unfold State.abandon
  extract_lets s1 s2 s3 s4
  have h1 : SameClocks a s1 := by
    unfold s1
    split
    · exact h
    · exact h.answer
  have h2 : SameClocks a s2 := by
    unfold s2
    split
    · exact h1
    · exact h1.answer
  have h3 : SameClocks a s3 := by
    unfold s3
    split
    · exact h2
    · exact h2.answer
  have h4 : SameClocks a s4 := by
    unfold s4
    split
    · exact h3
    · exact h3.answer
  exact SameClocks.showChange (.of h4 rfl rfl)

theorem safetyEvent {g : Guard} {code chan colour subject value limit cause : Nat} (h : SameClocks a s) :
    SameClocks a (s.safetyEvent g code chan colour subject value limit cause) :=
  h.event.raise

theorem setSafe {g : Guard} {safe : Bool} {cause : Nat} (h : SameClocks a s) : SameClocks a (s.setSafe g safe cause) := by
  unfold State.setSafe
  split
  · exact h.setFlag.set
  · exact h.setFlag.set

theorem setCause {safe : Bool} {cause : Nat} (h : SameClocks a s) : SameClocks a (s.setCause safe cause) := h.setSafe.setSafe

theorem ownPaths {g : Guard} (h : SameClocks a s) : SameClocks a (s.ownPaths g) := by
  unfold State.ownPaths
  extract_lets
  split
  · exact .disableA (.gateAll (.of h rfl rfl))
  · exact .disableB (.holdAll (.of h rfl rfl))

/-! ### Reports -/

theorem lose {cls : Nat} (h : SameClocks a s) : SameClocks a (s.lose cls) := .ite h.bump.latch.raise h.bump.latch

theorem record {r : Report} {cls : Nat} {real injected : Bool} (h : SameClocks a s) :
    SameClocks a (s.record r cls real injected) :=
  .ite h.same.set.event.raise h.same.set.event

theorem collect {r : Report} {real injected react strict : Bool} (h : SameClocks a s) :
    SameClocks a (s.collect r real injected react strict) := by
  unfold State.collect
  extract_lets _ _ _ s2
  have h2 : SameClocks a s2 := by
    unfold s2
    split
    · split
      · exact .ite h.bump.set h.bump
      · exact h.bump
    · exact h.bump
  exact .ite h2.lose h2.record

theorem note {r : Report} (h : SameClocks a s) : SameClocks a (s.note r) := h.collect.driveErr

theorem noteFault {code source subject : Nat} (h : SameClocks a s) : SameClocks a (s.noteFault code source subject) := h.note

/-! ### Lanes and streams -/

theorem setLane {n : Nat} {l : Lane} (h : SameClocks a s) : SameClocks a (s.setLane n l) := h.same

theorem setStream {m : Nat} {r : Stream} (h : SameClocks a s) : SameClocks a (s.setStream m r) := h.same

theorem showLane {n : Nat} (h : SameClocks a s) : SameClocks a (s.showLane n) := .ite h.setFlag h

theorem streamDown {m cause : Nat} (h : SameClocks a s) : SameClocks a (s.streamDown m cause) :=
  .ite h.set.set.set h.set.set.set.event.note

theorem discard {m code : Nat} (h : SameClocks a s) : SameClocks a (s.discard m code) :=
  .ite h.setStream.bump.set h.setStream.bump.set.note

theorem laneLeaves {logical : Nat} (h : SameClocks a s) : SameClocks a (s.laneLeaves logical) := by
  unfold State.laneLeaves
  split
  · exact h
  · extract_lets s1
    have h1 : SameClocks a s1 := by
      unfold s1
      split
      · exact .ite h.discard h
      · exact h
    exact .ite h1.streamDown h1

theorem eyeCut {n : Nat} (h : SameClocks a s) : SameClocks a (s.eyeCut n) := .ite h.set.set.set h

theorem laneFalls {n link : Nat} {note : Bool} (h : SameClocks a s) : SameClocks a (s.laneFalls n link note) := by
  unfold State.laneFalls
  extract_lets _ _ _ _ s2 s3
  have h2 : SameClocks a s2 := .ite h.set.showLane.eyeCut h.set.showLane
  have h3 : SameClocks a s3 := .ite h2.laneLeaves h2
  exact .ite h2 (.ite h3 (.ite h3.latch.set.set.noteFault h3.latch.set.set))

theorem laneOff {n : Nat} (h : SameClocks a s) : SameClocks a (s.laneOff n) := h.laneFalls.setLane

theorem laneTrain {n : Nat} (h : SameClocks a s) : SameClocks a (s.laneTrain n) := .ite h.set h

theorem lanesOff (h : SameClocks a s) : SameClocks a s.lanesOff := h.foldl fun _ _ h => h.laneOff

/-! ### Reactions -/

theorem enterSafe {g : Guard} {cause : Nat} (h : SameClocks a s) : SameClocks a (s.enterSafe g cause) := by
  unfold State.enterSafe
  split
  · exact .safetyEvent (.of h.abandon.ownPaths.setSafe.stopBucks.emit.enter rfl rfl)
  · exact .safetyEvent (.of h.abandon.ownPaths.setSafe.stopBucks.emit.enter rfl rfl)
  · exact .safetyEvent (.of h.abandon.ownPaths.setSafe.stopBucks.emit.enter rfl rfl)
  · exact .safetyEvent (.of h.abandon.ownPaths.setSafe.stopBucks.emit.enter rfl rfl)
  · exact .safetyEvent (.of h.abandon.ownPaths.setSafe.stopBucks.emit.enter rfl rfl)
  · exact .ite h.setCause h
  · exact h

theorem unpair (h : SameClocks a s) : SameClocks a s.unpair := h.setPair

theorem enterFatal {code : Nat} (h : SameClocks a s) : SameClocks a (s.enterFatal code) :=
  .ite h h.set.set.same.abandon.disable.holdAll.gateAll.stopBucks.enter.unpair.lanesOff

theorem reactDark (h : SameClocks a s) : SameClocks a s.reactDark := by
  unfold State.reactDark
  extract_lets
  split
  · exact .ite h.disable h.disable.abandon.setChange
  · exact .ite h.disable h.disable.abandon.setChange
  · exact h.disable

theorem react {code source : Nat} {k : Reaction} (h : SameClocks a s) : SameClocks a (s.react code source k) := by
  unfold State.react
  split
  · exact h
  · exact h.reactDark
  · exact h.enterSafe
  · exact h.enterFatal
  · exact .ite h h.enterSafe

theorem accept {r : Report} {real injected react strict : Bool} (h : SameClocks a s) :
    SameClocks a (s.accept r real injected react strict) :=
  (SameClocks.ite h.collect.react h.collect).driveErr

theorem report {r : Report} (h : SameClocks a s) : SameClocks a (s.report r) := h.accept

theorem fault {code source subject : Nat} (h : SameClocks a s) : SameClocks a (s.fault code source subject) := h.report

theorem faultVal {code source subject value limit : Nat} (h : SameClocks a s) :
    SameClocks a (s.faultVal code source subject value limit) :=
  h.report

/-! ### What register writes start -/

theorem endInjection (h : SameClocks a s) : SameClocks a s.endInjection := h.same.set

theorem freeLock {n : Nat} (h : SameClocks a s) : SameClocks a (s.freeLock n) :=
  .ite h.same.set.set.set.set.set.set.endInjection h.same.set.set.set.set.set.set

theorem deskew {ks : List Nat} (h : SameClocks a s) : SameClocks a (s.deskew ks) := by
  unfold State.deskew
  extract_lets
  split
  · refine SameClocks.foldl h fun s1 _ h1 => ?_
    split
    · exact h1.set.set.showLane
    · exact h1
  · exact h
  · exact h.foldl fun _ _ h => .ite h.laneFalls.latch.noteFault h

theorem laneRequest {n req : Nat} (h : SameClocks a s) : SameClocks a (s.laneRequest n req) := by
  unfold State.laneRequest
  extract_lets
  refine .ite h.set ?_
  refine .ite h.set.set.laneOff.setLane ?_
  exact .ite h.set.set.setLane.laneTrain (.ite (.ite h.set.setLane.set.laneTrain h.set.setLane) h.set.set.laneLeaves)

theorem eyeStart {v : Nat} (h : SameClocks a s) : SameClocks a (s.eyeStart v) :=
  .ite h.setReg (.ite h (.ite h.setReg.set.set.set h.setReg.same.set.set.set))

theorem configRejected {m code : Nat} (h : SameClocks a s) : SameClocks a (s.configRejected m code) := h.latch.set.set

theorem streamOff {m : Nat} (h : SameClocks a s) : SameClocks a (s.streamOff m) :=
  .ite h ((SameClocks.ite h.discard h).streamDown.set.foldl fun _ _ h => .ite h.set h)

theorem streamConfig {m v other : Nat} (h : SameClocks a s) : SameClocks a (s.streamConfig m v other) := by
  unfold State.streamConfig
  extract_lets
  refine .ite h.streamOff.setReg ?_
  refine .ite h.configRejected ?_
  refine .ite h.setReg ?_
  exact .ite h.setReg.configRejected (.ite h.setReg.set.setStream.set.set.deskew h.setReg.set.setStream.set.set)

theorem streamSize {m v : Nat} (h : SameClocks a s) : SameClocks a (s.streamSize m v) := .ite h.configRejected h.setReg

theorem showAdmit (h : SameClocks a s) : SameClocks a s.showAdmit := h.set.set

theorem layerRejected {code l : Nat} (h : SameClocks a s) : SameClocks a (s.layerRejected code l) := h.latch.set.set

theorem layerAccept {mask : Nat} {frame : Option Nat} (h : SameClocks a s) : SameClocks a (s.layerAccept mask frame) := h.same.set

theorem gateSectors {why : Gate} {cs : List Nat} (h : SameClocks a s) : SameClocks a (s.gateSectors why cs) :=
  h.foldl fun _ _ h => h.foldl fun _ _ h => h.gate

theorem protIndex {v : Nat} (h : SameClocks a s) : SameClocks a (s.protIndex v) := h.set.setReg.set

theorem selectAccept {bank e : Nat} (h : SameClocks a s) : SameClocks a (s.selectAccept bank e) := h.set.set.setReg.set.same

theorem coefWrite {off v : Nat} (h : SameClocks a s) : SameClocks a (s.coefWrite off v) := .ite h.latch h.setReg

theorem setCal {e w : Nat} (h : SameClocks a s) : SameClocks a (s.setCal e w) := h.same

theorem toneAccept {values : List (Nat × Nat)} {frame : Option Nat} (h : SameClocks a s) :
    SameClocks a (s.toneAccept values frame) :=
  h.same.set

theorem setLock {n : Nat} (h : SameClocks a s) : SameClocks a (s.setLock n) := (SameClocks.ite h h.raise).same.set

theorem forgetPhase (h : SameClocks a s) : SameClocks a s.forgetPhase := h.same

theorem relock (h : SameClocks a s) : SameClocks a s.relock := by
  unfold State.relock
  extract_lets
  split
  · exact h.set.setFlag.forgetPhase.same.setLock
  · exact h.set.setFlag.forgetPhase.setLock
  · exact .ite h.set.setFlag.forgetPhase.setLock h.set.setFlag.same.setLock.fault
  · exact h.set.setFlag.same.setLock
  · exact .ite h.set.setFlag.forgetPhase.setLock h.set.setFlag
  · exact h.set.setFlag

theorem stepTime {by_ : Int} (h : SameClocks a s) : SameClocks a (s.stepTime by_) := h.same

theorem ptpSteered (h : SameClocks a s) : SameClocks a s.ptpSteered := h.same.relock

theorem timeOffset {v : Nat} (h : SameClocks a s) : SameClocks a (s.timeOffset v) := h.stepTime.ptpSteered

theorem timeTrim {v : Nat} (h : SameClocks a s) : SameClocks a (s.timeTrim v) := h.stepTime.setReg.ptpSteered

theorem timingAccept {v : Timing} {frame : Option Nat} (h : SameClocks a s) : SameClocks a (s.timingAccept v frame) := h.same.set

theorem frameLoad {v : Nat} (h : SameClocks a s) : SameClocks a (s.frameLoad v) := .ite h.latch h.same

theorem lateClear {v : Nat} (h : SameClocks a s) : SameClocks a (s.lateClear v) := .ite h.set h

theorem toneState {e st : Nat} (h : SameClocks a s) : SameClocks a (s.toneState e st) := h.setCal

theorem defectIndex {v : Nat} (h : SameClocks a s) : SameClocks a (s.defectIndex v) := h.set.set.foldl fun _ _ h => h.setReg

theorem peekGo {v : Nat} (h : SameClocks a s) : SameClocks a (s.peekGo v) := .ite h.setReg (.ite h h.setReg.set.set.same)

theorem buckStops {c : Nat} (h : SameClocks a s) : SameClocks a (s.buckStops c) := h.same.set.set.set.touch.showRailLim

theorem showGuards (h : SameClocks a s) : SameClocks a s.showGuards := h.setFlag.setFlag.set.set.set.set.set.set.set.set

theorem guardInternal {g : Guard} {value : Nat} (h : SameClocks a s) : SameClocks a (s.guardInternal g value) :=
  (SameClocks.ite h.ownPaths h).faultVal

theorem sendCommit {block frame : Nat} {values : List Nat} (h : SameClocks a s) : SameClocks a (s.sendCommit block frame values) :=
  .ite h.sendSplice h

theorem timingCommit (h : SameClocks a s) : SameClocks a s.timingCommit := by
  unfold State.timingCommit
  refine .ite h.latch.raise ?_
  dsimp only
  split
  · exact h.timingAccept.sendCommit
  · exact h.timingAccept

theorem toneCommit (h : SameClocks a s) : SameClocks a s.toneCommit := by
  unfold State.toneCommit
  refine .ite h.latch ?_
  dsimp only
  split
  · exact h.toneAccept.sendCommit
  · exact h.toneAccept

theorem layerCommitSet {mask : Nat} (h : SameClocks a s) : SameClocks a (s.layerCommitSet mask).2 := by
  unfold State.layerCommitSet
  extract_lets
  refine .iteSnd ?_ ?_
  · exact h
  · split
    · exact h.layerRejected
    · split
      · exact h.layerAccept.sendCommit
      · exact h.layerAccept

theorem meshSelectSet {bank : Nat} (h : SameClocks a s) : SameClocks a (s.meshSelectSet bank).2 :=
  .iteSnd h (.iteSnd h.latch (.ite h.selectAccept.sendCommit h.selectAccept))

/-! ### Rings, doorbells and mailboxes written -/

theorem forgetRing {n : Nat} (h : SameClocks a s) : SameClocks a (s.forgetRing n) := h.of rfl rfl

theorem releaseCommits {n : Nat} (h : SameClocks a s) : SameClocks a (s.releaseCommits n) := .ite h.same.same h.same

theorem ringOff {n : Nat} (h : SameClocks a s) : SameClocks a (s.ringOff n) :=
  h.forgetRing.releaseCommits.setRing.set.set.set.setRingState

theorem stopLoad {n : Nat} (h : SameClocks a s) : SameClocks a (s.stopLoad n) := by
  unfold State.stopLoad
  split
  · exact .ite h.same.set h
  · exact h

theorem ringReset {n : Nat} (h : SameClocks a s) :
    SameClocks a (s.ringReset n) := .ite h h.forgetRing.stopLoad.setRing.setRingState

theorem ringEnable {n : Nat} (h : SameClocks a s) : SameClocks a (s.ringEnable n) :=
  .ite h.set h.set.setRing.set.set.set.set.set.set.setRingState.set.same

theorem ringDisable {n : Nat} (h : SameClocks a s) : SameClocks a (s.ringDisable n) :=
  .ite h.set (.ite h.set.setRing.setRingState.ringOff h.set.setRing.setRingState)

theorem ringCtrl {n v : Nat} (h : SameClocks a s) : SameClocks a (s.ringCtrl n v) :=
  .ite ((SameClocks.ite h.ringReset h).ringEnable) ((SameClocks.ite h.ringReset h).ringDisable)

theorem askLine {g : Nat} (h : SameClocks a s) : SameClocks a (s.askLine g) := .ite h h.same.toHost

theorem watchFast (h : SameClocks a s) : SameClocks a s.watchFast := h.same.set

theorem nudge {v : Nat} (h : SameClocks a s) : SameClocks a (s.nudge v) :=
  .ite h.watchFast (h.watchFast.foldl fun _ _ h => .ite h.askLine h)

theorem irqEnable {v : Nat} (h : SameClocks a s) : SameClocks a (s.irqEnable v) := h.set.foldl fun _ _ h => .ite h.msix h

theorem msixCtrl {v w : Nat} (h : SameClocks a s) : SameClocks a (s.msixCtrl v w) := .ite h.set.set.toHost h.set

theorem mboxDrop {n : Nat} {f : Field} (h : SameClocks a s) : SameClocks a (s.mboxDrop n f) := h.setMbox.latch.bump

theorem mboxPush {n w : Nat} (h : SameClocks a s) : SameClocks a (s.mboxPush n w) :=
  .ite h.mboxDrop (.ite h.setMbox.notifyFw h.setMbox)

theorem mboxFlush {n k : Nat} (h : SameClocks a s) : SameClocks a (s.mboxFlush n k) := by
  induction k generalizing s with
  | zero => exact h
  | succ k ih =>
    unfold State.mboxFlush
    dsimp only
    split
    · exact h
    · exact .ite (ih h.setMbox.notifyHost) h

theorem mboxRead {n : Nat} (h : SameClocks a s) : SameClocks a (s.mboxRead n).2 := by
  unfold State.mboxRead
  extract_lets
  split
  · exact h.setMbox.mboxFlush
  · exact h.latch

theorem mboxReset {n v : Nat} (h : SameClocks a s) : SameClocks a (s.mboxReset n v) := .ite h h.setMbox.set.set.same

theorem dbellSet {v : Nat} (h : SameClocks a s) : SameClocks a (s.dbellSet v) := h.foldl fun _ _ h => h.bell

theorem acquire {n : Nat} {m : Master} (h : SameClocks a s) :
    SameClocks a (s.acquire n m) := h.same.count.set.set.set.set.set.setFlag

theorem lockRead {n : Nat} {m : Master} (h : SameClocks a s) : SameClocks a (s.lockRead n m).2 := by
  unfold State.lockRead
  refine .iteSnd ?_ ?_
  · exact h
  · split
    · exact h
    · exact h.acquire

theorem lockRelease {n : Nat} {m : Master} {v : Nat} (h : SameClocks a s) : SameClocks a (s.lockRelease n m v) :=
  .ite (.ite h.freeLock h) h.bump

/-! ### Clearing and injecting faults -/

theorem clearBits {bits refused : List Nat} (h : SameClocks a s) : SameClocks a (s.clearBits bits refused).1 := by
  unfold State.clearBits
  induction bits generalizing s refused with
  | nil => exact h
  | cons b bits ih =>
    rw [List.foldl_cons]
    split
    · exact ih h
    · exact ih h.set

theorem clearDone {refused : List Nat} (h : SameClocks a s) : SameClocks a (s.clearDone refused) := by
  unfold State.clearDone
  extract_lets _ _ s2
  have h2 : SameClocks a s2 := by
    unfold s2
    split
    · exact h.same.set.set.set
    · exact h.same.set.set.set
  exact h2.driveErr

theorem keeperClear {v : Nat} (h : SameClocks a s) : SameClocks a (s.keeperClear v) :=
  .ite h (.ite h.set.set.set.clearBits.clearDone h.set.set.set.clearBits.same.driveErr)

theorem histIndex {v : Nat} (h : SameClocks a s) : SameClocks a (s.histIndex v) := (h.set.foldl fun _ _ h => h.setReg).set

theorem contain {code subject : Nat} (h : SameClocks a s) : SameClocks a (s.contain code subject) := by
  unfold State.contain
  extract_lets
  split
  · exact h.set.set
  · split
    · exact h.gateSectors
    · exact h
  · exact h.gateSectors
  · exact h.latch
  · exact h.toneState
  · exact (h.foldl fun _ _ h => h.set).set
  · exact h.buckStops
  · exact h.buckStops
  · exact h.buckStops
  · exact h.buckStops
  · exact h.buckStops
  · exact h.disable.stopBucks
  · exact h.set.showGuards
  · exact h.of rfl rfl
  · exact h.set.set
  · exact h.setPair
  · exact h.set
  · exact h.set.set.mboxMode
  · exact h.foldl fun _ _ h => h.hold
  · exact .ite (h.foldl fun _ _ h => h.foldl fun _ _ h => h.hold) h
  · exact h

theorem containDark {code : Nat} (h : SameClocks a s) : SameClocks a (s.containDark code) := by
  unfold State.containDark
  split
  · exact .ite h.disable.stopBucks.abandon.enter h
  · exact .ite h.disable.abandon.setChange h
  · exact h

theorem injectGo {m : Master} (h : SameClocks a s) : SameClocks a (s.injectGo m) := by
  unfold State.injectGo
  extract_lets _ _ _ _ _ _ _ _ _ _ _ s4
  have h4 : SameClocks a s4 := .ite h.set.same.set.set.contain h.set.same.set.set
  exact .ite h.set (.ite h4.accept.containDark h4.accept)

theorem injWrite {m : Master} {off v : Nat} (h : SameClocks a s) : SameClocks a (s.injWrite m off v) := by
  unfold State.injWrite
  refine .ite h.bump ?_
  refine .ite h.setReg ?_
  exact .ite h.set
    (.ite ((SameClocks.ite h.set.set.endInjection h.set.set).injectGo) (.ite h.set.set.endInjection h.set.set))

/-! ### Register accesses -/

theorem plainWrite {m : Master} {off v : Nat} (h : SameClocks a s) : SameClocks a (s.plainWrite m off v) := h.setReg

theorem writeStream {m v : Nat} (h : SameClocks a s) : SameClocks a (s.writeStream m v) := h.streamConfig.showAdmit

theorem laneErrClear {n v : Nat} (h : SameClocks a s) : SameClocks a (s.laneErrClear n v) := .ite h.setReg h

theorem spliceClear {v : Nat} (h : SameClocks a s) : SameClocks a (s.spliceClear v) :=
  .ite ((SameClocks.ite h.setReg h).setReg) (.ite h.setReg h)

theorem streamClear {m v : Nat} (h : SameClocks a s) : SameClocks a (s.streamClear m v) := .ite h h.setReg.setReg.set

theorem rowErrClear {v : Nat} (h : SameClocks a s) : SameClocks a (s.rowErrClear v) := .ite h.setReg h

theorem cvuClear {v : Nat} (h : SameClocks a s) : SameClocks a (s.cvuClear v) := h.foldl fun _ _ h => .ite h h.setReg.setReg

theorem patternWrite {m : Master} {off v : Nat} (h : SameClocks a s) : SameClocks a (s.patternWrite m off v) := h.plainWrite.same

theorem tlimWrite {m : Master} {g v : Nat} (h : SameClocks a s) : SameClocks a (s.tlimWrite m g v) := h.plainWrite

theorem causeClear {m : Master} {v : Nat} (h : SameClocks a s) : SameClocks a (s.causeClear m v) :=
  h.plainWrite.foldl fun _ _ h => .ite h h.set

theorem writeHost {m : Master} {off v : Nat} (h : SameClocks a s) : SameClocks a (s.writeHost m off v) := by
  unfold State.writeHost
  refine .ite h.keeperClear ?_
  refine .ite h.histIndex ?_
  refine .ite h.injWrite ?_
  refine .ite h.nudge ?_
  refine .ite (.ite h.plainWrite h) ?_
  refine .ite h.irqEnable ?_
  refine .ite h.causeClear ?_
  split
  · exact h.msixCtrl
  · split
    · exact h.ringCtrl
    · exact .ite h h.plainWrite

theorem writeIntake {m : Master} {off v : Nat} (h : SameClocks a s) : SameClocks a (s.writeIntake m off v) := by
  unfold State.writeIntake
  refine .ite h.eyeStart ?_
  split
  · exact h.laneRequest
  · split
    · exact h.laneErrClear
    · split
      · exact h.writeStream
      · split
        · exact h.streamSize
        · split
          · exact h.streamClear
          · exact h.plainWrite

theorem srefWrite {m : Master} {i v : Nat} (h : SameClocks a s) : SameClocks a (s.srefWrite m i v) :=
  .ite h.plainWrite (.ite ((SameClocks.ite h h.touch.set).gate) ((SameClocks.ite h h.touch.set).ungate))

theorem writePath {m : Master} {off v : Nat} (h : SameClocks a s) : SameClocks a (s.writePath m off v) := by
  unfold State.writePath
  refine .ite h.layerCommitSet ?_
  refine .ite h.protIndex ?_
  refine .ite h.meshSelectSet ?_
  refine .ite h.coefWrite ?_
  refine .ite (.ite h.toneCommit h) ?_
  split
  · exact h.srefWrite
  · exact h.plainWrite

theorem writeStrike {m : Master} {off v : Nat} (h : SameClocks a s) : SameClocks a (s.writeStrike m off v) := by
  unfold State.writeStrike
  refine .ite (.ite h.timingCommit h) ?_
  refine .ite h.frameLoad ?_
  refine .ite h.lateClear ?_
  refine .ite h.rowErrClear ?_
  refine .ite h.timeOffset ?_
  refine .ite h.timeTrim ?_
  refine .ite h.peekGo ?_
  refine .ite h.defectIndex ?_
  refine .ite h.patternWrite ?_
  split
  · exact h.tlimWrite
  · exact h.plainWrite

theorem writeHouse {m : Master} {off v : Nat} (h : SameClocks a s) : SameClocks a (s.writeHouse m off v) := by
  unfold State.writeHouse
  refine .ite h.spliceClear ?_
  refine .ite h.dbellSet ?_
  refine .ite h.cvuClear ?_
  split
  · exact h.mboxPush
  · split
    · exact h.mboxReset
    · split
      · exact h.lockRelease
      · exact h.plainWrite

theorem regTakes {m : Master} {off v : Nat} (h : SameClocks a s) : SameClocks a (s.regTakes m off v) := by
  unfold State.regTakes
  refine .ite h ?_
  split
  · exact h.writeHost
  · exact h.writeHost
  · exact h.writeHost
  · exact h.writeIntake
  · exact h.writePath
  · exact h.writePath
  · exact h.writePath
  · exact h.writeStrike
  · exact h.writeStrike
  · exact h.writeHouse

theorem wroteNow {m : Master} {off : Nat} (h : SameClocks a s) : SameClocks a (s.wroteNow m off) := h.same

theorem regLands {m : Master} {off v : Nat} (h : SameClocks a s) : SameClocks a (s.regLands m off v) := .ite h h.regTakes.wroteNow

theorem dropShadow {m : Master} {off : Nat} (h : SameClocks a s) : SameClocks a (s.dropShadow m off) := h.same

theorem setShadow {m : Master} {off v : Nat} (h : SameClocks a s) : SameClocks a (s.setShadow m off v) := h.dropShadow.same

theorem regRead {m : Master} {off : Nat} (h : SameClocks a s) : SameClocks a (s.regRead m off).2 := by
  unfold State.regRead
  refine .iteSnd ?_ ?_
  · exact h
  · split
    · exact h.lockRead
    · split
      · exact h.mboxRead
      · refine .iteSnd ?_ ?_
        · exact h.setShadow
        · refine .iteSnd ?_ ?_
          · exact h.setShadow
          · split
            · exact h.dropShadow
            · exact h

theorem readNow {r : Reader} {off : Nat} (h : SameClocks a s) : SameClocks a (s.readNow r off) := h.regRead.emit

theorem resume {w : Waiting} (h : SameClocks a s) : SameClocks a (s.resume w) := by
  unfold State.resume
  split
  · exact h.regLands
  · exact h.readNow

theorem resumeIsland {island : Nat} (h : SameClocks a s) :
    SameClocks a (s.resumeIsland island) := h.same.foldl fun _ _ h => h.resume

end SameClocks

end Sys2Proof.Machine
end

section
/-! PROOF. A PLL's lock, the guards' clock checks and module DRAM's errors (R32, R33, R51, R320, R474). -/

namespace Sys2Proof.Machine
open Reg

/-! ### PLLs and clock checks: what follows from them leaves their own marks alone -/

theorem State.pllLock_lost {s : State} {n : Nat} (hp : s.powered = true) (hn : n < 12)
    (hu : s.house.pllUnlocked.contains n = false) :
    (s.pllLock n false).house.pllUnlocked = s.house.pllUnlocked ++ [n] := by
  have h := SameClocks.refl { s with house := { s.house with pllUnlocked := s.house.pllUnlocked ++ [n] } }
  have hg : ¬ (!s.powered || decide (12 ≤ n) || s.house.pllUnlocked.contains n == !false) = true := by
    simp only [hp, hu, Bool.or_eq_true, decide_eq_true_eq]
    simpa using hn
  unfold State.pllLock
  rw [if_neg hg, if_neg (by decide)]
  extract_lets _ s1 s2
  have h2 : SameClocks s1 s2 := by
    unfold s2
    split
    · exact h.guardInternal
    · exact h.guardInternal
    · exact h.fault
    · exact h.driveLight
    · exact h.fault
  exact h2.driveErr.pll

theorem State.pllLock_gained {s : State} {n : Nat} (hp : s.powered = true) (hn : n < 12)
    (hu : s.house.pllUnlocked.contains n = true) :
    (s.pllLock n true).house.pllUnlocked = s.house.pllUnlocked.filter (· != n) := by
  have h := SameClocks.refl { s with house := { s.house with pllUnlocked := s.house.pllUnlocked.filter (· != n) } }
  have hg : ¬ (!s.powered || decide (12 ≤ n) || s.house.pllUnlocked.contains n == !true) = true := by
    simp only [hp, hu, Bool.or_eq_true, decide_eq_true_eq]
    simpa using hn
  rw [State.pllLock, if_neg hg, if_pos rfl]
  exact (SameClocks.driveErr (.ite h.driveLight.fault h)).resumeIsland.pll

theorem State.clockCheck_marks (s : State) (g : Guard) (d : Nat) :
    (s.clockCheck g d).guards.clockBad.contains (guardNo g) = decide (50 < d) := by
  unfold State.clockCheck
  extract_lets bad _ rest _ s1
  have h := SameClocks.refl s1
  refine (congrArg (List.contains · _) (SameClocks.ite h h.ownPaths.enterSafe.faultVal).clock).trans ?_
  by_cases hd : 50 < d <;> simp [s1, rest, bad, hd]

theorem State.settle_clockBad (s : State) (n : Nat) (q : List Instr) : (s.settle n q).guards.clockBad = s.guards.clockBad := by
  have h : SameClocks s { s with now := n, pending := q } := .same (.refl s)
  exact (SameClocks.ite h h.disable).clock

/-! ### What KEEPER does with a report -/

/-- A report that is lost changes LOST and the HOST block alone. -/
theorem State.lose_reg (s : State) (cls : Nat) {o : Nat} (hb : o / 65536 ≠ 2) (hc : o ≠ KEEPER_LOST_COUNT.off)
    (hl : o ≠ KEEPER_LOST_OFF) : (s.lose cls).reg o = s.reg o := by
  have h : ((s.bump KEEPER_LOST_COUNT).latch ⟨KEEPER_LOST_OFF, cls, 1⟩).reg o = s.reg o :=
    (State.reg_set_other _ _ hl).trans (State.reg_set_other _ _ hc)
  rw [State.lose]
  split
  · exact ((State.raise_elsewhere _ (by decide)).reg (by simpa using hb)).trans h
  · exact h

theorem State.record_reg (s : State) (r : Report) (cls : Nat) (real injected : Bool) {o : Nat} (hb : o / 65536 ≠ 2)
    (hs : o ≠ KEEPER_SEQ_NEXT.off) : (s.record r cls real injected).reg o = s.reg o := by
  have hb' : ¬ o / 65536 ∈ [2] := by simpa using hb
  unfold State.record
  extract_lets _ _ _ s1 s2 s3
  have h3 : s3.reg o = s.reg o := ((State.event_elsewhere _ _).reg hb').trans (State.reg_set_other s1 _ hs)
  split
  · exact ((State.raise_elsewhere _ (by decide)).reg hb').trans h3
  · exact h3

theorem openBit_off (b : Nat) : (openBit b).off = KEEPER_OPEN_LO_OFF ∨ (openBit b).off = KEEPER_OPEN_HI_OFF := by
  unfold openBit
  split
  · exact .inl rfl
  · exact .inr rfl

theorem openBit_width (b : Nat) : (openBit b).width = 1 := by
  unfold openBit
  split <;> rfl

theorem openBit_fits {b : Nat} (h : b < 40) : (openBit b).lsb + (openBit b).width ≤ 32 := by
  unfold openBit
  split
  · change b + 1 ≤ 32
    omega
  · change b - 32 + 1 ≤ 32
    omega

theorem State.flag_of_reg {s s' : State} {f : Field} (h : s'.reg f.off = s.reg f.off) : s'.flag f = s.flag f :=
  congrArg (fun v => getBits v f.lsb f.width == 1) h

theorem State.record_newest (s : State) (r : Report) (cls : Nat) (real injected : Bool) :
    (s.record r cls real injected).newest = some (r.code, r.source, r.subject) := by
  unfold State.record
  extract_lets _ _ _ s1 s2 s3
  have h3 : s3.keeper = s1.keeper := State.event_keeper s2 _
  rw [State.newest, apply_ite State.keeper, State.raise_keeper, ite_self, h3]
  rfl

theorem State.collect_newest {s : State} {r : Report} {real injected react strict : Bool}
    (hb : s.keeper.busyUntil ≤ s.now) (hl : s.house.pllUnlocked.contains 9 = false) (hf : s.flag KEEPER_STATUS_FATAL = false) :
    (s.collect r real injected react strict).newest = some (r.code, r.source, r.subject) := by
  unfold State.collect
  extract_lets cls full s1 s2 busy lost
  have h1 : s1.flag KEEPER_STATUS_FATAL = false := by
    refine (State.flag_set_other s _ (by decide) (.inl ?_)).trans hf
    clear_value cls
    split <;> decide
  have hopen : ∀ b, KEEPER_STATUS_FATAL.off ≠ (openBit b).off := fun b => by
    rcases openBit_off b with h | h <;> rw [h] <;> decide
  have h2 : s2.now = s.now ∧ s2.keeper = s.keeper ∧ s2.house = s.house ∧ s2.flag KEEPER_STATUS_FATAL = false := by
    unfold s2
    split
    · split
      · split
        · exact ⟨rfl, rfl, rfl, (State.flag_set_other s1 1 (by decide) (.inl (hopen _))).trans h1⟩
        · exact ⟨rfl, rfl, rfl, h1⟩
      · exact ⟨rfl, rfl, rfl, h1⟩
    · exact ⟨rfl, rfl, rfl, h1⟩
  obtain ⟨hn, hk, hh, hf2⟩ := h2
  have hlost : lost = false := by
    simp only [lost, busy, hn, hk, hh, hf2, hl, Bool.or_false, Bool.false_and, decide_eq_false (Nat.not_lt.mpr hb)]
  rw [hlost, if_neg (by decide)]
  exact State.record_newest _ _ _ _ _

/-- A continuing fault of its own open bit, which is not an injection's echo, leaves that bit set. -/
theorem State.collect_open {s : State} {r : Report} {f : FaultRow} {b : Nat} (real injected react strict : Bool)
    (hf : faultRow r.code = some f) (hb : f.bit = some b) (h40 : b < 40) (hc : r.class_ = 1) (hr : (real || react) = true) :
    (s.collect r real injected react strict).flag (openBit b) = true := by
  unfold State.collect
  rw [hf]
  extract_lets cls full s1 s2 busy lost
  have h2 : s2.flag (openBit b) = true := by
    have hc' : (full && cls == 1) = true := by simp [full, cls, hc, hr]
    simp only [s2, hb, hc', if_true]
    rw [State.flag_iff, State.get_set_same s1 1 (openBit_fits h40), openBit_width]
    rfl
  have hblock : (openBit b).off / 65536 ≠ 2 ∧ (openBit b).off ≠ KEEPER_LOST_OFF ∧ (openBit b).off ≠ KEEPER_SEQ_OFF := by
    rcases openBit_off b with h | h <;> rw [h] <;> decide
  obtain ⟨hh, hl, hq⟩ := hblock
  split
  · exact (State.flag_of_reg (State.lose_reg s2 cls hh hl hl)).trans h2
  · exact (State.flag_of_reg (State.record_reg s2 r cls real injected hh hq)).trans h2

/-! ### The reaction that removes the enables -/

theorem State.disable_dark (s : State) : s.disable.get GUARD_A_STATUS_EN_A = 0 ∧ s.disable.get GUARD_B_STATUS_EN_B = 0 :=
  ⟨(State.get_set_other s.disableA (f := GUARD_B_STATUS_EN_B) 0 (by decide) (by decide)).trans
    (State.get_set_same s (f := GUARD_A_STATUS_EN_A) 0 (by decide)),
    State.get_set_same s.disableA (f := GUARD_B_STATUS_EN_B) 0 (by decide)⟩

theorem State.disable_reg (s : State) {o : Nat} (ha : o ≠ GUARD_A_STATUS_OFF) (hb : o ≠ GUARD_B_STATUS_OFF) :
    s.disable.reg o = s.reg o :=
  (State.reg_set_other s.disableA 0 hb).trans (State.reg_set_other s 0 ha)

theorem State.showChange_elsewhere (s : State) : Elsewhere [0] s s.showChange := by
  have h : Elsewhere [0] s (s.setFlag HOUSE_STATE_CHANGING s.changing) := (Elsewhere.refl _ s).setFlag _ (by decide)
  unfold State.showChange
  extract_lets
  split <;> exact h.set _ (by decide)

theorem State.answer_elsewhere (s : State) (w : Option (Nat × Nat)) (status detail : Nat) :
    Elsewhere [0] s (s.answer w status detail) :=
  .of_regs (State.answer_regs _ _ _ _)

/-- Abandoning what is under way changes registers of the HOUSE block alone. -/
theorem State.abandon_elsewhere (s : State) (status detail : Nat) : Elsewhere [0] s (s.abandon status detail) := by
  unfold State.abandon
  extract_lets s1 s2 s3 s4
  have h1 : Elsewhere [0] s s1 := by
    unfold s1
    split
    · exact .refl _ _
    · exact State.answer_elsewhere _ _ _ _
  have h2 : Elsewhere [0] s1 s2 := by
    unfold s2
    split
    · exact .refl _ _
    · exact State.answer_elsewhere _ _ _ _
  have h3 : Elsewhere [0] s2 s3 := by
    unfold s3
    split
    · exact .refl _ _
    · exact State.answer_elsewhere _ _ _ _
  have h4 : Elsewhere [0] s3 s4 := by
    unfold s4
    split
    · exact .refl _ _
    · exact State.answer_elsewhere _ _ _ _
  exact (((h1.trans h2).trans h3).trans h4).trans (.trans (.of_regs rfl) (State.showChange_elsewhere _))

theorem State.reactDark_elsewhere (s : State) : Elsewhere [0] s.disable s.reactDark := by
  have h : ∀ c, Elsewhere [0] s.disable ((s.disable.abandon 0x0E 0x8A).setChange c) := fun c =>
    (State.abandon_elsewhere _ _ _).trans (.trans (.of_regs rfl) (State.showChange_elsewhere _))
  unfold State.reactDark
  extract_lets s1
  split
  · exact .ite (.refl _ _) (h _)
  · exact .ite (.refl _ _) (h _)
  · exact .refl _ _

/-- What module DRAM's uncorrected error leaves: its open bit set and the enables removed (R320). -/
def State.DramLost (s : State) : Prop :=
  s.flag (openBit 28) = true ∧ s.get GUARD_A_STATUS_EN_A = 0 ∧ s.get GUARD_B_STATUS_EN_B = 0

theorem State.driveErr_reg (s : State) {o : Nat} (h : o ≠ KEEPER_STATUS_OFF) : s.driveErr.reg o = s.reg o := by
  unfold State.driveErr
  exact (State.reg_set_other _ _ h).trans ((State.reg_set_other (s.set _ _) _ h).trans (State.reg_set_other s _ h))

theorem State.faultVal_dramLost (s : State) (source subject value limit : Nat) :
    (s.faultVal 0x0902 source subject value limit).DramLost := by
  have ho := State.collect_open (s := s) (r := ⟨0x0902, source, subject, value, limit, 0, 0⟩) true
    (s.injecting ⟨0x0902, source, subject, value, limit, 0, 0⟩) false false (b := 28) rfl rfl (by decide) rfl rfl
  unfold State.faultVal State.report State.accept
  extract_lets s1
  have hd := State.driveErr_elsewhere s1.reactDark
  have hr := State.reactDark_elsewhere s1
  obtain ⟨ha, hb⟩ := s1.disable_dark
  refine ⟨(State.flag_of_reg ?_).trans ho, (hd.get (by decide)).trans ((hr.get (by decide)).trans ha),
    (hd.get (by decide)).trans ((hr.get (by decide)).trans hb)⟩
  exact (State.driveErr_reg _ (by decide)).trans ((hr.reg (by decide)).trans (s1.disable_reg (by decide) (by decide)))

theorem State.settle_dramLost {s : State} (n : Nat) (q : List Instr) (h : s.DramLost) : (s.settle n q).DramLost := by
  obtain ⟨ho, ha, hb⟩ := h
  rw [State.settle_of s n q (.inr ⟨ha, hb⟩)]
  exact ⟨ho, ha, hb⟩

theorem State.inside_powered {s : State} (f : State → State) (h : s.powered = true) : s.inside f = f s := if_pos h

theorem State.dramError_single (s : State) {addr : Nat} (hl : modRegion ≤ addr) (hh : addr < dramSize) :
    s.dramError addr .single = s.faultVal 0x0901 9 (subj 19 0) (addr % 2 ^ 32) (addr / 2 ^ 32) :=
  if_neg (by simp only [Bool.or_eq_true, decide_eq_true_eq]; omega)

/-- Two bits in error, whether or not a descriptor's access met them. -/
theorem State.dramError_double (s : State) {addr : Nat} (d : Option (Nat × Nat)) (hl : modRegion ≤ addr) (hh : addr < dramSize) :
    (s.dramError addr (.double d)).DramLost := by
  unfold State.dramError
  rw [if_neg (by simp only [Bool.or_eq_true, decide_eq_true_eq]; omega)]
  cases d with
  | none => exact State.faultVal_dramLost _ _ _ _ _
  | some d => exact State.faultVal_dramLost _ _ _ _ _

/-- A corrected bit is the newest record of a KEEPER that can record. -/
theorem State.faultVal_newest {s : State} {code source subject value limit : Nat}
    (hr : (⟨code, source, subject, value, limit, 0, 0⟩ : Report).reaction = .nothing) (hb : s.keeper.busyUntil ≤ s.now)
    (hl : s.house.pllUnlocked.contains 9 = false) (hf : s.flag KEEPER_STATUS_FATAL = false) :
    (s.faultVal code source subject value limit).newest = some (code, source, subject) := by
  rw [State.faultVal, State.report, State.accept, hr, State.newest, State.driveErr_keeper]
  simp only [State.react, ite_self]
  exact State.collect_newest hb hl hf

theorem State.records_iff (s : State) (t : Nat) : s.records t = true ↔ s.keeper.busyUntil ≤ max s.now t ∧
    s.house.pllUnlocked.contains 9 = false ∧ s.flag KEEPER_STATUS_FATAL = false := by
  simp [State.records, and_assoc]

end Sys2Proof.Machine

open Sys2Proof Sys2Proof.Machine Sys2Proof.Machine.Reg

/-- Settles O18: what follows from a PLL's change or a clock check leaves its own mark alone; a report that KEEPER can
record becomes the newest record, and the reaction to two bits in error ends with the enables removed. -/
theorem clockAndMemoryChecks : Obligations.ClockAndMemoryChecks := by
  refine ⟨fun s t n hp hn hu => ⟨_, rfl, ?_⟩, fun s t n hp hn hu => ⟨_, rfl, ?_⟩, fun s t d g hp => ⟨_, rfl, ?_⟩,
    fun s t a hp hl hh hr => ⟨_, rfl, ?_⟩, fun s t a d hp hl hh => ⟨_, rfl, ?_⟩⟩
  · have h := State.pllLock_lost (s := s.pass t) (by simpa using hp) hn (by simpa using hu)
    simpa using h
  · have h := State.pllLock_gained (s := s.pass t) (by simpa using hp) hn (by simpa using hu)
    simpa using h
  · have h := (s.pass t).clockCheck_marks g d
    rw [← State.inside_powered (fun s => s.clockCheck g d) (by simpa using hp)] at h
    exact (congrArg (List.contains · _) (State.settle_clockBad _ _ _)).trans h
  · obtain ⟨hb, hu, hf⟩ := (s.records_iff t).mp hr
    have h := State.faultVal_newest (s := s.pass t) (code := 0x0901) (source := 9) (subject := subj 19 0)
      (value := a % 2 ^ 32) (limit := a / 2 ^ 32) rfl (by simpa using hb) (by simpa using hu) (by simpa using hf)
    rw [← State.dramError_single _ hl hh, ← State.inside_powered (fun s => s.dramError a .single) (by simpa using hp)] at h
    exact (congrArg (fun k : Keeper => k.hist.head?.map _) (State.run_keeper s t _)).trans h
  · have h := State.dramError_double (s.pass t) d hl hh
    rw [← State.inside_powered (fun s => s.dramError a (.double d)) (by simpa using hp)] at h
    exact State.settle_dramLost _ _ h
end

section
/-! PROOF. What a reset of the host leaves, and module DRAM through MW2 (R49, R50, R297, R298, R319). -/

namespace Sys2Proof.Machine
open Reg

/-! ### Rings that stop before the host's part goes cold -/

/-- What stopping the rings leaves alone. -/
def State.apart (s : State) : List Host.Cell × Mode × List (Nat × Nat) × Hk := (s.dram, s.house.mode, s.house.config, s.hk)

theorem State.stopLoad_apart (s : State) (n : Nat) : (s.stopLoad n).apart = s.apart := by
  unfold State.stopLoad
  split
  · split
    · rfl
    · rfl
  · rfl

theorem State.releaseCommits_apart (s : State) (n : Nat) : (s.releaseCommits n).apart = s.apart := by
  unfold State.releaseCommits
  extract_lets
  split
  · rfl
  · rfl

theorem State.set_apart (s : State) (f : Field) (v : Nat) : (s.set f v).apart = s.apart := rfl

theorem State.setRingState_apart (s : State) (n st : Nat) : (s.setRingState n st).apart = s.apart := by
  simp only [State.setRingState, State.ringSummary, State.setFlag, State.set_apart]

theorem State.ringOff_apart (s : State) (n : Nat) : (s.ringOff n).apart = s.apart := by
  have h : ∀ r : Ring, (((s.forgetRing n).releaseCommits n).setRing n r).apart = ((s.forgetRing n).releaseCommits n).apart :=
    fun _ => rfl
  unfold State.ringOff
  rw [State.setRingState_apart, State.set_apart, State.set_apart, State.set_apart, h, State.releaseCommits_apart]
  rfl

theorem State.ringsOff_apart (s : State) : s.ringsOff.apart = s.apart := by
  refine foldl_keeps State.apart _ (fun s n => ?_) _ s
  split
  · rfl
  · exact (State.ringOff_apart _ n).trans (State.stopLoad_apart s n)

/-! ### The host's part at cold -/

theorem sget_filter_other {α : Type} (dflt : Nat → α) (p : Nat → Bool) (m : List (Nat × α)) {k : Nat} (h : p k = false) :
    sget dflt (m.filter (fun e => p e.1)) k = dflt k := by
  induction m with
  | nil => rfl
  | cons e m ih =>
    obtain ⟨j, v⟩ := e
    rw [List.filter_cons]
    split
    · next hj =>
      have hjk : j ≠ k := fun e => by rw [e, h] at hj; exact absurd hj (by decide)
      rw [sget, if_neg hjk, ih]
    · exact ih

/-- The host's side after a reset: no ring runs, nothing is outstanding, the link's register reads `link`; the parts of `a` that a
reset of the host leaves are as in `a`. -/
structure HostFresh (link : Nat) (a s : State) : Prop where
  rings : s.host.rings = []
  states : ∀ n, n < 64 → s.ringState n = 0
  lines : s.host.linesOut = []
  waits : s.host.mw2Wait = []
  link : s.reg HOST_LINK_OFF = link
  dram : s.dram = a.dram
  mode : s.house.mode = a.house.mode
  hk : s.hk.holder = a.hk.holder

/-- A register that reports and messages write: outside the HOST block, the causes, or the pending bits of the causes' vectors. -/
def reportReg (off : Nat) : Bool := off / 65536 != 2 || off == HOST_IRQ_CAUSE_OFF || off == MSIX_PBA_OFF 2

theorem reportReg_spares {off : Nat} (h : reportReg off = true) :
    HOST_LINK_OFF ≠ off ∧ ∀ n, n < 64 → RING_STATUS_OFF n ≠ off := by
  simp only [reportReg, HOST_IRQ_CAUSE_OFF, MSIX_PBA_OFF, Bool.or_eq_true, bne_iff_ne, beq_iff_eq] at h
  simp only [HOST_LINK_OFF, RING_STATUS_OFF]
  exact ⟨by omega, fun n _ => by omega⟩

namespace HostFresh

variable {link : Nat} {a s : State}

theorem set {f : Field} {v : Nat} (h : HostFresh link a s) (hf : reportReg f.off = true) : HostFresh link a (s.set f v) := by
  obtain ⟨hl, hr⟩ := reportReg_spares hf
  exact { h with
    states := fun n hn =>
      (State.get_set_other s (g := RING_STATUS_STATE n) v (show 0 + 3 ≤ 32 by decide) (.inl (hr n hn))).trans (h.states n hn)
    link := (State.reg_set_other s v hl).trans h.link }

theorem ite {c : Prop} [Decidable c] {x y : State} (hx : HostFresh link a x) (hy : HostFresh link a y) :
    HostFresh link a (if c then x else y) := by
  split
  · exact hx
  · exact hy

theorem toHost {o : Output} (h : HostFresh link a s) : HostFresh link a (s.toHost o) := by
  unfold State.toHost
  split
  · exact { h with }
  · exact { h with }

theorem latch {f : Field} (h : HostFresh link a s) (hf : reportReg f.off = true) : HostFresh link a (s.latch f) :=
  { h.set (v := 1) hf with }

theorem raise {k : Nat} (h : HostFresh link a s) (hk : k < 8) : HostFresh link a (s.raise k) := by
  have hm : ∀ {s}, HostFresh link a s → HostFresh link a (s.msix (64 + k)) := by
    intro s h
    have hv : (64 + k) / 32 = 2 := by omega
    unfold State.msix
    split
    · rw [hv]
      exact h.set (show reportReg (MSIX_PBA_OFF 2) = true by decide)
    · exact h.toHost
  have hc := h.latch (f := ⟨HOST_IRQ_CAUSE_OFF, k, 1⟩) (show reportReg HOST_IRQ_CAUSE_OFF = true by decide)
  unfold State.raise
  extract_lets
  split
  · exact { h with }
  · split
    · exact hm hc
    · exact hc

/-- With no ring running an event has no subscriber. -/
theorem event {e : Event} (h : HostFresh link a s) : HostFresh link a (s.event e) := by
  have hs : ∀ s, HostFresh link a s → s.subscribers e.type = [] := fun s h => by
    refine List.filter_eq_nil_iff.mpr fun n hn => ?_
    rw [h.states n (List.mem_range.mp hn)]
    simp
  unfold State.event
  extract_lets words _ s1
  have h1 : HostFresh link a s1 := { h with }
  rw [hs s1 h1]
  exact h1

theorem bump {f : Field} (h : HostFresh link a s) (hf : reportReg f.off = true) : HostFresh link a (s.bump f) := h.set hf

theorem lose {cls : Nat} (h : HostFresh link a s) : HostFresh link a (s.lose cls) := by
  have hc : HostFresh link a ((s.bump KEEPER_LOST_COUNT).latch ⟨KEEPER_LOST_OFF, cls, 1⟩) := 
    (h.bump rfl).latch (show reportReg KEEPER_LOST_OFF = true by decide)
  exact .ite (hc.raise (by decide)) hc

theorem record {r : Report} {cls : Nat} {real injected : Bool} (h : HostFresh link a s) :
    HostFresh link a (s.record r cls real injected) := by
  unfold State.record
  extract_lets after rec k s1 s2 s3
  have h1 : HostFresh link a s1 := { h with }
  have h3 : HostFresh link a s3 := (h1.set rfl).event
  exact .ite (h3.raise (by decide)) h3

theorem collect {r : Report} {real injected react strict : Bool} (h : HostFresh link a s) :
    HostFresh link a (s.collect r real injected react strict) := by
  have hopen : ∀ b, reportReg (openBit b).off = true := fun b => by rcases openBit_off b with h | h <;> rw [h] <;> rfl
  unfold State.collect
  extract_lets cls full s1 s2 busy lost
  have h1 : HostFresh link a s1 := by
    refine h.bump ?_
    clear_value cls
    split <;> rfl
  have h2 : HostFresh link a s2 := by
    unfold s2
    split
    · split
      · exact .ite (h1.set (hopen _)) h1
      · exact h1
    · exact h1
  exact .ite h2.lose h2.record

theorem driveErr (h : HostFresh link a s) : HostFresh link a s.driveErr := by
  unfold State.driveErr
  extract_lets src s1 opens s2 hs pin
  have h2 : HostFresh link a s2 := HostFresh.set (HostFresh.set h rfl) rfl
  have h3 : HostFresh link a { s2 with house := { hs with errPin := pin.1, errSince := pin.2 } } := { h2 with }
  exact h3.set rfl

theorem fault {code source subject : Nat} (h : HostFresh link a s)
    (hr : (⟨code, source, subject, 0, 0, 0, 0⟩ : Report).reaction = .nothing) :
    HostFresh link a (s.fault code source subject) := by
  rw [State.fault, State.report, State.accept, hr]
  simp only [State.react, ite_self]
  exact h.collect.driveErr

theorem mboxTear {n : Nat} (h : HostFresh link a s) (hn : n < 8) : HostFresh link a (s.mboxTear n) := by
  have htx : reportReg (MBOX_TX_STATUS_OFF n) = true := by simp [reportReg, MBOX_TX_STATUS_OFF]; omega
  have hrx : reportReg (MBOX_RX_STATUS_OFF n) = true := by simp [reportReg, MBOX_RX_STATUS_OFF]; omega
  have hst : reportReg MBOX_STATUS_OFF = true := by decide
  have hm : ∀ m, HostFresh link a (s.setMbox n m) := fun m => by
    unfold State.setMbox
    extract_lets _ s1
    have h1 : HostFresh link a s1 := { h with }
    exact (((((((((h1.set htx).set htx).set htx).set htx).set hrx).set hrx).set hrx).set hrx).set hst).set hst
  exact .ite h (((hm _).latch htx).bump rfl)

theorem settle {now : Nat} {q : List Instr} (h : HostFresh link a s) : HostFresh link a (s.settle now q) := by
  have hs : HostFresh link a { s with now := now, pending := q } := { h with }
  have hd : HostFresh link a (({ s with now := now, pending := q } : State).disableA.disableB) := (hs.set rfl).set rfl
  exact .ite hs { hd with }

end HostFresh

theorem State.hostCold_fresh {s : State} (hc : s.house.config.all (fun e => !hostBlock e.1) = true) :
    HostFresh (coldReg HOST_LINK_OFF).toNat s s.hostCold := by
  have hnone : s.house.config.filter (fun e => hostBlock e.1) = [] :=
    List.filter_eq_nil_iff.mpr fun e he => by simpa using List.all_eq_true.mp hc e he
  have hcold : ∀ off, hostBlock off = true → rread (s.regs.filter (fun e => !hostBlock e.1)) off = coldReg off := fun off h =>
    sget_filter_other coldReg (fun o => !hostBlock o) s.regs (by rw [h]; rfl)
  have hring : ∀ n, n < 64 → hostBlock (RING_STATUS_OFF n) = true ∧ (coldReg (RING_STATUS_OFF n)).toNat % 8 = 0 := by
    decide +kernel
  unfold State.hostCold
  extract_lets s1
  have hs : s1.house.config.filter (fun e => hostBlock e.1) = [] := hnone
  rw [hs, List.foldl_nil]
  refine { rings := rfl, lines := rfl, waits := rfl, dram := rfl, mode := rfl, hk := rfl, states := fun n hn => ?_, link := ?_ }
  · obtain ⟨hb, hz⟩ := hring n hn
    exact (congrArg (fun v : BitVec 32 => getBits v.toNat 0 3) (hcold _ hb)).trans (by simpa [getBits] using hz)
  · exact congrArg BitVec.toNat (hcold _ rfl)

theorem HostFresh.of_apart {link : Nat} {a b s : State} (h : HostFresh link b s) (e : b.apart = a.apart) : HostFresh link a s := by
  simp only [State.apart, Prod.mk.injEq] at e
  obtain ⟨hd, hm, -, hk⟩ := e
  exact { h with dram := h.dram.trans hd, mode := h.mode.trans hm, hk := h.hk.trans (congrArg Hk.holder hk) }

/-- HOST_LINK written again stands beside every ring's registers. -/
theorem HostFresh.relink {link v : Nat} {a s : State} (h : HostFresh link a s) :
    ∃ l, HostFresh l a (((s.setReg HOST_LINK_OFF v).set HOST_LINK_BME 0).set HOST_LINK_PTM 0) :=
  ⟨_, { h with
    link := rfl
    states := fun n hn => by
      have hne : (RING_STATUS_STATE n).off ≠ HOST_LINK_OFF := by
        simp only [RING_STATUS_STATE, RING_STATUS_OFF, HOST_LINK_OFF]
        omega
      have hw : (RING_STATUS_STATE n).lsb + (RING_STATUS_STATE n).width ≤ 32 := show 0 + 3 ≤ 32 by decide
      have hset : ∀ (x : State) (f : Field) (v : Nat), f.off = HOST_LINK_OFF → (x.set f v).ringState n = x.ringState n :=
        fun x f v e => State.get_set_other x v hw (.inl (by rw [e]; exact hne))
      rw [hset _ _ _ rfl, hset _ _ _ rfl]
      exact (State.get_setReg_other s v hne).trans (h.states n hn) }⟩

theorem HostFresh.link_get {link : Nat} {a s : State} (h : HostFresh link a s) {f : Field} (hf : f.off = HOST_LINK_OFF) :
    s.get f = getBits link f.lsb f.width := by
  rw [← h.link, ← hf]
  rfl

theorem State.forceLocks_none {s : State} {p : Master → Bool} (h : s.hk.holder.all (fun e => !p e.2) = true) :
    s.forceLocks p = s := by
  have hn : s.hk.holder.filter (fun e => p e.2) = [] :=
    List.filter_eq_nil_iff.mpr fun e he => by simpa using List.all_eq_true.mp h e he
  rw [State.forceLocks, hn, List.foldl_nil]

/-- HOST_LINK as it reads while the link stays up or goes down: Bus Master Enable and PTM are 0, UP follows the link. -/
def LinkKept (up : Bool) (s : State) (link : Nat) : Prop :=
  getBits link 17 1 = 0 ∧ getBits link 16 1 = 0 ∧ getBits link 31 1 = if up then s.get HOST_LINK_UP else 0

theorem State.relink_kept (s : State) (w : State) :
    LinkKept true s
      ((((w.setReg HOST_LINK_OFF (s.reg HOST_LINK_OFF)).set HOST_LINK_BME 0).set HOST_LINK_PTM 0).reg HOST_LINK_OFF) := by
  refine ⟨?_, State.get_set_same _ (f := HOST_LINK_PTM) 0 (by decide), ?_⟩
  · exact (State.get_set_other _ (f := HOST_LINK_PTM) (g := HOST_LINK_BME) 0 (by decide) (by decide)).trans
      (State.get_set_same _ (f := HOST_LINK_BME) 0 (by decide))
  · refine (State.get_set_other _ (f := HOST_LINK_PTM) (g := HOST_LINK_UP) 0 (by decide) (by decide)).trans
      ((State.get_set_other _ (f := HOST_LINK_BME) (g := HOST_LINK_UP) 0 (by decide) (by decide)).trans ?_)
    refine (State.get_setReg_same w (f := HOST_LINK_UP) (s.reg HOST_LINK_OFF) (by decide)).trans ?_
    rfl

theorem State.hostReset_fresh {s : State} (up : Bool) (hc : s.house.config.all (fun e => !hostBlock e.1) = true)
    (hl : s.hk.holder.all (fun h => h.2 != .host) = true) :
    ∃ link, HostFresh link s (s.hostReset up) ∧ LinkKept up s link := by
  have ha := s.ringsOff_apart
  have hcfg : s.ringsOff.house.config = s.house.config := congrArg (fun p => p.2.2.1) ha
  have h0 := (State.hostCold_fresh (by rw [hcfg]; exact hc)).of_apart ha
  have hend : ∀ {link x}, HostFresh link s x →
      HostFresh link s
        ((((List.range 8).foldl (fun s n => s.mboxTear n) x).fault 0x0101 1 0).forceLocks (fun m => m == .host)) := by
    intro link x hx
    have hm : HostFresh link s ((List.range 8).foldl (fun s n => s.mboxTear n) x) :=
      List.foldlRecOn _ _ hx fun y hy n hn => hy.mboxTear (List.mem_range.mp hn)
    have hf := hm.fault (code := 0x0101) (source := 1) (subject := 0) rfl
    rw [State.forceLocks_none (by rw [hf.hk]; exact hl)]
    exact hf
  unfold State.hostReset
  extract_lets link s1 s2 s3
  cases up with
  | false => exact ⟨_, hend h0, by decide +kernel, by decide +kernel,
      show getBits (coldReg HOST_LINK_OFF).toNat 31 1 = 0 by decide +kernel⟩
  | true =>
    have h2 : ∃ l, HostFresh l s s2 := h0.relink
    obtain ⟨l, h2⟩ := h2
    refine ⟨l, hend h2, ?_⟩
    rw [← h2.link]
    exact State.relink_kept s s1

/-! ### Module DRAM through MW2, burst by burst -/

theorem Mem.writes_append (l k : List Nat) : ∀ (m : List Host.Cell) (a : Nat),
    Mem.writes m a (l ++ k) = Mem.writes (Mem.writes m a l) (a + l.length) k := by
  induction l with
  | nil => intro m a; rfl
  | cons b l ih =>
    intro m a
    rw [List.cons_append, Mem.writes, Mem.writes, ih, List.length_cons, Nat.add_assoc, Nat.add_comm 1]

/-- What a write stores below the module region it stores a part at a time. -/
theorem Mem.writes_split (m : List Host.Cell) (a : Nat) (data : List Nat) {k : Nat} (hk : k ≤ data.length) :
    Mem.writes (Mem.writes m a (data.take (min k (modRegion - a)))) (a + k) ((data.drop k).take (modRegion - (a + k))) =
      Mem.writes m a (data.take (modRegion - a)) := by
  by_cases h : k ≤ modRegion - a
  · have hl : (data.take k).length = k := by simp [hk]
    rw [Nat.min_eq_left h, ← congrArg (a + ·) hl, ← Mem.writes_append, hl, Nat.sub_add_eq, ← List.take_add,
      Nat.add_sub_cancel' h]
  · rw [Nat.min_eq_right (by omega), show modRegion - (a + k) = 0 by omega, List.take_zero, Mem.writes]

/-- What the host reads through MW2: the bytes below the module region and 0 above it (R50). -/
def mw2Bytes (m : List Host.Cell) (a n : Nat) : List Nat :=
  Mem.reads m a (min n (modRegion - a)) ++ List.replicate (n - min n (modRegion - a)) 0

theorem mw2Bytes_eq (m : List Host.Cell) (a n : Nat) :
    mw2Bytes m a n = (List.range n).map fun i => if a + i < modRegion then (Mem.read m (a + i)).toNat else 0 := by
  have hj : n = min n (modRegion - a) + (n - min n (modRegion - a)) := by omega
  conv_rhs => rw [hj, List.range_add, List.map_append, List.map_map]
  refine congrArg₂ (· ++ ·) (List.map_congr_left fun i hi => (if_pos ?_).symm)
    (List.eq_replicate_iff.mpr ⟨by simp, ?_⟩).symm
  · have := List.mem_range.mp hi
    omega
  · intro b hb
    obtain ⟨i, hi, rfl⟩ := List.mem_map.mp hb
    have := List.mem_range.mp hi
    exact if_neg (show ¬ a + (min n (modRegion - a) + i) < modRegion by omega)

theorem mw2Bytes_add (m : List Host.Cell) (a j k : Nat) : mw2Bytes m a (j + k) = mw2Bytes m a j ++ mw2Bytes m (a + j) k := by
  simp only [mw2Bytes_eq, List.range_add, List.map_append, List.map_map, Function.comp_def, Nat.add_assoc]

/-- The bytes of the burst at an address: up to the next 512-byte boundary (R319). -/
def burstLen (addr n : Nat) : Nat := min n (512 - addr % 512)

theorem State.mw2Go_nil {s : State} (h : s.host.mw2Wait = []) (k : Nat) : s.mw2Go k = s := by
  cases k with
  | zero => rfl
  | succ k => rw [State.mw2Go, h]

/-- One burst of the oldest request, where the bucket is not empty. -/
theorem State.mw2Go_burst {s : State} {r : Bool × Nat × List Nat × Nat} (h : s.host.mw2Wait = [r])
    (hd : s.host.mw2Debt < bucketMax) (k : Nat) : s.mw2Go (k + 1) =
      State.mw2Go { (s.mw2Burst r).1 with host := { (s.mw2Burst r).1.host with mw2Wait := (s.mw2Burst r).2.toList } } k := by
  rw [State.mw2Go, h]
  simp only [if_neg (not_le.mpr hd), List.append_nil]

theorem State.mw2Burst_write (s : State) (addr n : Nat) (data : List Nat) :
    s.mw2Burst (true, addr, data, n) =
      ({ s with dram := Mem.writes s.dram addr (data.take (min (burstLen addr n) (modRegion - addr)))
                host := { s.host with mw2Debt := s.host.mw2Debt + burstLen addr n } },
       if n - burstLen addr n = 0 then none
       else some (true, addr + burstLen addr n, data.drop (burstLen addr n), n - burstLen addr n)) := rfl

theorem State.mw2Burst_read (s : State) (addr n : Nat) (got : List Nat) :
    s.mw2Burst (false, addr, got, n) =
      if n - burstLen addr n = 0 then
        (State.emit { s with host := { s.host with mw2Debt := s.host.mw2Debt + burstLen addr n } }
          (.mw2Data (got ++ mw2Bytes s.dram addr (burstLen addr n))), none)
      else
        ({ s with host := { s.host with mw2Debt := s.host.mw2Debt + burstLen addr n } },
         some (false, addr + burstLen addr n, got ++ mw2Bytes s.dram addr (burstLen addr n), n - burstLen addr n)) := by
  simp only [mw2Bytes, ← List.append_assoc]
  rfl

/-- After a burst that does not end the request, its bucket still has room and one burst fewer is left. -/
theorem burst_left {debt : Rat} {addr n k : Nat} (hsum : debt + n ≤ bucketMax) (hk : n + addr % 512 ≤ 512 * (k + 1))
    (hlast : n - burstLen addr n ≠ 0) :
    debt + burstLen addr n < bucketMax ∧ debt + burstLen addr n + (n - burstLen addr n : Nat) ≤ bucketMax ∧
      n - burstLen addr n + (addr + burstLen addr n) % 512 ≤ 512 * k ∧ 0 < k := by
  have hb : burstLen addr n = 512 - addr % 512 := by unfold burstLen at *; omega
  have hc : ((n - burstLen addr n : Nat) : Rat) = n - burstLen addr n := Nat.cast_sub (Nat.min_le_left _ _)
  have hpos : (1 : Rat) ≤ ((n - burstLen addr n : Nat) : Rat) := by exact_mod_cast Nat.one_le_iff_ne_zero.mpr hlast
  refine ⟨by linarith, by linarith, ?_, ?_⟩
  · omega
  · omega

/-- A write whose bytes all fit in the bucket stores those below the module region, burst after burst. -/
theorem State.mw2Go_write (k : Nat) : ∀ {s : State} {addr : Nat} {data : List Nat},
    s.host.mw2Wait = [(true, addr, data, data.length)] → s.host.mw2Debt < bucketMax →
    s.host.mw2Debt + data.length ≤ bucketMax →
    data.length + addr % 512 ≤ 512 * k → 0 < k →
    (s.mw2Go k).dram = Mem.writes s.dram addr (data.take (modRegion - addr)) := by
  induction k with
  | zero => intro _ _ _ _ _ _ _ h; exact absurd h (by decide)
  | succ k ih =>
    intro s addr data hw hd hsum hk _
    rw [State.mw2Go_burst hw hd, State.mw2Burst_write,
      ← Mem.writes_split s.dram addr data (k := burstLen addr data.length) (Nat.min_le_left _ _)]
    by_cases hlast : data.length - burstLen addr data.length = 0
    · have hall : data.drop (burstLen addr data.length) = [] := List.drop_eq_nil_of_le (by omega)
      rw [hall, List.take_nil, Mem.writes, if_pos hlast, State.mw2Go_nil rfl]
    · obtain ⟨hd', hsum', hk', hpos⟩ := burst_left hsum hk hlast
      rw [if_neg hlast]
      rw [← List.length_drop] at hk' hsum' ⊢
      exact ih rfl hd' hsum' hk' hpos

theorem State.mw2Go_read (k : Nat) : ∀ {s : State} {addr n : Nat} {got : List Nat},
    s.host.mw2Wait = [(false, addr, got, n)] → s.host.mw2Debt < bucketMax → s.host.mw2Debt + n ≤ bucketMax →
    n + addr % 512 ≤ 512 * k → 0 < k →
    (s.mw2Go k).dram = s.dram ∧ (s.mw2Go k).out = .mw2Data (got ++ mw2Bytes s.dram addr n) :: s.out := by
  induction k with
  | zero => intro _ _ _ _ _ _ _ _ h; exact absurd h (by decide)
  | succ k ih =>
    intro s addr n got hw hd hsum hk _
    rw [State.mw2Go_burst hw hd, State.mw2Burst_read]
    have hle : burstLen addr n ≤ n := Nat.min_le_left _ _
    by_cases hlast : n - burstLen addr n = 0
    · rw [if_pos hlast, State.mw2Go_nil rfl, show burstLen addr n = n by omega]
      exact ⟨rfl, rfl⟩
    · obtain ⟨hd', hsum', hk', hpos⟩ := burst_left hsum hk hlast
      rw [if_neg hlast]
      refine And.imp_right (fun e => e.trans ?_) (ih rfl hd' hsum' hk' hpos)
      rw [List.append_assoc, ← mw2Bytes_add, Nat.add_sub_cancel' hle]

/-- With nothing waiting in MW2, the passing of time moves no byte. -/
theorem State.pass_mw2Idle {s : State} (t : Nat) (h : s.host.mw2Wait = []) :
    (s.pass t).host.mw2Wait = [] ∧ (s.pass t).dram = s.dram := by
  unfold State.pass
  extract_lets dt due sum pool pay s1 h1 s2
  split
  · exact ⟨h, rfl⟩
  · have hs : (s1.host.mw2Wait, s1.dram) = (s.host.mw2Wait, s.dram) :=
      foldl_keeps (fun s => (s.host.mw2Wait, s.dram)) _ (fun s e => by split <;> rfl) s.host.rings s
    rw [Prod.mk.injEq] at hs
    have hw : (s2.at_ t).host.mw2Wait = [] := hs.1.trans h
    rw [State.mw2Run, State.mw2Go_nil hw]
    exact ⟨hw, hs.2⟩

/-- An access the module takes with none waiting starts at once. -/
theorem State.mw2_starts {s : State} {write : Bool} {addr n : Nat} {data : List Nat} {len : Nat} (hr : s.reaches .host = true)
    (hw : s.host.mw2Wait = []) (hn : (if write then data.length else len) = n) (ha : addr + n ≤ dramSize) :
    s.mw2 write addr data len =
      State.mw2Go { s with host := { s.host with mw2Wait := [(write, addr, if write then data else [], n)] } } (n / 512 + 2) := by
  have hg : ¬ (!s.reaches .host || decide (dramSize < addr + n)) = true := by simp [hr, ha]
  unfold State.mw2
  rw [hn, if_neg hg, hw]
  rfl

theorem State.mw2_write {s : State} {addr : Nat} {data : List Nat} (len : Nat) (hr : s.reaches .host = true)
    (hw : s.host.mw2Wait = []) (ha : addr + data.length ≤ dramSize) (hd : s.host.mw2Debt < bucketMax)
    (hsum : s.host.mw2Debt + data.length ≤ bucketMax) :
    (s.mw2 true addr data len).dram = Mem.writes s.dram addr (data.take (modRegion - addr)) := by
  rw [State.mw2_starts hr hw rfl ha]
  have hk : data.length + addr % 512 ≤ 512 * (data.length / 512 + 2) := by omega
  exact State.mw2Go_write _ rfl hd hsum hk (Nat.succ_pos _)

theorem State.mw2_read {s : State} {addr len : Nat} (data : List Nat) (hr : s.reaches .host = true)
    (hw : s.host.mw2Wait = []) (ha : addr + len ≤ dramSize) (hd : s.host.mw2Debt < bucketMax)
    (hsum : s.host.mw2Debt + len ≤ bucketMax) :
    (s.mw2 false addr data len).dram = s.dram ∧
      (s.mw2 false addr data len).out = .mw2Data (mw2Bytes s.dram addr len) :: s.out := by
  rw [State.mw2_starts (n := len) hr hw rfl ha]
  have hk : len + addr % 512 ≤ 512 * (len / 512 + 2) := by omega
  exact State.mw2Go_read _ (got := []) rfl hd hsum hk (Nat.succ_pos _)

end Sys2Proof.Machine

open Sys2Proof Sys2Proof.Machine Sys2Proof.Machine.Reg

/-- Settles O37: a reset leaves the host's side fresh, which its own report keeps; an MW2 access with room in its bucket runs burst
after burst to its end. -/
theorem hostResetAndMw2 : Obligations.HostResetAndMw2 := by
  refine ⟨fun s t up hp hc hl => ⟨_, rfl, ?_⟩, fun s t addr data len hr hw ha hd hsum => ⟨_, rfl, ?_⟩,
    fun s t addr data len hr hw ha hd hsum => ⟨_, rfl, ?_⟩⟩
  · obtain ⟨link, h, hbme, hptm, hup⟩ := State.hostReset_fresh (s := s.pass t) up (by simpa using hc) (by simpa using hl)
    rw [← State.inside_powered (fun s => s.hostReset up) (by simpa using hp)] at h
    have hf := h.settle (now := (s.pass t).now) (q := (s.pass t).pending)
    have hflag : ∀ f : Field, f.off = HOST_LINK_OFF → (s.run t fun s => s.inside fun s => s.hostReset up).flag f =
        (getBits link f.lsb f.width == 1) := fun f e => by rw [State.flag_iff]; exact congrArg (· == 1) (hf.link_get e)
    refine ⟨fun n hn => ⟨hf.states n hn, congrArg (sget (fun _ => Ring.off) · n) hf.rings⟩, hf.lines, hf.waits, ?_, ?_, ?_,
      hf.dram, hf.mode.trans (by simp)⟩
    · exact (hflag HOST_LINK_BME rfl).trans (congrArg (· == 1) hbme)
    · exact (hflag HOST_LINK_PTM rfl).trans (congrArg (· == 1) hptm)
    · refine (hflag HOST_LINK_UP rfl).trans ((congrArg (· == 1) hup).trans ?_)
      cases up with
      | false => rfl
      | true => simp [State.flag_iff]
  · obtain ⟨hw', hd'⟩ := State.pass_mw2Idle t hw
    have hm := State.mw2_write len (s := s.pass t) (by simpa using hr) hw' ha hd hsum
    rw [hd'] at hm
    have hrun := (State.run_dram s t fun s => s.mw2 true addr data len).trans hm
    refine ⟨hrun, fun a ho => (congrArg (Mem.read · a) hrun).trans (Mem.read_writes_outside _ _ _ _ ?_)⟩
    rw [List.length_take]
    omega
  · obtain ⟨hw', hd'⟩ := State.pass_mw2Idle t hw
    have hm := State.mw2_read data (s := s.pass t) (by simpa using hr) hw' ha hd hsum
    rw [hd'] at hm
    obtain ⟨hdram, hout⟩ := hm
    exact ⟨(State.run_dram _ _ _).trans hdram, (State.run_out _ _ _).trans hout⟩
end

section
/-! PROOF. The references of the frame timer (R63, R64, R68): an edge taken, a reference lost, and the end of HOLDOVER. -/

namespace Sys2Proof.Machine

open Reg

/-! ### What a change of lock state and a reference event leave alone -/

/-- The timer without what it has measured of its source's phase and period. -/
def Timer.unphased (m : Timer) : Timer :=
  { m with goodRun := 0, periods := [], phaseErr := 0, jumpNext := false, phaseNew := false, base := 0, holdSince := 0 }

theorem State.setLock_timer (s : State) (n : Nat) : (s.setLock n).timer = { s.timer with goodRun := 0 } := by
  have raised : (if s.lockState == n then s else s.raise 5).timer = s.timer := by
    split
    · rfl
    · exact State.raise_timer s 5
  exact congrArg (fun m : Timer => { m with goodRun := 0 }) raised

theorem State.setLock_unphased (s : State) (n : Nat) : (s.setLock n).timer.unphased = s.timer.unphased :=
  (congrArg Timer.unphased (State.setLock_timer s n)).trans rfl

/-- A report without a reaction leaves the timer alone. -/
theorem State.fault_timer (s : State) {code source subject : Nat}
    (h : (⟨code, source, subject, 0, 0, 0, 0⟩ : Report).reaction = .nothing) :
    (s.fault code source subject).timer = s.timer := State.accept_timer _ _ _ _ _ _ h

theorem State.relock_unphased (s : State) : s.relock.timer.unphased = s.timer.unphased := by
  unfold State.relock
  extract_lets valid s1 free
  split
  · exact State.setLock_unphased _ 2
  · exact State.setLock_unphased _ 1
  · split
    · exact State.setLock_unphased _ 1
    · exact (congrArg Timer.unphased (State.fault_timer _ (by decide))).trans (State.setLock_unphased _ 4)
  · exact State.setLock_unphased _ 2
  · split
    · exact State.setLock_unphased _ 1
    · rfl
  · rfl

theorem State.setLock_lockState (s : State) {n : Nat} (h : n < 8) : (s.setLock n).lockState = n := by
  refine (State.get_set_same _ n (by decide)).trans (Nat.mod_eq_of_lt ?_)
  exact h

@[simp] theorem State.pass_timerRuns (s : State) (t : Nat) : (s.pass t).timerRuns = s.timerRuns := State.pass_flag s t _

/-! ### Edges, time-outs and the end of HOLDOVER -/

/-- With fewer than fifteen edges taken an edge makes at most fifteen, and no reference of sixteen is judged (R63). -/
theorem State.syncEdge_few {s : State} (hs : s.timer.timing.source = 1) (hr : s.timerRuns = true)
    (he : s.timer.edges.length < 15) : s.syncEdge.timer.edges.head? = some (s.now / 10 * 10) := by
  have on : (s.timer.timing.source != 1 || !s.timerRuns) = false := by simp [hs, hr]
  unfold State.syncEdge
  rw [on, if_neg Bool.false_ne_true]
  extract_lets edge gap _ s1 _ _ _ s2
  have first : s1.timer.edges.head? = some edge := by
    change (if gap = true then [edge] else (edge :: s.timer.edges).take 16).head? = some edge
    split <;> rfl
  have few : s1.timer.edges.length < 16 := by
    change (if gap = true then [edge] else (edge :: s.timer.edges).take 16).length < 16
    split
    · simp
    · rw [List.length_take, List.length_cons]
      omega
  have same : s2 = s1 := if_pos few
  have unjudged : (s2.timer.edges.length == 16) = false := by
    rw [same]
    exact beq_false_of_ne (Nat.ne_of_lt few)
  rw [unjudged, Bool.and_false, if_neg Bool.false_ne_true, same]
  exact first

theorem State.syncMissing_unphased {s : State} (hs : s.timer.timing.source = 1) (hr : s.timerRuns = true) :
    s.syncMissing.timer.unphased = { s.timer with syncValid := false, edges := [] }.unphased := by
  have on : (s.timer.timing.source != 1 || !s.timerRuns) = false := by simp [hs, hr]
  rw [State.syncMissing, on, if_neg Bool.false_ne_true]
  exact State.relock_unphased _

theorem State.ptpTimeout_unphased {s : State} {x : Nat} (hx : s.timer.ptpAt = some x) (ht : 4000000000 + x ≤ s.now) :
    s.ptpTimeout.timer.unphased = { s.timer with ptpValid := false }.unphased := by
  simp only [State.ptpTimeout, hx, if_pos ht]
  exact State.relock_unphased _

theorem State.holdExpires_due {s : State} (hl : s.lockState = 4)
    (hd : 1000000000 * s.holdLimit + s.timer.holdSince ≤ s.now) : s.holdExpires = s.setLock 1 := by
  simp [State.holdExpires, hl, hd]

end Sys2Proof.Machine

open Sys2Proof Sys2Proof.Machine Sys2Proof.Machine.Reg

/-- Settles O22: an edge that makes no sixteen judges no reference, and a lock state that follows a lost reference leaves
which references are valid alone. -/
theorem timerReferences : Obligations.TimerReferences := by
  refine ⟨?edge, ?missing, ?timeout, ?holdover⟩
  case edge =>
    intro s t hs hr he
    refine ⟨_, rfl, ?_⟩
    have taken := State.syncEdge_few (s := s.pass t) (by simpa using hs) (by simpa using hr) (by simpa using he)
    rwa [State.pass_now, ← State.run_timer s t fun s => s.syncEdge] at taken
  case missing =>
    intro s t hs hr
    have lost := State.syncMissing_unphased (s := s.pass t) (by simpa using hs) (by simpa using hr)
    rw [← State.run_timer s t fun s => s.syncMissing] at lost
    exact ⟨_, rfl, congrArg Timer.syncValid lost, congrArg Timer.edges lost⟩
  case timeout =>
    intro s t x hx ht
    have lost := State.ptpTimeout_unphased (s := s.pass t) (by simpa using hx) (by simpa using ht)
    rw [← State.run_timer s t fun s => s.ptpTimeout] at lost
    exact ⟨_, rfl, congrArg Timer.ptpValid lost⟩
  case holdover =>
    intro s t hl hd
    refine ⟨_, rfl, ?_⟩
    have freed := State.holdExpires_due (s := s.pass t) (by simpa [State.lockState] using hl)
      (by simpa [State.holdLimit] using hd)
    refine ⟨?_, ?_⟩
    · rw [State.lockState, State.run_get _ _ _ (by decide) (by decide) (by decide), freed]
      exact State.setLock_lockState _ (by decide)
    · rw [State.run_timer, freed, State.setLock_timer, State.pass_timer]

end

section
/-! PROOF. What the work of a frame leaves of the frame timer, the emission array and module DRAM: one lemma for each operation of
the row slots, the survey slot and the quiet interval. -/

namespace Sys2Proof.Machine

open Reg

/-- A reading of the frame timer, the emission array and module DRAM is the same in both states. -/
def SameReading {α : Type} (g : Timer → EmArray → List Host.Cell → α) (a s : State) : Prop :=
  g s.timer s.array s.dram = g a.timer a.array a.dram

/-- How far a frame has come: its part, the row slots that have run, and the frames surveyed or not since the timer started. -/
abbrev progress (m : Timer) (e : EmArray) (_ : List Host.Cell) : Nat × Nat × Nat := (m.phase, m.rowsRun, e.frames)

/-- The frame's part, with the whole array and module DRAM. -/
abbrev stored (m : Timer) (e : EmArray) (d : List Host.Cell) : Nat × EmArray × List Host.Cell := (m.phase, e, d)

namespace SameReading

variable {α : Type} {g : Timer → EmArray → List Host.Cell → α} {a s s' : State}

theorem refl (s : State) : SameReading g s s := rfl

theorem of (h : SameReading g a s) (timer : s'.timer = s.timer) (array : s'.array = s.array) (dram : s'.dram = s.dram) :
    SameReading g a s' := by
  unfold SameReading
  rw [timer, array, dram]
  exact h

/-- The parts of a state beside the timer, the array and DRAM may be any. -/
theorem same {now freeCtr : Nat} {pending : List Instr} {regs : List (Nat × BitVec 32)} {out : List Output}
    {shadows : List (Master × Nat × Nat)} {access : Accesses} {house : House} {keeper : Keeper} {host : HostIsl} {hk : Hk}
    {intake : Intake} {braid : Braid} {warp : Warp} {tone : Tone} {anode : Anode} {guards : Guards} {twin : Twin}
    (h : SameReading g a s) :
    SameReading g a (State.mk now pending freeCtr regs s.dram out shadows access house keeper host hk intake braid warp tone anode
      s.timer s.array guards twin) :=
  h

theorem ite {c : Prop} [Decidable c] {x y : State} (hx : SameReading g a x) (hy : SameReading g a y) :
    SameReading g a (if c then x else y) := by
  split
  · exact hx
  · exact hy

theorem foldl {β : Type} {l : List β} {f : State → β → State} (h : SameReading g a s)
    (hf : ∀ s b, SameReading g a s → SameReading g a (f s b)) : SameReading g a (l.foldl f s) := by
  induction l generalizing s with
  | nil => exact h
  | cons b l ih => exact ih (hf s b h)

/-! ### Registers, messages and records -/

theorem set {f : Field} {v : Nat} (h : SameReading g a s) : SameReading g a (s.set f v) := h.same

theorem setReg {off v : Nat} (h : SameReading g a s) : SameReading g a (s.setReg off v) := h.same

theorem setFlag {f : Field} {b : Bool} (h : SameReading g a s) : SameReading g a (s.setFlag f b) := h.set

theorem latch {f : Field} (h : SameReading g a s) : SameReading g a (s.latch f) := h.set.same

theorem bumpBy {f : Field} {n : Nat} (h : SameReading g a s) : SameReading g a (s.bumpBy f n) := h.set

theorem bump {f : Field} (h : SameReading g a s) : SameReading g a (s.bump f) := h.bumpBy

theorem count {f : Field} (h : SameReading g a s) : SameReading g a (s.count f) := h.set

theorem touch (h : SameReading g a s) : SameReading g a s.touch := h.same

theorem raise {k : Nat} (h : SameReading g a s) : SameReading g a (s.raise k) :=
  h.of (State.raise_timer _ _) (State.raise_array _ _) (State.raise_dram _ _)

theorem event {e : Event} (h : SameReading g a s) : SameReading g a (s.event e) :=
  h.of (State.event_timer _ _) (State.event_array _ _) (State.event_dram _ _)

theorem cvuSet {n : Nat} {f : List (Nat × BitVec 32) → List (Nat × BitVec 32)} (h : SameReading g a s) :
    SameReading g a (s.cvuSet n f) :=
  .ite h.same h.same

theorem cvuPass {n value : Nat} (h : SameReading g a s) : SameReading g a (s.cvuPass n value) := h.cvuSet

theorem cvuFail {n value expected : Nat} (h : SameReading g a s) : SameReading g a (s.cvuFail n value expected) :=
  (SameReading.ite h h.same).cvuSet

/-- A report without a reaction. -/
theorem faultVal {code source subject value limit : Nat} (h : SameReading g a s)
    (hr : (⟨code, source, subject, value, limit, 0, 0⟩ : Report).reaction = .nothing) :
    SameReading g a (s.faultVal code source subject value limit) :=
  h.of (State.accept_timer _ _ _ _ _ _ hr) (State.accept_array _ _ _ _ _ _ hr) (State.accept_dram _ _ _ _ _ _ hr)

theorem fault {code source subject : Nat} (h : SameReading g a s)
    (hr : (⟨code, source, subject, 0, 0, 0, 0⟩ : Report).reaction = .nothing) :
    SameReading g a (s.fault code source subject) :=
  h.faultVal hr

theorem safetyEvent {u : Guard} {code chan colour subject value limit cause : Nat} (h : SameReading g a s) :
    SameReading g a (s.safetyEvent u code chan colour subject value limit cause) :=
  h.event.raise

theorem sendSplice {type : Nat} {keep : Option Deadline} {ackSeq : Nat} {payload : List Nat} (h : SameReading g a s) :
    SameReading g a (s.sendSplice type keep ackSeq payload) :=
  .ite h (SameReading.cvuPass h.same)

theorem sendScan (h : SameReading g a s) : SameReading g a s.sendScan := .ite h.sendSplice h

/-! ### Gates and switches -/

theorem gate {why : Gate} {i : Nat} (h : SameReading g a s) : SameReading g a (s.gate why i) :=
  (SameReading.ite h.same (SameReading.touch h.same)).set

theorem ungate {p : Gate × Nat → Bool} (h : SameReading g a s) : SameReading g a (s.ungate p) := h.same

theorem gateSectors {why : Gate} {cs : List Nat} (h : SameReading g a s) : SameReading g a (s.gateSectors why cs) :=
  h.foldl fun _ _ h => h.foldl fun _ _ h => h.gate

theorem hold {why : Hold} {band colour : Nat} (h : SameReading g a s) : SameReading g a (s.hold why band colour) :=
  (SameReading.ite (SameReading.touch h.same) h.same).set

/-! ### The layers and the composition -/

theorem corruptRow {l j : Nat} {c : List Nat} (h : SameReading g a s) : SameReading g a (s.corruptRow l j c) :=
  .ite (SameReading.fault (SameReading.latch h.same) rfl) h

theorem fetchLayer {st v l : Nat} (h : SameReading g a s) : SameReading g a (s.fetchLayer st v l) := by
  unfold State.fetchLayer
  split
  · exact h
  · exact .ite h (.ite h.corruptRow (h.foldl fun _ _ h => .ite h h.corruptRow.same))

theorem composeRow {st v : Nat} (h : SameReading g a s) : SameReading g a (s.composeRow st v).1 := by
  unfold State.composeRow
  dsimp only
  exact h.foldl fun _ _ h => h.fetchLayer

theorem advance {st stop : Nat} (h : SameReading g a s) : SameReading g a (s.advance st stop) :=
  h.foldl fun _ _ h => h.composeRow.same

theorem passRow {y : Nat} (h : SameReading g a s) : SameReading g a (s.passRow y) := h.same

theorem passPair {k : Nat} (h : SameReading g a s) : SameReading g a (s.passPair k) :=
  .ite h.advance.advance.passRow.passRow.same.advance.advance h.advance.advance.passRow.passRow.same

theorem warpSlot {k : Nat} (h : SameReading g a s) : SameReading g a (s.warpSlot k) := h.foldl fun _ _ h => h.passPair

theorem footprintFault {tile : Nat} (h : SameReading g a s) : SameReading g a (s.footprintFault tile) := by
  unfold State.footprintFault
  extract_lets _ _ s1 _ s2
  have h1 : SameReading g a s1 := .ite h.bump.set.gateSectors h
  have h2 : SameReading g a s2 := .ite h1 h1.same
  exact .ite (SameReading.fault h2.same rfl) h2

theorem footprintEnds (h : SameReading g a s) : SameReading g a s.footprintEnds := h.ungate.same

theorem measureReads {i j : Nat} (h : SameReading g a s) : SameReading g a (s.measureReads i j) :=
  .ite ((h.foldl fun _ _ h => h.set).set.latch.fault rfl) ((h.foldl fun _ _ h => h.set).set)

theorem scanReads (h : SameReading g a s) : SameReading g a s.scanReads := .ite h.measureReads h.measureReads

/-! ### The governor -/

theorem governOwn (h : SameReading g a s) : SameReading g a s.governOwn := by
  unfold State.governOwn
  extract_lets
  split
  exact h.same.set.set.set.set.foldl fun _ _ h => h.set

theorem governDark (h : SameReading g a s) : SameReading g a s.governDark := (SameReading.governOwn h.same).same

theorem governPartner (h : SameReading g a s) : SameReading g a s.governPartner := by
  unfold State.governPartner
  refine .ite h ?_
  split
  · exact .ite (SameReading.set h.same) (h.latch.fault rfl)
  · exact h.latch.fault rfl

/-! ### The rails -/

theorem snapshot {d : SurveyData} (h : SameReading g a s) : SameReading g a (s.snapshot d) := by
  unfold State.snapshot
  extract_lets s1 _ _ s4 s5 s6
  have h1 : SameReading g a s1 := h.foldl fun _ _ h => h.set
  have h4 : SameReading g a s4 := h1.set.set.set.set.foldl fun _ _ h => h.foldl fun _ _ h => h.set
  have h5 : SameReading g a s5 := h4.foldl fun _ _ h => h.set
  have h6 : SameReading g a s6 := h5.foldl fun _ _ h => h.set
  exact .ite h1.set.set.set.set h6.setReg

theorem trackRail {d : SurveyData} {pOld : List Rat} {c : Nat} (h : SameReading g a s) : SameReading g a (s.trackRail d pOld c) :=
  .ite h (.ite ((SameReading.ite h h.touch).set.setFlag.faultVal rfl) ((SameReading.ite h h.touch).set.setFlag))

theorem trackLow {d : SurveyData} {band c : Nat} (h : SameReading g a s) : SameReading g a (s.trackLow d band c) :=
  .ite ((SameReading.ite (SameReading.latch h.same) h.same).faultVal rfl) (.ite (SameReading.latch h.same) h.same)

theorem track {d : SurveyData} {pOld : List Rat} (h : SameReading g a s) : SameReading g a (s.track d pOld) :=
  ((h.foldl fun _ _ h => h.trackRail).foldl fun _ _ h => h.trackLow).foldl fun _ _ h => h.setFlag

theorem govCheck (h : SameReading g a s) : SameReading g a s.govCheck :=
  .ite h (.ite h (.ite h.same (.ite h.same (SameReading.faultVal (SameReading.set h.same) rfl))))

/-! ### GUARD_B's checks of the scan -/

theorem tapFails {tile : Nat} {e : Rat × Rat} (h : SameReading g a s) : SameReading g a (s.tapFails tile e) := by
  unfold State.tapFails
  extract_lets _ _ s1 _ _ _ s4
  have h1 : SameReading g a s1 := .ite h.bump h
  have h4 : SameReading g a s4 := h1.set.same.foldl fun _ _ h => h.hold
  exact .ite (h4.safetyEvent.faultVal rfl) h4.safetyEvent

theorem tapCheck (h : SameReading g a s) : SameReading g a s.tapCheck := by
  unfold State.tapCheck
  refine .ite h ?_
  split
  · refine .ite h (h.foldl fun s1 _ h1 => ?_)
    split
    · exact h1.tapFails
    · exact h1
  · exact h

theorem regionResult {r result sig want : Nat} (h : SameReading g a s) :
    SameReading g a (s.regionResult r result sig want) := by
  unfold State.regionResult
  extract_lets _ _ s2 _ s4
  have h2 : SameReading g a s2 := .ite h.set.setReg.cvuPass (.ite h.set.setReg.cvuFail h.set.setReg)
  have h4 : SameReading g a s4 := .ite (h2.bump.foldl fun _ _ h => h.foldl fun _ _ h => h.hold) h2.bump
  exact .ite h2 (.ite h4.set (SameReading.raise (h4.set.faultVal rfl)))

theorem regionsExpected {bad : List Nat} (h : SameReading g a s) : SameReading g a (s.regionsExpected bad) := by
  unfold State.regionsExpected
  extract_lets _ _ _ _ _ s3
  have h3 : SameReading g a s3 := h.same.same.foldl fun _ _ h => h.fault rfl
  refine h3.setReg.foldl fun s5 _ h5 => ?_
  split
  · exact h5.set
  · exact h5.regionResult
  · exact h5.setReg

theorem regionsPartner (h : SameReading g a s) : SameReading g a s.regionsPartner := by
  unfold State.regionsPartner
  extract_lets _ _ s1 _ s2
  have h1 : SameReading g a s1 := by
    refine h.foldl fun s3 _ h3 => .ite h3 ?_
    extract_lets
    split
    · exact h3.regionResult
    · exact h3.regionResult
  have h2 : SameReading g a s2 := .ite h1.bump h1
  exact .ite h2.bump h2

theorem peekCapture (h : SameReading g a s) : SameReading g a s.peekCapture := .ite h h.setReg.setReg.setReg.set.set.set

/-! ### The survey: the array changes, the count of frames does not -/

theorem setDefects {l : List Defect} {d : Defect} (h : SameReading progress a s) : SameReading progress a (s.setDefects l d) :=
  SameReading.event (SameReading.count (SameReading.setFlag (SameReading.set h)))

theorem putDefect {x y c cond cause tries : Nat} (h : SameReading progress a s) :
    SameReading progress a (s.putDefect x y c cond cause tries) := by
  unfold State.putDefect
  extract_lets
  split
  · exact SameReading.same h.setDefects
  · exact .ite (h.fault rfl) (SameReading.same h.setDefects)

theorem setKill {e : Nat} {on : Bool} (h : SameReading progress a s) : SameReading progress a (s.setKill e on) := h

theorem openSeg {n : Nat} (h : SameReading progress a s) : SameReading progress a (s.openSeg n) := h

theorem setFuse {q : Nat} {l : List FuseJob} (h : SameReading progress a s) : SameReading progress a (s.setFuse q l) :=
  SameReading.set h

theorem emitterDies {x y c cause tries : Nat} (h : SameReading progress a s) :
    SameReading progress a (s.emitterDies x y c cause tries) :=
  h.setFuse.setKill.putDefect.fault rfl

theorem confirmOpen {x y c half : Nat} (h : SameReading progress a s) : SameReading progress a (s.confirmOpen x y c half) := by
  unfold State.confirmOpen
  extract_lets
  refine .ite h (.ite h.openSeg (.ite h.openSeg.emitterDies ?_))
  split
  · exact .ite (h.openSeg.setKill.putDefect.fault rfl) h.openSeg
  · exact h.openSeg.putDefect.fault rfl

theorem confirmShort {x y c half : Nat} (h : SameReading progress a s) : SameReading progress a (s.confirmShort x y c half) :=
  .ite h (.ite h.setKill.bump.emitterDies h.setKill.putDefect.setFuse)

theorem fuseBlow {q : Nat} (h : SameReading progress a s) : SameReading progress a (s.fuseBlow q) := by
  unfold State.fuseBlow
  split
  · extract_lets
    split
    · exact h.setFuse.setDefects
    · exact h.setFuse
  · exact h

theorem driftClass {n cls : Nat} (h : SameReading progress a s) : SameReading progress a (s.driftClass n cls) := h

theorem drift {n vf leak : Nat} {scheduled : Bool} (h : SameReading progress a s) :
    SameReading progress a (s.drift n vf leak scheduled) := h

theorem fuseVerify {q : Nat} {isOpen : Bool} (h : SameReading progress a s) : SameReading progress a (s.fuseVerify q isOpen) := by
  unfold State.fuseVerify
  split
  · have blown {n : Nat} {r : List FuseJob} : SameReading progress a
        ((((s.setFuse q r).openSeg n).driftClass n 2).bump STRIKE_FUSE_STATUS_FUSE_DONE) :=
      h.setFuse.openSeg.driftClass.bump
    exact .ite (.ite (SameReading.emitterDies (blown.fault rfl)) (blown.setKill.putDefect.fault rfl))
      (.ite h.setFuse.bump.emitterDies h.setFuse)
  · exact h

theorem measureSeg {scheduled : Bool} {r : SegRead} (h : SameReading progress a s) :
    SameReading progress a (s.measureSeg scheduled r) :=
  .ite h (.ite h.drift.driftClass h.drift)

theorem remeasure {c : Confirm} {r : SegRead} (h : SameReading progress a s) : SameReading progress a (s.remeasure c r) :=
  .ite h.drift.bump (.ite h.drift.bump.driftClass.confirmOpen h.drift.bump.driftClass.confirmShort)

theorem remeasurePixel {d : SurveyData} {jobs : List (Nat × FuseJob)} {cs : List Confirm} {p : Nat × Nat}
    (h : SameReading progress a s) : SameReading progress a (s.remeasurePixel d jobs cs p) := by
  unfold State.remeasurePixel
  refine h.foldl fun s1 _ h1 => ?_
  extract_lets
  split
  · exact h1.drift.fuseVerify
  · split
    · exact h1.remeasure
    · exact h1.measureSeg

theorem remeasureGroup {d : SurveyData} {under : List (Nat × Nat)} (h : SameReading progress a s) :
    SameReading progress a (s.remeasureGroup d under) := by
  unfold State.remeasureGroup
  extract_lets _ _ _ _ _ _ _ s2 s3
  have h2 : SameReading progress a s2 := SameReading.foldl h fun _ _ h => h.remeasurePixel
  exact SameReading.foldl (s := s3) h2.bumpBy fun _ _ h => h.latch.fault rfl

theorem scheduledGroups {d : SurveyData} {k : Nat} {under : List (Nat × Nat)} (h : SameReading progress a s) :
    SameReading progress a (s.scheduledGroups d k under) :=
  (h.foldl fun _ _ h => .ite h h.measureSeg).foldl fun _ _ h => h.foldl fun _ _ h => h

end SameReading

end Sys2Proof.Machine
end

section
/-! PROOF. The parts of a frame in their order: beats, row slots, the row check, the survey slot and the quiet interval (R59, R92,
R94, R95, R101, R167). -/

namespace Sys2Proof.Machine

open Reg

/-! ### Conditions that the passing of time keeps -/

@[simp] theorem State.pass_steady (s : State) (t : Nat) : (s.pass t).steady = s.steady := by
  simp only [State.steady, State.pass_house, State.pass_twin]

@[simp] theorem State.pass_islandStopped (s : State) (t island : Nat) :
    (s.pass t).islandStopped island = s.islandStopped island := by
  simp only [State.islandStopped, State.pass_house]

@[simp] theorem State.pass_pathLocked (s : State) (t : Nat) : (s.pass t).pathLocked = s.pathLocked := by
  simp only [State.pathLocked, State.pass_house]

/-! ### Beats (R56, R59, R167) -/

/-- A command that changes registers of STRIKE alone, beside what no enable depends on, is its own whole effect. -/
theorem State.run_strike {s s' : State} {t : Nat} {f : State → State} (hl : LightSafe s) (hf : f (s.pass t) = s')
    (hn : s'.now = (s.pass t).now) (hp : s'.pending = (s.pass t).pending) (hh : s'.house = (s.pass t).house)
    (hr : Elsewhere [7] (s.pass t) s') : s.run t f = s' := by
  have light (e : Field) (he : ¬ e.off / 65536 ∈ [7]) : s'.get e = s.get e := (hr.get he).trans (State.pass_get s t e)
  subst hf
  exact State.run_of_lightSafe hl hn hp (hh.trans (State.pass_house s t)) (light _ (by decide)) (light _ (by decide))

theorem State.beatStart_steady {s : State} {b : Nat} (hr : s.timerRuns = true) (hs : s.steady = true) (h1 : 1 ≤ b) (h2 : b < 32) :
    s.beatStart b = if b == 16 && !s.islandStopped 4 then (s.set STRIKE_BEAT_BEAT b).sampleCharge else s.set STRIKE_BEAT_BEAT b := by
  have beat : (!s.timerRuns || b == 0 || decide (32 ≤ b)) = false := by
    simp only [hr, Bool.not_true, Bool.false_or, Bool.or_eq_false_iff, beq_eq_false_iff_ne, decide_eq_false_iff_not]
    omega
  rw [State.beatStart, beat, if_neg Bool.false_ne_true, State.runOverlay_steady hs]
  rfl

/-- A sample of the charge is TONE's own. -/
theorem State.sampleCharge_tone (s : State) : ∃ v : Tone, s.sampleCharge = { s with tone := v } := by
  unfold State.sampleCharge
  split
  · exact ⟨_, rfl⟩
  · exact ⟨_, rfl⟩
  · exact ⟨_, rfl⟩

/-! ### Row slots (R62, R92 to R95, R101) -/

/-- A pixel's place in the words of the array. -/
def pixelNo (p : Nat × Nat) : Nat := 1024 * p.2 + p.1

/-- One back word written from the column latch as it was sent. -/
def EmArray.latched (e : EmArray) (p : Nat × Nat) : EmArray :=
  { e with back := sput (fun _ => 0#64) e.back (pixelNo p) (sget (fun _ => 0#64) e.tap (pixelNo p)) }

theorem EmArray.latched_row (l : List (Nat × Nat)) : ∀ e : EmArray, (l.foldl EmArray.latched e).tap = e.tap ∧
    ∀ n, n ∈ l.map pixelNo ∨ sget (fun _ => 0#64) e.back n = sget (fun _ => 0#64) e.tap n →
      sget (fun _ => 0#64) (l.foldl EmArray.latched e).back n = sget (fun _ => 0#64) e.tap n := by
  induction l with
  | nil => exact fun e => ⟨rfl, fun n h => h.resolve_left List.not_mem_nil⟩
  | cons p l ih =>
    intro e
    obtain ⟨tap, back⟩ := ih (e.latched p)
    refine ⟨tap, fun n h => back n ?_⟩
    by_cases hn : n = pixelNo p
    · rw [hn]
      exact .inr (sget_sput_same _ _ _)
    · refine h.imp (fun h => ?_) (fun h => (sget_sput_other _ _ hn).trans h)
      exact (List.mem_cons.mp h).resolve_left hn

theorem State.writeRow_array (s : State) (k q : Nat) : (s.writeRow k q []).array = (quadRow k q).foldl EmArray.latched s.array := by
  unfold State.writeRow
  generalize quadRow k q = l
  induction l generalizing s with
  | nil => rfl
  | cons p l ih =>
    refine (ih _).trans (congrArg (l.foldl EmArray.latched) ?_)
    simp [EmArray.latched, pixelNo]

/-- A row written as it was sent passes the check of R94. -/
theorem State.writeRow_checks (s : State) (k q : Nat) : (s.writeRow k q []).rowChecks k q = true := by
  obtain ⟨tap, back⟩ := EmArray.latched_row (quadRow k q) s.array
  rw [State.rowChecks, State.writeRow_array, tap, beq_iff_eq]
  refine List.foldl_ext _ _ _ fun w p hp => ?_
  exact congrArg (w ^^^ ·) (back (pixelNo p) (.inl (List.mem_map_of_mem hp)))

namespace SameReading

variable {a s : State}

theorem phase_eq (h : SameReading progress a s) : s.timer.phase = a.timer.phase := congrArg (·.1) h

theorem rowsRun_eq (h : SameReading progress a s) : s.timer.rowsRun = a.timer.rowsRun := congrArg (·.2.1) h

theorem frames_eq (h : SameReading progress a s) : s.array.frames = a.array.frames := congrArg (·.2.2) h

theorem retrainLinks (h : SameReading progress a s) : SameReading progress a s.retrainLinks := h

theorem scanPixel {x y : Nat} (h : SameReading progress a s) : SameReading progress a (s.scanPixel x y) :=
  .ite h (.ite (SameReading.footprintFault h) h)

theorem writeRow {k q : Nat} {wrong : List (Nat × BitVec 64)} (h : SameReading progress a s) :
    SameReading progress a (s.writeRow k q wrong) :=
  h.foldl fun _ _ h => h

theorem rowsMissed (h : SameReading progress a s) :
    SameReading progress a { s with timer := { s.timer with rowsOk := false } } := h

theorem rowQuad {k q : Nat} {wrong1 wrong2 : List (Nat × BitVec 64)} (h : SameReading progress a s) :
    SameReading progress a (s.rowQuad k wrong1 wrong2 q) :=
  .ite h.rowsMissed (.ite h.writeRow (.ite h.writeRow.bump.writeRow h.writeRow.bump.writeRow.rowsMissed.bump))

end SameReading

/-- The row slot that begins, before any pixel of it: counted as run, and the first one begins the scan. -/
def State.rowSlotBegins (s : State) (k : Nat) : State :=
  let s := if k == 0 then s.scanBegins else s
  { s with timer := { s.timer with rowsRun := k + 1 } }

theorem State.rowSlotBegins_back (s : State) (k : Nat) : (s.rowSlotBegins k).array.back = s.array.back := by
  unfold State.rowSlotBegins
  split <;> rfl

theorem State.rowSlotBegins_pathLocked (s : State) (k : Nat) : (s.rowSlotBegins k).pathLocked = s.pathLocked := by
  unfold State.rowSlotBegins
  split <;> rfl

/-- The pixel path's part of a row slot, and the four quadrants'. -/
def State.rowSlotScans (s : State) (k : Nat) (wrong1 wrong2 : List (Nat × BitVec 64)) : State :=
  let s := if s.timer.pixelPath then s.warpSlot k else s
  let s := (slotPixels k).foldl (fun (s : State) p => s.scanPixel p.1 p.2) s
  (List.range 4).foldl (fun s q => s.rowQuad k wrong1 wrong2 q) s

theorem State.rowSlot_next {s : State} {k : Nat} (wrong1 wrong2 : List (Nat × BitVec 64)) (hr : s.timerRuns = true)
    (h5 : s.islandStopped 5 = false) (hp : s.timer.phase = 0) (hk : k = s.timer.rowsRun) (h : k < 512) :
    s.rowSlot k wrong1 wrong2 = if s.pathLocked then (s.rowSlotBegins k).rowSlotScans k wrong1 wrong2
      else { s.rowSlotBegins k with timer := { (s.rowSlotBegins k).timer with rowsOk := false } } := by
  have next : (!s.timerRuns || k != s.timer.rowsRun || decide (512 ≤ k) || s.timer.phase != 0 || s.islandStopped 5) = false := by
    simp [hr, h5, hp, ← hk, h]
  rw [← State.rowSlotBegins_pathLocked s k, State.rowSlot, next, if_neg Bool.false_ne_true]
  by_cases hl : (s.rowSlotBegins k).pathLocked = true
  · rw [if_pos hl]
    exact if_neg (by rw [Bool.not_eq_true', Bool.not_eq_false]; exact hl)
  · rw [if_neg hl]
    exact if_pos (by rw [Bool.not_eq_true']; exact Bool.eq_false_of_not_eq_true hl)

theorem State.rowSlotScans_rowsRun (s : State) (k : Nat) (wrong1 wrong2 : List (Nat × BitVec 64)) :
    (s.rowSlotScans k wrong1 wrong2).timer.rowsRun = s.timer.rowsRun := by
  unfold State.rowSlotScans
  extract_lets s1 s2
  have h1 : SameReading progress s s1 := .ite (SameReading.refl s).warpSlot (.refl s)
  have h2 : SameReading progress s s2 := h1.foldl fun _ _ h => h.scanPixel
  have h3 := h2.foldl (l := List.range 4) (f := fun s q => s.rowQuad k wrong1 wrong2 q) fun _ _ h => h.rowQuad
  exact h3.rowsRun_eq

/-- No row slot runs once the survey slot has begun (R59, R95). -/
theorem State.rowSlot_late {s : State} (k : Nat) (wrong1 wrong2 : List (Nat × BitVec 64)) (hp : s.timer.phase ≠ 0) :
    s.rowSlot k wrong1 wrong2 = s :=
  if_pos (by simp [hp])

/-! ### The survey slot and the quiet interval (R59, R101, R228) -/

/-- A survey counts its frame. -/
theorem State.survey_counts (s : State) (d : SurveyData) :
    (s.survey d).timer.phase = s.timer.phase ∧ (s.survey d).array.frames = s.array.frames + 1 := by
  suffices h : ∃ s2 : State, SameReading progress s2 (s.survey d) ∧ s2.timer = s.timer ∧
      s2.array.frames = s.array.frames + 1 by
    obtain ⟨s2, h, timer, frames⟩ := h
    exact ⟨h.phase_eq.trans (congrArg Timer.phase timer), h.frames_eq.trans frames⟩
  unfold State.survey
  extract_lets _ _ _ _ s2 _ _ _ s4 s5 _ s6 _ s7 s8
  have h5 : SameReading progress s2 s5 := (SameReading.refl s2).remeasureGroup.foldl fun _ _ h => .ite h.fuseBlow h
  have h8 : SameReading progress s2 s8 := SameReading.set (s := s7) h5.scheduledGroups
  have h2 : SameReading progress s2 s2 := .refl s2
  exact ⟨s2, .ite (SameReading.bumpBy h2) (.ite h5 (.ite h8.count h8)), rfl, rfl⟩

/-- The survey slot moves the frame on and counts it. -/
theorem State.surveySlot_counts {s : State} (d : SurveyData) (hr : s.timerRuns = true) (h5 : s.islandStopped 5 = false)
    (hp : s.timer.phase = 0) :
    (s.surveySlot d).timer.phase = 1 ∧ (s.surveySlot d).array.frames = s.array.frames + 1 := by
  have due : (!s.timerRuns || s.timer.phase != 0 || s.islandStopped 5) = false := by simp [hr, h5, hp]
  unfold State.surveySlot
  rw [due, if_neg Bool.false_ne_true]
  extract_lets d _ s1 _ s2 s3 s4 s5 s6 s7 s8
  have h4 : SameReading progress s1 s4 := (SameReading.refl s1).footprintEnds.scanReads.set.set
  have h5 : SameReading progress s1 s5 := .ite h4.governOwn h4.governDark
  have h6 : SameReading progress s1 s6 := h5.snapshot.govCheck.track
  obtain ⟨phase, frames⟩ := s6.survey_counts d
  have h7 : SameReading progress (s6.survey d) s7 := (SameReading.refl (s6.survey d)).retrainLinks
  have h8 : SameReading progress (s6.survey d) s8 := h7.regionsExpected.tapCheck
  have sent := h8.peekCapture.sendScan
  exact ⟨(sent.phase_eq.trans phase).trans h6.phase_eq, (sent.frames_eq.trans frames).trans (congrArg (· + 1) h6.frames_eq)⟩

theorem State.quiet_stored {s : State} (hr : s.timerRuns = true) (hp : s.timer.phase = 1) :
    stored s.quiet.timer s.quiet.array s.quiet.dram = (2, s.array, s.dram) := by
  have due : (!s.timerRuns || s.timer.phase != 1) = false := by simp [hr, hp]
  rw [State.quiet, due, if_neg Bool.false_ne_true]
  exact (SameReading.refl (g := stored) { s with timer := { s.timer with phase := 2 } }).regionsPartner.governPartner

end Sys2Proof.Machine

open Sys2Proof Sys2Proof.Machine Sys2Proof.Machine.Reg

/-- Settles O19: with nothing waiting a beat is its register and the charge sample, a row written as sent passes its check, and
what the row slots, the survey slot and the quiet interval set going leaves how far the frame has come alone. -/
theorem frameParts : Obligations.FrameParts := by
  refine ⟨?beat, ?sample, ?row, ?lateRow, State.writeRow_checks, ?survey, ?quiet⟩
  case beat =>
    intro s t b hr hs hl h1 h2 h16
    have started : (s.pass t).beatStart b = (s.pass t).set STRIKE_BEAT_BEAT b := by
      rw [State.beatStart_steady (by simpa using hr) (by simpa using hs) h1 h2, beq_false_of_ne h16, Bool.false_and,
        if_neg Bool.false_ne_true]
    exact congrArg Host.Outcome.next (State.run_strike hl started rfl rfl rfl (Elsewhere.set (.refl _ _) _ (by decide)))
  case sample =>
    intro s t hr hs hl h4
    have started : (s.pass t).beatStart 16 = ((s.pass t).set STRIKE_BEAT_BEAT 16).sampleCharge := by
      rw [State.beatStart_steady (by simpa using hr) (by simpa using hs) (by decide) (by decide), State.pass_islandStopped, h4]
      rfl
    obtain ⟨v, sampled⟩ := ((s.pass t).set STRIKE_BEAT_BEAT 16).sampleCharge_tone
    rw [sampled] at started ⊢
    exact congrArg Host.Outcome.next (State.run_strike hl started rfl rfl rfl
      (Elsewhere.set (Elsewhere.of_regs (s' := { s.pass t with tone := v }) rfl) _ (by decide)))
  case row =>
    intro s t k f1 f2 hr h5 hp hk h
    have slot := State.rowSlot_next (s := s.pass t) f1 f2 (by simpa using hr) (by simpa using h5) (by simpa using hp)
      (by simpa using hk) h
    rw [State.pass_pathLocked] at slot
    refine ⟨_, rfl, ?_, fun unlocked => ⟨?_, ?_⟩⟩
    · rw [State.run_timer, slot]
      split
      · exact State.rowSlotScans_rowsRun _ _ _ _
      · rfl
    · rw [State.run_timer, slot, unlocked]
      rfl
    · rw [State.run_array, slot, unlocked]
      exact (State.rowSlotBegins_back _ _).trans (congrArg EmArray.back (State.pass_array s t))
  case lateRow =>
    intro s t k f1 f2 hp hl
    exact congrArg Host.Outcome.next (State.run_same hl (State.rowSlot_late k f1 f2 (by simpa using hp)))
  case survey =>
    intro s t d hr h5 hp
    obtain ⟨phase, frames⟩ := State.surveySlot_counts (s := s.pass t) d (by simpa using hr) (by simpa using h5) (by simpa using hp)
    rw [← State.run_timer s t fun s => s.surveySlot d] at phase
    rw [← State.run_array s t fun s => s.surveySlot d, State.pass_array] at frames
    exact ⟨_, rfl, phase, frames⟩
  case quiet =>
    intro s t hr hp
    have kept := State.quiet_stored (s := s.pass t) (by simpa using hr) (by simpa using hp)
    rw [← State.run_timer s t fun s => s.quiet, ← State.run_array s t fun s => s.quiet, ← State.run_dram s t fun s => s.quiet,
      State.pass_array] at kept
    exact ⟨_, rfl, congrArg (·.1) kept, congrArg (·.2.1) kept, congrArg (·.2.2) kept⟩

end

section
/-! PROOF. What a good SPLICE frame leaves alone when it is heard, and what sending one changes (R417, R436, R437, R554). -/

namespace Sys2Proof.Machine

open Reg

/-! ### Registers by blocks -/

theorem Elsewhere.setReg {bs : List Nat} {s s' : State} (h : Elsewhere bs s s') {off : Nat} (v : Nat) (ho : off / 65536 ∈ bs) :
    Elsewhere bs s (s'.setReg off v) :=
  fun o hb => (rread_rwrite_other _ _ (fun e => hb (by rw [e]; exact ho))).trans (h o hb)

theorem State.get_of_reg {s s' : State} {f : Field} (h : s'.reg f.off = s.reg f.off) : s'.get f = s.get f :=
  congrArg (fun v => getBits v f.lsb f.width) h

/-- A check-value unit's registers stand in the CVU block, or on the guard die. -/
theorem State.cvuPass_elsewhere (s : State) {n : Nat} (v : Nat) (hn : n < 12) : Elsewhere [14] s (s.cvuPass n v) := by
  have block {k : Nat} (hk : k < 0x20) : (0xE0000 + k + 0x20 * n) / 65536 ∈ [14] := by
    rw [List.mem_singleton]
    omega
  have own (x : State) : Elsewhere [14] x (((x.set (CVU_UNIT_PASS_COUNT n) ((x.get (CVU_UNIT_PASS_COUNT n) + 1) % 2 ^ 32)).set
      (CVU_UNIT_FAIL_RUN n) 0).set (CVU_UNIT_LAST_VALUE n) v) :=
    (((Elsewhere.refl _ x).set _ (block (k := 4) (by decide))).set _ (block (k := 8) (by decide))).set _
      (block (k := 12) (by decide))
  exact .ite (Elsewhere.of_regs rfl) (own s)

/-- Sending a frame moves on CVU_02 and the frames that wait for their ACK. -/
theorem State.sendSplice_elsewhere (s : State) (type : Nat) (keep : Option Deadline) (ackSeq : Nat) (payload : List Nat) :
    Elsewhere [14] s (s.sendSplice type keep ackSeq payload) := by
  unfold State.sendSplice
  exact .ite (.refl _ s) (.trans (.of_regs rfl) (State.cvuPass_elsewhere _ _ (by decide)))

@[simp] theorem State.cvuPass_twin (s : State) (n v : Nat) : (s.cvuPass n v).twin = s.twin := by
  unfold State.cvuPass State.cvuSet
  split <;> rfl

/-- Of the twin logic a new frame changes the next SEQ and the frames that wait for their ACK. -/
theorem State.sendSplice_twin {α : Type} (p : Twin → α) (hp : ∀ (w : Twin) seq kept, p { w with txSeq := seq, unacked := kept } = p w)
    (s : State) (type : Nat) (keep : Option Deadline) (ackSeq : Nat) (payload : List Nat) :
    p (s.sendSplice type keep ackSeq payload).twin = p s.twin := by
  unfold State.sendSplice
  split
  · rfl
  · exact (congrArg p (State.cvuPass_twin _ _ _)).trans (hp s.twin _ _)

/-! ### A frame that is heard -/

/-- What hearing a good frame leaves alone: the clock, the timer, HOUSE, KEEPER, the segments of the record, and every register
but the partner's epoch and those of the check-value units. -/
structure Heard (a s : State) : Prop where
  now : s.now = a.now
  timer : s.timer = a.timer
  house : s.house = a.house
  keeper : s.keeper = a.keeper
  segs : s.twin.segs = a.twin.segs
  regs : ∀ off, off / 65536 ≠ 14 → off ≠ SPLICE_PEER_EPOCH_OFF → rread s.regs off = rread a.regs off

namespace Heard

variable {a s : State}

theorem refl (s : State) : Heard s s := ⟨rfl, rfl, rfl, rfl, rfl, fun _ _ _ => rfl⟩

theorem of {s' : State} (h : Heard a s) (now : s'.now = s.now) (timer : s'.timer = s.timer) (house : s'.house = s.house)
    (keeper : s'.keeper = s.keeper) (segs : s'.twin.segs = s.twin.segs) (regs : s'.regs = s.regs) : Heard a s' :=
  ⟨now.trans h.now, timer.trans h.timer, house.trans h.house, keeper.trans h.keeper, segs.trans h.segs, regs ▸ h.regs⟩

theorem cvuPass (h : Heard a s) {n : Nat} (v : Nat) (hn : n < 12) : Heard a (s.cvuPass n v) := by
  have regs (off : Nat) (h14 : off / 65536 ≠ 14) (he : off ≠ SPLICE_PEER_EPOCH_OFF) :
      rread (s.cvuPass n v).regs off = rread a.regs off :=
    (State.cvuPass_elsewhere s v hn off (by simpa using h14)).trans (h.regs off h14 he)
  unfold State.cvuPass State.cvuSet at regs ⊢
  split at regs
  · rw [if_pos ‹_›]
    exact ⟨h.now, h.timer, h.house, h.keeper, h.segs, regs⟩
  · rw [if_neg ‹_›]
    exact ⟨h.now, h.timer, h.house, h.keeper, h.segs, regs⟩

theorem peerEpoch (h : Heard a s) (v : Nat) : Heard a (s.setReg SPLICE_PEER_EPOCH_OFF v) :=
  ⟨h.now, h.timer, h.house, h.keeper, h.segs, fun off h14 he => (rread_rwrite_other _ _ he).trans (h.regs off h14 he)⟩

theorem sendAck (h : Heard a s) (seq : Nat) : Heard a (s.sendAck seq) := by
  unfold State.sendAck State.sendSplice
  extract_lets f kept _ s1
  split
  · exact h
  · have sent : Heard a (s1.emit (.splice f)) := h.of rfl rfl rfl rfl rfl rfl
    exact sent.cvuPass (n := 2) _ (by decide)

theorem reg (h : Heard a s) {off : Nat} (h14 : off / 65536 ≠ 14) (he : off ≠ SPLICE_PEER_EPOCH_OFF) : s.reg off = a.reg off :=
  congrArg BitVec.toNat (h.regs off h14 he)

theorem get (h : Heard a s) {f : Field} (h14 : f.off / 65536 ≠ 14) (he : f.off ≠ SPLICE_PEER_EPOCH_OFF) : s.get f = a.get f :=
  State.get_of_reg (h.reg h14 he)

theorem flag (h : Heard a s) {f : Field} (h14 : f.off / 65536 ≠ 14) (he : f.off ≠ SPLICE_PEER_EPOCH_OFF) : s.flag f = a.flag f :=
  State.flag_of_reg (h.reg h14 he)

/-- The application points of the frames to come stand as they were. -/
theorem applyInTime (h : Heard a s) (block frame : Nat) : s.applyInTime block frame = a.applyInTime block frame := by
  have number : s.frameNo = a.frameNo := h.get (f := STRIKE_FRAME_NO_FRAME_NO) (by decide) (by decide)
  have capture : s.nextCapture = a.nextCapture := by
    unfold State.nextCapture
    rw [number, h.timer]
  have period : s.nextPeriod = a.nextPeriod := by
    unfold State.nextPeriod State.periodNs
    rw [h.timer]
  have boundary : s.nextBoundaryAt = a.nextBoundaryAt := by
    unfold State.nextBoundaryAt State.framePeriod State.periodNs
    rw [h.timer]
  have captureAt : s.nextCaptureAt = a.nextCaptureAt := by
    unfold State.nextCaptureAt
    rw [boundary, period, h.timer]
  unfold State.applyInTime
  rw [h.now, period, boundary, captureAt, capture, number]

end Heard

theorem State.pass_hears {s : State} (t : Nat) {type : Nat} {b : List Nat} (h : s.hears type b) : (s.pass t).hears type b := by
  simpa only [State.hears, State.twinRuns, State.twinEn, State.pass_timerRuns, State.pass_flag, State.pass_get, State.pass_twin] using h

/-- A good frame of the twin's own epoch that has not been acted on before is acted on. -/
theorem State.spliceIn_heard {s : State} {type : Nat} {b : List Nat} (h : s.hears type b) :
    ∃ s1, s.spliceIn type b = (some (rxFrame b), s1) ∧ Heard s s1 := by
  obtain ⟨runs, tested, long, check, laid, typed, epoch, fresh⟩ := h
  have listens : (!s.twinRuns || !s.flag (CVU_UNIT_CFG_SELFTEST_OK 3)) = false := by simp [runs, tested]
  have good : (decide (b.length < 28) || field b (b.length - 4) 4 != crc32c (b.take (b.length - 4)) || !rxLaidOut b) = false := by
    simp [check, laid, long]
  unfold State.spliceIn
  rw [listens, if_neg Bool.false_ne_true, good, if_neg Bool.false_ne_true]
  extract_lets f s1 _ s2 s3 s4 s5
  have h1 : Heard s s1 := (Heard.refl s).cvuPass (n := 3) _ (by decide)
  have h2 : Heard s s2 := h1.of rfl rfl rfl rfl rfl rfl
  have h3 : Heard s s3 := h2.peerEpoch _
  have own : s3.get SPLICE_EPOCH_EPOCH = f.epoch := (h3.get (by decide) (by decide)).trans epoch.symm
  have stays : s4 = s3 := if_neg (by simp [own])
  have h4 : Heard s s4 := stays ▸ h3
  have h5 : Heard s s5 := h4.sendAck _
  have current : (f.type != type) = false ∧ (decide (3 ≤ f.type) && decide (f.epoch < s4.get SPLICE_EPOCH_EPOCH)) = false := by
    rw [stays, own]
    simp [f, typed]
  rw [current.1, if_neg Bool.false_ne_true, current.2, if_neg Bool.false_ne_true]
  cases asked : f.ackReq with
  | false => exact ⟨s4, rfl, h4⟩
  | true =>
    have acted : s5.twin.acted = s.twin.acted := calc
      s5.twin.acted = s4.twin.acted := State.sendSplice_twin Twin.acted (fun _ _ _ => rfl) s4 _ _ _ _
      _ = s1.twin.acted := congrArg (·.twin.acted) stays
      _ = s.twin.acted := congrArg Twin.acted (State.cvuPass_twin _ _ _)
    have new : s5.twin.acted.contains f.seq = false := by
      rw [acted]
      simpa using fresh asked
    rw [if_neg (by decide), new, if_neg Bool.false_ne_true]
    exact ⟨_, rfl, h5.of rfl rfl rfl rfl rfl rfl⟩

end Sys2Proof.Machine
end

section
/-! PROOF. What a follower takes from its leader: commits, the record, events and TIMING blocks; and the link going up or down
(R65, R435, R439, R453 to R457). -/

namespace Sys2Proof.Machine

open Reg

theorem State.run_flag (s : State) (t : Nat) (g : State → State) {f : Field} (hf : f.lsb + f.width ≤ 32)
    (ha : f.off ≠ GUARD_A_STATUS_OFF ∨ f.lsb + f.width ≤ 20 ∨ 24 ≤ f.lsb)
    (hb : f.off ≠ GUARD_B_STATUS_OFF ∨ f.lsb + f.width ≤ 20 ∨ 24 ≤ f.lsb) : (s.run t g).flag f = (g (s.pass t)).flag f := by
  rw [State.flag_iff, State.run_get s t g hf ha hb, ← State.flag_iff]

/-! ### The lock state after a change of reference -/

theorem State.setLock_twin (s : State) (n : Nat) : (s.setLock n).twin = s.twin := by
  have raised : (if s.lockState == n then s else s.raise 5).twin = s.twin := by
    split
    · rfl
    · exact State.raise_twin s 5
  exact raised

/-- A change of lock state shows in STATE of its register alone, and to the host. -/
theorem State.setLock_refValid (s : State) (n : Nat) :
    (s.setLock n).flag STRIKE_SYNC_STATUS_REF_VALID = s.flag STRIKE_SYNC_STATUS_REF_VALID := by
  have raised : (if s.lockState == n then s else s.raise 5).flag STRIKE_SYNC_STATUS_REF_VALID =
      s.flag STRIKE_SYNC_STATUS_REF_VALID := by
    split
    · rfl
    · exact (State.raise_elsewhere s (k := 5) (by decide)).flag (by decide)
  exact (State.flag_set_other _ _ (by decide) (by decide)).trans raised

/-- A report without a reaction leaves the twin logic alone. -/
theorem State.fault_twin (s : State) {code source subject : Nat}
    (h : (⟨code, source, subject, 0, 0, 0, 0⟩ : Report).reaction = .nothing) :
    (s.fault code source subject).twin = s.twin := State.accept_twin _ _ _ _ _ _ h

theorem State.relock_twin (s : State) : s.relock.twin = s.twin := by
  unfold State.relock
  extract_lets valid s1 free
  split
  · exact State.setLock_twin _ 2
  · exact State.setLock_twin _ 1
  · split
    · exact State.setLock_twin _ 1
    · exact (State.fault_twin _ (by decide)).trans (State.setLock_twin _ 4)
  · exact State.setLock_twin _ 2
  · split
    · exact State.setLock_twin _ 1
    · rfl
  · rfl

/-- REF_VALID follows the active source (R65, R68). -/
theorem State.relock_refValid (s : State) : s.relock.flag STRIKE_SYNC_STATUS_REF_VALID = s.refValid := by
  unfold State.relock
  extract_lets valid s1 free
  have shown : s1.flag STRIKE_SYNC_STATUS_REF_VALID = valid := by
    rw [State.flag_iff]
    unfold s1 State.setFlag
    rw [State.get_set_same _ _ (by decide)]
    cases valid <;> rfl
  have locked (x : State) (n : Nat) (hx : x.flag STRIKE_SYNC_STATUS_REF_VALID = s1.flag STRIKE_SYNC_STATUS_REF_VALID) :
      (x.setLock n).flag STRIKE_SYNC_STATUS_REF_VALID = valid := ((State.setLock_refValid x n).trans hx).trans shown
  split
  · exact locked _ 2 rfl
  · exact locked _ 1 rfl
  · split
    · exact locked _ 1 rfl
    · exact ((State.fault_elsewhere _ _ _ _ (by decide)).flag (by decide)).trans (locked _ 4 rfl)
  · exact locked _ 2 rfl
  · split
    · exact locked _ 1 rfl
    · exact shown
  · exact shown

/-! ### TIMING blocks (R439) -/

/-- A reference event follows the lock state: neither the twin logic, nor which reference is valid, nor REF_VALID. -/
theorem State.phaseEvent_keeps (s : State) (err : Int) (base : Nat) : (s.phaseEvent err base).twin = s.twin ∧
    (s.phaseEvent err base).timer.unphased = s.timer.unphased ∧
    (s.phaseEvent err base).flag STRIKE_SYNC_STATUS_REF_VALID = s.flag STRIKE_SYNC_STATUS_REF_VALID := by
  unfold State.phaseEvent
  extract_lets s1 _ s2
  have shown : s2.flag STRIKE_SYNC_STATUS_REF_VALID = s.flag STRIKE_SYNC_STATUS_REF_VALID :=
    State.flag_of_reg (State.reg_setReg_other s _ (by decide))
  split
  · split
    · split
      · exact ⟨State.setLock_twin _ 3, State.setLock_unphased _ 3, (State.setLock_refValid _ 3).trans shown⟩
      · exact ⟨rfl, rfl, shown⟩
    · exact ⟨rfl, rfl, shown⟩
  · split
    · exact ⟨(State.fault_twin _ (by decide)).trans (State.setLock_twin _ 2),
        (congrArg Timer.unphased (State.fault_timer _ (by decide))).trans (State.setLock_unphased _ 2),
        ((State.fault_elsewhere _ _ _ _ (by decide)).flag (by decide)).trans ((State.setLock_refValid _ 2).trans shown)⟩
    · exact ⟨rfl, rfl, shown⟩
  · exact ⟨rfl, rfl, shown⟩

theorem State.refValid_partner {s : State} (h : s.activeSource = 3) : s.refValid = s.timer.peerValid := by
  simp [State.refValid, h]

/-- A newer TIMING block is the partner's reference event. -/
theorem State.timingIn_newer {s : State} {b : List Nat} (hr : s.timerRuns = true) (ha : s.activeSource = 3)
    (hv : timingValid b = true) (hn : ∀ l ∈ s.twin.lastTiming, 0 < frameDiff (field b 1 4) l) :
    (s.timingIn b).twin.lastTiming = some (field b 1 4) ∧ (s.timingIn b).timer.peerValid = true ∧
      (s.timingIn b).flag STRIKE_SYNC_STATUS_REF_VALID = true := by
  unfold State.timingIn
  extract_lets n qualifies ref T err nom base past own next _ _ s1
  have newer : qualifies = true := by
    unfold qualifies
    cases hl : s.twin.lastTiming with
    | none => rfl
    | some l => exact decide_eq_true (hn l hl)
  have taken : (!s.timerRuns || s.activeSource != 3 || !timingValid b || !qualifies) = false := by simp [hr, ha, hv, newer]
  rw [taken, if_neg Bool.false_ne_true]
  have source : s1.activeSource = 3 := ha
  obtain ⟨twin, timer, shown⟩ := s1.relock.phaseEvent_keeps err
    (if base == 0 then 0 else clampN (nom - nom / 333) (nom + nom / 333) base)
  refine ⟨?_, ?_, ?_⟩
  · exact (congrArg Twin.lastTiming twin).trans (congrArg Twin.lastTiming s1.relock_twin)
  · exact (congrArg Timer.peerValid timer).trans (congrArg Timer.peerValid s1.relock_unphased)
  · exact shown.trans (s1.relock_refValid.trans (State.refValid_partner source))

theorem State.timingMissing_lost {s : State} (hr : s.timerRuns = true) (ha : s.activeSource = 3) :
    s.timingMissing.timer.peerValid = false ∧ s.timingMissing.flag STRIKE_SYNC_STATUS_REF_VALID = false := by
  unfold State.timingMissing
  have follows : (s.activeSource != 3 || !s.timerRuns) = false := by simp [hr, ha]
  rw [follows, if_neg Bool.false_ne_true]
  extract_lets
  exact ⟨congrArg Timer.peerValid (State.relock_unphased _), (State.relock_refValid _).trans (State.refValid_partner ha)⟩

/-! ### The link (R435, R443, R554) -/

theorem State.setPair_pair (s : State) {p : Nat} (hp : p < 8) : (s.setPair p).get SPLICE_STATUS_PAIR = p := by
  unfold State.setPair
  split
  · exact beq_iff_eq.mp ‹_›
  · refine ((State.raise_elsewhere _ (by decide)).get (by decide)).trans ?_
    exact (State.get_set_same _ _ (by decide)).trans (Nat.mod_eq_of_lt hp)

/-- Outside the HOST block a new PAIR shows in its own field alone. -/
theorem State.setPair_get (s : State) (p : Nat) {f : Field} (hf : f.lsb + f.width ≤ 32) (h2 : f.off / 65536 ≠ 2)
    (h : f.off ≠ SPLICE_STATUS_OFF ∨ f.lsb + f.width ≤ 29) : (s.setPair p).get f = s.get f := by
  unfold State.setPair
  split
  · rfl
  · refine ((State.raise_elsewhere _ (by decide)).get (by simpa using h2)).trans (State.get_set_other s p hf ?_)
    exact h.imp id .inr

theorem State.relock_get (s : State) {f : Field} (hb : ¬ f.off / 65536 ∈ [1, 2]) (ho : f.off ≠ STRIKE_SYNC_STATUS_OFF) :
    s.relock.get f = s.get f := State.get_of_reg (State.relock_reg s hb ho)

/-- SPLICE up: LINK_UP, and pairing begins again unless PAIRED. -/
theorem State.linkUp_pair (s : State) : s.linkUp.spliceUp = true ∧
    s.linkUp.get SPLICE_STATUS_PAIR = if s.get SPLICE_STATUS_PAIR = 2 then 2 else 1 := by
  unfold State.linkUp
  extract_lets s1 _ _ s2 s3
  have up : s2.get SPLICE_STATUS_LINK_UP = 1 := State.get_set_same s 1 (by decide)
  have pair : s2.get SPLICE_STATUS_PAIR = s.get SPLICE_STATUS_PAIR := State.get_set_other s 1 (by decide) (by decide)
  have h3 : s3.get SPLICE_STATUS_LINK_UP = 1 ∧ s3.get SPLICE_STATUS_PAIR = if s.get SPLICE_STATUS_PAIR = 2 then 2 else 1 := by
    unfold s3
    rw [pair]
    by_cases h : s.get SPLICE_STATUS_PAIR = 2
    · rw [if_pos (by rw [h]; decide), if_pos h]
      exact ⟨up, pair.trans h⟩
    · rw [if_neg (by simpa using h), if_neg h]
      exact ⟨(State.setPair_get s2 1 (by decide) (by decide) (by decide)).trans up, State.setPair_pair s2 (by decide)⟩
  have sent {f : Field} (hf : f.off = SPLICE_STATUS_OFF) : s3.sendCaps.relock.get f = s3.get f := by
    refine (State.relock_get _ (by rw [hf]; decide) (by rw [hf]; decide)).trans ?_
    exact (State.sendSplice_elsewhere s3 _ _ _ _).get (by rw [hf]; decide)
  refine ⟨?_, (sent rfl).trans h3.2⟩
  rw [State.spliceUp, State.flag_iff, sent rfl, h3.1]
  rfl

/-- SPLICE down: LINK_UP clear, PAIR as it was, and nothing left to resend. -/
theorem State.linkDown_clears (s : State) : s.linkDown.spliceUp = false ∧ s.linkDown.twin.unacked = [] ∧
    s.linkDown.get SPLICE_STATUS_PAIR = s.get SPLICE_STATUS_PAIR := by
  unfold State.linkDown
  extract_lets s1 _ _ s2
  have up : s2.get SPLICE_STATUS_LINK_UP = 0 := State.get_set_same s 0 (by decide)
  have pair : s2.get SPLICE_STATUS_PAIR = s.get SPLICE_STATUS_PAIR := State.get_set_other s 0 (by decide) (by decide)
  have down {x : State} (h : x.get SPLICE_STATUS_LINK_UP = 0) : x.spliceUp = false := by
    rw [State.spliceUp, State.flag_iff, h]
    rfl
  split
  · exact ⟨down ((State.relock_get _ (by decide) (by decide)).trans up), congrArg Twin.unacked s2.relock_twin,
      (State.relock_get _ (by decide) (by decide)).trans pair⟩
  · exact ⟨down up, rfl, pair⟩

theorem State.linkRefresh_up {s : State} {x : Nat} (ht : s.twinRuns = true) (hu : s.spliceUp = false) (hl : s.lanesAligned ≠ 0)
    (hx : s.twin.peerLanesAt = some x) (hn : s.now ≤ 3000000 + x) (hp : s.twin.peerLanes % 4 ≠ 0) : s.linkRefresh = s.linkUp := by
  simp [State.linkRefresh, ht, hu, hl, hx, hn, hp]

theorem State.linkRefresh_down {s : State} (hu : s.spliceUp = true) (hl : s.lanesAligned = 0) : s.linkRefresh = s.linkDown := by
  simp [State.linkRefresh, hu, hl]

/-! ### Mirrored commits (R444, R456) -/

theorem Heard.role {s s1 : State} (h : Heard s s1) : s1.role = s.role :=
  h.get (f := SPLICE_STATUS_ROLE) (by decide) (by decide)

/-- What a follower does with a commit of its leader's epoch: in time it takes its place; late it is counted, recorded, and takes
its place for a later frame. -/
theorem State.commitIn_heard {s : State} {b : List Nat} {block : Nat} (h : s.hears 5 b) (hr : s.role = 2)
    (hb : (rxFrame b).data.getD 0 0 = block) (h1 : 1 ≤ block) (h5 : block ≤ 5) : ∃ s1 later, Heard s s1 ∧
      s.commitIn b = if s.applyInTime block (field (rxFrame b).data 4 4) then
          s1.commitMirrored block (field (rxFrame b).data 4 4) (wordsOf ((rxFrame b).data.drop 8))
        else ((s1.bump SPLICE_MIRROR_LATE_COMMITS).fault 0x0808 8 0).commitMirrored block later
          (wordsOf ((rxFrame b).data.drop 8)) := by
  obtain ⟨s1, heard, h1'⟩ := State.spliceIn_heard h
  obtain ⟨-, -, -, -, -, -, epoch, -⟩ := h
  have own : (s1.role != 2 || (rxFrame b).epoch != s1.get SPLICE_EPOCH_EPOCH) = false := by
    rw [h1'.role, hr, epoch, h1'.get (f := SPLICE_EPOCH_EPOCH) (by decide) (by decide)]
    simp
  have known : ((rxFrame b).data.getD 0 0 == 0 || decide (5 < (rxFrame b).data.getD 0 0)) = false := by
    rw [hb]
    simp only [Bool.or_eq_false_iff, beq_eq_false_iff_ne, decide_eq_false_iff_not]
    omega
  unfold State.commitIn
  rw [heard]
  dsimp only
  rw [own, if_neg Bool.false_ne_true, known, if_neg Bool.false_ne_true, h1'.applyInTime, hb]
  exact ⟨s1, _, h1', rfl⟩

theorem State.timingAccept_pending (s : State) (v : Timing) (frame : Option Nat) :
    (s.timingAccept v frame).timer.pending = some (v, s.now, frame) ∧
      (s.timingAccept v frame).flag STRIKE_SYNC_STATUS_COMMIT_PENDING = true := by
  refine ⟨rfl, ?_⟩
  rw [State.flag_iff, State.timingAccept, State.get_set_same _ _ (by decide)]
  rfl

/-- A timing commit in time is pending for its frame. -/
theorem State.commitIn_timing {s : State} {b : List Nat} (h : s.hears 5 b) (hr : s.role = 2)
    (hb : (rxFrame b).data.getD 0 0 = 1) (hi : s.applyInTime 1 (field (rxFrame b).data 4 4) = true) :
    (s.commitIn b).timer.pending =
        some (timingOf (wordsOf ((rxFrame b).data.drop 8)), s.now, some (field (rxFrame b).data 4 4)) ∧
      (s.commitIn b).flag STRIKE_SYNC_STATUS_COMMIT_PENDING = true := by
  obtain ⟨s1, later, h1, taken⟩ := State.commitIn_heard h hr hb (by decide) (by decide)
  rw [taken, if_pos hi, ← h1.now]
  exact State.timingAccept_pending s1 _ _

/-- A layer commit in time is pending for its frame. -/
theorem State.commitIn_layers {s : State} {b : List Nat} (h : s.hears 5 b) (hr : s.role = 2)
    (hb : (rxFrame b).data.getD 0 0 = 3) (hi : s.applyInTime 3 (field (rxFrame b).data 4 4) = true) :
    (s.commitIn b).braid.commit =
      some (layerCommitOf (wordsOf ((rxFrame b).data.drop 8)) s.now (field (rxFrame b).data 4 4)) := by
  obtain ⟨s1, later, h1, taken⟩ := State.commitIn_heard h hr hb (by decide) (by decide)
  rw [taken, if_pos hi, ← h1.now]
  rfl

/-- A late timing commit is pending for a later frame; LATE_COMMITS and a record tell of it. -/
theorem State.commitIn_timingLate {s : State} {b : List Nat} (h : s.hears 5 b) (hr : s.role = 2)
    (hb : (rxFrame b).data.getD 0 0 = 1) (hi : s.applyInTime 1 (field (rxFrame b).data 4 4) = false) :
    (s.commitIn b).timer.pending.map (·.1) = some (timingOf (wordsOf ((rxFrame b).data.drop 8))) ∧
      (s.commitIn b).get SPLICE_MIRROR_LATE_COMMITS =
        min (s.get SPLICE_MIRROR_LATE_COMMITS + 1) (2 ^ SPLICE_MIRROR_LATE_COMMITS.width - 1) ∧
      (s.records s.now = true → (s.commitIn b).newest = some (0x0808, 8, 0)) := by
  obtain ⟨s1, later, h1, taken⟩ := State.commitIn_heard h hr hb (by decide) (by decide)
  rw [taken, hi, if_neg Bool.false_ne_true]
  have counted : (s1.bump SPLICE_MIRROR_LATE_COMMITS).get SPLICE_MIRROR_LATE_COMMITS =
      min (s.get SPLICE_MIRROR_LATE_COMMITS + 1) (2 ^ SPLICE_MIRROR_LATE_COMMITS.width - 1) := by
    refine (State.get_set_same s1 _ (by decide)).trans ?_
    rw [h1.get (by decide) (by decide)]
    exact Nat.mod_eq_of_lt (Nat.lt_of_le_of_lt (Nat.min_le_right _ _) (by decide))
  refine ⟨rfl, ?_, fun hrec => ?_⟩
  · refine (State.get_set_other _ _ (by decide) (by decide)).trans ?_
    exact ((State.fault_elsewhere _ _ _ _ (by decide)).get (by decide)).trans counted
  · obtain ⟨free, locked, live⟩ := (s.records_iff s.now).mp hrec
    rw [max_self] at free
    have fatal : (s1.bump SPLICE_MIRROR_LATE_COMMITS).flag KEEPER_STATUS_FATAL = false :=
      (State.flag_set_other s1 _ (by decide) (by decide)).trans ((h1.flag (by decide) (by decide)).trans live)
    exact State.faultVal_newest (s := s1.bump SPLICE_MIRROR_LATE_COMMITS) rfl (h1.keeper ▸ h1.now ▸ free) (h1.house ▸ locked) fatal

/-! ### Set-level events (R457) -/

theorem State.setEvent_leader {s : State} (e : Event) (hr : s.role = 1) :
    (s.setEvent e).twin.lastSetSeq = s.get SPLICE_SET_SEQ_NEXT ∧
      (s.setEvent e).get SPLICE_SET_SEQ_NEXT = (s.get SPLICE_SET_SEQ_NEXT + 1) % 2 ^ 32 := by
  unfold State.setEvent
  rw [hr]
  extract_lets payload q s1 _ s2 s3
  have seq : s3.get SPLICE_SET_SEQ_NEXT = (q + 1) % 2 ^ 32 :=
    ((State.event_elsewhere s2 _).get (by decide)).trans (State.get_set_same s _ (by decide))
  have last : s3.twin.lastSetSeq = q := congrArg Twin.lastSetSeq (State.event_twin s2 _)
  rw [if_pos (by decide)]
  split
  · exact ⟨(State.sendSplice_twin Twin.lastSetSeq (fun _ _ _ => rfl) s3 _ _ _ _).trans last,
      ((State.sendSplice_elsewhere s3 _ _ _ _).get (by decide)).trans seq⟩
  · exact ⟨last, seq⟩

theorem State.eventIn_leader {s : State} {b : List Nat} (h : s.hears 8 b) (hr : s.role = 1) :
    (s.eventIn b).twin.lastSetSeq = s.get SPLICE_SET_SEQ_NEXT ∧
      (s.eventIn b).get SPLICE_SET_SEQ_NEXT = (s.get SPLICE_SET_SEQ_NEXT + 1) % 2 ^ 32 := by
  obtain ⟨s1, heard, h1⟩ := State.spliceIn_heard h
  have role : s1.role = 1 := h1.role.trans hr
  unfold State.eventIn
  rw [heard]
  dsimp only
  rw [role, if_pos (by decide), ← h1.get (f := SPLICE_SET_SEQ_NEXT) (by decide) (by decide)]
  exact State.setEvent_leader _ role

/-- A follower takes its leader's number of the record. -/
theorem State.eventIn_follower {s : State} {b : List Nat} (h : s.hears 8 b) (hr : s.role = 2) :
    (s.eventIn b).twin.lastSetSeq = field (rxFrame b).data 0 4 ∧
      (s.eventIn b).get SPLICE_SET_SEQ_NEXT = (field (rxFrame b).data 0 4 + 1) % 2 ^ 32 := by
  obtain ⟨s1, heard, h1⟩ := State.spliceIn_heard h
  have role : s1.role = 2 := h1.role.trans hr
  unfold State.eventIn
  rw [heard]
  dsimp -zeta only
  rw [role, if_neg (by decide), if_pos (by decide)]
  extract_lets q s2 _ s3 e s4
  have seq : s4.get SPLICE_SET_SEQ_NEXT = (q + 1) % 2 ^ 32 :=
    ((State.event_elsewhere s3 e).get (by decide)).trans ((State.get_set_same s1 _ (by decide)).trans (Nat.mod_mod _ _))
  have last : s4.twin.lastSetSeq = q := congrArg Twin.lastSetSeq (State.event_twin s3 e)
  split
  · exact ⟨(congrArg Twin.lastSetSeq (State.raise_twin s4 2)).trans last,
      ((State.raise_elsewhere s4 (by decide)).get (by decide)).trans seq⟩
  · exact ⟨last, seq⟩

/-! ### The MIRROR record (R453 to R455) -/

/-- What follows from a record leaves the frame shown for it alone, and no segment waits. -/
structure RecordShown (n : Nat) (s : State) : Prop where
  frame : s.reg SPLICE_MIRROR_FRAME_OFF = n
  segs : s.twin.segs = []

namespace RecordShown

variable {n : Nat} {s s' : State}

theorem of (h : RecordShown n s) (regs : s'.regs = s.regs) (segs : s'.twin.segs = s.twin.segs) : RecordShown n s' :=
  ⟨(congrArg (fun r => (rread r SPLICE_MIRROR_FRAME_OFF).toNat) regs).trans h.frame, segs.trans h.segs⟩

theorem elsewhere {bs : List Nat} (h : RecordShown n s) (he : Elsewhere bs s s') (hb : ¬ 11 ∈ bs)
    (twin : s'.twin = s.twin) : RecordShown n s' :=
  ⟨(he.reg hb).trans h.frame, (congrArg Twin.segs twin).trans h.segs⟩

theorem setReg {off v : Nat} (h : RecordShown n s) (ho : SPLICE_MIRROR_FRAME_OFF ≠ off) : RecordShown n (s.setReg off v) :=
  ⟨(State.reg_setReg_other s v ho).trans h.frame, h.segs⟩

theorem set {f : Field} {v : Nat} (h : RecordShown n s) (hf : SPLICE_MIRROR_FRAME_OFF ≠ f.off) : RecordShown n (s.set f v) :=
  ⟨(State.reg_set_other s v hf).trans h.frame, h.segs⟩

theorem ite {c : Prop} [Decidable c] {x y : State} (hx : RecordShown n x) (hy : RecordShown n y) :
    RecordShown n (if c then x else y) := by
  split
  · exact hx
  · exact hy

theorem foldl {β : Type} {l : List β} {f : State → β → State} (h : RecordShown n s)
    (hf : ∀ s, ∀ b ∈ l, RecordShown n s → RecordShown n (f s b)) : RecordShown n (l.foldl f s) := by
  induction l generalizing s with
  | nil => exact h
  | cons b l ih => exact ih (hf s b List.mem_cons_self h) fun s c hc => hf s c (List.mem_cons_of_mem _ hc)

theorem raise {k : Nat} (h : RecordShown n s) (hk : k < 8) : RecordShown n (s.raise k) :=
  h.elsewhere (State.raise_elsewhere s hk) (by decide) (State.raise_twin s k)

theorem event {e : Event} (h : RecordShown n s) : RecordShown n (s.event e) :=
  h.elsewhere (State.event_elsewhere s e) (by decide) (State.event_twin s e)

theorem faultVal {code source subject value limit : Nat} (h : RecordShown n s)
    (hr : (⟨code, source, subject, value, limit, 0, 0⟩ : Report).reaction = .nothing) :
    RecordShown n (s.faultVal code source subject value limit) :=
  h.elsewhere (State.faultVal_elsewhere s _ _ _ _ _ hr) (by decide) (State.accept_twin _ _ _ _ _ _ hr)

theorem relock (h : RecordShown n s) : RecordShown n s.relock :=
  ⟨(State.relock_reg s (by decide) (by decide)).trans h.frame, (congrArg Twin.segs s.relock_twin).trans h.segs⟩

theorem setPair {p : Nat} (h : RecordShown n s) : RecordShown n (s.setPair p) := .ite h ((h.set (by decide)).raise (by decide))

theorem mismatch {reason : Nat} (h : RecordShown n s) : RecordShown n (s.mismatch reason) := by
  unfold State.mismatch
  extract_lets s1 _ s2 s3
  have h1 : RecordShown n s1 := (h.setPair.set (by decide)).set (by decide)
  have h2 : RecordShown n s2 := h1.of rfl rfl
  have h3 : RecordShown n s3 := .ite h2.relock h2
  exact .ite h ((h3.faultVal rfl).event.raise (by decide))

theorem selectMirrored {bank e : Nat} (h : RecordShown n s) : RecordShown n (s.selectMirrored bank e) := by
  have latched : RecordShown n (s.latch WARP_MESH_STATUS_UNPAIRED) := (h.set (by decide)).of rfl rfl
  have accepted : RecordShown n (s.selectAccept bank e) :=
    ((((h.set (by decide)).set (by decide)).setReg (by decide)).set (by decide)).of rfl rfl
  exact .ite (latched.faultVal rfl) accepted

theorem stageLayers {r : List Nat} {e : Nat} (h : RecordShown n s) : RecordShown n (s.stageLayers r e) := by
  unfold State.stageLayers
  extract_lets cfgs s1
  have h1 : RecordShown n s1 := h.foldl fun x c hc hx => hx.foldl fun x i hi hx => hx.setReg ?_
  · clear_value s1
    exact RecordShown.set (h1.of rfl rfl) (by decide)
  · obtain ⟨l, hl, rfl⟩ := List.mem_map.mp hc
    have hl := List.mem_range.mp hl
    have hi := List.mem_range.mp hi
    simp only [layerOff, SPLICE_MIRROR_FRAME_OFF]
    omega

theorem frame_notMem_recToneRegs : SPLICE_MIRROR_FRAME_OFF ∉ recToneRegs := by decide

theorem resyncTake {r : List Nat} (h : RecordShown n s) : RecordShown n (s.resyncTake r) := by
  unfold State.resyncTake
  extract_lets e s1 bank s2 t s3 s4 w s5 s6 s7
  have h2 : RecordShown n s2 := .ite h.stageLayers h.stageLayers.selectMirrored
  have h3 : RecordShown n s3 := ((h2.setReg (by decide)).setReg (by decide)).setReg (by decide)
  have h4 : RecordShown n s4 := .ite h3 (RecordShown.set (h3.of rfl rfl) (by decide))
  have h5 : RecordShown n s5 := h4.foldl fun x o ho hx => hx.setReg fun e => frame_notMem_recToneRegs (e ▸ (List.of_mem_zip ho).1)
  have h6 : RecordShown n s6 := RecordShown.set (h5.of rfl rfl) (by decide)
  exact RecordShown.of (h6.setReg (by decide)) rfl rfl

end RecordShown

theorem leBytes_lt : ∀ l : List Nat, leBytes l < 256 ^ l.length
  | [] => Nat.one_pos
  | b :: l => by
    have := leBytes_lt l
    rw [leBytes, List.length_cons, Nat.pow_succ]
    omega

/-- A complete record shows its frame (R454). -/
theorem State.recordTaken_shown {s : State} (r : List Nat) (hs : s.twin.segs = []) : RecordShown (field r 4 4) (s.recordTaken r) := by
  have small : field r 4 4 < 2 ^ 32 := calc
    field r 4 4 < 256 ^ ((r.drop 4).take 4).length := leBytes_lt _
    _ ≤ 256 ^ 4 := Nat.pow_le_pow_right (by decide) (List.length_take_le _ _)
  have shown : RecordShown (field r 4 4) (s.setReg SPLICE_MIRROR_FRAME_OFF (field r 4 4)) :=
    ⟨(State.reg_setReg_same s _ _).trans (Nat.mod_eq_of_lt small), hs⟩
  unfold State.recordTaken
  extract_lets s1 s2 zone want d run _ s3
  have h2 : RecordShown (field r 4 4) s2 := shown.foldl fun x k hk hx => hx.setReg (by
    simp only [SPLICE_MIRROR_FRAME_OFF, SPLICE_PEER_HEAD_OFF]
    omega)
  have h3 : RecordShown (field r 4 4) s3 := h2.of rfl rfl
  refine .ite h2.mismatch (.ite (.ite h2 h2.resyncTake) (.ite h2 (.ite h3 ?_)))
  have recorded : RecordShown (field r 4 4) ((s3.bump SPLICE_MIRROR_DIFF_FRAMES).fault 0x0807 8 0) :=
    (RecordShown.set h3 (by decide)).faultVal rfl
  have reported : RecordShown (field r 4 4) (((s3.bump SPLICE_MIRROR_DIFF_FRAMES).fault 0x0807 8 0).twinEvent 14 false d) :=
    recorded.event.raise (by decide)
  exact RecordShown.set (RecordShown.of reported rfl rfl) (by decide)

/-- A record that comes whole in one segment is taken at once (R453). -/
theorem State.mirrorIn_whole {s : State} {b : List Nat} (h : s.hears 4 b) (hr : s.role = 2) (hs : s.twin.segs = [])
    (h0 : field (rxFrame b).data 4 4 = 0) (hl : field (rxFrame b).data 8 4 = ((rxFrame b).data.drop 16).length) :
    RecordShown (field ((rxFrame b).data.drop 16) 4 4) (s.mirrorIn b) := by
  obtain ⟨s1, heard, h1⟩ := State.spliceIn_heard h
  have role : s1.role = 2 := h1.role.trans hr
  have none_ : s1.twin.segs = [] := h1.segs.trans hs
  unfold State.mirrorIn
  rw [heard]
  dsimp -zeta only
  rw [role, if_neg (by decide)]
  extract_lets n total seg segs sorted
  have one : sorted = [(0, (rxFrame b).data.drop 16)] := by
    unfold sorted segs seg
    rw [none_, h0]
    rfl
  have whole : joinSegs total sorted [] = some ((rxFrame b).data.drop 16) := by
    rw [one]
    simp [joinSegs, total, hl]
  rw [whole]
  exact State.recordTaken_shown _ rfl

end Sys2Proof.Machine

open Sys2Proof Sys2Proof.Machine Sys2Proof.Machine.Reg

/-- Settles O57: a good frame that is heard leaves the timer and what the follower keeps of its leader as they were, so each
message does of it what its own type says. -/
theorem mirrorAndLink : Obligations.MirrorAndLink := by
  refine ⟨?timing, ?late, ?layers, ?record, ?follower, ?leader, ?reference, ?lost, ?up, ?down⟩
  case timing =>
    intro s t b h hr hb hi
    obtain ⟨pending, shown⟩ := State.commitIn_timing (State.pass_hears t h) (by simpa [State.role] using hr) hb hi
    refine ⟨_, rfl, ?_, ?_⟩
    · rw [State.run_timer, pending, State.pass_now]
    · rw [State.run_flag _ _ _ (by decide) (by decide) (by decide), shown]
  case late =>
    intro s t b h hr hb hi
    obtain ⟨pending, counted, recorded⟩ :=
      State.commitIn_timingLate (State.pass_hears t h) (by simpa [State.role] using hr) hb hi
    refine ⟨_, rfl, ?_, ?_, fun hrec => ?_⟩
    · rw [State.run_timer, pending]
    · rw [State.run_get _ _ _ (by decide) (by decide) (by decide), counted, State.pass_get]
    · rw [State.newest, State.run_keeper]
      exact recorded (by simpa [State.records] using hrec)
  case layers =>
    intro s t b h hr hb hi
    have pending := State.commitIn_layers (State.pass_hears t h) (by simpa [State.role] using hr) hb hi
    rw [State.pass_now, ← State.run_braid s t fun s => s.commitIn b] at pending
    exact ⟨_, rfl, pending⟩
  case record =>
    intro s t b h hr hs h0 hl
    obtain ⟨frame, segs⟩ := State.mirrorIn_whole (State.pass_hears t h) (by simpa [State.role] using hr)
      (by simpa using hs) h0 hl
    refine ⟨_, rfl, ?_, ?_⟩
    · rw [State.run_twin, segs]
    · rw [State.run_reg _ _ _ (by decide) (by decide), frame]
  case follower =>
    intro s t b h hr
    obtain ⟨last, next⟩ := State.eventIn_follower (State.pass_hears t h) (by simpa [State.role] using hr)
    refine ⟨_, rfl, ?_, ?_⟩
    · rw [State.run_twin, last]
    · rw [State.run_get _ _ _ (by decide) (by decide) (by decide), next]
  case leader =>
    intro s t b h hr
    obtain ⟨last, next⟩ := State.eventIn_leader (State.pass_hears t h) (by simpa [State.role] using hr)
    rw [State.pass_get] at last next
    refine ⟨_, rfl, ?_, ?_⟩
    · rw [State.run_twin, last]
    · rw [State.run_get _ _ _ (by decide) (by decide) (by decide), next]
  case reference =>
    intro s t b hr ha hv hn
    obtain ⟨last, valid, shown⟩ := State.timingIn_newer (s := s.pass t) (by simpa using hr) (by simpa using ha) hv
      (by simpa using hn)
    refine ⟨_, rfl, ?_, ?_, ?_⟩
    · rw [State.run_twin, last]
    · rw [State.run_timer, valid]
    · rw [State.run_flag _ _ _ (by decide) (by decide) (by decide), shown]
  case lost =>
    intro s t hr ha
    obtain ⟨invalid, shown⟩ := State.timingMissing_lost (s := s.pass t) (by simpa using hr) (by simpa using ha)
    refine ⟨_, rfl, ?_, ?_⟩
    · rw [State.run_timer, invalid]
    · rw [State.run_flag _ _ _ (by decide) (by decide) (by decide), shown]
  case up =>
    intro s t x ht hu hl hx hn hp
    have rises := State.linkRefresh_up (s := s.pass t) (x := x) (by simpa [State.twinRuns, State.twinEn] using ht)
      (by simpa [State.spliceUp] using hu) (by simpa [State.lanesAligned] using hl) (by simpa using hx) (by simpa using hn)
      (by simpa using hp)
    obtain ⟨up, pair⟩ := (s.pass t).linkUp_pair
    refine ⟨_, rfl, ?_, ?_⟩
    · rw [State.spliceUp, State.run_flag _ _ _ (by decide) (by decide) (by decide), rises]
      exact up
    · rw [State.run_get _ _ _ (by decide) (by decide) (by decide), rises, pair, State.pass_get]
  case down =>
    intro s t hu hl
    have falls := State.linkRefresh_down (s := s.pass t) (by simpa [State.spliceUp] using hu)
      (by simpa [State.lanesAligned] using hl)
    obtain ⟨down, resent, pair⟩ := (s.pass t).linkDown_clears
    refine ⟨_, rfl, ?_, ?_, ?_⟩
    · rw [State.spliceUp, State.run_flag _ _ _ (by decide) (by decide) (by decide), falls]
      exact down
    · rw [State.run_twin, falls, resent]
    · rw [State.run_get _ _ _ (by decide) (by decide) (by decide), falls, pair, State.pass_get]

end

section
/-! PROOF. The light rule as an invariant of every step (R365): each command is a run, and a run ends by settling. -/

namespace Sys2Proof.Machine

/-- A run ends in a state that keeps the light rule, whatever its effect does to the enables (R365, R464). -/
theorem State.run_lightSafe (s : State) (t : Nat) (f : State → State) : LightSafe (s.run t f) := by
  intro dark
  rw [State.run_house] at dark
  exact State.settle_dark _ _ _ dark

/-- Every command is an effect that runs at a time. -/
theorem exec_eq_run (c : Instr) (s : State) : ∃ (t : Nat) (f : State → State), exec c s = .next (s.run t f) := by
  cases c with
  | _ => exact ⟨_, _, rfl⟩

/-- A command that completes keeps the light rule, from any state. -/
theorem exec_lightSafe {c : Instr} {s s' : State} (e : exec c s = .next s') : LightSafe s' := by
  obtain ⟨t, f, runs⟩ := exec_eq_run c s
  rw [runs, Host.Outcome.next.injEq] at e
  exact e ▸ s.run_lightSafe t f

end Sys2Proof.Machine

open Sys2Proof Sys2Proof.Machine

/-- Settles O3: an idle step leaves the light as it is, and a command's run settles it. -/
theorem lightSafeKept : Obligations.LightSafeKept := by
  intro s s' safe e
  unfold step at e
  split at e
  · rw [Host.Outcome.next.injEq] at e
    exact e ▸ safe
  · exact exec_lightSafe e

end

section
/-! PROOF. Quadrant links, the peek capture, and the defect map's journal and window (R96, R113, R143, R145). -/

namespace Sys2Proof.Machine

open Reg

/-! ### Quadrant links (R96) -/

/-- A fault without a reaction is the newest record of a KEEPER that can record. -/
theorem State.fault_newest {s : State} {code source subject : Nat}
    (hr : (⟨code, source, subject, 0, 0, 0, 0⟩ : Report).reaction = .nothing) (hb : s.keeper.busyUntil ≤ s.now)
    (hl : s.house.pllUnlocked.contains 9 = false) (hf : s.flag KEEPER_STATUS_FATAL = false) :
    (s.fault code source subject).newest = some (code, source, subject) := State.faultVal_newest hr hb hl hf

/-- A quadrant link that lost training is down, with its error set. -/
theorem State.qlinkLoss_status (s : State) {q : Nat} (hq : q < 4) : (s.qlinkLoss q).qlinkUp q = false ∧
    (s.qlinkLoss q).flag ⟨STRIKE_QLINK_STATUS_OFF, 16 + q, 1⟩ = true := by
  unfold State.qlinkLoss
  rw [if_neg (Nat.not_le.mpr hq)]
  extract_lets s1 _ s2
  have reported : Elsewhere [1, 2] s2 (s2.fault 0x0508 5 (subj 16 q)) := State.fault_elsewhere _ _ _ _ rfl
  have strike : ¬ STRIKE_QLINK_STATUS_OFF / 65536 ∈ [1, 2] := by decide
  have up : s1.get ⟨STRIKE_QLINK_STATUS_OFF, q, 1⟩ = 0 := State.get_set_same _ 0 (show q + 1 ≤ 32 by omega)
  have err : s1.get ⟨STRIKE_QLINK_STATUS_OFF, 16 + q, 1⟩ = 1 :=
    (State.get_set_other _ 0 (show 16 + q + 1 ≤ 32 by omega) (.inr (.inl (show q + 1 ≤ 16 + q by omega)))).trans
      (State.get_set_same s 1 (show 16 + q + 1 ≤ 32 by omega))
  constructor
  · refine (reported.flag (f := ⟨STRIKE_QLINK_STATUS_OFF, q, 1⟩) strike).trans ?_
    exact beq_eq_false_iff_ne.mpr (up.trans_ne zero_ne_one)
  · refine (reported.flag (f := ⟨STRIKE_QLINK_STATUS_OFF, 16 + q, 1⟩) strike).trans ?_
    exact beq_iff_eq.mpr err

/-- The loss of a quadrant link is the newest record of a KEEPER that can record. -/
theorem State.qlinkLoss_newest {s : State} {q : Nat} (hq : q < 4) (hb : s.keeper.busyUntil ≤ s.now)
    (hl : s.house.pllUnlocked.contains 9 = false) (hf : s.flag KEEPER_STATUS_FATAL = false) :
    (s.qlinkLoss q).newest = some (0x0508, 5, subj 16 q) := by
  unfold State.qlinkLoss
  rw [if_neg (Nat.not_le.mpr hq)]
  extract_lets s1 _ s2
  have apart : KEEPER_STATUS_FATAL.off ≠ STRIKE_QLINK_STATUS_OFF := by decide
  have alive : s2.flag KEEPER_STATUS_FATAL = false :=
    ((State.flag_set_other _ 0 (by decide) (.inl apart)).trans (State.flag_set_other s 1 (by decide) (.inl apart))).trans hf
  exact State.fault_newest rfl hb hl alive

/-- A retrained link that a survey slot has begun comes up. -/
theorem State.qlinkTrained_begun {s : State} {q : Nat} (hq : q < 4) (hr : s.array.retrain.contains q = false) :
    s.qlinkTrained q = s.set ⟨STRIKE_QLINK_STATUS_OFF, q, 1⟩ 1 := by
  rw [State.qlinkTrained, hr, Bool.or_false, if_neg (by simpa using hq)]

/-! ### The peek capture (R113) -/

theorem State.writeStrike_peekGo (s : State) (m : Master) (v : Nat) :
    s.writeStrike m STRIKE_PEEK_CTRL_OFF v = s.peekGo v := rfl

/-- Bits that a mask keeps. -/
theorem getBits_and_mask {mask l k : Nat} (w : Nat) (h : ∀ i < k, mask.testBit (l + i) = true) :
    getBits (w &&& mask) l k = getBits w l k := by
  apply Nat.eq_of_testBit_eq
  intro i
  rw [testBit_getBits, testBit_getBits, Nat.testBit_and]
  by_cases hi : i < k
  · simp [h i hi]
  · simp [hi]

/-- The top bit of a word is GO. -/
theorem getBits_top {v : Word} (h : 2 ^ 31 ≤ v.toNat) : getBits v.toNat 31 1 = 1 := by
  have := v.isLt
  unfold getBits
  omega

/-- GO while a capture runs is discarded. -/
theorem State.peekGo_busy {s : State} {v : Nat} (hg : getBits v 31 1 = 1) (hb : s.flag STRIKE_PEEK_STATUS_BUSY = true) :
    s.peekGo v = s := by
  simp [State.peekGo, hg, hb]

/-- GO without a capture running begins one of the pixel that was written. -/
theorem State.peekGo_begins {s : State} {v : Nat} (hg : getBits v 31 1 = 1) (hb : s.flag STRIKE_PEEK_STATUS_BUSY = false) :
    (s.peekGo v).get STRIKE_PEEK_STATUS_BUSY = 1 ∧ (s.peekGo v).get STRIKE_PEEK_STATUS_DONE = 0 ∧
    (s.peekGo v).get STRIKE_PEEK_CTRL_X = getBits v 0 10 ∧ (s.peekGo v).get STRIKE_PEEK_CTRL_Y = getBits v 16 10 ∧
    (s.peekGo v).array.peekWait = 1 := by
  unfold State.peekGo
  extract_lets busy s1 s2
  have idle : busy = false := hb
  rw [if_neg (by simp [hg]), idle, if_neg (by decide)]
  have ctrl (f : Field) (hf : f.off = STRIKE_PEEK_CTRL_OFF) (h32 : f.lsb + f.width ≤ 32) (kept : ∀ i < f.width,
      (0x43FF03FF).testBit (f.lsb + i) = true) : s2.get f = getBits v f.lsb f.width := by
    have apart : f.off ≠ STRIKE_PEEK_STATUS_OFF := by rw [hf]; decide
    have written := State.get_setReg_same s (f := f) (v &&& 0x43FF03FF) h32
    rw [hf, getBits_and_mask _ kept] at written
    exact ((State.get_set_other _ _ h32 (.inl apart)).trans (State.get_set_other s1 _ h32 (.inl apart))).trans written
  refine ⟨State.get_set_same _ 1 (by decide), ?_, ctrl STRIKE_PEEK_CTRL_X rfl (by decide) (by decide),
    ctrl STRIKE_PEEK_CTRL_Y rfl (by decide) (by decide), rfl⟩
  exact (State.get_set_other _ _ (by decide) (.inr (.inl (by decide)))).trans (State.get_set_same s1 0 (by decide))

/-! ### The defect map's window (R145) -/

theorem State.writeStrike_defectIndex (s : State) (m : Master) (v : Nat) :
    s.writeStrike m STRIKE_DEFECT_INDEX_OFF v = s.defectIndex v := rfl

theorem State.defectWords_length (s : State) (i : Nat) : (s.defectWords i).length = 4 := by
  unfold State.defectWords
  split <;> rfl

/-- Words written in a row to registers apart: each register of the row reads its word, every other keeps its value. -/
theorem State.reg_setReg_row {off : Nat → Nat} (inj : Function.Injective off) (l : List Nat) (s : State) (k j : Nat) :
    ((l.zipIdx k).foldl (fun s p => s.setReg (off p.2) p.1) s).reg (off j) =
      if k ≤ j ∧ j < k + l.length then l.getD (j - k) 0 % 2 ^ 32 else s.reg (off j) := by
  induction l generalizing s k with
  | nil =>
    rw [if_neg (by simp)]
    rfl
  | cons w l ih =>
    rw [List.zipIdx_cons, List.foldl_cons, ih, List.length_cons]
    rcases Nat.lt_trichotomy j k with hj | rfl | hj
    · rw [if_neg (by omega), if_neg (by omega), State.reg_setReg_other _ _ (inj.ne (by omega))]
    · rw [if_neg (by omega), if_pos (by omega), State.reg_setReg_same, Nat.sub_self, List.getD_cons_zero]
    · obtain ⟨d, rfl⟩ := Nat.exists_eq_add_of_lt hj
      rw [State.reg_setReg_other _ _ (inj.ne (by omega)), show k + d + 1 - k = d + 1 by omega,
        show k + d + 1 - (k + 1) = d by omega, List.getD_cons_succ]
      exact if_congr (by omega) rfl rfl

theorem defectData_injective : Function.Injective STRIKE_DEFECT_DATA_OFF := by
  intro i j h
  simp only [STRIKE_DEFECT_DATA_OFF] at h
  omega

/-- The window's registers after its index was written: the index, READY and the entry's words. -/
theorem State.defectIndex_window (s : State) (v : Nat) : (s.defectIndex v).get STRIKE_DEFECT_INDEX_INDEX = v % 2 ^ 14 ∧
    (s.defectIndex v).get STRIKE_DEFECT_INDEX_READY = 1 ∧
    ∀ i < 4, (s.defectIndex v).reg (STRIKE_DEFECT_DATA_OFF i) = (s.defectWords (v % 2 ^ 14)).getD i 0 % 2 ^ 32 := by
  unfold State.defectIndex
  extract_lets i s1
  have kept (f : Field) (hf : f.off = STRIKE_DEFECT_INDEX_OFF) :
      (((s1.defectWords i).zipIdx).foldl (fun s p => s.setReg (STRIKE_DEFECT_DATA_OFF p.2) p.1) s1).get f = s1.get f := by
    refine foldl_keeps (·.get f) _ (fun s p => State.get_setReg_other _ _ ?_) _ s1
    rw [hf, STRIKE_DEFECT_INDEX_OFF, STRIKE_DEFECT_DATA_OFF]
    omega
  refine ⟨?_, ?_, fun j hj => ?_⟩
  · rw [kept _ rfl]
    exact ((State.get_set_other _ 1 (by decide) (.inr (.inr (by decide)))).trans (State.get_set_same s i (by decide))).trans
      (Nat.mod_mod _ _)
  · rw [kept _ rfl]
    exact State.get_set_same _ 1 (by decide)
  · rw [State.reg_setReg_row defectData_injective, State.defectWords_length, if_pos (by omega), Nat.sub_zero]
    rfl

end Sys2Proof.Machine

open Sys2Proof Sys2Proof.Machine Sys2Proof.Machine.Reg

/-- Settles O23: each command is one operation of the array, whose own registers neither its report nor settling changes. -/
theorem linksPeekAndDefects : Obligations.LinksPeekAndDefects := by
  refine ⟨?loss, ?trained, ?peek, ?peekBusy, ?journalAlone, ?journal, ?window⟩
  case loss =>
    intro s t q hq hr
    obtain ⟨hb, hl, hf⟩ := (s.records_iff t).mp hr
    obtain ⟨down, err⟩ := (s.pass t).qlinkLoss_status hq
    have newest := State.qlinkLoss_newest (s := s.pass t) hq (by simpa using hb) (by simpa using hl) (by simpa using hf)
    have awayA : STRIKE_QLINK_STATUS_OFF ≠ GUARD_A_STATUS_OFF := by decide
    have awayB : STRIKE_QLINK_STATUS_OFF ≠ GUARD_B_STATUS_OFF := by decide
    refine ⟨_, rfl, ?_, ?_, ?_⟩
    · rw [State.qlinkUp, State.run_flag _ _ _ (show q + 1 ≤ 32 by omega) (.inl awayA) (.inl awayB)]
      exact down
    · rw [State.run_flag _ _ _ (show 16 + q + 1 ≤ 32 by omega) (.inl awayA) (.inl awayB)]
      exact err
    · rw [State.newest, State.run_keeper]
      exact newest
  case trained =>
    intro s t q hq hr hs
    have up := State.qlinkTrained_begun (s := s.pass t) hq (by simpa using hr)
    have strike : STRIKE_QLINK_STATUS_OFF / 65536 ∈ [7] := by decide
    exact congrArg Host.Outcome.next (State.run_strike hs up rfl rfl rfl (Elsewhere.set (.refl _ _) 1 strike))
  case peek =>
    intro s t m v ht hv hb
    obtain ⟨busy, done, x, y, wait⟩ := State.peekGo_begins (s := s.pass t) (getBits_top hv) (by simpa using hb)
    have effect := State.regWrite_strike v.toNat ht (by decide)
    rw [State.writeStrike_peekGo] at effect
    have shown (f : Field) (hf : f.off / 65536 = 7) (h32 : f.lsb + f.width ≤ 32) :
        (s.run t fun s => s.regWrite m STRIKE_PEEK_CTRL_OFF 4 v.toNat).get f = ((s.pass t).peekGo v.toNat).get f := by
      have away (o : Nat) (ho : o / 65536 ≠ 7) : f.off ≠ o := fun e => ho (e ▸ hf)
      rw [State.run_get _ _ _ h32 (.inl (away _ (by decide))) (.inl (away _ (by decide))), effect]
      rfl
    refine ⟨_, rfl, ?_, ?_, ?_, ?_, ?_⟩
    · exact (shown _ (by decide) (by decide)).trans busy
    · exact (shown _ (by decide) (by decide)).trans done
    · exact (shown _ (by decide) (by decide)).trans x
    · exact (shown _ (by decide) (by decide)).trans y
    · rw [State.run_array, effect]
      exact wait
  case peekBusy =>
    intro s t m v ht hv hb hs
    have same := State.peekGo_busy (s := s.pass t) (getBits_top hv) (by simpa using hb)
    rw [← State.writeStrike_peekGo _ m] at same
    exact congrArg Host.Outcome.next (State.run_strikeWrite hs ht (by decide) same rfl rfl rfl (.refl _ _))
  case journalAlone =>
    intro s t hs
    exact congrArg Host.Outcome.next (State.run_strike hs rfl rfl rfl rfl (.of_regs rfl))
  case journal =>
    intro s t
    have taken : (s.pass t).defectJournal.array.journal = s.array.defects := congrArg EmArray.defects (State.pass_array s t)
    exact ⟨_, rfl, (congrArg EmArray.journal (State.run_array s t _)).trans taken⟩
  case window =>
    intro s t i m v ht hi
    obtain ⟨index, ready, data⟩ := (s.pass t).defectIndex_window v.toNat
    have effect := State.regWrite_strike v.toNat ht (by decide)
    rw [State.writeStrike_defectIndex] at effect
    have words : (s.pass t).defectWords (v.toNat % 2 ^ 14) = s.defectWords (v.toNat % 2 ^ 14) := by
      simp only [State.defectWords, State.pass_array]
    refine ⟨_, rfl, ?_, ?_, ?_⟩
    · rw [State.run_get _ _ _ (by decide) (by decide) (by decide), effect]
      exact index
    · rw [State.run_get _ _ _ (by decide) (by decide) (by decide), effect]
      exact ready
    · rw [State.run_reg _ _ _ (by simp [STRIKE_DEFECT_DATA_OFF, GUARD_A_STATUS_OFF]; omega)
        (by simp [STRIKE_DEFECT_DATA_OFF, GUARD_B_STATUS_OFF]; omega), effect, ← words]
      exact data i hi

end

section
/-! PROOF. Rail protection and temperatures (R131, R132, R146 to R148): what the DARK reaction to a rail's fault leaves alone, a
buck that stops with its fault, and the readings of the sensors. -/

namespace Sys2Proof.Machine

open Reg

/-! ### A fault with the DARK reaction -/

theorem State.disable_elsewhere (s : State) : Elsewhere [9, 10] s s.disable :=
  ((Elsewhere.refl _ s).set (f := GUARD_A_STATUS_EN_A) 0 (by decide)).set (f := GUARD_B_STATUS_EN_B) 0 (by decide)

theorem openBit_block (b : Nat) : (openBit b).off / 65536 = 1 := by
  rcases openBit_off b with h | h <;> rw [h] <;> rfl

/-- What KEEPER does with a report shows in its own block and to the host. -/
theorem State.collect_elsewhere (s : State) (r : Report) (real injected react strict : Bool) :
    Elsewhere [1, 2] s (s.collect r real injected react strict) := by
  unfold State.collect
  extract_lets cls full s1 s2 busy lost
  have h1 : Elsewhere [1, 2] s s1 := by
    refine (Elsewhere.refl _ s).bump ?_
    clear_value cls
    split <;> decide
  have h2 : Elsewhere [1, 2] s s2 := by
    unfold s2
    split
    · split
      · exact .ite (h1.set 1 (by simp [openBit_block])) h1
      · exact h1
    · exact h1
  exact .ite (h2.trans (State.lose_elsewhere _)) (h2.trans (State.record_elsewhere _ _ _ _ _))

theorem State.faultVal_dark {s : State} {code source subject value limit : Nat}
    (h : (⟨code, source, subject, value, limit, 0, 0⟩ : Report).reaction = .dark) :
    s.faultVal code source subject value limit = (s.collect ⟨code, source, subject, value, limit, 0, 0⟩ true
      (s.injecting ⟨code, source, subject, value, limit, 0, 0⟩) false false).reactDark.driveErr := by
  rw [State.faultVal, State.report, State.accept, h]
  rfl

/-- A fault that leads to DARK changes registers of HOUSE, KEEPER, HOST and the two guards alone. -/
theorem State.faultVal_dark_elsewhere (s : State) {code source subject value limit : Nat}
    (h : (⟨code, source, subject, value, limit, 0, 0⟩ : Report).reaction = .dark) :
    Elsewhere [0, 1, 2, 9, 10] s (s.faultVal code source subject value limit) := by
  rw [State.faultVal_dark h]
  have taken := (s.collect_elsewhere ⟨code, source, subject, value, limit, 0, 0⟩ true
    (s.injecting ⟨code, source, subject, value, limit, 0, 0⟩) false false).mono (cs := [0, 1, 2, 9, 10]) (by decide)
  exact ((taken.trans ((State.disable_elsewhere _).mono (by decide))).trans ((State.reactDark_elsewhere _).mono (by decide))).trans
    ((State.driveErr_elsewhere _).mono (by decide))

/-- What the answers to waiting descriptors and the end of a change leave alone stands when a change is abandoned. -/
theorem State.abandon_keeps {α : Type} {status detail : Nat} (p : State → α)
    (answered : ∀ (x : State) (w : Option (Nat × Nat)), p (x.answer w status detail) = p x)
    (ended : ∀ (x : State) (i : Intake) (w : Twin), p ({ x with
      house := { x.house with change := none, stop := none, heldWake := none }, intake := i, twin := w }).showChange = p x)
    (s : State) : p (s.abandon status detail) = p s := by
  unfold State.abandon
  extract_lets s1 s2 s3 s4
  have h1 : p s1 = p s := by
    unfold s1
    split
    · rfl
    · exact answered _ _
  have h2 : p s2 = p s1 := by
    unfold s2
    split
    · rfl
    · exact answered _ _
  have h3 : p s3 = p s2 := by
    unfold s3
    split
    · rfl
    · exact answered _ _
  have h4 : p s4 = p s3 := by
    unfold s4
    split
    · rfl
    · exact answered _ _
  calc p _ = p s4 := ended s4 _ _
    _ = p s := h4.trans (h3.trans (h2.trans h1))

theorem State.abandon_anode (s : State) (status detail : Nat) : (s.abandon status detail).anode = s.anode :=
  State.abandon_keeps (·.anode) (fun _ _ => State.answer_anode _ _ _ _) (fun _ _ _ => State.showChange_anode _) s

theorem State.reactDark_anode (s : State) : s.reactDark.anode = s.anode := by
  have leaves (c : Option Change) : ((s.disable.abandon 0x0E 0x8A).setChange c).anode = s.anode :=
    (State.showChange_anode _).trans ((State.abandon_anode _ _ _).trans s.disable_anode)
  unfold State.reactDark
  extract_lets s1
  split
  · split
    · exact s.disable_anode
    · exact leaves _
  · split
    · exact s.disable_anode
    · exact leaves _
  · exact s.disable_anode

theorem State.faultVal_dark_anode (s : State) {code source subject value limit : Nat}
    (h : (⟨code, source, subject, value, limit, 0, 0⟩ : Report).reaction = .dark) :
    (s.faultVal code source subject value limit).anode = s.anode := by
  rw [State.faultVal_dark h, State.driveErr_anode, State.reactDark_anode, State.collect_anode]

/-- The open bit of a continuing fault stays set through its DARK reaction. -/
theorem State.faultVal_dark_open (s : State) {code source subject value limit b kind : Nat}
    (hf : faultRow code = some ⟨code, 1, some b, kind, .dark⟩) (h40 : b < 40)
    (h : (⟨code, source, subject, value, limit, 0, 0⟩ : Report).reaction = .dark) :
    (s.faultVal code source subject value limit).flag (openBit b) = true := by
  rw [State.faultVal_dark h]
  have apart {o : Nat} (ho : o / 65536 ≠ 1) : (openBit b).off ≠ o := fun e => ho (e ▸ openBit_block b)
  have kept : (openBit b).off ≠ KEEPER_STATUS_OFF := by
    rcases openBit_off b with h | h <;> rw [h] <;> decide
  refine (State.flag_of_reg ?_).trans (State.collect_open (s := s) (r := ⟨code, source, subject, value, limit, 0, 0⟩) true
    (s.injecting ⟨code, source, subject, value, limit, 0, 0⟩) false false hf rfl h40 (by simp [Report.class_, hf]) rfl)
  rw [State.driveErr_reg _ kept, (State.reactDark_elsewhere _).reg (by simp [openBit_block]),
    State.disable_reg _ (apart (by decide)) (apart (by decide))]

/-! ### A buck that stops (R131, R132) -/

/-- A colour's buck stands still, stopped by itself, with its set point at 0 and an open bit set. -/
def State.BuckTripped (s : State) (c b : Nat) : Prop :=
  s.buckRuns c = false ∧ s.get (ANODE_RAIL_V_VSET c) = 0 ∧ s.flag (openBit b) = true ∧ s.anode.stopped.contains c = true

theorem State.showRailLim_elsewhere (s : State) : Elsewhere [6] s s.showRailLim :=
  Elsewhere.foldl _ _ (fun x _ _ => (Elsewhere.refl _ x).setFlag _ (by simp [TONE_GOV_STATUS_OFF])) s

theorem State.showRailLim_anode (s : State) : s.showRailLim.anode = s.anode :=
  foldl_keeps (·.anode) (fun (s : State) c => s.setFlag ⟨TONE_GOV_STATUS_OFF, 28 + c, 1⟩
    (s.flag ⟨ANODE_RAIL_STATUS_OFF, 4 + c, 1⟩ || s.anode.high.contains c)) (fun _ _ => rfl) (List.range 4) s

theorem railV_fits (c : Nat) : (ANODE_RAIL_V_VSET c).lsb + (ANODE_RAIL_V_VSET c).width ≤ 32 := Nat.le_refl 32

/-- The registers of a rail's voltage stand in the ANODE block. -/
theorem railV_block {c : Nat} (hc : c < 4) : ANODE_RAIL_V_OFF c / 65536 = 8 := by
  unfold ANODE_RAIL_V_OFF
  omega

theorem railV_ne_status {c : Nat} (hc : c < 4) : ANODE_RAIL_V_OFF c ≠ ANODE_RAIL_STATUS_OFF := by
  unfold ANODE_RAIL_V_OFF ANODE_RAIL_STATUS_OFF
  omega

/-- A buck that stops changes the rails' status and its own voltage register of the ANODE block. -/
theorem State.buckStops_reg (s : State) (c : Nat) {o : Nat} (h6 : o / 65536 ≠ 6) (hs : o ≠ ANODE_RAIL_STATUS_OFF)
    (hv : o ≠ ANODE_RAIL_V_OFF c) : (s.buckStops c).reg o = s.reg o := by
  unfold State.buckStops
  extract_lets _ s1 s2
  calc ((s2.set (ANODE_RAIL_V_VSET c) 0).touch.showRailLim).reg o
      = (s2.set (ANODE_RAIL_V_VSET c) 0).touch.reg o := (State.showRailLim_elsewhere _).reg (by simpa using h6)
    _ = s2.reg o := State.reg_set_other s2 0 hv
    _ = s.reg o := (State.reg_set_other _ 0 hs).trans (State.reg_set_other s1 0 hs)

theorem State.buckStops_rail (s : State) {c : Nat} (hc : c < 4) : (s.buckStops c).buckRuns c = false ∧
    (s.buckStops c).get (ANODE_RAIL_V_VSET c) = 0 := by
  unfold State.buckStops
  extract_lets _ s1 s2
  have run : (⟨ANODE_RAIL_STATUS_OFF, c, 1⟩ : Field).lsb + 1 ≤ 32 := Nat.le_trans hc (by decide)
  have limits := State.showRailLim_elsewhere (s2.set (ANODE_RAIL_V_VSET c) 0).touch
  have stopped : s2.get ⟨ANODE_RAIL_STATUS_OFF, c, 1⟩ = 0 :=
    (State.get_set_other _ 0 run (.inr (.inr (Nat.le_trans hc (Nat.le_add_right 4 c))))).trans
      (State.get_set_same s1 0 run)
  constructor
  · refine (limits.flag (f := ⟨ANODE_RAIL_STATUS_OFF, c, 1⟩) (by simp [ANODE_RAIL_STATUS_OFF])).trans ?_
    refine (State.flag_set_other s2 0 run (.inl (railV_ne_status hc).symm)).trans ?_
    rw [State.flag_iff, stopped]
    rfl
  · refine (limits.get (by simp [ANODE_RAIL_V_VSET, railV_block hc])).trans ?_
    exact State.get_set_same s2 0 (railV_fits c)

theorem State.buckStops_stopped (s : State) (c : Nat) : (s.buckStops c).anode.stopped.contains c = true := by
  unfold State.buckStops
  rw [State.showRailLim_anode]
  change (if s.anode.stopped.contains c then s.anode.stopped else c :: s.anode.stopped).contains c = true
  split
  · assumption
  · simp

/-- A running buck that stops with a continuing fault whose reaction is DARK. -/
theorem State.buckStops_tripped (s : State) {c b code subject value limit : Nat} (hc : c < 4) (h40 : b < 40)
    (hf : faultRow code = some ⟨code, 1, some b, 8, .dark⟩)
    (h : (⟨code, 6, subject, value, limit, 0, 0⟩ : Report).reaction = .dark) :
    ((s.buckStops c).faultVal code 6 subject value limit).BuckTripped c b := by
  have rails : Elsewhere [0, 1, 2, 9, 10] _ _ := (s.buckStops c).faultVal_dark_elsewhere h
  obtain ⟨runs, vset⟩ := s.buckStops_rail hc
  refine ⟨?_, ?_, State.faultVal_dark_open _ hf h40 h, ?_⟩
  · exact (rails.flag (f := ⟨ANODE_RAIL_STATUS_OFF, c, 1⟩) (by simp [ANODE_RAIL_STATUS_OFF])).trans runs
  · exact (rails.get (by simp [ANODE_RAIL_V_VSET, railV_block hc])).trans vset
  · rw [State.faultVal_dark_anode _ h]
    exact s.buckStops_stopped c

/-- TONE's rail-limit input leaves a tripped buck as it is. -/
theorem State.BuckTripped.showRailLim {s : State} {c b : Nat} (h : s.BuckTripped c b) (hc : c < 4) :
    s.showRailLim.BuckTripped c b := by
  obtain ⟨runs, vset, opened, stopped⟩ := h
  have tone := s.showRailLim_elsewhere
  refine ⟨?_, ?_, ?_, s.showRailLim_anode ▸ stopped⟩
  · exact (tone.flag (f := ⟨ANODE_RAIL_STATUS_OFF, c, 1⟩) (by simp [ANODE_RAIL_STATUS_OFF])).trans runs
  · exact (tone.get (by simp [ANODE_RAIL_V_VSET, railV_block hc])).trans vset
  · exact (tone.flag (by simp [openBit_block])).trans opened

/-- A command that trips a buck leaves it tripped. -/
theorem State.BuckTripped.run {s : State} {t c b : Nat} {g : State → State} (h : (g (s.pass t)).BuckTripped c b) (hc : c < 4)
    (hb : b < 40) : (s.run t g).BuckTripped c b := by
  obtain ⟨runs, vset, opened, stopped⟩ := h
  have away {o k : Nat} (ho : o / 65536 = k) (g : Nat) (hg : g / 65536 ≠ k) : o ≠ g := fun e => hg (e ▸ ho)
  have status : ANODE_RAIL_STATUS_OFF / 65536 = 8 := rfl
  refine ⟨?_, ?_, ?_, by rwa [State.run_anode]⟩
  · rw [State.buckRuns, State.run_flag s t g (Nat.le_trans hc (by decide)) (.inl (away status _ (by decide)))
      (.inl (away status _ (by decide)))]
    exact runs
  · rw [State.run_get s t g (railV_fits c) (.inl (away (railV_block hc) _ (by decide)))
      (.inl (away (railV_block hc) _ (by decide)))]
    exact vset
  · rw [State.run_flag s t g (openBit_fits hb) (.inl (away (openBit_block b) _ (by decide)))
      (.inl (away (openBit_block b) _ (by decide)))]
    exact opened

@[simp] theorem State.pass_buckRuns (s : State) (t c : Nat) : (s.pass t).buckRuns c = s.buckRuns c := State.pass_flag s t _

theorem State.railLimit_limits {s : State} {c : Nat} (hr : s.buckRuns c = true) :
    ∃ v : Anode, s.railLimit c = { s with anode := v } ∧ v.limiting.contains c = true := by
  unfold State.railLimit
  split
  · exact ⟨_, rfl, by simp⟩
  · next h => exact ⟨s.anode, rfl, by simpa [hr] using h⟩

theorem State.railOc_tripped {s : State} {c : Nat} (ma : Nat) (hc : c < 4) (hr : s.buckRuns c = true) :
    (s.railOc c ma).BuckTripped c 12 := by
  rw [State.railOc, hr, if_neg (by simpa using hc)]
  exact s.buckStops_tripped hc (by decide) rfl rfl

theorem State.railVolt_tripped {s : State} {c : Nat} (high : Bool) (mv : Nat) (hc : c < 4) (hr : s.buckRuns c = true) :
    (s.railVolt c high mv).BuckTripped c (if high then 14 else 15) := by
  rw [State.railVolt, hr, if_neg (by simpa using hc)]
  cases high with
  | true => exact s.buckStops_tripped hc (by decide) rfl rfl
  | false => exact s.buckStops_tripped hc (by decide) rfl rfl

/-! ### The averages of a rail's current (R131) -/

/-- The 100 ms average of a rail is shown, and whether it exceeds 40 A. -/
def State.railAveraged (s : State) (c i100 : Nat) : State :=
  let s := s.set (ANODE_RAIL_I_I_100MS c) (min i100 0xFFFF)
  let wasHigh := s.anode.high.contains c
  let high := decide (4000 < i100)
  let others := s.anode.high.filter (· != c)
  let s := { s with anode := { s.anode with high := if high then c :: others else others } }
  if high && !wasHigh then
    (s.latch ⟨ANODE_RAIL_STATUS_OFF, 8 + c, 1⟩).faultVal 0x0602 6 (subj 8 c) i100 4000 else s

/-- What the averages of a rail's current stop its buck for. -/
def State.railChecked (s : State) (c i1s i10 : Nat) : State :=
  if !s.buckRuns c then s
  else if 6000 < i10 then (s.buckStops c).faultVal 0x0601 6 (subj 8 c) i10 6000
  else if 4200 < i1s then (s.buckStops c).faultVal 0x0603 6 (subj 8 c) i1s 4200
  else if 3 ≤ sget (fun _ => 0) s.anode.diffRun c then (s.buckStops c).fault 0x0606 6 (subj 8 c)
  else s

theorem State.railAverage_eq (s : State) {c : Nat} (hc : c < 4) (i1s i100 i10 : Nat) :
    s.railAverage c i1s i100 i10 = ((s.railAveraged c i100).railChecked c i1s i10).showRailLim := if_pos hc

theorem railI_fits (c : Nat) : (ANODE_RAIL_I_I_100MS c).lsb + (ANODE_RAIL_I_I_100MS c).width ≤ 32 := Nat.le_refl 32

/-- The registers of a rail's current stand in the ANODE block. -/
theorem railI_block {c : Nat} (hc : c < 4) : (ANODE_RAIL_I_I_100MS c).off / 65536 = 8 := by
  simp only [ANODE_RAIL_I_I_100MS, ANODE_RAIL_I_OFF]
  omega

theorem railI_ne_status {c : Nat} (hc : c < 4) : (ANODE_RAIL_I_I_100MS c).off ≠ ANODE_RAIL_STATUS_OFF := by
  simp only [ANODE_RAIL_I_I_100MS, ANODE_RAIL_I_OFF, ANODE_RAIL_STATUS_OFF]
  omega

/-- A rail's high current is shown and reported without a reaction. -/
theorem State.railAveraged_shows (s : State) {c : Nat} (hc : c < 4) (i100 : Nat) :
    (s.railAveraged c i100).get (ANODE_RAIL_I_I_100MS c) = min i100 0xFFFF ∧ (s.railAveraged c i100).buckRuns c = s.buckRuns c ∧
      (s.railAveraged c i100).anode.diffRun = s.anode.diffRun := by
  unfold State.railAveraged
  extract_lets s1 wasHigh high others _ s2
  have fits : (⟨ANODE_RAIL_STATUS_OFF, c, 1⟩ : Field).lsb + 1 ≤ 32 := Nat.le_trans hc (by decide)
  have shown : s2.get (ANODE_RAIL_I_I_100MS c) = min i100 0xFFFF :=
    (State.get_set_same s _ (railI_fits c)).trans (Nat.mod_eq_of_lt (show min i100 0xFFFF < 2 ^ 16 by omega))
  have runs : s2.buckRuns c = s.buckRuns c := State.flag_set_other s _ fits (.inl (railI_ne_status hc).symm)
  split
  · have told := State.faultVal_elsewhere (s2.latch ⟨ANODE_RAIL_STATUS_OFF, 8 + c, 1⟩) 0x0602 6 (subj 8 c) i100 4000 rfl
    refine ⟨?_, ?_, ?_⟩
    · refine (told.get (by simp [railI_block hc])).trans ?_
      exact (State.get_set_other s2 1 (railI_fits c) (.inl (railI_ne_status hc))).trans shown
    · refine ((told.flag (f := ⟨ANODE_RAIL_STATUS_OFF, c, 1⟩) (by simp [ANODE_RAIL_STATUS_OFF])).trans ?_).trans runs
      exact State.flag_set_other s2 1 fits (.inr (.inr (show c + 1 ≤ 8 + c by omega)))
    · rw [State.faultVal, State.report, State.accept_anode _ _ _ _ _ _ rfl]
      rfl
  · exact ⟨shown, runs, rfl⟩

/-- A rail's average current stays shown through what stops its buck. -/
theorem State.railChecked_get (s : State) {c : Nat} (hc : c < 4) (i1s i10 : Nat) :
    (s.railChecked c i1s i10).get (ANODE_RAIL_I_I_100MS c) = s.get (ANODE_RAIL_I_I_100MS c) := by
  have voltage : (ANODE_RAIL_I_I_100MS c).off ≠ ANODE_RAIL_V_OFF c := by
    simp [ANODE_RAIL_I_I_100MS, ANODE_RAIL_I_OFF, ANODE_RAIL_V_OFF]
  have tripped {code value limit : Nat}
      (h : (⟨code, 6, subj 8 c, value, limit, 0, 0⟩ : Report).reaction = .dark) :
      ((s.buckStops c).faultVal code 6 (subj 8 c) value limit).get (ANODE_RAIL_I_I_100MS c) = s.get (ANODE_RAIL_I_I_100MS c) :=
    ((State.faultVal_dark_elsewhere _ h).get (by simp [railI_block hc])).trans
      (State.get_of_reg (s.buckStops_reg c (by simp [railI_block hc]) (railI_ne_status hc) voltage))
  unfold State.railChecked
  split
  · rfl
  · split
    · exact tripped rfl
    · split
      · exact tripped rfl
      · split
        · exact tripped rfl
        · rfl

theorem State.railAverage_get (s : State) {c : Nat} (hc : c < 4) (i1s i100 i10 : Nat) :
    (s.railAverage c i1s i100 i10).get (ANODE_RAIL_I_I_100MS c) = min i100 0xFFFF := by
  obtain ⟨shown, -, -⟩ := s.railAveraged_shows hc i100
  rw [State.railAverage_eq _ hc, (State.showRailLim_elsewhere _).get (by simp [railI_block hc]), State.railChecked_get _ hc, shown]

theorem State.railAverage_10ms {s : State} {c i10 : Nat} (i1s i100 : Nat) (hc : c < 4) (hr : s.buckRuns c = true)
    (h : 6000 < i10) : (s.railAverage c i1s i100 i10).BuckTripped c 12 := by
  obtain ⟨-, runs, -⟩ := s.railAveraged_shows hc i100
  rw [State.railAverage_eq _ hc, State.railChecked, runs, hr, if_neg (by decide), if_pos h]
  exact (State.buckStops_tripped _ hc (by decide) rfl rfl).showRailLim hc

theorem State.railAverage_1s {s : State} {c i1s i10 : Nat} (i100 : Nat) (hc : c < 4) (hr : s.buckRuns c = true)
    (h10 : i10 ≤ 6000) (h : 4200 < i1s) : (s.railAverage c i1s i100 i10).BuckTripped c 13 := by
  obtain ⟨-, runs, -⟩ := s.railAveraged_shows hc i100
  rw [State.railAverage_eq _ hc, State.railChecked, runs, hr, if_neg (by decide), if_neg (Nat.not_lt.mpr h10), if_pos h]
  exact (State.buckStops_tripped _ hc (by decide) rfl rfl).showRailLim hc

theorem State.railAverage_differs {s : State} {c i1s i10 : Nat} (i100 : Nat) (hc : c < 4) (hr : s.buckRuns c = true)
    (h10 : i10 ≤ 6000) (h1 : i1s ≤ 4200) (hd : 3 ≤ sget (fun _ => 0) s.anode.diffRun c) :
    (s.railAverage c i1s i100 i10).BuckTripped c 16 := by
  obtain ⟨-, runs, diff⟩ := s.railAveraged_shows hc i100
  rw [State.railAverage_eq _ hc, State.railChecked, runs, hr, diff, if_neg (by decide), if_neg (Nat.not_lt.mpr h10),
    if_neg (Nat.not_lt.mpr h1), if_pos hd]
  exact (State.buckStops_tripped _ hc (by decide) rfl rfl).showRailLim hc

/-! ### The sensors (R146 to R148) -/

/-- What the register of a sensor shows of a reading. -/
def tempShown (r : Option Int) : Nat :=
  match validTemp r with
  | some v => twos 16 v
  | none => 0x8000

theorem tempShown_lt (r : Option Int) : tempShown r < 2 ^ 16 := by
  unfold tempShown
  split
  · unfold twos
    omega
  · decide

theorem temp_fits (i : Nat) : (ANODE_TEMP_TEMP i).lsb + (ANODE_TEMP_TEMP i).width ≤ 32 := by simp [ANODE_TEMP_TEMP]

theorem temp_block {i : Nat} (hi : i < 45) : (ANODE_TEMP_TEMP i).off / 65536 = 8 := by
  simp only [ANODE_TEMP_TEMP, ANODE_TEMP_OFF]
  omega

/-- A sensor's reading is set in its register; what else follows is a report without a reaction. -/
theorem State.readSensor_reads (s : State) (i : Nat) (r : Option Int) : ∃ s1 : State, s1.regs = s.regs ∧
    Elsewhere [1, 2] (s1.set (ANODE_TEMP_TEMP i) (tempShown r)) (s.readSensor i r) := by
  unfold State.readSensor tempShown
  cases validTemp r with
  | some v => exact ⟨_, rfl, .refl _ _⟩
  | none =>
    dsimp -zeta only
    extract_lets first _ s1 s2
    refine ⟨s1, ?_, .ite (State.fault_elsewhere s2 0x060C 6 (subj 10 i) rfl) (.refl _ _)⟩
    unfold s1
    split <;> rfl

theorem State.readSensor_get (s : State) {i j : Nat} (hj : j < 45) (r : Option Int) :
    (s.readSensor i r).get (ANODE_TEMP_TEMP j) = if j = i then tempShown r else s.get (ANODE_TEMP_TEMP j) := by
  obtain ⟨s1, regs, told⟩ := s.readSensor_reads i r
  rw [told.get (by simp [temp_block hj])]
  split
  · subst j
    exact (State.get_set_same s1 _ (temp_fits i)).trans (Nat.mod_eq_of_lt (tempShown_lt r))
  · have apart : (ANODE_TEMP_TEMP j).off ≠ (ANODE_TEMP_TEMP i).off := by
      simp only [ANODE_TEMP_TEMP, ANODE_TEMP_OFF]
      omega
    exact (State.get_set_other s1 _ (temp_fits j) (.inl apart)).trans (congrArg (fget · _) regs)

/-- The first `n` sensors read show their readings. -/
theorem State.readSensors_get (raw : List (Option Int)) (s : State) {j : Nat} (hj : j < 45) : ∀ n, j < n →
    ((List.range n).foldl (fun s i => s.readSensor i (raw.getD i none)) s).get (ANODE_TEMP_TEMP j) = tempShown (raw.getD j none)
  | n + 1, h => by
    rw [List.range_succ, List.foldl_append, List.foldl_cons, List.foldl_nil, State.readSensor_get _ hj]
    split
    · next e => rw [e]
    · exact State.readSensors_get raw s hj n (by omega)

/-- The bucks stop: of the ANODE block their status and voltage registers change. -/
theorem State.stopBucks_reg (s : State) {o : Nat} (h6 : o / 65536 ≠ 6) (hs : o ≠ ANODE_RAIL_STATUS_OFF)
    (hv : ∀ c, c < 4 → o ≠ ANODE_RAIL_V_OFF c) : s.stopBucks.reg o = s.reg o := by
  have zeroed (l : List Nat) (hl : ∀ c ∈ l, c < 4) (x : State) :
      (l.foldl (fun s c => s.set (ANODE_RAIL_V_VSET c) 0) x).reg o = x.reg o := by
    induction l generalizing x with
    | nil => rfl
    | cons c l ih =>
      exact (ih (fun c hc => hl c (List.mem_cons_of_mem _ hc)) _).trans (State.reg_set_other x 0 (hv c (hl c List.mem_cons_self)))
  unfold State.stopBucks
  rw [(State.showRailLim_elsewhere _).reg (by simpa using h6), zeroed _ (fun c => List.mem_range.mp)]
  exact (State.reg_set_other _ 0 hs).trans (State.reg_set_other s 0 hs)

/-- A threshold crossed leaves the sensors' registers alone. -/
theorem State.tempCrossed_get (s : State) (g k : Nat) (hot : Option (Nat × Int)) {j : Nat} (hj : j < 45) :
    (s.tempCrossed g k hot).get (ANODE_TEMP_TEMP j) = s.get (ANODE_TEMP_TEMP j) := by
  have block := temp_block hj
  have off : (ANODE_TEMP_TEMP j).off = 0x80100 + 0x4 * j := rfl
  have stops : s.disable.stopBucks.get (ANODE_TEMP_TEMP j) = s.get (ANODE_TEMP_TEMP j) :=
    (State.get_of_reg (State.stopBucks_reg _ (by simp [block]) (by rw [off, ANODE_RAIL_STATUS_OFF]; omega)
      (fun c hc => by rw [off, ANODE_RAIL_V_OFF]; omega))).trans (s.disable_elsewhere.get (by simp [block]))
  unfold State.tempCrossed
  extract_lets sensor value limit
  split
  · exact (State.faultVal_elsewhere s _ _ _ _ _ rfl).get (by simp [block])
  · exact (State.faultVal_elsewhere s _ _ _ _ _ rfl).get (by simp [block])
  · exact ((State.faultVal_dark_elsewhere _ rfl).get (by simp [block])).trans stops

theorem State.tempThreshold_get (s : State) (g k : Nat) {j : Nat} (hj : j < 45) :
    (s.tempThreshold g k).get (ANODE_TEMP_TEMP j) = s.get (ANODE_TEMP_TEMP j) := by
  unfold State.tempThreshold
  extract_lets i hot lim above below run run _ s1 crossed _
  split
  · exact State.tempCrossed_get _ g k hot hj
  · split <;> rfl

/-- TEMP_SAMPLE shows every sensor's reading: neither a report nor a threshold changes it. -/
theorem State.tempSample_get (s : State) (raw : List (Option Int)) {j : Nat} (hj : j < 45) :
    (s.tempSample raw).get (ANODE_TEMP_TEMP j) = tempShown (raw.getD j none) := by
  unfold State.tempSample
  extract_lets s1 s2
  calc s2.showThermal.get (ANODE_TEMP_TEMP j)
      = s2.get (ANODE_TEMP_TEMP j) := State.get_set_other s2 _ (temp_fits j)
        (.inl (by simp only [ANODE_TEMP_TEMP, ANODE_TEMP_OFF, TONE_GOV_STATUS_THERMAL, TONE_GOV_STATUS_OFF]; omega))
    _ = s1.get (ANODE_TEMP_TEMP j) := foldl_keeps (·.get (ANODE_TEMP_TEMP j)) _ (fun s i => s.tempThreshold_get _ _ hj) _ s1
    _ = tempShown (raw.getD j none) := State.readSensors_get raw s hj 45 hj

end Sys2Proof.Machine

open Sys2Proof Sys2Proof.Machine Sys2Proof.Machine.Reg

/-- Settles O24: a buck that stops with its fault stays tripped through the DARK reaction, which is apart from the rails, and
neither a report nor a threshold changes what a sensor's register shows. -/
theorem railsAndTemperatures : Obligations.RailsAndTemperatures := by
  refine ⟨?limit, ?overcurrent, ?voltage, ?average, ?averageTrips, ?wake, ?temps⟩
  case limit =>
    intro s t c hr hs
    obtain ⟨v, limited, noted⟩ := State.railLimit_limits (s := s.pass t) (by simpa using hr)
    refine ⟨_, rfl, ?_, ?_⟩
    · rw [State.run_anode, limited]
      exact noted
    · have run : s.run t (fun s => s.railLimit c) = (s.pass t).railLimit c :=
        State.run_strike hs rfl (by rw [limited]) (by rw [limited]) (by rw [limited]) (by rw [limited]; exact .of_regs rfl)
      rw [run, limited]
      exact State.pass_regs s t
  case overcurrent =>
    intro s t c ma hc hr
    have tripped := State.railOc_tripped (s := s.pass t) ma hc (by simpa using hr)
    exact ⟨_, rfl, tripped.run (g := fun s => s.railOc c ma) hc (by decide)⟩
  case voltage =>
    intro s t c mv high hc hr
    have tripped := State.railVolt_tripped (s := s.pass t) high mv hc (by simpa using hr)
    obtain ⟨runs, vset, opened, -⟩ := tripped.run (g := fun s => s.railVolt c high mv) hc (by split <;> decide)
    exact ⟨_, rfl, runs, vset, opened⟩
  case average =>
    intro s t c i1s i100 i10 hc
    have away (o : Nat) (ho : o / 65536 ≠ 8) : (ANODE_RAIL_I_I_100MS c).off ≠ o := fun e => ho (e ▸ railI_block hc)
    refine ⟨_, rfl, ?_, fun hr h10 => ?_⟩
    · rw [State.run_get s t _ (railI_fits c) (.inl (away _ (by decide))) (.inl (away _ (by decide)))]
      exact State.railAverage_get _ hc i1s i100 i10
    · have tripped := State.railAverage_10ms (s := s.pass t) i1s i100 hc (by simpa using hr) h10
      obtain ⟨stopped, -⟩ := tripped.run (g := fun s => s.railAverage c i1s i100 i10) hc (by decide)
      exact stopped
  case averageTrips =>
    intro s t c i1s i100 i10 hc hr h10 h
    have tripped : ((s.pass t).railAverage c i1s i100 i10).BuckTripped c (if 4200 < i1s then 13 else 16) := by
      split
      · next h1 => exact State.railAverage_1s i100 hc (by simpa using hr) h10 h1
      · next h1 =>
        have differs := h.resolve_left h1
        exact State.railAverage_differs i100 hc (by simpa using hr) h10 (Nat.not_lt.mp h1) (by rwa [State.pass_anode])
    obtain ⟨runs, -, opened, -⟩ := tripped.run (g := fun s => s.railAverage c i1s i100 i10) hc (by split <;> decide)
    exact ⟨_, rfl, runs, opened⟩
  case wake =>
    intro s t he
    have awake : (s.pass t).railsAwake = { s.pass t with anode := { (s.pass t).anode with wakeDone := true } } :=
      if_pos (by simpa using he)
    have run : s.run t (fun s => s.railsAwake) = (s.pass t).railsAwake :=
      State.run_of s t _ (by rw [awake]) (by rw [awake]) (.inl (by rw [awake]; simpa using he))
    rw [awake] at run
    exact ⟨_, rfl, congrArg (·.anode.wakeDone) run, (congrArg State.regs run).trans (State.pass_regs s t)⟩
  case temps =>
    intro s t raw
    refine ⟨_, rfl, fun i hi => ?_⟩
    have away (o : Nat) (ho : o / 65536 ≠ 8) : (ANODE_TEMP_TEMP i).off ≠ o := fun e => ho (e ▸ temp_block hi)
    rw [State.run_get s t _ (temp_fits i) (.inl (away _ (by decide))) (.inl (away _ (by decide)))]
    exact (s.pass t).tempSample_get raw hi

end

section
/-! PROOF. The LIGHT pair and the step (R118, R381, R427 to R429): what a step changes, what a receiver's reading changes, and the
step of a partner that fails to join. -/

namespace Sys2Proof.Machine

open Reg

/-! ### What a TWIN event leaves alone (R457, R461) -/

/-- The clock, the state of the module and KEEPER. -/
def State.keeping (s : State) : Nat × Mode × Keeper := (s.now, s.house.mode, s.keeper)

theorem State.sendSplice_keeping (s : State) (type : Nat) (keep : Option Deadline) (ackSeq : Nat) (payload : List Nat) :
    (s.sendSplice type keep ackSeq payload).keeping = s.keeping := by
  unfold State.sendSplice State.cvuPass State.cvuSet
  extract_lets f kept s1
  split
  · rfl
  · split <;> rfl

theorem State.event_keeping (s : State) (e : Event) : (s.event e).keeping = s.keeping := by
  simp only [State.keeping, State.event_now, State.event_house, State.event_keeper]

theorem State.raise_keeping (s : State) (k : Nat) : (s.raise k).keeping = s.keeping := by
  simp only [State.keeping, State.raise_now, State.raise_house, State.raise_keeper]

theorem State.setEvent_keeping (s : State) (e : Event) : (s.setEvent e).keeping = s.keeping := by
  unfold State.setEvent
  extract_lets payload q s1 _ s2 s3
  have written : s3.keeping = s.keeping := State.event_keeping s2 _
  split
  · split
    · exact (State.sendSplice_keeping s3 _ _ _ _).trans written
    · exact written
  · split
    · split
      · exact State.sendSplice_keeping s _ _ _ _
      · rfl
    · exact State.event_keeping s e

theorem State.twinEvent_keeping (s : State) (code : Nat) (setLevel : Bool) (w8 : Nat) :
    (s.twinEvent code setLevel w8).keeping = s.keeping := by
  unfold State.twinEvent
  extract_lets e
  rw [State.raise_keeping]
  split
  · exact State.setEvent_keeping s e
  · exact State.event_keeping s e

/-- A set-level event changes the HOST block, the check-value unit of SPLICE and the leader's SET_SEQ. -/
theorem State.setEvent_reg (s : State) (e : Event) {o : Nat} (h2 : o / 65536 ≠ 2) (h14 : o / 65536 ≠ 14)
    (hs : o ≠ SPLICE_SET_SEQ_OFF) : (s.setEvent e).reg o = s.reg o := by
  unfold State.setEvent
  extract_lets payload q s1 _ s2 s3
  have written : s3.reg o = s.reg o :=
    ((State.event_elsewhere s2 _).reg (by simpa using h2)).trans (State.reg_set_other s _ hs)
  split
  · split
    · exact ((State.sendSplice_elsewhere s3 _ _ _ _).reg (by simpa using h14)).trans written
    · exact written
  · split
    · split
      · exact (State.sendSplice_elsewhere s _ _ _ _).reg (by simpa using h14)
      · rfl
    · exact (State.event_elsewhere s e).reg (by simpa using h2)

theorem State.twinEvent_reg (s : State) (code : Nat) (setLevel : Bool) (w8 : Nat) {o : Nat} (h2 : o / 65536 ≠ 2)
    (h14 : o / 65536 ≠ 14) (hs : o ≠ SPLICE_SET_SEQ_OFF) : (s.twinEvent code setLevel w8).reg o = s.reg o := by
  unfold State.twinEvent
  extract_lets e
  rw [(State.raise_elsewhere _ (by decide)).reg (by simpa using h2)]
  split
  · exact State.setEvent_reg s e h2 h14 hs
  · exact (State.event_elsewhere s e).reg (by simpa using h2)

/-! ### The step (R118, R429) -/

theorem State.abandon_keeping (s : State) (status detail : Nat) : (s.abandon status detail).keeping = s.keeping := by
  refine State.abandon_keeps State.keeping (fun x w => ?_) (fun x i w => ?_) s
  · simp only [State.keeping, State.answer_now, State.answer_house, State.answer_keeper]
  · simp only [State.keeping, State.showChange_now, State.showChange_house, State.showChange_keeper]

theorem State.setChange_keeping (s : State) (c : Option Change) : (s.setChange c).keeping = s.keeping := by
  rw [State.keeping, State.setChange, State.showChange_now, State.showChange_house, State.showChange_keeper]
  rfl

theorem State.setChange_change (s : State) (c : Option Change) : (s.setChange c).house.change = c := by
  rw [State.setChange, State.showChange_house]

theorem State.stepFollows_keeping (s : State) : s.stepFollows.keeping = s.keeping := by
  unfold State.stepFollows
  extract_lets s1 _ s2 s3
  rw [State.setChange_keeping, State.abandon_keeping]
  exact State.twinEvent_keeping s2 _ _ _

/-- A step starts the change to SOLO with cause PARTNER_DARK 50 µs later. -/
theorem State.stepFollows_change (s : State) :
    s.stepFollows.house.change = some ⟨.solo, 3, none, 50000 + s.now, none, false, some 3⟩ := by
  unfold State.stepFollows
  extract_lets s1 _ s2 s3
  have now : s3.now = s.now := congrArg Prod.fst (State.twinEvent_keeping s2 0x08 true s2.beat)
  rw [State.setChange_change, now]

/-- Outside HOUSE, HOST, the check-value units and two counters of SPLICE a step sets STEPPED alone. -/
theorem State.stepFollows_reg (s : State) {o : Nat} (h0 : o / 65536 ≠ 0) (h2 : o / 65536 ≠ 2) (h14 : o / 65536 ≠ 14)
    (hs : o ≠ SPLICE_SET_SEQ_OFF) (hc : o ≠ SPLICE_COUNTS_OFF) :
    s.stepFollows.reg o = (s.set SPLICE_STATUS_STEPPED 1).reg o := by
  unfold State.stepFollows
  extract_lets s1 _ s2 s3
  have house : Elsewhere [0] (s3.abandon 0x0E 0x8A) ((s3.abandon 0x0E 0x8A).setChange
      (some ⟨.solo, 3, none, 50000 + s3.now, none, false, some 3⟩)) :=
    Elsewhere.trans (Elsewhere.of_regs rfl) (State.showChange_elsewhere _)
  calc _ = s3.reg o := (((State.abandon_elsewhere s3 _ _).trans house).reg (by simpa using h0))
    _ = s2.reg o := State.twinEvent_reg s2 _ _ _ h2 h14 hs
    _ = (s.set SPLICE_STATUS_STEPPED 1).reg o := State.reg_set_other _ (f := SPLICE_COUNTS_STEPS) _ hc

theorem State.stepFollows_status (s : State) {f : Field} (hf : f.off = SPLICE_STATUS_OFF) :
    s.stepFollows.get f = (s.set SPLICE_STATUS_STEPPED 1).get f :=
  State.get_of_reg (by rw [hf]; exact s.stepFollows_reg (by decide) (by decide) (by decide) (by decide) (by decide))

theorem State.stepFollows_stepped (s : State) : s.stepFollows.flag SPLICE_STATUS_STEPPED = true := by
  rw [State.flag_iff, s.stepFollows_status rfl, State.get_set_same s 1 (by decide)]
  rfl

theorem gref_fits (c : Nat) : (TONE_GREF_SEL c).lsb + (TONE_GREF_SEL c).width ≤ 32 := Nat.le_refl 32

/-- The global references stand in the TONE block. -/
theorem gref_block {c : Nat} (hc : c < 4) : (TONE_GREF_SEL c).off / 65536 = 6 := by
  simp only [TONE_GREF_SEL, TONE_GREF_OFF]
  omega

theorem State.setSel_elsewhere (s : State) (full : Bool) : Elsewhere [6] s (s.setSel full) :=
  (Elsewhere.of_regs s.touch_regs).trans (Elsewhere.foldl _ _ (fun x c hc => (Elsewhere.refl _ x).setFlag full
    (by simp [gref_block (List.mem_range.mp hc)])) s.touch)

theorem State.setSel_keeping (s : State) (full : Bool) : (s.setSel full).keeping = s.keeping :=
  foldl_keeps State.keeping (fun (s : State) c => s.setFlag (TONE_GREF_SEL c) full) (fun _ _ => rfl) (List.range 4) s.touch

/-- The references of the first `n` colours switched to FULL read so. -/
theorem State.grefs_full (s : State) {c : Nat} : ∀ n, c < n →
    ((List.range n).foldl (fun (s : State) c => s.setFlag (TONE_GREF_SEL c) true) s).flag (TONE_GREF_SEL c) = true
  | n + 1, h => by
    rw [List.range_succ, List.foldl_append, List.foldl_cons, List.foldl_nil]
    by_cases e : c = n
    · rw [e, State.flag_iff]
      exact beq_iff_eq.mpr (State.get_set_same _ 1 (gref_fits n))
    · have apart : (TONE_GREF_SEL c).off ≠ (TONE_GREF_SEL n).off := by
        simp only [TONE_GREF_SEL, TONE_GREF_OFF]
        omega
      exact (State.flag_set_other _ 1 (gref_fits c) (.inl apart)).trans (s.grefs_full n (by omega))

theorem State.setSel_full (s : State) {c : Nat} (hc : c < 4) : (s.setSel true).flag (TONE_GREF_SEL c) = true :=
  s.touch.grefs_full 4 hc

/-- What a step leaves: SEL at FULL in all colours, STEPPED, and the change to SOLO under way since a time (R429). -/
def State.SteppedAt (s : State) (at_ : Nat) : Prop :=
  (∀ c, c < 4 → s.flag (TONE_GREF_SEL c) = true) ∧ s.flag SPLICE_STATUS_STEPPED = true ∧
    s.house.change = some ⟨.solo, 3, none, 50000 + at_, none, false, some 3⟩

/-- The firmware's part of a step completes it where SEL is at FULL. -/
theorem State.stepFollows_steppedAt {s : State} (h : ∀ c, c < 4 → s.flag (TONE_GREF_SEL c) = true) :
    s.stepFollows.SteppedAt s.now := by
  refine ⟨fun c hc => ?_, s.stepFollows_stepped, s.stepFollows_change⟩
  have block := gref_block hc
  have apart (o : Nat) (ho : o / 65536 ≠ 6) : (TONE_GREF_SEL c).off ≠ o := fun e => ho (e ▸ block)
  have reg := s.stepFollows_reg (o := (TONE_GREF_SEL c).off) (by omega) (by omega) (by omega) (apart _ (by decide))
    (apart _ (by decide))
  refine (State.flag_of_reg (reg.trans (State.reg_set_other s 1 (apart _ ?_)))).trans (h c hc)
  decide

/-- A step that has been made stands after the command that made it. -/
theorem State.SteppedAt.run {s : State} {t x : Nat} {g : State → State} (h : (g (s.pass t)).SteppedAt x) :
    (s.run t g).SteppedAt x := by
  obtain ⟨full, stepped, change⟩ := h
  refine ⟨fun c hc => ?_, ?_, by rwa [State.run_house]⟩
  · have apart (o : Nat) (ho : o / 65536 ≠ 6) : (TONE_GREF_SEL c).off ≠ o := fun e => ho (e ▸ gref_block hc)
    rw [State.run_flag s t g (gref_fits c) (.inl (apart _ (by decide))) (.inl (apart _ (by decide)))]
    exact full c hc
  · rw [State.run_flag s t g (by decide) (by decide) (by decide)]
    exact stepped

/-! ### ANODE's receiver (R427, R429) -/

/-- A step leaves the fields of SPLICE_STATUS beside STEPPED alone. -/
theorem State.stepNow_get (s : State) {f : Field} (hf : f.off = SPLICE_STATUS_OFF) (h32 : f.lsb + f.width ≤ 32)
    (hs : 21 ≤ f.lsb ∨ f.lsb + f.width ≤ 20) : s.stepNow.get f = s.get f := by
  have tone : ¬ f.off / 65536 ∈ [6] := by rw [hf]; decide
  unfold State.stepNow
  split
  · rw [State.stepFollows_status _ hf, State.get_set_other (f := SPLICE_STATUS_STEPPED) _ 1 h32 (.inr hs),
      (s.setSel_elsewhere true).get tone]
  · rfl

/-- LIGHT_IN is the last reading that ANODE's receiver qualified. -/
theorem State.lightAnode_reading (s : State) (p n : Bool) : (s.lightAnode p n).get SPLICE_STATUS_LIGHT_IN = lightReading p n := by
  have small : lightReading p n < 2 ^ 2 := by cases p <;> cases n <;> decide
  unfold State.lightAnode
  extract_lets new old tw raw noted s1 s2
  have shown : s2.get SPLICE_STATUS_LIGHT_IN = new := (State.get_set_same s1 new (by decide)).trans (Nat.mod_eq_of_lt small)
  split
  · next same =>
    simp only [Bool.and_eq_true, beq_iff_eq] at same
    obtain ⟨same, -⟩ := same
    exact same.symm
  · change (if new == 1 then s2.stepNow else s2).get SPLICE_STATUS_LIGHT_IN = new
    split
    · exact (s2.stepNow_get rfl (by decide) (by decide)).trans shown
    · exact shown

/-- A dark reading of an armed twin in SHOW that has not stepped is a step (R429). -/
theorem State.lightAnode_steps {s : State} (hm : s.house.mode = .show) (ha : s.flag SPLICE_STATUS_ARMED = true)
    (hs : s.flag SPLICE_STATUS_STEPPED = false) (hl : s.get SPLICE_STATUS_LIGHT_IN ≠ 1) :
    (s.lightAnode false true).SteppedAt s.now ∧ (s.lightAnode false true).house.mode = .show := by
  unfold State.lightAnode
  extract_lets new old tw raw noted s1 s2
  have changed : (new == old && raw == tw.lightRaw) = false := by
    have differs : (new == old) = false := beq_eq_false_iff_ne.mpr hl.symm
    rw [differs, Bool.false_and]
  have armed : s2.flag SPLICE_STATUS_ARMED = true := (State.flag_set_other s1 new (by decide) (by decide)).trans ha
  have fresh : s2.flag SPLICE_STATUS_STEPPED = false := (State.flag_set_other s1 new (by decide) (by decide)).trans hs
  have steps : s2.stepNow = (s2.setSel true).stepFollows := by
    have show_ : s2.house.mode = .show := hm
    simp [State.stepNow, show_, armed, fresh]
  have now : (s2.setSel true).now = s.now := congrArg Prod.fst (s2.setSel_keeping true)
  have mode : (s2.setSel true).stepFollows.house.mode = .show :=
    (congrArg (·.2.1) ((State.stepFollows_keeping _).trans (s2.setSel_keeping true))).trans hm
  have stepped : (s2.setSel true).stepFollows.SteppedAt (s2.setSel true).now :=
    State.stepFollows_steppedAt fun c hc => s2.setSel_full hc
  have dark : (new == 1) = true := rfl
  rw [changed, if_neg (by decide), dark, if_pos rfl, steps]
  exact ⟨now ▸ stepped, mode⟩

/-! ### The guards' receivers, and the arming (R381, R428, R429) -/

theorem State.guardStep_reg (s : State) (g : Guard) {o : Nat} (ha : o ≠ GUARD_A_STATUS_OFF) (hb : o ≠ GUARD_B_STATUS_OFF) :
    (s.guardStep g).reg o = s.reg o := by
  unfold State.guardStep
  split
  · cases g with
    | a => exact State.reg_set_other _ _ ha
    | b => exact State.reg_set_other _ _ hb
  · rfl

/-- The guards' share factors, times two. -/
def State.sigmas (s : State) : Nat × Nat := (s.guards.sigmaA, s.guards.sigmaB)

theorem State.run_sigmas (s : State) (t : Nat) (g : State → State) : (s.run t g).sigmas = (g (s.pass t)).sigmas := by
  unfold State.run State.settle
  extract_lets s1
  split <;> rfl

/-- A guard's receiver of the LIGHT pair, by its number, and the bits of INPUTS that show its reading. -/
def lightReceiver : Guard → Nat
  | .a => 1
  | .b => 2

def lightValid : Guard → Field
  | .a => GUARD_A_INPUTS_LIGHT_VALID
  | .b => GUARD_B_INPUTS_LIGHT_VALID

def lightDark : Guard → Field
  | .a => GUARD_A_INPUTS_LIGHT_DARK
  | .b => GUARD_B_INPUTS_LIGHT_DARK

/-- The levels of a LIGHT pair in a guard's INPUTS: valid where they differ, dark by R427's second row. -/
def State.lightShown (s : State) (g : Guard) (p n : Bool) : State :=
  (s.setFlag (lightValid g) (p != n)).setFlag (lightDark g) (!p && n)

theorem lightReading_valid (p n : Bool) : (lightReading p n != 2) = (p != n) := by cases p <;> cases n <;> rfl

theorem lightReading_dark (p n : Bool) : (lightReading p n == 1) = (!p && n) := by cases p <;> cases n <;> rfl

theorem State.lightInput_guard {s : State} (ht : s.twinEn = true) (g : Guard) (p n : Bool) :
    s.lightInput (lightReceiver g) p n = (s.lightShown g p n).guardStep g := by
  unfold State.lightInput
  rw [ht, if_neg (by decide), lightReading_valid, lightReading_dark]
  cases g <;> rfl

theorem State.flag_setFlag_same (s : State) {f : Field} (b : Bool) (h32 : f.lsb + f.width ≤ 32) (h1 : f.width = 1) :
    (s.setFlag f b).flag f = b := by
  rw [State.flag_iff, State.setFlag, State.get_set_same _ _ h32, h1]
  cases b <;> rfl

theorem State.lightShown_inputs (s : State) (g : Guard) (p n : Bool) : (s.lightShown g p n).flag (lightValid g) = (p != n) ∧
    (s.lightShown g p n).flag (lightDark g) = (!p && n) := by
  have fits : (lightValid g).lsb + (lightValid g).width ≤ 32 ∧ (lightDark g).lsb + (lightDark g).width ≤ 32 := by
    cases g <;> decide
  have bits : (lightValid g).width = 1 ∧ (lightDark g).width = 1 ∧
      (lightDark g).lsb + (lightDark g).width ≤ (lightValid g).lsb := by
    cases g <;> decide
  obtain ⟨fitsV, fitsD⟩ := fits
  obtain ⟨oneV, oneD, below⟩ := bits
  exact ⟨(State.flag_set_other _ _ fitsV (.inr (.inl below))).trans (State.flag_setFlag_same _ _ fitsV oneV),
    State.flag_setFlag_same _ _ fitsD oneD⟩

theorem lightReceiver_bits {g : Guard} {f : Field} (hf : f ∈ [lightValid g, lightDark g]) :
    f.lsb + f.width ≤ 32 ∧ f.off ≠ GUARD_A_STATUS_OFF ∧ f.off ≠ GUARD_B_STATUS_OFF := by
  revert f
  cases g <;> decide

/-- A guard's INPUTS show the levels of its receiver (R427). -/
theorem State.lightInput_inputs {s : State} (ht : s.twinEn = true) (g : Guard) (p n : Bool) :
    (s.lightInput (lightReceiver g) p n).flag (lightValid g) = (p != n) ∧
      (s.lightInput (lightReceiver g) p n).flag (lightDark g) = (!p && n) := by
  rw [State.lightInput_guard ht]
  have kept (f : Field) (hf : f ∈ [lightValid g, lightDark g]) :
      ((s.lightShown g p n).guardStep g).flag f = (s.lightShown g p n).flag f := by
    obtain ⟨-, awayA, awayB⟩ := lightReceiver_bits hf
    exact State.flag_of_reg (State.guardStep_reg _ g awayA awayB)
  obtain ⟨valid, dark⟩ := s.lightShown_inputs g p n
  exact ⟨(kept _ (by simp)).trans valid, (kept _ (by simp)).trans dark⟩

/-- A guard's own dark reading of the armed pair takes its share factor to 1.0 (R381). -/
theorem State.lightInput_guardDark {s : State} (hm : s.house.mode = .show) (ht : s.twinEn = true)
    (ha : s.flag SPLICE_STATUS_ARMED = true) (g : Guard) :
    s.lightInput (lightReceiver g) false true = (s.lightShown g false true).setShare g 2 := by
  rw [State.lightInput_guard ht]
  obtain ⟨valid, dark⟩ := s.lightShown_inputs g false true
  have seen : (s.lightShown g false true).guardDark g = true := by
    cases g with
    | a => exact Bool.and_eq_true_iff.mpr ⟨valid, dark⟩
    | b => exact Bool.and_eq_true_iff.mpr ⟨valid, dark⟩
  have armed : (s.lightShown g false true).flag SPLICE_STATUS_ARMED = true := by
    have apart : SPLICE_STATUS_ARMED.off ≠ (lightValid g).off ∧ SPLICE_STATUS_ARMED.off ≠ (lightDark g).off := by
      cases g <;> decide
    obtain ⟨v, d⟩ := apart
    exact ((State.flag_set_other _ _ (by decide) (.inl d)).trans (State.flag_set_other s _ (by decide) (.inl v))).trans ha
  have shown : (s.lightShown g false true).house.mode = .show := hm
  simp [State.guardStep, shown, armed, seen]

@[simp] theorem State.pass_twinEn (s : State) (t : Nat) : (s.pass t).twinEn = s.twinEn := State.pass_flag s t _

@[simp] theorem State.pass_peerJoins (s : State) (t : Nat) : (s.pass t).peerJoins = s.peerJoins := by
  simp only [State.peerJoins, State.heartbeat, State.pass_twin]

/-- The step is armed under the conditions of R428. -/
theorem State.stepArm_arms {s : State} (hm : s.house.mode = .show) (ht : s.twinEn = true)
    (hj : s.flag SPLICE_STATUS_JOIN = false) (hp : s.peerJoins = false) (hl : s.get SPLICE_STATUS_LIGHT_IN = 0)
    (h4 : s.twin.lightSince + 4000 ≤ s.now) : s.stepArm.flag SPLICE_STATUS_ARMED = true := by
  have arms : s.stepArm = ((s.set SPLICE_STATUS_ARMED 1).guardStep .a).guardStep .b := by
    simp [State.stepArm, hm, ht, hj, hp, hl, h4]
  have armed : (s.set SPLICE_STATUS_ARMED 1).get SPLICE_STATUS_ARMED = 1 := State.get_set_same s 1 (by decide)
  have kept (x : State) (g : Guard) : (x.guardStep g).flag SPLICE_STATUS_ARMED = x.flag SPLICE_STATUS_ARMED :=
    State.flag_of_reg (x.guardStep_reg g (by decide) (by decide))
  rw [arms, kept, kept, State.flag_iff, armed]
  rfl

/-! ### A partner that fails to join (R428) -/

/-- The step that JOIN_FAIL makes of a state whose wait for the arming has ended. -/
def State.joinStep (s : State) : State := (((s.setSel true).fault 0x0803 8 0).twinEvent 0x0B true 1).stepFollows

theorem State.joinFail_due {s : State} {x : Nat} (hx : s.twin.joinEndAt = some x) (hm : s.house.mode = .show)
    (hj : s.flag SPLICE_STATUS_JOIN = false) (ha : s.flag SPLICE_STATUS_ARMED = false) (ht : 100000 + x ≤ s.now) :
    s.joinFail = { s with twin := { s.twin with joinEndAt := none } }.joinStep := by
  simp [State.joinFail, hx, hm, hj, ha, ht, State.joinStep]

theorem State.joinStep_steps (s : State) : s.joinStep.SteppedAt s.now := by
  have now : (((s.setSel true).fault 0x0803 8 0).twinEvent 0x0B true 1).now = s.now := by
    refine (congrArg Prod.fst (State.twinEvent_keeping _ _ _ _)).trans ?_
    exact (State.accept_now _ _ _ _ _ _ rfl).trans (congrArg Prod.fst (s.setSel_keeping true))
  rw [← now]
  refine State.stepFollows_steppedAt fun c hc => ?_
  have block := gref_block hc
  have told := State.twinEvent_reg ((s.setSel true).fault 0x0803 8 0) 0x0B true 1 (o := (TONE_GREF_SEL c).off) (by omega) (by omega)
    (fun e => absurd (e ▸ block) (by decide))
  exact (State.flag_of_reg told).trans (((State.fault_elsewhere _ _ _ _ rfl).flag (by simp [block])).trans (s.setSel_full hc))

/-- The failure to join is the newest record of a KEEPER that can record. -/
theorem State.joinStep_newest {s : State} (hb : s.keeper.busyUntil ≤ s.now) (hl : s.house.pllUnlocked.contains 9 = false)
    (hf : s.flag KEEPER_STATUS_FATAL = false) : s.joinStep.newest = some (0x0803, 8, 0) := by
  have kept : s.joinStep.keeper = ((s.setSel true).fault 0x0803 8 0).keeper :=
    congrArg (·.2.2) ((State.stepFollows_keeping _).trans (State.twinEvent_keeping _ _ _ _))
  rw [State.newest, kept]
  exact State.fault_newest (s := s.setSel true) rfl hb hl (((s.setSel_elsewhere true).flag (by decide)).trans hf)

/-! ### LIGHT_INPUT_QUALIFIED as a command -/

/-- A powered module takes a receiver's reading. -/
theorem does_lightInput {s : State} {t r : Nat} {p n : Bool} {P : State → Prop} (hp : s.powered = true)
    (h : P (s.run t fun s => s.lightInput r p n)) : Does (.lightInput t r p n) s P := by
  have inside : s.run t (fun s => s.inside fun s => s.lightInput r p n) = s.run t fun s => s.lightInput r p n := by
    rw [State.run, State.run, State.inside_powered _ (by simpa using hp)]
  exact ⟨_, rfl, inside ▸ h⟩

theorem does_lightInput_inputs {s : State} (t : Nat) (g : Guard) (p n : Bool) (hp : s.powered = true) (ht : s.twinEn = true) :
    Does (.lightInput t (lightReceiver g) p n) s (fun s' =>
      s'.flag (lightValid g) = (p != n) ∧ s'.flag (lightDark g) = (!p && n)) := by
  obtain ⟨valid, dark⟩ := State.lightInput_inputs (s := s.pass t) (by simpa using ht) g p n
  have kept (f : Field) (hf : f ∈ [lightValid g, lightDark g]) :
      (s.run t fun s => s.lightInput (lightReceiver g) p n).flag f = ((s.pass t).lightInput (lightReceiver g) p n).flag f := by
    obtain ⟨fits, awayA, awayB⟩ := lightReceiver_bits hf
    exact State.run_flag s t _ fits (.inl awayA) (.inl awayB)
  exact does_lightInput hp ⟨(kept _ (by simp)).trans valid, (kept _ (by simp)).trans dark⟩

theorem State.powered_of_show {s : State} (hm : s.house.mode = .show) : s.powered = true := by
  rw [State.powered, hm]
  rfl

theorem does_lightInput_dark {s : State} (t : Nat) (g : Guard) (hm : s.house.mode = .show) (ht : s.twinEn = true)
    (ha : s.flag SPLICE_STATUS_ARMED = true) : Does (.lightInput t (lightReceiver g) false true) s (fun s' =>
      s'.sigmas = match g with | .a => (2, s.guards.sigmaB) | .b => (s.guards.sigmaA, 2)) := by
  refine does_lightInput (State.powered_of_show hm) ?_
  rw [State.run_sigmas, State.lightInput_guardDark (by simpa using hm) (by simpa using ht) (by simpa using ha), ← s.pass_guards t]
  cases g <;> rfl

end Sys2Proof.Machine

open Sys2Proof Sys2Proof.Machine Sys2Proof.Machine.Reg

/-- Settles O52: a step ends with STEPPED and the change to SOLO, and what it tells the host, KEEPER and the partner leaves SEL
and the fields of SPLICE_STATUS beside STEPPED alone. -/
theorem lightPairAndStep : Obligations.LightPairAndStep := by
  refine ⟨?reading, fun s t p n => does_lightInput_inputs t .a p n, fun s t p n => does_lightInput_inputs t .b p n, ?step,
    ?darkA, ?darkB, ?arm, ?joinFail⟩
  case reading =>
    intro s t p n hp ht
    have on : (!(s.pass t).twinEn) = false := by simp [ht]
    refine does_lightInput hp ?_
    rw [State.run_get s t _ (by decide) (by decide) (by decide), State.lightInput, on, if_neg (by decide)]
    exact State.lightAnode_reading _ p n
  case step =>
    intro s t hm ht ha hs hl
    obtain ⟨stepped, mode⟩ := State.lightAnode_steps (s := s.pass t) (by simpa using hm) (by simpa using ha) (by simpa using hs)
      (by simpa using hl)
    have on : (!(s.pass t).twinEn) = false := by simp [ht]
    have taken : (s.pass t).lightInput 0 false true = (s.pass t).lightAnode false true := by
      rw [State.lightInput, on, if_neg (by decide)]
    rw [← taken] at stepped mode
    rw [State.pass_now] at stepped
    obtain ⟨full, marked, change⟩ := State.SteppedAt.run (g := fun s => s.lightInput 0 false true) stepped
    exact does_lightInput (State.powered_of_show hm) ⟨full, marked, by rwa [State.run_house], change⟩
  case darkA =>
    intro s t hm ht ha
    obtain ⟨s', answer, sigmas⟩ := does_lightInput_dark t .a hm ht ha
    exact ⟨s', answer, congrArg Prod.fst sigmas, congrArg Prod.snd sigmas⟩
  case darkB =>
    intro s t hm ht ha
    obtain ⟨s', answer, sigmas⟩ := does_lightInput_dark t .b hm ht ha
    exact ⟨s', answer, congrArg Prod.snd sigmas, congrArg Prod.fst sigmas⟩
  case arm =>
    intro s t hm ht hj hp hl h4
    have armed := State.stepArm_arms (s := s.pass t) (by simpa using hm) (by simpa using ht) (by simpa using hj) (by simpa using hp)
      (by simpa using hl) (by simpa using h4)
    exact ⟨_, rfl, (State.run_flag s t (fun s => s.stepArm) (by decide) (by decide) (by decide)).trans armed⟩
  case joinFail =>
    intro s t x hx hm hj ha ht
    have due := State.joinFail_due (s := s.pass t) (x := x) (by simpa using hx) (by simpa using hm) (by simpa using hj)
      (by simpa using ha) (by simpa using ht)
    have steps : (s.pass t).joinFail.SteppedAt (max s.now t) := by
      rw [due, ← State.pass_now]
      exact State.joinStep_steps _
    obtain ⟨full, stepped, change⟩ := State.SteppedAt.run (g := fun s => s.joinFail) steps
    refine ⟨_, rfl, full, stepped, change, fun hr => ?_⟩
    obtain ⟨free, locked, alive⟩ := (s.records_iff t).mp hr
    rw [State.newest, State.run_keeper, due]
    exact State.joinStep_newest (s := { s.pass t with twin := { (s.pass t).twin with joinEndAt := none } }) (by simpa using free)
      (by simpa using locked) ((State.pass_flag s t _).trans alive)

end

section
/-! PROOF. The register writes of TONE, BRAID and WARP that do more than store a value (R152, R153, R197, R199, R223, R248, R249,
R260): a write that its register takes is the one operation of its island. -/

namespace Sys2Proof.Machine

open Reg

/-! ### Writes to the blocks BRAID, WARP and TONE -/

/-- A write that a register of BRAID, WARP or TONE takes. -/
theorem State.regWrite_path {s : State} {m : Master} {off : Nat} (v : Nat) (h : s.takes m off = true)
    (hb : off / 65536 = 4 ∨ off / 65536 = 5 ∨ off / 65536 = 6) :
    s.regWrite m off 4 v = (s.writePath m off v).wroteNow m off := by
  rw [State.regWrite_takes v h, State.regTakes_path v h hb]

/-- A write of the pixel path that changes registers of its own blocks alone, beside the accesses and what the islands hold, is
the whole effect of its command. -/
theorem State.run_pathWrite {s s' : State} {t : Nat} {m : Master} {off v : Nat} (hs : LightSafe s)
    (ht : (s.pass t).takes m off = true) (hb : off / 65536 = 4 ∨ off / 65536 = 5 ∨ off / 65536 = 6)
    (hw : (s.pass t).writePath m off v = s') (hn : s'.now = (s.pass t).now) (hp : s'.pending = (s.pass t).pending)
    (hh : s'.house = (s.pass t).house) (hr : Elsewhere [4, 5, 6] (s.pass t) s') :
    s.run t (fun s => s.regWrite m off 4 v) = s'.wroteNow m off := by
  have effect : (s.pass t).regWrite m off 4 v = s'.wroteNow m off := by rw [State.regWrite_path v ht hb, hw]
  have light (f : Field) (hf : ¬ f.off / 65536 ∈ [4, 5, 6]) : ((s.pass t).regWrite m off 4 v).get f = s.get f := by
    rw [effect, ← State.pass_get s t f]
    exact hr.get hf
  rw [← effect]
  exact State.run_of_lightSafe hs (by rw [effect]; exact hn) (by rw [effect]; exact hp)
    (by rw [effect, ← State.pass_house s t]; exact hh) (light _ (by decide)) (light _ (by decide))

theorem State.writePath_toneCommit (s : State) (m : Master) : s.writePath m TONE_COMMIT_OFF 1 = s.toneCommit := rfl

theorem State.writePath_layerCommit (s : State) (m : Master) (v : Nat) :
    s.writePath m BRAID_LAYER_COMMIT_OFF v = (s.layerCommitSet v).2 := rfl

theorem State.writePath_protIndex (s : State) (m : Master) (v : Nat) :
    s.writePath m BRAID_PROT_INDEX_OFF v = s.protIndex v := rfl

theorem State.writePath_meshSelect (s : State) (m : Master) (v : Nat) :
    s.writePath m WARP_MESH_SELECT_OFF v = (s.meshSelectSet (v % 4)).2 := rfl

theorem State.writePath_coef (s : State) (m : Master) {off : Nat} (v : Nat) (h : 0x51000 ≤ off ∧ off < 0x52000) :
    s.writePath m off v = s.coefWrite off v := by
  have layers : off ≠ BRAID_LAYER_COMMIT_OFF := by rw [BRAID_LAYER_COMMIT_OFF]; omega
  have mask : off ≠ BRAID_PROT_INDEX_OFF := by rw [BRAID_PROT_INDEX_OFF]; omega
  have mesh : off ≠ WARP_MESH_SELECT_OFF := by rw [WARP_MESH_SELECT_OFF]; omega
  simp [State.writePath, layers, mask, mesh, h]

/-! ### Commits of TONE (R152, R153) -/

@[simp] theorem State.pass_role (s : State) (t : Nat) : (s.pass t).role = s.role := State.pass_get s t _

@[simp] theorem State.pass_toneRejected (s : State) (t : Nat) : (s.pass t).toneRejected = s.toneRejected := by
  simp only [State.toneRejected, State.pass_get, State.pass_flag, State.pass_follows]

@[simp] theorem State.pass_toneValues (s : State) (t : Nat) : (s.pass t).toneValues = s.toneValues := by
  simp only [State.toneValues, State.pass_reg]

/-- Outside a leader a commit names no frame of a twin set (R75, R153, R199). -/
theorem State.applyFrame_own {s : State} (hl : s.role ≠ 1) (block : Nat) : s.applyFrame block = none := by
  simp [State.applyFrame, hl]

theorem State.toneCommit_own {s : State} (hr : s.toneRejected = false) (hl : s.role ≠ 1) :
    s.toneCommit = s.toneAccept s.toneValues none := by
  simp [State.toneCommit, hr, State.applyFrame_own hl]

theorem State.toneCommit_rejected {s : State} (hr : s.toneRejected = true) :
    s.toneCommit = s.latch TONE_STATUS_COMMIT_REJ := by
  simp [State.toneCommit, hr]

theorem State.latch_elsewhere {bs : List Nat} (s : State) {f : Field} (hf : f.off / 65536 ∈ bs) : Elsewhere bs s (s.latch f) :=
  ((Elsewhere.refl bs s).set 1 hf).trans (.of_regs rfl)

theorem State.toneAccept_elsewhere (s : State) (values : List (Nat × Nat)) (frame : Option Nat) :
    Elsewhere [4, 5, 6] s (s.toneAccept values frame) :=
  Elsewhere.set (s' := { s with tone := { s.tone with pending := some (values, s.now, frame) } }) (.of_regs rfl) 1 (by decide)

/-! ### Commits of layers (R197 to R199) -/

/-- Outside a leader a commit whose layers all pass takes their staged values at once. -/
theorem State.layerCommitSet_own {s : State} {v : Nat} (hv : v % 2 ^ 15 ≠ 0) (hc : s.commitCode (v % 2 ^ 15) = none)
    (hl : s.role ≠ 1) : (s.layerCommitSet v).2 = s.layerAccept (v % 2 ^ 15) none := by
  have some_layer : (v % 2 ^ 15 == 0) = false := by simpa using hv
  simp only [State.layerCommitSet, some_layer, hc, State.applyFrame_own hl, Bool.false_eq_true, if_false]

theorem State.layerCommitSet_rejected {s : State} {v code l : Nat} (hv : v % 2 ^ 15 ≠ 0)
    (hc : s.commitCode (v % 2 ^ 15) = some (code, l)) : (s.layerCommitSet v).2 = s.layerRejected code l := by
  have some_layer : (v % 2 ^ 15 == 0) = false := by simpa using hv
  simp only [State.layerCommitSet, some_layer, hc, Bool.false_eq_true, if_false]

theorem State.layerAccept_elsewhere (s : State) (mask : Nat) (frame : Option Nat) :
    Elsewhere [4, 5, 6] s (s.layerAccept mask frame) := by
  unfold State.layerAccept
  exact (Elsewhere.of_regs rfl).set 1 (by decide)

theorem State.layerRejected_elsewhere (s : State) (code l : Nat) : Elsewhere [4, 5, 6] s (s.layerRejected code l) :=
  ((State.latch_elsewhere s (by decide)).set code (by decide)).set l (by decide)

/-! ### The window of the protected-region mask (R223) -/

/-- The window's registers after its index was written: the index, READY and the mask word. -/
theorem State.protIndex_window (s : State) (v : Nat) : (s.protIndex v).get BRAID_PROT_INDEX_INDEX = v % 2 ^ 17 ∧
    (s.protIndex v).get BRAID_PROT_INDEX_READY = 1 ∧
    (s.protIndex v).reg BRAID_PROT_DATA_OFF = (s.set BRAID_PROT_INDEX_INDEX v).protWord (v % 2 ^ 17) % 2 ^ 32 := by
  unfold State.protIndex
  extract_lets s1 s2
  refine ⟨?_, State.get_set_same s2 1 (by decide), ?_⟩
  · calc (s2.set BRAID_PROT_INDEX_READY 1).get BRAID_PROT_INDEX_INDEX
      _ = s2.get BRAID_PROT_INDEX_INDEX := State.get_set_other s2 1 (by decide) (.inr (.inr (by decide)))
      _ = s1.get BRAID_PROT_INDEX_INDEX := State.get_setReg_other s1 _ (by decide)
      _ = v % 2 ^ 17 := State.get_set_same s v (by decide)
  · exact (State.reg_set_other s2 1 (by decide)).trans (State.reg_setReg_same s1 _ _)

@[simp] theorem State.pass_protWord (s : State) (t i : Nat) : (s.pass t).protWord i = s.protWord i := by
  simp only [State.protWord, State.pass_braid]

/-! ### Selections of a mesh bank (R248, R249) -/

@[simp] theorem State.pass_selectIdle (s : State) (t bank : Nat) : (s.pass t).selectIdle bank = s.selectIdle bank := by
  simp only [State.selectIdle, State.pass_get, State.pass_flag]

@[simp] theorem State.pass_selectRejected (s : State) (t bank : Nat) :
    (s.pass t).selectRejected bank = s.selectRejected bank := by
  simp only [State.selectRejected, State.pass_flag, State.pass_follows]

theorem State.meshSelectSet_rejected {s : State} {bank : Nat} (hi : s.selectIdle bank = false)
    (hr : s.selectRejected bank = true) : (s.meshSelectSet bank).2 = s.latch WARP_MESH_STATUS_SEL_REJ := by
  simp [State.meshSelectSet, hi, hr]

theorem State.meshSelectSet_taken {s : State} {bank : Nat} (hi : s.selectIdle bank = false)
    (hr : s.selectRejected bank = false) : (s.meshSelectSet bank).2 =
      if s.role = 1 then (s.selectAccept bank (s.captureAfter 3)).sendCommit 4 (s.captureAfter 3) [bank]
      else s.selectAccept bank (s.captureAfter 3) := by
  have kept : (s.selectAccept bank (s.captureAfter 3)).role = s.role := by
    unfold State.selectAccept
    extract_lets s1 s2
    have apart (o : Nat) (ho : o / 65536 = 5) : SPLICE_STATUS_ROLE.off ≠ o := fun e => absurd (e ▸ ho) (by decide)
    calc s2.role
      _ = s1.role := State.get_set_other s1 bank (by decide) (.inl (apart _ rfl))
      _ = ((s.set WARP_MESH_STATUS_PENDING 1).set WARP_MESH_STATUS_PEND_BANK bank).role :=
        State.get_setReg_other _ _ (apart _ rfl)
      _ = (s.set WARP_MESH_STATUS_PENDING 1).role := State.get_set_other _ bank (by decide) (.inl (apart _ rfl))
      _ = s.role := State.get_set_other s 1 (by decide) (.inl (apart _ rfl))
  simp [State.meshSelectSet, hi, hr, kept]

/-- Mirroring a commit to the partner changes no register but those of the check-value units (R456). -/
theorem State.sendCommit_elsewhere (s : State) (block frame : Nat) (values : List Nat) :
    Elsewhere [14] s (s.sendCommit block frame values) := .ite (s.sendSplice_elsewhere _ _ _ _) (.refl _ s)

/-- A selection that is accepted is pending for its bank, and the one in force stays. -/
theorem State.selectAccept_status (s : State) (bank e : Nat) : (s.selectAccept bank e).get WARP_MESH_STATUS_PENDING = 1 ∧
    (s.selectAccept bank e).get WARP_MESH_STATUS_PEND_BANK = bank % 4 ∧
    (s.selectAccept bank e).get WARP_MESH_STATUS_IN_USE = s.get WARP_MESH_STATUS_IN_USE := by
  unfold State.selectAccept
  extract_lets s1 s2
  have kept (f : Field) (hf : f.off = WARP_MESH_STATUS_OFF) (h32 : f.lsb + f.width ≤ 32) :
      s2.get f = ((s.set WARP_MESH_STATUS_PENDING 1).set WARP_MESH_STATUS_PEND_BANK bank).get f :=
    (State.get_set_other s1 bank h32 (.inl (by rw [hf]; decide))).trans (State.get_setReg_other _ _ (by rw [hf]; decide))
  refine ⟨?_, ?_, ?_⟩
  · exact (kept WARP_MESH_STATUS_PENDING rfl (by decide)).trans
      ((State.get_set_other _ _ (by decide) (by decide)).trans (State.get_set_same s 1 (by decide)))
  · exact (kept WARP_MESH_STATUS_PEND_BANK rfl (by decide)).trans (State.get_set_same _ bank (by decide))
  · exact (kept WARP_MESH_STATUS_IN_USE rfl (by decide)).trans
      ((State.get_set_other _ _ (by decide) (by decide)).trans (State.get_set_other s _ (by decide) (by decide)))

/-- The same of a selection that its register takes, whether or not the twin's leader mirrors it. -/
theorem State.meshSelectSet_status {s : State} {bank : Nat} (hi : s.selectIdle bank = false)
    (hr : s.selectRejected bank = false) : (s.meshSelectSet bank).2.get WARP_MESH_STATUS_PENDING = 1 ∧
    (s.meshSelectSet bank).2.get WARP_MESH_STATUS_PEND_BANK = bank % 4 ∧
    (s.meshSelectSet bank).2.get WARP_MESH_STATUS_IN_USE = s.get WARP_MESH_STATUS_IN_USE := by
  have mirrored : Elsewhere [14] (s.selectAccept bank (s.captureAfter 3)) (s.meshSelectSet bank).2 := by
    rw [State.meshSelectSet_taken hi hr]
    exact .ite (State.sendCommit_elsewhere _ _ _ _) (.refl _ _)
  rw [mirrored.get (f := WARP_MESH_STATUS_PENDING) (by decide), mirrored.get (f := WARP_MESH_STATUS_PEND_BANK) (by decide),
    mirrored.get (f := WARP_MESH_STATUS_IN_USE) (by decide)]
  exact s.selectAccept_status bank _

/-! ### Coefficients of the scalers (R260) -/

/-- An offset in a series of registers lies between its ends. -/
theorem copyAt_range {base count stride off : Nat} (hs : 0 < stride) (h : (copyAt base count stride off).isSome = true) :
    base ≤ off ∧ off < base + stride * count := by
  obtain ⟨i, hi⟩ := Option.isSome_iff_exists.mp h
  have below : i < count := by
    unfold copyAt at hi
    split at hi
    · next c =>
      simp only [Bool.and_eq_true, decide_eq_true_eq] at c
      exact Option.some.inj hi ▸ c.2
    · cases hi
  have inside := Nat.mul_lt_mul_of_pos_left below hs
  rw [copyAt_eq_some hi]
  omega

/-- The coefficient registers of both scalers lie in one page of WARP. -/
theorem isCoef_range {off : Nat} (h : isCoef off = true) : 0x51000 ≤ off ∧ off < 0x52000 := by
  simp only [isCoef, Bool.or_eq_true] at h
  rcases h with ((h | h) | h) | h <;>
    · have range := copyAt_range (by decide) h
      simp only [WARP_SC_HCOEF_OFF, WARP_SC_VCOEF_OFF] at range
      omega

theorem State.coefWrite_stored {s : State} {off : Nat} (v : Nat) (h : s.userFilter ((off - 0x51000) / 0x800) = false) :
    s.coefWrite off v = s.setReg off v := by
  simp [State.coefWrite, h]

end Sys2Proof.Machine

open Sys2Proof Sys2Proof.Machine Sys2Proof.Machine.Reg

/-- Settles O26: each write is its register's own operation, which outside a leader changes the registers of its own block alone;
a selection that a leader mirrors changes those of the check-value units too, and none of WARP. -/
theorem pathRegisterWrites : Obligations.PathRegisterWrites := by
  refine ⟨?toneTaken, ?toneRejected, ?layersTaken, ?layersRejected, ?window, ?selection, ?selectionRejected, ?coefficient⟩
  case toneTaken =>
    intro s t m ht hr hl hs
    have write : (s.pass t).writePath m TONE_COMMIT_OFF 1 = (s.pass t).toneAccept s.toneValues none := by
      rw [State.writePath_toneCommit, State.toneCommit_own (by simpa using hr) (by simpa using hl), State.pass_toneValues]
    exact congrArg Host.Outcome.next
      (State.run_pathWrite hs ht (by decide) write rfl rfl rfl (State.toneAccept_elsewhere _ _ _))
  case toneRejected =>
    intro s t m ht hr hs
    have write : (s.pass t).writePath m TONE_COMMIT_OFF 1 = (s.pass t).latch TONE_STATUS_COMMIT_REJ :=
      State.toneCommit_rejected (by simpa using hr)
    exact congrArg Host.Outcome.next
      (State.run_pathWrite hs ht (by decide) write rfl rfl rfl (State.latch_elsewhere _ (by decide)))
  case layersTaken =>
    intro s t m v ht hv hc hl hs
    have write : (s.pass t).writePath m BRAID_LAYER_COMMIT_OFF v.toNat = (s.pass t).layerAccept (v.toNat % 2 ^ 15) none :=
      State.layerCommitSet_own hv hc (by simpa using hl)
    exact congrArg Host.Outcome.next
      (State.run_pathWrite hs ht (by decide) write rfl rfl rfl (State.layerAccept_elsewhere _ _ _))
  case layersRejected =>
    intro s t code l m v ht hv hc hs
    have write : (s.pass t).writePath m BRAID_LAYER_COMMIT_OFF v.toNat = (s.pass t).layerRejected code l :=
      State.layerCommitSet_rejected hv hc
    exact congrArg Host.Outcome.next
      (State.run_pathWrite hs ht (by decide) write rfl rfl rfl (State.layerRejected_elsewhere _ _ _))
  case window =>
    intro s t m v ht
    obtain ⟨index, ready, word⟩ := (s.pass t).protIndex_window v.toNat
    have write := State.regWrite_path v.toNat ht (by decide)
    refine ⟨_, rfl, ?_, ?_, ?_, ?_⟩
    · rw [State.run_get _ _ _ (by decide) (by decide) (by decide), write]
      exact index
    · rw [State.run_get _ _ _ (by decide) (by decide) (by decide), write]
      exact ready
    · rw [State.run_reg _ _ _ (by decide) (by decide), write]
      exact word.trans (congrArg (· % 2 ^ 32) (State.pass_protWord s t _))
    · rw [State.run_braid, write]
      exact s.pass_braid t
  case selection =>
    intro s t m v ht hi hr
    obtain ⟨pending, bank, inUse⟩ := State.meshSelectSet_status (s := s.pass t) (by simpa using hi) (by simpa using hr)
    have write := State.regWrite_path v.toNat ht (by decide)
    refine ⟨_, rfl, ?_, ?_, ?_⟩
    · rw [State.run_get _ _ _ (by decide) (by decide) (by decide), write]
      exact pending
    · rw [State.run_get _ _ _ (by decide) (by decide) (by decide), write]
      exact bank.trans (Nat.mod_mod _ 4)
    · rw [State.run_get _ _ _ (by decide) (by decide) (by decide), write]
      exact inUse.trans (s.pass_get t _)
  case selectionRejected =>
    intro s t m v ht hr hi hs
    have write : (s.pass t).writePath m WARP_MESH_SELECT_OFF v.toNat = (s.pass t).latch WARP_MESH_STATUS_SEL_REJ :=
      State.meshSelectSet_rejected (by simpa using hi) (by simpa using hr)
    exact congrArg Host.Outcome.next
      (State.run_pathWrite hs ht (by decide) write rfl rfl rfl (State.latch_elsewhere _ (by decide)))
  case coefficient =>
    intro s t off m v ht hc hs hu
    have range := isCoef_range hc
    have block : off / 65536 = 5 := by omega
    have write : (s.pass t).writePath m off v.toNat = (s.pass t).setReg off v.toNat :=
      (State.writePath_coef _ m _ range).trans (State.coefWrite_stored _ hu)
    have stored := State.run_pathWrite hs ht (.inr (.inl block)) write rfl rfl rfl
      ((Elsewhere.refl _ _).setReg _ (by simp [block]))
    have command : exec (.scCoef t m off v) s = .next (s.run t fun s => if isCoef off then s.regWrite m off 4 v.toNat else s) :=
      rfl
    simp only [hc, if_true] at command
    rw [command, stored]

end

section
/-! PROOF. Delivered charge, its checkpoints and the wear gains (R167 to R170): what the counts of a second change, and what module
firmware writes. -/

namespace Sys2Proof.Machine

open Reg

/-! ### Delivered charge (R167) -/

/-- The state with other charge counts, some free values having been drawn. -/
def State.withCharge (s : State) (charge : List (Nat × Nat)) (ctr : Nat) : State :=
  { s with freeCtr := ctr, tone := { s.tone with charge := charge } }

/-- The charge count of an emitter. -/
def State.chargeOf (s : State) (k : Nat) : Nat := sget (fun _ => 0) s.tone.charge k

@[simp] theorem State.withCharge_chargeOf (s : State) (charge : List (Nat × Nat)) (ctr k : Nat) :
    (s.withCharge charge ctr).chargeOf k = sget (fun _ => 0) charge k := rfl

/-- A charge, where there is one, lets its emitter's count rise by a number, and may draw a free value for its rounding; it changes
nothing else. -/
theorem State.addCharge_eq (s : State) (e : Nat) (q : Rat) : s.addCharge e q = s ∨ ∃ n ctr, s.addCharge e q =
    s.withCharge (sput (fun _ => 0) s.tone.charge e (min 0xFFFFFFFF (s.chargeOf e + n))) ctr := by
  by_cases dark : q ≤ 0
  · exact .inl (if_pos dark)
  · right
    simp only [State.addCharge, dark, if_false, Nat.add_assoc]
    split
    · exact ⟨_, s.freeCtr, rfl⟩
    · exact ⟨_, s.freeCtr + 1, rfl⟩

/-- The charges of a whole sample change the counts, and draw free values; nothing else. -/
theorem State.addCharges_withCharge (l : List (Nat × Rat)) (s : State) :
    ∃ charge ctr, l.foldl (fun s e => s.addCharge e.1 e.2) s = s.withCharge charge ctr := by
  induction l generalizing s with
  | nil => exact ⟨s.tone.charge, s.freeCtr, rfl⟩
  | cons e l ih =>
    obtain ⟨charge, ctr, rest⟩ := ih (s.addCharge e.1 e.2)
    rw [List.foldl_cons, rest]
    rcases s.addCharge_eq e.1 e.2 with first | ⟨n, ctr', first⟩ <;> rw [first]
    · exact ⟨charge, ctr, rfl⟩
    · exact ⟨charge, ctr, rfl⟩

/-- No 32-bit count of a state falls on the way to another, or leaves the 32 bits. -/
def State.ChargeGrows (s s' : State) : Prop :=
  ∀ k, s.chargeOf k ≤ 0xFFFFFFFF → s.chargeOf k ≤ s'.chargeOf k ∧ s'.chargeOf k ≤ 0xFFFFFFFF

theorem State.ChargeGrows.refl (s : State) : s.ChargeGrows s := fun _ h => ⟨Nat.le_refl _, h⟩

theorem State.ChargeGrows.trans {a b c : State} (h : a.ChargeGrows b) (k : b.ChargeGrows c) : a.ChargeGrows c := fun e he =>
  have ⟨first, bound⟩ := h e he
  have ⟨second, bound'⟩ := k e bound
  ⟨first.trans second, bound'⟩

/-- A count that rises, and saturates at 32 bits, does not fall. -/
theorem State.chargeGrows_rise (s : State) (e n ctr : Nat) : s.ChargeGrows
    (s.withCharge (sput (fun _ => 0) s.tone.charge e (min 0xFFFFFFFF (s.chargeOf e + n))) ctr) := by
  intro k hk
  rw [State.withCharge_chargeOf]
  by_cases h : k = e
  · subst h
    rw [sget_sput_same]
    omega
  · have kept : sget (fun _ => 0) (sput (fun _ => 0) s.tone.charge e (min 0xFFFFFFFF (s.chargeOf e + n))) k = s.chargeOf k :=
      sget_sput_other _ _ h
    omega

theorem State.addCharge_grows (s : State) (e : Nat) (q : Rat) : s.ChargeGrows (s.addCharge e q) := by
  rcases s.addCharge_eq e q with same | ⟨n, ctr, rises⟩
  · rw [same]
    exact .refl s
  · rw [rises]
    exact s.chargeGrows_rise e n ctr

theorem State.addCharges_grow (l : List (Nat × Rat)) (s : State) :
    s.ChargeGrows (l.foldl (fun s e => s.addCharge e.1 e.2) s) := by
  induction l generalizing s with
  | nil => exact .refl s
  | cons e l ih => exact (s.addCharge_grows e.1 e.2).trans (ih _)

/-- One update more has been counted. -/
def State.updated (s : State) : State := { s with tone := { s.tone with updates := s.tone.updates + 1 } }

theorem State.chargeUpdate_runs {s : State} (hr : s.timerRuns = true) (hs : s.islandStopped 4 = false) :
    s.chargeUpdate = (s.tone.sample.foldl (fun s e => s.addCharge e.1 e.2) s.updated).chooseSample := by
  simp only [State.chargeUpdate, hr, hs, Bool.not_true, Bool.or_self, Bool.false_eq_true, if_false]
  rfl

/-- Counts that the table holds within 32 bits are within them wherever they are read. -/
theorem sget_le {m : List (Nat × Nat)} {b : Nat} (h : ∀ e ∈ m, e.2 ≤ b) (k : Nat) : sget (fun _ => 0) m k ≤ b := by
  induction m with
  | nil => exact Nat.zero_le b
  | cons e m ih =>
    obtain ⟨j, v⟩ := e
    rw [sget]
    split
    · exact h (j, v) (by simp)
    · exact ih fun e he => h e (by simp [he])

/-! ### Checkpoints (R168) -/

/-- The wear store that the next checkpoint writes. -/
def State.nextStore (s : State) : WearStore :=
  ⟨s.hours, s.tone.ckpts + 1, wearCodes s.tone.charge, wearCrc (wearCodes s.tone.charge)⟩

theorem State.hourly_even {s : State} (hf : s.flag MBOX_STATUS_FW_READY = true) (h : s.tone.ckpts % 2 = 0) :
    s.hourly.tone = { s.tone with ckpts := s.tone.ckpts + 1, ckptAt := s.now, store0 := some s.nextStore } := by
  rw [State.hourly, if_pos hf, State.checkpoint]
  exact if_pos h

theorem State.hourly_odd {s : State} (hf : s.flag MBOX_STATUS_FW_READY = true) (h : s.tone.ckpts % 2 = 1) :
    s.hourly.tone = { s.tone with ckpts := s.tone.ckpts + 1, ckptAt := s.now, store1 := some s.nextStore } := by
  rw [State.hourly, if_pos hf, State.checkpoint]
  exact if_neg (by omega)

/-! ### Wear gains (R170) -/

/-- A wear step changes the calibration words, counts itself, and shows and reports the gains at their limit. -/
theorem State.wearRecompute_counts (s : State) : s.wearRecompute.tone.wearSteps = s.tone.wearSteps + 1 ∧
    s.wearRecompute.tone.charge = s.tone.charge ∧ s.wearRecompute.array = s.array := by
  unfold State.wearRecompute
  extract_lets base all capped s1 rose first _ _ s2
  have gains : (s1.tone.charge, s1.array) = (s.tone.charge, s.array) := by
    refine foldl_keeps (fun x : State => (x.tone.charge, x.array)) _ (fun x e => ?_) all s
    rfl
  obtain ⟨charge, array⟩ := Prod.mk.inj gains
  have reported : (s2.fault 0x0402 4 (subj 1 (2 ^ 20 * (first % 4) + first / 4))).tone = s2.tone ∧
      (s2.fault 0x0402 4 (subj 1 (2 ^ 20 * (first % 4) + first / 4))).array = s2.array :=
    ⟨State.accept_tone _ _ _ _ _ _ rfl, State.accept_array _ _ _ _ _ _ rfl⟩
  split
  · rw [reported.1, reported.2]
    exact ⟨rfl, charge, array⟩
  · exact ⟨rfl, charge, array⟩

/-! ### The work of module firmware as a command -/

/-- A command that acts inside a powered module. -/
theorem does_inside {c : Instr} {s : State} {t : Nat} {f : State → State} {P : State → Prop}
    (hc : exec c s = .next (s.run t fun s => s.inside f)) (hp : s.powered = true) (h : P (s.run t f)) : Does c s P := by
  have inside : s.run t (fun s => s.inside f) = s.run t f := by
    rw [State.run, State.run, State.inside_powered f (by simpa using hp)]
  exact ⟨_, hc, inside ▸ h⟩

end Sys2Proof.Machine

open Sys2Proof Sys2Proof.Machine Sys2Proof.Machine.Reg

/-- Settles O25: the charges of a second change the counts alone, each of which rises and saturates; a checkpoint writes one slot's
store, and a wear step the calibration words. -/
theorem chargeAndWear : Obligations.ChargeAndWear := by
  refine ⟨?update, ?counts, ?even, ?odd, ?wear⟩
  case update =>
    intro s t hr hi hs
    obtain ⟨charge, ctr, sampled⟩ := State.addCharges_withCharge (s.pass t).tone.sample (s.pass t).updated
    have work : (s.pass t).chargeUpdate = ((s.pass t).updated.withCharge charge ctr).chooseSample := by
      rw [State.chargeUpdate_runs (by simpa using hr) (by simpa using hi), sampled]
    have regs : (s.pass t).chargeUpdate.regs = s.regs := by rw [work]; exact s.pass_regs t
    have kept (f : Field) : (s.pass t).chargeUpdate.get f = s.get f := congrArg (fget · f) regs
    have run : s.run t (fun s => s.chargeUpdate) = (s.pass t).chargeUpdate :=
      State.run_of_lightSafe hs (by rw [work]; rfl) (by rw [work]; rfl) (by rw [work]; exact s.pass_house t) (kept _) (kept _)
    have lfsr : (s.pass t).tone.lfsr = s.tone.lfsr := congrArg (·.lfsr) (s.pass_tone t)
    refine ⟨_, congrArg Host.Outcome.next run, ?_⟩
    rw [work] at regs ⊢
    exact ⟨congrArg (·.updates + 1) (s.pass_tone t), rfl, congrArg Config.lfsrNext lfsr, s.pass_array t, regs⟩
  case counts =>
    intro s t hr hi hb
    refine ⟨_, rfl, fun e => ?_⟩
    rw [State.run_tone, State.chargeUpdate_runs (by simpa using hr) (by simpa using hi), ← s.pass_tone t]
    exact (State.addCharges_grow (s.pass t).tone.sample (s.pass t).updated e
      (sget_le (by rw [← s.pass_tone t] at hb; exact hb) e)).1
  case even =>
    intro s t hp hf he
    refine does_inside rfl hp ?_
    rw [State.run_tone, State.hourly_even (by simpa using hf) (by simpa using he), State.nextStore]
    simp
  case odd =>
    intro s t hp hf ho
    refine does_inside rfl hp ?_
    rw [State.run_tone, State.hourly_odd (by simpa using hf) (by simpa using ho), State.nextStore]
    simp
  case wear =>
    intro s t hp hf
    have step : (s.pass t).wearStep = (s.pass t).wearRecompute := if_pos (by simpa using hf)
    obtain ⟨steps, charge, array⟩ := (s.pass t).wearRecompute_counts
    refine does_inside rfl hp ?_
    rw [State.run_tone, State.run_array, step, steps, charge, array, State.pass_tone, State.pass_array]
    exact ⟨rfl, rfl, rfl⟩

end

section
/-! PROOF. Calibration blocks and telemetry dumps (R185, R188, R329 to R331): descriptors in flight whose work ends, what moving
bytes leaves alone, a block whose entries are staged, and a dump that is sent as a whole. -/

namespace Sys2Proof.Machine

open Reg

/-! ### Descriptors across the passing of time -/

@[simp] theorem State.pass_ringClass (s : State) (t n : Nat) : (s.pass t).ringClass n = s.ringClass n := State.pass_get s t _

@[simp] theorem State.pass_flying (s : State) (t n cls op : Nat) : (s.pass t).flying n cls op = s.flying n cls op := by
  simp only [State.flying, State.pass_ringClass, State.pass_inflight]

@[simp] theorem State.pass_flyingAt (s : State) (t n i cls op : Nat) : (s.pass t).flyingAt n i cls op = s.flyingAt n i cls op := by
  simp only [State.flyingAt, State.pass_ringClass, State.pass_inflight]

@[simp] theorem State.pass_turnOf (s : State) (t n i : Nat) : (s.pass t).turnOf n i = s.turnOf n i := by
  simp only [State.turnOf, State.pass_inflight]

@[simp] theorem State.pass_descFails (s : State) (t cls : Nat) (d : Desc) (own : List (Bool × Nat × Nat)) :
    (s.pass t).descFails cls d own = s.descFails cls d own := by
  simp only [State.descFails, State.pass_house]

@[simp] theorem State.pass_mayMaster (s : State) (t : Nat) : (s.pass t).mayMaster = s.mayMaster := by
  simp only [State.mayMaster, State.pass_flag, State.pass_conf]

/-! ### Descriptors whose work has not ended -/

/-- A descriptor of an index is in flight and its work has not ended. -/
def State.Works (s : State) (n i : Nat) : Prop := ∃ e ∈ (s.ring n).inflight, e.index = i ∧ e.done = none

theorem State.Works.of_flying {s : State} {n cls op : Nat} {d : Desc} (h : s.flying n cls op = some d) : s.Works n d.index := by
  unfold State.flying at h
  split at h
  · have holds := List.find?_some h
    simp only [Bool.and_eq_true, Option.isNone_iff_eq_none] at holds
    exact ⟨d, List.mem_of_find?_eq_some h, rfl, holds.2⟩
  · cases h

theorem State.Works.of_flyingAt {s : State} {n i cls op : Nat} {d : Desc} (h : s.flyingAt n i cls op = some d) : s.Works n i := by
  unfold State.flyingAt at h
  split at h
  · have holds := List.find?_some h
    simp only [Bool.and_eq_true, beq_iff_eq, Option.isNone_iff_eq_none] at holds
    exact ⟨d, List.mem_of_find?_eq_some h, holds.1.1, holds.2⟩
  · cases h

theorem State.Works.of_host {s s' : State} {n i : Nat} (h : s.Works n i) (hh : s'.host = s.host) : s'.Works n i := by
  unfold State.Works State.ring at h ⊢
  rwa [hh]

/-- A change of a descriptor that does not end its work leaves it at work. -/
theorem State.Works.setDesc {s : State} {n i : Nat} {f : Desc → Desc} (h : s.Works n i) (hi : ∀ d, (f d).index = d.index)
    (hd : ∀ d, (f d).done = d.done) : (s.setDesc n i f).Works n i := by
  obtain ⟨e, he, index, done⟩ := h
  refine ⟨f e, ?_, (hi e).trans index, (hd e).trans done⟩
  rw [State.setDesc, State.ring_setRing_same]
  exact List.mem_map.mpr ⟨e, he, if_pos (beq_iff_eq.mpr index)⟩

theorem State.Works.begins {s : State} {n i : Nat} (h : s.Works n i) : (s.begins n i).Works n i :=
  h.setDesc (fun _ => rfl) (fun _ => rfl)

theorem State.Works.debit {s : State} {n i : Nat} (bytes : Nat) (h : s.Works n i) : (s.debit n bytes).Works n i := by
  obtain ⟨e, he, work⟩ := h
  refine ⟨e, ?_, work⟩
  rw [State.debit, State.ring_setRing_same]
  exact he

theorem State.Works.moved {s : State} {n i : Nat} (bytes : Nat) (h : s.Works n i) : (s.moved n i bytes).Works n i :=
  (h.debit bytes).setDesc (fun _ => rfl) (fun _ => rfl)

/-- A descriptor at work that is finished has ended with what it was finished with. -/
theorem State.finish_ended {s : State} {n i : Nat} (status detail result : Nat) (h : s.Works n i) :
    (s.finish n i status detail result).ended n i (status, detail, result) := by
  obtain ⟨e, he, index, done⟩ := h
  refine ⟨{ e with done := some (status, detail, result) }, ?_, index, rfl⟩
  rw [State.finish, State.ring_setRing_same]
  exact List.mem_map.mpr ⟨e, he, if_pos (by simp [index, done])⟩

theorem State.ended_of_host {s s' : State} {n i : Nat} {r : Nat × Nat × Nat} (h : s.ended n i r) (hh : s'.host = s.host) :
    s'.ended n i r := by
  unfold State.ended State.ring at h ⊢
  rwa [hh]

/-! ### Bytes that move (R316, R317) -/

/-- Moving bytes changes the HOST island alone. -/
theorem State.moveFor_host (s : State) (n total : Nat) (d : Desc) :
    ∃ host, (s.moveFor n total d).2 = { s with host := host } := by
  unfold State.moveFor
  extract_lets k
  dsimp only
  split
  · exact ⟨s.host, rfl⟩
  · exact ⟨_, rfl⟩

theorem State.Works.moveFor {s : State} {n : Nat} {d : Desc} (total : Nat) (h : s.Works n d.index) :
    (s.moveFor n total d).2.Works n d.index := by
  unfold State.moveFor
  extract_lets k
  dsimp only
  split
  · exact h
  · exact h.moved k

/-- Bytes that fit the bucket have all moved. -/
theorem State.moveFor_all {s : State} {n total : Nat} {d : Desc} (h : total ≤ d.used + s.burstBytes n) :
    (s.moveFor n total d).1 = true := by
  have all : total ≤ d.used + min (total - d.used) (s.burstBytes n) := by omega
  exact decide_eq_true all

/-! ### Calibration blocks (R185 to R188, R329) -/

/-- The entries of a block, each with its table and place, in their order (R185). -/
def calBlockEntries (w : List Nat) : List (Nat × Nat × Nat) :=
  ((w.drop 8).take (w.getD 2 0)).zipIdx.map fun p => (getBits (w.getD 0 0) 0 8, w.getD 1 0 + p.2, p.1)

@[simp] theorem State.pass_calCode (s : State) (t : Nat) (w : List Nat) : (s.pass t).calCode w = s.calCode w := by
  simp only [State.calCode, State.pass_flag, State.pass_house]

/-- The check of a good block changes no more than CVU_06's own registers. -/
theorem State.calCheck_good (s : State) (w : List Nat) : (s.calCheck w 0).tone = s.tone ∧ (s.calCheck w 0).host = s.host := by
  unfold State.calCheck
  extract_lets h c
  split
  · exact ⟨rfl, rfl⟩
  · exact ⟨rfl, rfl⟩

/-- A good block that asks no commit has its entries staged after those before, and LAST_ERR reads 0. -/
theorem State.calBlock_stages {s : State} {w : List Nat} (hc : s.calCode w = 0) (hg : getBits (w.getD 4 0) 0 1 = 0) :
    (s.calBlock w).1 = 0 ∧ (s.calBlock w).2.host = s.host ∧ (s.calBlock w).2.get TONE_CAL_STATUS_LAST_ERR = 0 ∧
    (s.calBlock w).2.tone = { s.tone with staged := (calBlockEntries w).reverse ++ s.tone.staged } := by
  obtain ⟨tone, host⟩ := s.calCheck_good w
  unfold State.calBlock
  extract_lets h table code s1 es _ s2 s3
  have good : code = 0 := hc
  have uncommitted : (getBits (h 4) 0 1 == 0) = true := beq_iff_eq.mpr hg
  have staged : s3.host = s2.host ∧ s3.tone = s2.tone := by
    unfold s3
    split
    · exact ⟨rfl, rfl⟩
    · exact ⟨rfl, rfl⟩
  rw [if_neg (by simp [good]), if_pos uncommitted]
  rw [← good] at tone host
  refine ⟨rfl, staged.1.trans host, State.get_set_same _ 0 (by decide), staged.2.trans ?_⟩
  exact congrArg (fun x : Tone => { x with staged := es.reverse ++ x.staged }) tone

/-- A good block that asks no commit and fits its ring's bucket has its entries moved and staged, and its descriptor ends. -/
theorem State.calBlockDesc_stages {s : State} {n : Nat} {d : Desc} {w : List Nat} (hd : s.flying n 2 0x01 = some d)
    (hf : s.descFails 2 d [(decide (d.p 2 < 32) || d.p 2 % 4 != 0, 3, 0), (d.p 0 % 4 != 0, 4, 0)] = none)
    (hm : s.mayMaster = true) (hl : d.p 2 = 32 + 4 * w.getD 2 0) (hc : s.calCode w = 0) (hg : getBits (w.getD 4 0) 0 1 = 0)
    (hb : 4 * w.getD 2 0 ≤ d.used + s.burstBytes n) :
    ∃ result, s.calBlockDesc n (.data w) = (((s.moveFor n (4 * w.getD 2 0) d).2.calBlock w).2.finish n d.index 0 0 result) := by
  obtain ⟨host, moves⟩ := s.moveFor_host n (4 * w.getD 2 0) d
  have code : (s.moveFor n (4 * w.getD 2 0) d).2.calCode w = 0 := by
    rw [moves]
    exact hc
  have staged := (State.calBlock_stages code hg).1
  have length : (d.p 2 != 32 + 4 * w.getD 2 0) = false := bne_eq_false_iff_eq.mpr hl
  simp only [State.calBlockDesc, hd, hf, hm, hc, length, State.moveFor_all hb, staged, bne_self_eq_false, Bool.not_true,
    Bool.false_eq_true, if_false]
  exact ⟨_, rfl⟩

/-! ### Telemetry dumps (R330, R331) -/

/-- Each of the six commands runs the dump of its opcode. -/
theorem exec_dump {s : State} {t n i op : Nat} {c : Instr} (h : (op, c) ∈ [(1, Instr.telCharge t n i), (2, .telDrift t n i),
    (3, .telCalword t n i), (4, .telDefect t n i), (5, .telSensors t n i), (6, .telHistory t n i)]) :
    exec c s = .next (s.run t fun s => s.telRun n i op) := by
  simp only [List.mem_cons, Prod.mk.injEq, List.not_mem_nil, or_false] at h
  rcases h with ⟨rfl, rfl⟩ | ⟨rfl, rfl⟩ | ⟨rfl, rfl⟩ | ⟨rfl, rfl⟩ | ⟨rfl, rfl⟩ | ⟨rfl, rfl⟩ <;> rfl

@[simp] theorem State.pass_dumpEntry (s : State) (t op i : Nat) : (s.pass t).dumpEntry op i = s.dumpEntry op i := by
  simp only [State.dumpEntry, State.driftWord, State.calWord, State.defectWords, State.histWords, State.pass_tone, State.pass_array,
    State.pass_keeper, State.pass_reg]

@[simp] theorem State.pass_dumpGen (s : State) (t op : Nat) : (s.pass t).dumpGen op = s.dumpGen op := by
  simp only [State.dumpGen, State.pass_tone, State.pass_array, State.pass_get, State.pass_reg]

theorem dumpTable_positive (op : Nat) : 0 < (dumpTable op).2 := by
  unfold dumpTable
  split <;> decide

/-- The words of a whole dump (R330). -/
def State.dumpWords (s : State) (op : Nat) (d : Desc) : List Nat :=
  (List.range (d.param 1)).flatMap fun k => s.dumpEntry op (d.param 0 + k)

/-- A dump has been sent as a whole: the host has its words, and its descriptor its bytes, which a dump of a table in DRAM debits
from the ring's bucket. -/
def State.dumpSent (s : State) (n i op : Nat) (d : Desc) : State :=
  let s1 := (s.begins n i).emit (.hostWords d.hostAddr (s.dumpWords op d))
  if 5 ≤ op then s1.setDesc n i (fun e => { e with used := d.param 1 * (dumpTable op).2 })
  else s1.moved n i (d.param 1 * (dumpTable op).2)

theorem State.Works.dumpSent {s : State} {n i : Nat} (op : Nat) (d : Desc) (h : s.Works n i) : (s.dumpSent n i op d).Works n i := by
  have begun : ((s.begins n i).emit (.hostWords d.hostAddr (s.dumpWords op d))).Works n i := h.begins.of_host rfl
  unfold State.dumpSent
  split
  · exact begun.setDesc (fun _ => rfl) (fun _ => rfl)
  · exact begun.moved _

/-- Sending a dump changes the HOST island and what the outside has seen. -/
theorem State.dumpSent_host (s : State) (n i op : Nat) (d : Desc) : ∃ host, s.dumpSent n i op d =
    { s with host := host, out := .hostWords d.hostAddr (s.dumpWords op d) :: s.out } := by
  unfold State.dumpSent
  split
  · exact ⟨_, rfl⟩
  · exact ⟨_, rfl⟩

/-- A dump that passes its checks, has entries and fits its ring's bucket is sent as a whole, and its descriptor ends. -/
theorem State.telRun_whole {s : State} {n i op : Nat} {d : Desc} (hd : s.flyingAt n i 3 op = some d) (hu : d.used = 0)
    (hm : s.mayMaster = true) (ht : s.turnOf n i = true)
    (hf : s.descFails 3 d [(decide (d.p 2 < d.param 1 * (dumpTable op).2), 3, 0), (d.p 0 % 4 != 0, 4, 0),
      (decide ((dumpTable op).1 < d.param 0 + d.param 1), 5, 0)] = none) (hn : d.param 1 ≠ 0)
    (hb : 5 ≤ op ∨ d.param 1 * (dumpTable op).2 ≤ s.burstBytes n) :
    s.telRun n i op = (s.dumpSent n i op d).finish n i 0 (s.dumpGen op) (if op = 5 then s.dumpGen op else d.gen) := by
  have total : (d.param 1 * (dumpTable op).2 == 0) = false :=
    beq_false_of_ne (Nat.mul_ne_zero hn (dumpTable_positive op).ne')
  have count : (d.param 1 == 0) = false := beq_false_of_ne hn
  have all : (if 5 ≤ op then d.param 1 * (dumpTable op).2 else min (d.param 1 * (dumpTable op).2) (s.burstBytes n)) =
      d.param 1 * (dumpTable op).2 := by
    split
    · rfl
    · omega
  have entry (k : Nat) : (s.begins n i).dumpEntry op k = s.dumpEntry op k := rfl
  have gen : (s.dumpSent n i op d).dumpGen op = s.dumpGen op := by
    obtain ⟨host, sent⟩ := s.dumpSent_host n i op d
    rw [sent]
    rfl
  simp only [State.telRun, hd, hf, hm, ht, count, hu, Nat.sub_zero, all, total, Nat.mul_div_cancel _ (dumpTable_positive op), entry,
    Nat.zero_div, Nat.add_zero, Nat.zero_add, Nat.le_refl, beq_iff_eq, Bool.not_true, Bool.or_self, Bool.false_eq_true, if_false,
    if_true]
  rw [← gen]
  rfl

end Sys2Proof.Machine

open Sys2Proof Sys2Proof.Machine Sys2Proof.Machine.Reg

/-- Settles O32: moving bytes and ending a descriptor change the HOST island alone, so a block's entries are staged, and a dump's
words sent, as the state at the command's time has them. -/
theorem calBlocksAndDumps : Obligations.CalBlocksAndDumps := by
  refine ⟨?block, ?dump⟩
  case block =>
    intro s t n d w hd _ _ hf hm hl hc hg hb
    obtain ⟨result, ends⟩ := State.calBlockDesc_stages (s := s.pass t) (by simpa using hd) (by simpa using hf) (by simpa using hm)
      hl (by simpa using hc) hg hb
    obtain ⟨host, moves⟩ := (s.pass t).moveFor_host n (4 * w.getD 2 0) d
    have works : (s.pass t).Works n d.index := State.Works.of_flying (by simpa using hd)
    have code : ((s.pass t).moveFor n (4 * w.getD 2 0) d).2.calCode w = 0 := by
      rw [moves]
      exact (s.pass_calCode t w).trans hc
    obtain ⟨-, same, lastErr, tone⟩ := State.calBlock_stages code hg
    have kept : ((s.pass t).moveFor n (4 * w.getD 2 0) d).2.tone = s.tone := by
      rw [moves]
      exact s.pass_tone t
    rw [kept] at tone
    refine ⟨_, rfl, ?_, ?_, ?_, ?_, ?_⟩
    · rw [State.run_tone, ends, State.finish_tone, tone]
      rfl
    · rw [State.run_get _ _ _ (by decide) (by decide) (by decide), ends]
      exact lastErr
    · rw [State.run_tone, ends, State.finish_tone, tone]
    · rw [State.run_tone, ends, State.finish_tone, tone]
    · obtain ⟨e, he, index, done⟩ := State.finish_ended 0 0 result ((works.moveFor (4 * w.getD 2 0)).of_host same)
      refine ⟨e, ?_, index, by rw [done]; rfl⟩
      rw [State.ring, State.run_host, ends]
      exact he
  case dump =>
    intro s t n i op d c hd hu hm ht hf hn hb hc
    have ends := State.telRun_whole (s := s.pass t) (by simpa using hd) hu (by simpa using hm) (by simpa using ht)
      (by simpa using hf) hn hb
    obtain ⟨host, sent⟩ := (s.pass t).dumpSent_host n i op d
    have works : (s.pass t).Works n i := State.Works.of_flyingAt (by simpa using hd)
    rw [State.pass_dumpGen] at ends
    refine ⟨_, exec_dump hc, ?_, ?_, ?_, ?_, ?_⟩
    · refine State.ended_of_host ?_ (State.run_host s t _)
      rw [ends]
      exact State.finish_ended _ _ _ (works.dumpSent op d)
    · rw [State.run_dram, ends, State.finish_dram, sent]
    · rw [State.run_tone, ends, State.finish_tone, sent]
      exact s.pass_tone t
    · rw [State.run_array, ends, State.finish_array, sent]
      exact s.pass_array t
    · rw [State.run_out, ends, State.finish_out, sent]
      simp only [State.dumpWords, State.pass_dumpEntry]

end

section
/-! PROOF. Descriptors of the layers and of the mesh (R200, R202, R248, R322, R324): each is one operation of BRAID or WARP, which
leaves the HOST island alone, and the end of its own work. -/

namespace Sys2Proof.Machine

open Reg

/-! ### The end of a descriptor's work as the effect of a command -/

/-- A command that ends a descriptor after a work that changes registers of blocks beside the guards', and neither clock, queue nor
HOUSE, needs no settling. -/
theorem State.run_finish {s s' : State} {t n i status detail result : Nat} {f : State → State} {bs : List Nat}
    (hs : LightSafe s) (hf : f (s.pass t) = s'.finish n i status detail result) (hr : Elsewhere bs (s.pass t) s')
    (ha : 9 ∉ bs) (hb : 10 ∉ bs) (hn : s'.now = (s.pass t).now) (hp : s'.pending = (s.pass t).pending)
    (hh : s'.house = (s.pass t).house) : s.run t f = s'.finish n i status detail result := by
  have light (g : Field) (hg : g.off / 65536 ∉ bs) : (f (s.pass t)).get g = s.get g := by
    rw [hf, ← s.pass_get t g]
    exact hr.get hg
  rw [← hf]
  refine State.run_of_lightSafe hs ?_ ?_ ?_ (light _ ha) (light _ hb)
  · rw [hf, State.finish_now, hn]
  · rw [hf, State.finish_pending, hp]
  · rw [hf, State.finish_house, hh, State.pass_house]

/-- A descriptor in flight that a work leaves alone has ended after a command that finishes it with the work's result. -/
theorem State.run_finish_ended {s s' : State} {t n cls op status detail result : Nat} {d : Desc} {f : State → State}
    (hd : s.flying n cls op = some d) (hh : s'.host = (s.pass t).host)
    (hf : f (s.pass t) = s'.finish n d.index status detail result) :
    (s.run t f).ended n d.index (status, detail, result) := by
  have works : (s.pass t).Works n d.index := State.Works.of_flying (by simpa using hd)
  refine State.ended_of_host ?_ (State.run_host s t f)
  rw [hf]
  exact State.finish_ended _ _ _ (works.of_host hh)

/-! ### LAYER_SET (R202) -/

theorem State.plainWrite_elsewhere {bs : List Nat} (s : State) (m : Master) {off : Nat} (v : Nat) (ho : off / 65536 ∈ bs) :
    Elsewhere bs s (s.plainWrite m off v) := (Elsewhere.refl bs s).setReg _ ho

/-- Staging a layer changes registers alone. -/
theorem State.stageLayer_keeps {α : Type} (p : State → α) (h : ∀ s m off v, p (State.plainWrite s m off v) = p s) (s : State)
    (l : Nat) (words : List Nat) : p (s.stageLayer l words) = p s :=
  foldl_keeps p _ (fun s _ => h s _ _ _) _ s

/-- The staged registers of the layers stand in the BRAID block. -/
theorem State.stageLayer_elsewhere (s : State) {l : Nat} (words : List Nat) (hl : l < 15) :
    Elsewhere [4] s (s.stageLayer l words) := by
  refine Elsewhere.foldl _ _ (fun x i hi => x.plainWrite_elsewhere _ _ ?_) s
  have below : i < 10 := List.mem_range.mp hi
  have block : layerOff l i / 65536 = 4 := by
    unfold layerOff
    omega
  simp [block]

/-- LAYER_SET of a layer of BRAID, with no commit asked, outside a follower. -/
theorem State.layerSetDesc_stages {s : State} {n : Nat} {d : Desc} (hd : s.flying n 0 0x10 = some d)
    (hf : s.descFails 0 d [] = none) (hl : d.p 0 % 16 ≠ 15) (hw : s.follows = false) (hc : getBits (d.p 0) 8 1 = 0) :
    s.layerSetDesc n =
      (s.stageLayer (d.p 0 % 16) ((List.range 10).map (fun i => d.p (1 + i)))).finish n d.index 0 0 0 := by
  simp [State.layerSetDesc, hd, hf, hl, hw, hc]

/-! ### LAYER_MOVE (R200) -/

/-- The move of a descriptor outside a leader waits for the descriptor's completion (R322). -/
theorem State.moveSet_bound {s : State} (l dst out alpha n : Nat) (hr : s.role ≠ 1) :
    ((s.moveSet l dst out alpha).bindMove n).braid.moves = s.braid.moves ++
      [⟨l, dst, out &&& 0x3FFF3FFF, alpha % 2 ^ 16, s.now, none, 0, some n⟩] := by
  have accepted : (s.moveSet l dst out alpha).braid.moves = s.braid.moves ++
      [⟨l, dst, out &&& 0x3FFF3FFF, alpha % 2 ^ 16, s.now, none, 0, none⟩] := by
    rw [State.moveSet, State.applyFrame_own hr]
    rfl
  simp [State.bindMove, accepted]

theorem State.moveSet_host {s : State} (l dst out alpha n : Nat) (hr : s.role ≠ 1) :
    ((s.moveSet l dst out alpha).bindMove n).host = s.host := by
  rw [State.moveSet, State.applyFrame_own hr]
  unfold State.bindMove
  split
  · split <;> rfl
  · rfl

theorem State.layerMoveDesc_adds {s : State} {n : Nat} {d : Desc} (hd : s.flying n 0 0x11 = some d)
    (hf : s.descFails 0 d [] = none) (hl : d.p 0 % 16 ≠ 15) (hw : s.follows = false) : s.layerMoveDesc n =
      ((s.moveSet (d.p 0 % 16) (d.p 1) (d.p 2) (d.p 3)).bindMove n).finish n d.index 0 0 0 := by
  simp [State.layerMoveDesc, hd, hf, hl, hw]

/-! ### LAYER_COMMIT (R197, R322) -/

theorem State.layerCommitDesc_takes {s : State} {n : Nat} {d : Desc} (hd : s.flying n 0 0x12 = some d)
    (hf : s.descFails 0 d [] = none) (hm : d.param 0 % 2 ^ 15 ≠ 0) (hc : s.commitCode (d.param 0 % 2 ^ 15) = none)
    (hr : s.role ≠ 1) :
    s.layerCommitDesc n = ((s.layerAccept (d.param 0 % 2 ^ 15) none).bindRing n).finish n d.index 0 0 0 := by
  have some_layer : (d.param 0 % 2 ^ 15 == 0) = false := beq_false_of_ne hm
  simp only [State.layerCommitDesc, State.layerCommitSet, hd, hf, some_layer, Nat.mod_mod, hc, State.applyFrame_own hr,
    Bool.false_eq_true, if_false]

theorem State.layerCommitDesc_rejected {s : State} {n c l : Nat} {d : Desc} (hd : s.flying n 0 0x12 = some d)
    (hf : s.descFails 0 d [] = none) (hm : d.param 0 % 2 ^ 15 ≠ 0)
    (hc : s.commitCode (d.param 0 % 2 ^ 15) = some (c, l)) :
    s.layerCommitDesc n = (s.layerRejected c l).finish n d.index 0x0A c 0 := by
  have some_layer : (d.param 0 % 2 ^ 15 == 0) = false := beq_false_of_ne hm
  simp only [State.layerCommitDesc, State.layerCommitSet, hd, hf, some_layer, Nat.mod_mod, hc, Bool.false_eq_true, if_false]

/-- A commit that a descriptor has made outside a leader is pending from now on, and waits for the descriptor's completion. -/
theorem State.layerAccept_bound (s : State) (mask n : Nat) :
    ((s.layerAccept mask none).bindRing n).get BRAID_STATUS_COMMIT_PENDING = 1 ∧
    ((s.layerAccept mask none).bindRing n).braid.commit.map (fun c => (c.mask, c.goAt, c.ringOf)) =
      some (mask, s.now, some n) := by
  refine ⟨State.get_set_same _ 1 (by decide), ?_⟩
  simp [State.bindRing, State.layerAccept]

theorem State.layerAccept_host (s : State) (mask n : Nat) : ((s.layerAccept mask none).bindRing n).host = s.host := rfl

/-! ### MESH_SELECT (R248, R324) -/

theorem State.sendCommit_host (s : State) (block frame : Nat) (values : List Nat) :
    (s.sendCommit block frame values).host = s.host := by
  unfold State.sendCommit State.sendSplice State.cvuPass State.cvuSet
  split
  · split
    · rfl
    · extract_lets f kept s1
      split <;> rfl
  · rfl

theorem State.meshSelectSet_host {s : State} {bank : Nat} (hi : s.selectIdle bank = false)
    (hr : s.selectRejected bank = false) : (s.meshSelectSet bank).2.host = s.host := by
  rw [State.meshSelectSet_taken hi hr]
  split
  · exact State.sendCommit_host _ _ _ _
  · rfl

theorem State.meshSelectSet_accepts {s : State} {bank : Nat} (hi : s.selectIdle bank = false)
    (hr : s.selectRejected bank = false) : (s.meshSelectSet bank).1 = true := by
  simp [State.meshSelectSet, hi, hr]

theorem State.meshSelectDesc_takes {s : State} {n : Nat} {d : Desc} (hd : s.flying n 0 0x21 = some d)
    (hf : s.descFails 0 d [] = none) (hi : s.selectIdle (d.param 0 % 4) = false)
    (hr : s.selectRejected (d.param 0 % 4) = false) : s.meshSelectDesc n =
      (s.meshSelectSet (d.param 0 % 4)).2.finish n d.index 0 0
        ((s.meshSelectSet (d.param 0 % 4)).2.reg WARP_MESH_TARGET_OFF % 2 ^ 16) := by
  have accepts := State.meshSelectSet_accepts hi hr
  simp only [State.meshSelectDesc, hd, hf]
  split
  · next x e => rw [e]
  · next x e =>
    rw [e] at accepts
    cases accepts

end Sys2Proof.Machine

open Sys2Proof Sys2Proof.Machine Sys2Proof.Machine.Reg

/-- Settles O29: each descriptor that passes its checks is one operation of BRAID or WARP, which leaves the HOST island alone, so
that its work is still in flight when it ends. -/
theorem layerAndMeshDescriptors : Obligations.LayerAndMeshDescriptors := by
  refine ⟨?set, ?move, ?commit, ?rejected, ?select⟩
  case set =>
    intro s t n d hd hf hl hw hc hs
    have work := State.layerSetDesc_stages (s := s.pass t) (by simpa using hd) (by simpa using hf) hl (by simpa using hw) hc
    exact congrArg Host.Outcome.next (State.run_finish hs work
      (State.stageLayer_elsewhere _ _ (by omega)) (by decide) (by decide)
      (State.stageLayer_keeps (·.now) (fun _ _ _ _ => rfl) _ _ _) (State.stageLayer_keeps (·.pending) (fun _ _ _ _ => rfl) _ _ _)
      (State.stageLayer_keeps (·.house) (fun _ _ _ _ => rfl) _ _ _))
  case move =>
    intro s t n d hd hf hl hw hr
    have hr : (s.pass t).role ≠ 1 := by simpa using hr
    have work := State.layerMoveDesc_adds (s := s.pass t) (by simpa using hd) (by simpa using hf) hl (by simpa using hw)
    refine ⟨_, rfl, State.run_finish_ended hd (State.moveSet_host _ _ _ _ _ hr) work, ?_⟩
    rw [State.run_braid, work, State.finish_braid, State.moveSet_bound _ _ _ _ _ hr, State.pass_braid, State.pass_now]
  case commit =>
    intro s t n d hd hf hm hc hr
    have work := State.layerCommitDesc_takes (s := s.pass t) (by simpa using hd) (by simpa using hf) hm hc (by simpa using hr)
    obtain ⟨pending, commit⟩ := (s.pass t).layerAccept_bound (d.param 0 % 2 ^ 15) n
    refine ⟨_, rfl, State.run_finish_ended hd (State.layerAccept_host _ _ _) work, ?_, ?_⟩
    · rw [State.run_get _ _ _ (by decide) (by decide) (by decide), work]
      exact pending
    · rw [State.run_braid, work, State.finish_braid, commit, State.pass_now]
  case rejected =>
    intro s t n c l d hd hf hm hc hs
    have work := State.layerCommitDesc_rejected (s := s.pass t) (by simpa using hd) (by simpa using hf) hm hc
    exact congrArg Host.Outcome.next (State.run_finish hs work (State.layerRejected_elsewhere _ _ _) (by decide) (by decide)
      rfl rfl rfl)
  case select =>
    intro s t n d hd hf hi hr
    have hi : (s.pass t).selectIdle (d.param 0 % 4) = false := by simpa using hi
    have hr : (s.pass t).selectRejected (d.param 0 % 4) = false := by simpa using hr
    have work := State.meshSelectDesc_takes (s := s.pass t) (by simpa using hd) (by simpa using hf) hi hr
    obtain ⟨pending, bank, -⟩ := State.meshSelectSet_status hi hr
    refine ⟨_, rfl, ?_, ?_, ?_⟩
    · rw [State.run_get _ _ _ (by decide) (by decide) (by decide), work]
      exact pending
    · rw [State.run_get _ _ _ (by decide) (by decide) (by decide), work]
      exact bank.trans (Nat.mod_mod _ 4)
    · have target : (s.run t fun s => s.meshSelectDesc n).reg WARP_MESH_TARGET_OFF =
          ((s.pass t).meshSelectSet (d.param 0 % 4)).2.reg WARP_MESH_TARGET_OFF := by
        rw [State.run_reg _ _ _ (by decide) (by decide), work]
        rfl
      rw [target]
      exact State.run_finish_ended hd (State.meshSelectSet_host hi hr) work

end

section
/-! PROOF. The curve of a mask's bound (R218): a built-in curve gives the smaller of two components at most its share of what it
gives the larger one, plus 1 LSB, since each value is cut to the share of every larger component's. -/

namespace Sys2Proof.Machine

/-- The least of a start and the values of a function at those numbers of a list that lie above `n`. -/
def leastAbove (g : Nat → Nat) (n : Nat) (l : List Nat) (v : Nat) : Nat :=
  l.foldl (fun v m => if n < m then min v (g m) else v) v

theorem leastAbove_cons (g : Nat → Nat) (n a : Nat) (l : List Nat) (v : Nat) :
    leastAbove g n (a :: l) v = leastAbove g n l (if n < a then min v (g a) else v) := rfl

theorem leastAbove_le_start (g : Nat → Nat) (n : Nat) (l : List Nat) (v : Nat) : leastAbove g n l v ≤ v := by
  induction l generalizing v with
  | nil => exact Nat.le_refl v
  | cons a l ih =>
    rw [leastAbove_cons]
    refine (ih _).trans ?_
    split
    · exact Nat.min_le_left _ _
    · exact Nat.le_refl v

theorem leastAbove_le (g : Nat → Nat) {n m : Nat} {l : List Nat} (v : Nat) (hm : m ∈ l) (h : n < m) :
    leastAbove g n l v ≤ g m := by
  induction l generalizing v with
  | nil => exact absurd hm List.not_mem_nil
  | cons a l ih =>
    rw [leastAbove_cons]
    rcases List.mem_cons.mp hm with rfl | hm
    · rw [if_pos h]
      exact (leastAbove_le_start g n l _).trans (Nat.min_le_right _ _)
    · exact ih _ hm

theorem leastAbove_cases (g : Nat → Nat) (n : Nat) (l : List Nat) (v : Nat) :
    leastAbove g n l v = v ∨ ∃ m ∈ l, n < m ∧ leastAbove g n l v = g m := by
  induction l generalizing v with
  | nil => exact .inl rfl
  | cons a l ih =>
    rw [leastAbove_cons]
    rcases ih (if n < a then min v (g a) else v) with same | ⟨m, hm, above, value⟩
    · rw [same]
      split
      · next above =>
        rcases Nat.le_total v (g a) with h | h
        · exact .inl (Nat.min_eq_left h)
        · exact .inr ⟨a, List.mem_cons_self, above, Nat.min_eq_right h⟩
      · exact .inl rfl
    · exact .inr ⟨m, List.mem_cons_of_mem a hm, above, value⟩

variable (table : Nat → Nat) (bounds : Nat → Nat × Nat) (top : Nat)

theorem builtIn_eq (n : Nat) : builtIn table bounds top n =
    leastAbove (fun m => n * tabled table bounds m / m + 1) n (List.range top) (tabled table bounds n) := rfl

/-- A built-in curve at a component is at most its share of the table's value at any larger one, plus 1. -/
theorem builtIn_le {n m : Nat} (h : n < m) (hm : m < top) :
    builtIn table bounds top n ≤ n * tabled table bounds m / m + 1 :=
  leastAbove_le (fun m => n * tabled table bounds m / m + 1) _ (List.mem_range.mpr hm) h

/-- A built-in curve gives the table's value or such a share, plus 1. -/
theorem builtIn_cases (n : Nat) : builtIn table bounds top n = tabled table bounds n ∨
    ∃ m, n < m ∧ m < top ∧ builtIn table bounds top n = n * tabled table bounds m / m + 1 := by
  rw [builtIn_eq]
  rcases leastAbove_cases (fun m => n * tabled table bounds m / m + 1) n (List.range top) (tabled table bounds n) with
    own | ⟨m, hm, above, share⟩
  · exact .inl own
  · exact .inr ⟨m, above, List.mem_range.mp hm, share⟩

/-- The share of a share is no smaller than the share, in whole numbers, but for what the first one's rounding loses. -/
theorem share_of_share (n m k v : Nat) (hk : 0 < k) : n * v / k * m ≤ n * (m * v / k + 1) := by
  have above : m * v ≤ k * (m * v / k + 1) := (Nat.lt_mul_div_succ (m * v) hk).le
  refine Nat.le_of_mul_le_mul_left ?_ hk
  calc k * (n * v / k * m)
    _ = k * (n * v / k) * m := (Nat.mul_assoc _ _ _).symm
    _ ≤ n * v * m := Nat.mul_le_mul_right m (Nat.mul_div_le (n * v) k)
    _ = n * (m * v) := by ring
    _ ≤ n * (k * (m * v / k + 1)) := Nat.mul_le_mul_left n above
    _ = k * (n * (m * v / k + 1)) := by ring

/-- The bound of a built-in curve (R218). -/
theorem builtIn_share {n m : Nat} (h : n ≤ m) (hm : m < top) :
    builtIn table bounds top n * m ≤ n * builtIn table bounds top m + m := by
  rcases h.lt_or_eq with h | rfl
  · rcases builtIn_cases table bounds top m with own | ⟨k, hk, hkt, share⟩
    · rw [own]
      calc builtIn table bounds top n * m
        _ ≤ (n * tabled table bounds m / m + 1) * m := Nat.mul_le_mul_right m (builtIn_le table bounds top h hm)
        _ = n * tabled table bounds m / m * m + m := Nat.succ_mul _ _
        _ ≤ n * tabled table bounds m + m := Nat.add_le_add_right (Nat.div_mul_le_self _ _) m
    · rw [share]
      calc builtIn table bounds top n * m
        _ ≤ (n * tabled table bounds k / k + 1) * m :=
          Nat.mul_le_mul_right m (builtIn_le table bounds top (h.trans hk) hkt)
        _ = n * tabled table bounds k / k * m + m := Nat.succ_mul _ _
        _ ≤ n * (m * tabled table bounds k / k + 1) + m :=
          Nat.add_le_add_right (share_of_share n m k _ (by omega)) m
  · rw [Nat.mul_comm]
    exact Nat.le_add_right _ _

end Sys2Proof.Machine

end

section
/-! PROOF. The guards' masks and GUARD_A's evaluation of every 100 µs (R216, R219, R382, R383, R385): what an evaluation reads, what
showing and clamping a sector leaves alone, and how a mask passes to BRAID. -/

namespace Sys2Proof.Machine

open Reg

/-! ### Commands of the guards -/

/-- A command that acts while the guards evaluate. -/
theorem does_guarded {c : Instr} {s : State} {t : Nat} {f : State → State} {P : State → Prop}
    (hc : exec c s = .next (s.run t fun s => s.guarded f)) (hm : s.house.mode.running = true) (h : P (s.run t f)) :
    Does c s P := by
  have guarded : s.run t (fun s => s.guarded f) = s.run t f := by
    rw [State.run, State.run, State.guarded, State.pass_house, if_pos hm]
  exact ⟨_, hc, guarded ▸ h⟩

/-- Settling leaves what the guards hold alone, but for an enable that is due. -/
theorem State.run_guards {α : Type} (p : Guards → α) (hp : ∀ (g : Guards) due, p { g with enableDue := due } = p g) (s : State)
    (t : Nat) (f : State → State) : p (s.run t f).guards = p (f (s.pass t)).guards := by
  unfold State.run State.settle
  extract_lets s1
  split
  · rfl
  · exact hp _ false

/-! ### What an evaluation reads -/

/-- The fields that the zones, the positions and the caps are evaluated from (R377, R379, R382, R393). -/
def evalFields : List Field :=
  [GUARD_A_INPUTS_ZONE_A, ⟨GUARD_B_INPUTS_OFF, 28, 1⟩, ⟨GUARD_A_INPUTS_OFF, 17, 1⟩, GUARD_A_STATUS_LINK,
    GUARD_A_CFG_LINK_LEVEL, GUARD_A_POS_RAW 0, GUARD_A_POS_RAW 1, GUARD_A_POS_RAW 2, GUARD_B_POS_RAW 0, GUARD_B_POS_RAW 1,
    GUARD_B_POS_RAW 2]

/-- Both states have the same fields to evaluate, and their guards differ in the gates at most. -/
structure SameInputs (a s : State) : Prop where
  guards : { s.guards with gates := [] } = { a.guards with gates := [] }
  fields : ∀ f ∈ evalFields, s.get f = a.get f

namespace SameInputs

variable {a s : State}

theorem pass (s : State) (t : Nat) : SameInputs s (s.pass t) := ⟨by rw [s.pass_guards], fun f _ => s.pass_get t f⟩

theorem of {s' : State} (h : SameInputs a s) (hg : { s'.guards with gates := [] } = { s.guards with gates := [] })
    (hf : ∀ f ∈ evalFields, s'.get f = s.get f) : SameInputs a s' :=
  ⟨hg.trans h.guards, fun f m => (hf f m).trans (h.fields f m)⟩

/-- A field apart from those read may change. -/
theorem set (h : SameInputs a s) {f : Field} (v : Nat)
    (hf : ∀ g ∈ evalFields, g.off ≠ f.off ∨ f.lsb + f.width ≤ g.lsb ∨ g.lsb + g.width ≤ f.lsb) : SameInputs a (s.set f v) := by
  have fits : ∀ g ∈ evalFields, g.lsb + g.width ≤ 32 := by decide
  exact h.of rfl fun g m => State.get_set_other s v (fits g m) (hf g m)

theorem zoneTable (h : SameInputs a s) (g : Guard) : s.zoneTable g = a.zoneTable g := by
  cases g with
  | a => exact congrArg (·.zoneA) h.guards
  | b => exact congrArg (·.zoneB) h.guards

theorem restricts (h : SameInputs a s) : s.restricts = a.restricts :=
  congrArg (· == 2) (h.fields GUARD_A_STATUS_LINK (by decide))

theorem position (h : SameInputs a s) (g : Guard) : s.position g = a.position g := by
  have raw (i : Nat) (hi : i < 3) : s.encRaw g i = a.encRaw g i := by
    cases g with
    | a => exact h.fields (GUARD_A_POS_RAW i) (by interval_cases i <;> decide)
    | b => exact h.fields (GUARD_B_POS_RAW i) (by interval_cases i <;> decide)
  simp only [State.position, h.zoneTable, raw 0 (by decide), raw 1 (by decide), raw 2 (by decide)]

theorem activeZones (h : SameInputs a s) (g : Guard) : s.activeZones g = a.activeZones g := by
  have demand : s.pairDemand 1 = a.pairDemand 1 := by
    have levelA : s.flag GUARD_A_INPUTS_ZONE_A = a.flag GUARD_A_INPUTS_ZONE_A := congrArg (· == 1) (h.fields _ (by decide))
    have levelB : s.flag ⟨GUARD_B_INPUTS_OFF, 28, 1⟩ = a.flag ⟨GUARD_B_INPUTS_OFF, 28, 1⟩ :=
      congrArg (· == 1) (h.fields _ (by decide))
    have latch : s.latched 1 = a.latched 1 := congrArg (· == 1) (h.fields ⟨GUARD_A_INPUTS_OFF, 17, 1⟩ (by decide))
    simp only [State.pairDemand, State.levels, levelA, levelB, latch, Nat.one_ne_zero, if_false]
  have zones : s.guards.tgZones = a.guards.tgZones := congrArg (·.tgZones) h.guards
  simp only [State.activeZones, State.zoneActive, h.zoneTable, h.restricts, demand, zones]

theorem sectorCap (h : SameInputs a s) (sec : Nat) : s.sectorCap sec = a.sectorCap sec := by
  have share (g : Guard) : s.sigma2 g = a.sigma2 g := by
    cases g with
    | a => exact congrArg (·.sigmaA) h.guards
    | b => exact congrArg (·.sigmaB) h.guards
  have link : s.get GUARD_A_CFG_LINK_LEVEL = a.get GUARD_A_CFG_LINK_LEVEL := h.fields _ (by decide)
  simp only [State.sectorCap, State.sectorLevel, State.sectorZones, h.zoneTable, h.activeZones, h.position, h.restricts, share, link]

theorem maskValid (h : SameInputs a s) : s.maskValid = a.maskValid := by
  have inUse : s.guards.inUse = a.guards.inUse := congrArg (·.inUse) h.guards
  have next : s.guards.next = a.guards.next := congrArg (·.next) h.guards
  have share : s.guards.sigmaA = a.guards.sigmaA := congrArg (·.sigmaA) h.guards
  have zone : s.guards.zoneA = a.guards.zoneA := congrArg (·.zoneA) h.guards
  have meets (m : Mask) : s.maskMeets m = a.maskMeets m := by
    unfold State.maskMeets State.drift_
    rw [h.activeZones, h.position, share, zone]
  simp only [State.maskValid, inUse, next, meets, h.restricts]

end SameInputs

/-! ### Folds over sectors and colours -/

/-- A fold of steps that keep a part of the state for each element keeps it. -/
theorem foldl_keeps_mem {α β : Type} (p : State → α) (g : State → β → State) (l : List β)
    (h : ∀ s, ∀ b ∈ l, p (g s b) = p s) : ∀ s : State, p (l.foldl g s) = p s := by
  induction l with
  | nil => exact fun _ => rfl
  | cons b l ih =>
    intro s
    rw [List.foldl_cons, ih fun s c hc => h s c (List.mem_cons_of_mem b hc), h s b List.mem_cons_self]

/-- What the step of one element brings about, where an invariant of all steps holds, and the others keep, holds after the fold. -/
theorem foldl_reaches {β : Type} {Inv Q : State → Prop} {g : State → β → State} {b : β} (l : List β)
    (inv : ∀ s, ∀ c ∈ l, Inv s → Inv (g s c)) (here : ∀ s, Inv s → Q (g s b)) (kept : ∀ s, ∀ c ∈ l, c ≠ b → Q s → Q (g s c))
    (hb : b ∈ l) {s : State} (hs : Inv s) : Q (l.foldl g s) := by
  suffices ∀ s, Inv s → (Q s ∨ b ∈ l) → Q (l.foldl g s) from this s hs (.inr hb)
  clear hb hs s
  induction l with
  | nil => exact fun s _ h => h.resolve_right List.not_mem_nil
  | cons c l ih =>
    intro s hs h
    refine ih (fun s d hd => inv s d (List.mem_cons_of_mem c hd)) (fun s d hd => kept s d (List.mem_cons_of_mem c hd)) _
      (inv s c List.mem_cons_self hs) ?_
    by_cases same : c = b
    · exact .inl (same ▸ here s hs)
    · rcases h with h | h
      · exact .inl (kept s c List.mem_cons_self same h)
      · exact .inr ((List.mem_cons.mp h).resolve_left (Ne.symm same))

/-! ### One sector under the clamp (R383) -/

theorem capOf_le {x : Rat} {k : Nat} (h : capOf x = some k) : k ≤ 1023 := by
  unfold capOf at h
  split at h
  · exact (Option.some.inj h).symm.le
  · next below =>
    split at h
    · have top : (4092 * x - 1023) / 3 ≤ (1023 : Int) := by
        push_cast
        linarith
      have floor := (Rat.floor_le ((4092 * x - 1023) / 3)).trans top
      have floor : Rat.floor ((4092 * x - 1023) / 3) ≤ 1023 := by exact_mod_cast floor
      rw [← Option.some.inj h]
      omega
    · cases h

theorem lowerCap_le {a b : Option Nat} {k : Nat} (h : lowerCap a b = some k) : ∃ x, a = some x ∧ k ≤ x := by
  cases a with
  | none => cases h
  | some x =>
    cases b with
    | none => cases h
    | some y => exact ⟨x, rfl, Option.some.inj h ▸ Nat.min_le_left x y⟩

/-- A cap fits CLAMP. -/
theorem State.sectorCap_lt {s : State} {sec k : Nat} (h : s.sectorCap sec = some k) : k < 2 ^ 10 := by
  have guards {k : Nat} (h : lowerCap (capOf (s.sectorLevel .a sec)) (capOf (s.sectorLevel .b sec)) = some k) : k ≤ 1023 := by
    obtain ⟨x, cap, below⟩ := lowerCap_le h
    exact below.trans (capOf_le cap)
  unfold State.sectorCap at h
  extract_lets c at h
  split at h
  · obtain ⟨x, cap, below⟩ := lowerCap_le h
    exact Nat.lt_succ_of_le (below.trans (guards cap))
  · exact Nat.lt_succ_of_le (guards h)

/-- CLAMP of a sector and colour takes the sector's cap. -/
def State.capTo (s : State) (i k : Nat) : State :=
  (if s.get (TONE_SREF_CLAMP i) == k then s else s.touch).set (TONE_SREF_CLAMP i) k

/-- A sector that was not under the clamp before is reported with its cap. -/
def State.clampTold (s : State) (sec k : Nat) (was : Bool) : State :=
  if was then s else s.safetyEvent .a 2 1 0xFF sec k 0x3FF (s.get GUARD_A_STATUS_CAUSE)

theorem State.clampSector_dark {s : State} {sec : Nat} (h : s.sectorCap sec = none) : s.clampSector sec =
    ((List.range 4).foldl (fun s c => s.gate .clamp (4 * sec + c))
      ((s.set (GUARD_A_CAP_CLAMPED sec) 1).set (GUARD_A_CAP_DARK sec) 1)).clampTold sec 0 (s.flag (GUARD_A_CAP_CLAMPED sec)) := by
  simp only [State.clampSector, h]
  rfl

theorem State.clampSector_capped {s : State} {sec k : Nat} (h : s.sectorCap sec = some k) : s.clampSector sec =
    if k == 1023 then (List.range 4).foldl (fun s c => s.capTo (4 * sec + c) k) s
    else (((List.range 4).foldl (fun s c => s.capTo (4 * sec + c) k) s).set (GUARD_A_CAP_CLAMPED sec) 1).clampTold sec k
      (s.flag (GUARD_A_CAP_CLAMPED sec)) := by
  simp only [State.clampSector, h]
  rfl

theorem State.gate_reg_other (s : State) (why : Gate) {i o : Nat} (h : o ≠ TONE_SREF_OFF i) : (s.gate why i).reg o = s.reg o := by
  unfold State.gate
  extract_lets e s1
  refine (State.reg_set_other _ 1 h).trans ?_
  split <;> rfl

theorem State.capTo_reg_other (s : State) {i o : Nat} (k : Nat) (h : o ≠ TONE_SREF_OFF i) : (s.capTo i k).reg o = s.reg o := by
  unfold State.capTo
  refine (State.reg_set_other _ k h).trans ?_
  split <;> rfl

theorem State.capTo_get_same (s : State) (i : Nat) {k : Nat} (h : k < 2 ^ 10) : (s.capTo i k).get (TONE_SREF_CLAMP i) = k := by
  rw [State.capTo, State.get_set_same _ _ (by decide : 16 + 10 ≤ 32)]
  exact Nat.mod_eq_of_lt h

theorem State.clampTold_reg (s : State) (sec k : Nat) (was : Bool) {o : Nat} (h : o / 65536 ≠ 2) :
    (s.clampTold sec k was).reg o = s.reg o := by
  unfold State.clampTold State.safetyEvent
  split
  · rfl
  · exact ((State.event_elsewhere s _).trans (State.raise_elsewhere _ (by decide))).reg (by simpa using h)

theorem State.clampTold_guards (s : State) (sec k : Nat) (was : Bool) : (s.clampTold sec k was).guards = s.guards := by
  unfold State.clampTold State.safetyEvent
  split
  · rfl
  · rw [State.raise_guards, State.event_guards]

/-- A sector's clamp changes the HOST block, the sector's CAP register and its four references alone. -/
theorem State.clampSector_reg (s : State) (sec : Nat) {o : Nat} (h2 : o / 65536 ≠ 2) (hc : o ≠ GUARD_A_CAP_OFF sec)
    (hr : ∀ c < 4, o ≠ TONE_SREF_OFF (4 * sec + c)) : (s.clampSector sec).reg o = s.reg o := by
  have gates (x : State) : ((List.range 4).foldl (fun s c => s.gate .clamp (4 * sec + c)) x).reg o = x.reg o :=
    foldl_keeps_mem (·.reg o) _ _ (fun x c m => x.gate_reg_other _ (hr c (List.mem_range.mp m))) x
  have caps (k : Nat) : ((List.range 4).foldl (fun s c => s.capTo (4 * sec + c) k) s).reg o = s.reg o :=
    foldl_keeps_mem (·.reg o) _ _ (fun x c m => x.capTo_reg_other k (hr c (List.mem_range.mp m))) s
  cases cap : s.sectorCap sec with
  | none =>
    rw [State.clampSector_dark cap, State.clampTold_reg _ _ _ _ h2, gates]
    exact (State.reg_set_other _ 1 hc).trans (State.reg_set_other s 1 hc)
  | some k =>
    rw [State.clampSector_capped cap]
    split
    · exact caps k
    · rw [State.clampTold_reg _ _ _ _ h2]
      exact (State.reg_set_other _ 1 hc).trans (caps k)

theorem State.clampSector_guards (s : State) (sec : Nat) :
    { (s.clampSector sec).guards with gates := [] } = { s.guards with gates := [] } := by
  have gated (x : State) (i : Nat) : { (x.gate .clamp i).guards with gates := [] } = { x.guards with gates := [] } := by
    simp only [State.gate, State.set_guards, apply_ite State.guards, State.touch_guards, ite_self]
  have capped (x : State) (i k : Nat) : (x.capTo i k).guards = x.guards := by
    unfold State.capTo
    split <;> rfl
  cases cap : s.sectorCap sec with
  | none =>
    rw [State.clampSector_dark cap, State.clampTold_guards]
    exact foldl_keeps (fun x : State => { x.guards with gates := [] }) _ (fun x c => gated x _) _ _
  | some k =>
    have caps : ((List.range 4).foldl (fun s c => s.capTo (4 * sec + c) k) s).guards = s.guards :=
      foldl_keeps (·.guards) _ (fun x c => capped x _ k) _ s
    rw [State.clampSector_capped cap]
    split
    · rw [caps]
    · rw [State.clampTold_guards, State.set_guards, caps]

/-- The fields that an evaluation reads stand below and above the CAP registers, apart from the HOST block and the references. -/
theorem evalFields_apart {f : Field} (h : f ∈ evalFields) {sec : Nat} (hs : sec < 64) : f.off / 65536 ≠ 2 ∧
    f.off ≠ GUARD_A_CAP_OFF sec ∧ ∀ c < 4, f.off ≠ TONE_SREF_OFF (4 * sec + c) := by
  have place : ∀ f ∈ evalFields, f.off / 65536 ≠ 2 ∧ 0x70000 ≤ f.off ∧ (f.off < 0x90040 ∨ 0x90140 ≤ f.off) := by decide
  obtain ⟨block, above, apart⟩ := place f h
  refine ⟨block, ?_, fun c hc => ?_⟩
  · rw [GUARD_A_CAP_OFF]
    omega
  · rw [TONE_SREF_OFF]
    omega

theorem SameInputs.clampSector {a s : State} (h : SameInputs a s) {sec : Nat} (hs : sec < 64) :
    SameInputs a (s.clampSector sec) :=
  h.of (s.clampSector_guards sec) fun _ m =>
    have ⟨host, cap, refs⟩ := evalFields_apart m hs
    State.get_of_reg (s.clampSector_reg sec host cap refs)

/-- A sector and colour stands under the clamp of its sector's cap in a state: the cap in CLAMP, or its DARK gate. -/
def State.Clamped (a s : State) (sec c : Nat) : Prop :=
  (∀ k, a.sectorCap sec = some k → s.get (TONE_SREF_CLAMP (4 * sec + c)) = k) ∧
  (a.sectorCap sec = none → s.flag (TONE_SREF_DARK (4 * sec + c)) = true)

theorem State.Clamped.of_reg {a s s' : State} {sec c : Nat} (h : a.Clamped s sec c)
    (hr : s'.reg (TONE_SREF_OFF (4 * sec + c)) = s.reg (TONE_SREF_OFF (4 * sec + c))) : a.Clamped s' sec c :=
  ⟨fun k cap => (State.get_of_reg hr).trans (h.1 k cap), fun dark => (State.flag_of_reg hr).trans (h.2 dark)⟩

theorem sref_ne {i j : Nat} (h : i ≠ j) : TONE_SREF_OFF i ≠ TONE_SREF_OFF j := by
  unfold TONE_SREF_OFF
  omega

theorem sref_apart {i : Nat} (hi : i < 256) (n : Nat) : TONE_SREF_OFF i / 65536 ≠ 2 ∧ TONE_SREF_OFF i ≠ GUARD_A_CAP_OFF n := by
  unfold TONE_SREF_OFF GUARD_A_CAP_OFF
  omega

/-- The gates of a sector's four colours close that of each. -/
theorem State.gates_dark (s : State) (why : Gate) (sec : Nat) {c : Nat} (hc : c < 4) :
    ((List.range 4).foldl (fun s c => s.gate why (4 * sec + c)) s).flag (TONE_SREF_DARK (4 * sec + c)) = true :=
  foldl_reaches (Inv := fun _ => True) (Q := fun x => x.flag (TONE_SREF_DARK (4 * sec + c)) = true) (b := c)
    (g := fun s c => s.gate why (4 * sec + c)) _ (fun _ _ _ _ => trivial) (fun x _ => x.gate_flag_same why (4 * sec + c))
    (fun x b _ hb dark => (State.flag_of_reg (x.gate_reg_other why (sref_ne (by omega)))).trans dark) (List.mem_range.mpr hc)
    trivial

/-- The caps of a sector's four colours stand in CLAMP of each. -/
theorem State.capTos_get (s : State) (sec : Nat) {k c : Nat} (hk : k < 2 ^ 10) (hc : c < 4) :
    ((List.range 4).foldl (fun s c => s.capTo (4 * sec + c) k) s).get (TONE_SREF_CLAMP (4 * sec + c)) = k :=
  foldl_reaches (Inv := fun _ => True) (Q := fun x => x.get (TONE_SREF_CLAMP (4 * sec + c)) = k) (b := c)
    (g := fun s c => s.capTo (4 * sec + c) k) _ (fun _ _ _ _ => trivial) (fun x _ => x.capTo_get_same (4 * sec + c) hk)
    (fun x b _ hb capped => (State.get_of_reg (x.capTo_reg_other k (sref_ne (by omega)))).trans capped) (List.mem_range.mpr hc)
    trivial

theorem State.clampSector_clamped {a s : State} (h : SameInputs a s) {sec c : Nat} (hs : sec < 64) (hc : c < 4) :
    a.Clamped (s.clampSector sec) sec c := by
  obtain ⟨host, capReg⟩ := sref_apart (i := 4 * sec + c) (by omega) sec
  unfold State.Clamped
  rw [← h.sectorCap]
  cases cap : s.sectorCap sec with
  | none =>
    refine ⟨nofun, fun _ => ?_⟩
    rw [State.clampSector_dark cap, State.flag_of_reg (State.clampTold_reg _ _ _ _ host)]
    exact State.gates_dark _ .clamp sec hc
  | some k =>
    have caps := s.capTos_get sec (State.sectorCap_lt cap) hc
    refine ⟨fun k' same => ?_, nofun⟩
    rw [← Option.some.inj same, State.clampSector_capped cap]
    split
    · exact caps
    · rw [State.get_of_reg ((State.clampTold_reg _ _ _ _ host).trans (State.reg_set_other _ 1 capReg))]
      exact caps

/-! ### All sectors (R382, R383) -/

/-- GUARD_A_CAP follows the caps of all sectors. -/
def State.showCaps (s : State) : State := (List.range 64).foldl (fun (s : State) c => s.showCap c) s

/-- Every sector is put under the clamp. -/
def State.clampAll (s : State) : State := (List.range 64).foldl (fun (s : State) c => s.clampSector c) s

theorem SameInputs.showCaps {a s : State} (h : SameInputs a s) : SameInputs a s.showCaps := by
  have one (x : State) {sec : Nat} (hs : sec < 64) (k : SameInputs a x) : SameInputs a (x.showCap sec) := by
    have apart (f : Field) (m : f ∈ evalFields) := (evalFields_apart m hs).2.1
    exact (k.set _ fun f m => .inl (apart f m)).set _ fun f m => .inl (apart f m)
  refine List.foldlRecOn _ _ h fun x k sec m => one x (List.mem_range.mp m) k

/-- The registers of GUARD_A below the caps stay when the caps are shown. -/
theorem State.showCaps_reg (s : State) {o : Nat} (h : o < 0x90040) : s.showCaps.reg o = s.reg o := by
  refine foldl_keeps (·.reg o) _ (fun x sec => ?_) _ s
  have apart : o ≠ GUARD_A_CAP_OFF sec := by
    rw [GUARD_A_CAP_OFF]
    omega
  exact (State.reg_set_other _ _ apart).trans (State.reg_set_other x _ apart)

/-- The same when every sector is put under the clamp. -/
theorem State.clampAll_reg (s : State) {o : Nat} (hb : o / 65536 = 9) (h : o < 0x90040) : s.clampAll.reg o = s.reg o := by
  refine foldl_keeps_mem (·.reg o) _ _ (fun x sec m => ?_) s
  have below : sec < 64 := List.mem_range.mp m
  refine x.clampSector_reg sec (by omega) ?_ fun c hc => ?_
  · rw [GUARD_A_CAP_OFF]
    omega
  · rw [TONE_SREF_OFF]
    omega

theorem State.clampAll_clamped {a s : State} (h : SameInputs a s) {sec c : Nat} (hs : sec < 64) (hc : c < 4) :
    a.Clamped s.clampAll sec c := by
  refine foldl_reaches (Inv := SameInputs a) (Q := fun x => a.Clamped x sec c) _
    (fun x i m k => k.clampSector (List.mem_range.mp m)) (fun x k => State.clampSector_clamped k hs hc)
    (fun x i _ other clamped => clamped.of_reg ?_) (List.mem_range.mpr hs) h
  obtain ⟨host, cap⟩ := sref_apart (i := 4 * sec + c) (by omega) i
  exact x.clampSector_reg i host cap fun b hb => sref_ne (by omega)

/-! ### The evaluation -/

/-- A bit of a field that was set reads the bit of what it was set to. -/
theorem State.flag_set_bit (s : State) {f : Field} (v : Nat) {i : Nat} (hi : i < f.width) (h32 : f.lsb + f.width ≤ 32) :
    (s.set f v).flag ⟨f.off, f.lsb + i, 1⟩ = v.testBit i := by
  have word : (s.set f v).get ⟨f.off, f.lsb + i, 1⟩ = getBits (setBits (s.reg f.off) f.lsb f.width v) (f.lsb + i) 1 := by
    have fits : f.lsb + i + 1 ≤ 32 := by omega
    exact (congrArg (getBits · (f.lsb + i) 1) (State.reg_setReg_same s f.off _)).trans (getBits_mod _ fits)
  have bit : (setBits (s.reg f.off) f.lsb f.width v).testBit (f.lsb + i) = v.testBit i := by
    rw [testBit_setBits, if_neg (by omega), if_pos (by omega), Nat.add_sub_cancel_left]
  rw [State.flag_iff, word, ← bit, getBits, Nat.pow_one, Nat.testBit_eq_decide_div_mod_eq]
  rfl

/-- The word of a set of zones has the bits of those zones. -/
theorem State.zoneWord_testBit (s : State) (g : Guard) (n : Nat) :
    (((s.activeZones g).map (fun n => 2 ^ n)).sum).testBit n = true ↔ n ∈ s.activeZones g := by
  have rising : (s.activeZones g).SortedLT := by
    unfold State.activeZones
    split
    · exact List.Pairwise.nil.sortedLT
    · exact (List.pairwise_lt_range.filter _).sortedLT
  rw [← Nat.mem_bitIndices, Nat.bitIndices_sum_map_two_pow rising]

/-- What an evaluation of GUARD_A shows, and the clamp that it leaves where the mask is not valid. -/
theorem State.zoneEval_shows (s : State) :
    (∀ n < 32, s.zoneEval.flag ⟨GUARD_A_ZONE_ACTIVE_OFF, n, 1⟩ = true ↔ n ∈ s.activeZones .a) ∧
    s.zoneEval.flag GUARD_A_STATUS_MASK_VALID = s.maskValid ∧
    (s.maskValid = false → ∀ sec c, sec < 64 → c < 4 → s.Clamped s.zoneEval sec c) := by
  unfold State.zoneEval
  extract_lets bits s1 ok s2 s3 s4
  have h1 : SameInputs s s1 := SameInputs.set ⟨rfl, fun _ _ => rfl⟩ _ (by decide)
  have h2 : SameInputs s s2 := h1.set _ (by decide)
  have h3 : SameInputs s s3 := by
    unfold s3
    split
    · exact h2
    · exact h2.set _ (by decide)
  have valid : ok = s.maskValid := h1.maskValid
  have reg3 {o : Nat} (h : o ≠ GUARD_A_MASK_DRIFT_OFF) : s3.reg o = s2.reg o := by
    unfold s3
    split
    · rfl
    · exact State.reg_set_other s2 _ h
  have reg {o : Nat} (hb : o / 65536 = 9) (ho : o < 0x90040) (hd : o ≠ GUARD_A_MASK_DRIFT_OFF) :
      (if ok then s4 else s4.clampAll).reg o = s2.reg o := by
    have shown : s4.reg o = s2.reg o := (s3.showCaps_reg ho).trans (reg3 hd)
    split
    · exact shown
    · exact (s4.clampAll_reg hb ho).trans shown
  refine ⟨fun n hn => ?_, ?_, fun invalid sec c hs hc => ?_⟩
  · have active : s2.flag ⟨GUARD_A_ZONE_ACTIVE_OFF, n, 1⟩ = bits.testBit n := by
      have bit := s.flag_set_bit (f := GUARD_A_ZONE_ACTIVE_ACTIVE) bits (i := n) hn (by decide)
      rw [show GUARD_A_ZONE_ACTIVE_ACTIVE.lsb + n = n from Nat.zero_add n] at bit
      exact (State.flag_of_reg (State.reg_set_other s1 (o := GUARD_A_ZONE_ACTIVE_OFF) _ (by decide))).trans bit
    rw [← s.zoneWord_testBit .a n]
    rw [← active, State.flag_of_reg (reg (o := GUARD_A_ZONE_ACTIVE_OFF) (by decide) (by decide) (by decide))]
  · rw [← valid]
    exact (State.flag_of_reg (reg (by decide) (by decide) (by decide))).trans (State.flag_setFlag_same s1 ok (by decide) rfl)
  · rw [if_neg (by simp [valid, invalid])]
    exact State.clampAll_clamped h3.showCaps hs hc

/-! ### Publication and verification (R219, R385) -/

theorem State.maskSample_derives (s : State) : s.maskSample.guards.deriving_.map (·.target) = some (frameAdd s.frameNo 2) ∧
    s.maskSample.guards.deriving_.map (·.sigma2) = some s.guards.sigmaA ∧
    s.maskSample.guards.deriving_.map (·.zones) = some (s.activeZones .a) ∧
    s.maskSample.guards.deriving_.map (·.pos) = some (s.position .a) := ⟨rfl, rfl, rfl, rfl⟩

theorem State.maskSample_withdraws (s : State) : s.maskSample.braid.waiting = none ∧
    s.maskSample.flag BRAID_PROT_STATUS_PUBLISHED = false := by
  refine ⟨rfl, ?_⟩
  exact State.flag_setFlag_same { s with braid := { s.braid with waiting := none } } (f := BRAID_PROT_STATUS_PUBLISHED) false
    (by decide) rfl

theorem State.maskPublish_waits {s : State} {m : Mask} (h : s.guards.deriving_ = some m) : s.maskPublish.guards.deriving_ = none ∧
    s.maskPublish.reg GUARD_A_MASK_FRAME_OFF = m.target % 2 ^ 32 ∧
    s.maskPublish.braid.waiting = some ⟨m, m.checkSum, s.now, false⟩ := by
  unfold State.maskPublish
  rw [h]
  exact ⟨rfl, State.reg_setReg_same _ _ _, rfl⟩

theorem State.maskVerify_good {s : State} {sum : Nat} {p : Published} (hw : s.braid.waiting = some p) (hv : p.verified = false)
    (hs : sum % 2 ^ 32 = p.sum) : s.maskVerify sum false = { s.set BRAID_PROT_STATUS_PUBLISHED 1 with
      braid := { s.braid with waiting := some { p with verified := true } } } := by
  have good : (sum % 2 ^ 32 == p.sum && !false) = true := by
    rw [hs, beq_self_eq_true]
    rfl
  simp only [State.maskVerify, hw, hv, good, Bool.false_eq_true, if_false, if_true]

/-- The publication that waits is gone. -/
def State.unpublished (s : State) : State := { s with braid := { s.braid with waiting := none } }

theorem State.maskVerify_bad {s : State} {sum : Nat} {u : Bool} {p : Published} (hw : s.braid.waiting = some p)
    (hv : p.verified = false) (hs : sum % 2 ^ 32 ≠ p.sum ∨ u = true) :
    s.maskVerify sum u = (s.unpublished.bump BRAID_PROT_COUNTS_VERIFY_FAIL).fault 0x0203 2 0 := by
  have bad : (sum % 2 ^ 32 == p.sum && !u) = false := by
    rcases hs with h | h
    · rw [beq_false_of_ne h, Bool.false_and]
    · rw [h, Bool.not_true, Bool.and_false]
  simp only [State.maskVerify, hw, hv, bad, Bool.false_eq_true, if_false]
  rfl

end Sys2Proof.Machine

open Sys2Proof Sys2Proof.Machine Sys2Proof.Machine.Reg

/-- Settles O46: a mask passes from GUARD_A to BRAID by one operation for each command; an evaluation puts the sectors under the
clamp one by one, and none changes what the others are evaluated from. -/
theorem masksAndClamp : Obligations.MasksAndClamp := by
  refine ⟨?sample, ?publish, ?verified, ?withdrawn, ?evaluation, ?curve⟩
  case sample =>
    intro s t hm
    have inputs := SameInputs.pass s t
    obtain ⟨target, sigma, zones, pos⟩ := (s.pass t).maskSample_derives
    obtain ⟨waiting, published⟩ := (s.pass t).maskSample_withdraws
    have number : (s.pass t).frameNo = s.frameNo := s.pass_get t _
    refine does_guarded rfl hm ?_
    rw [State.run_guards (·.deriving_) (fun _ _ => rfl), target, sigma, zones, pos, number, State.pass_guards, inputs.activeZones,
      inputs.position, State.run_braid, waiting, State.run_flag _ _ _ (by decide) (by decide) (by decide), published]
    exact ⟨rfl, rfl, rfl, rfl, rfl, rfl⟩
  case publish =>
    intro s t m hm hd
    obtain ⟨derived, frame, waiting⟩ := State.maskPublish_waits (s := s.pass t) (m := m) (by simpa using hd)
    refine does_guarded rfl hm ?_
    rw [State.run_guards (·.deriving_) (fun _ _ => rfl), derived, State.run_reg _ _ _ (by decide) (by decide), frame,
      State.run_braid, waiting, State.pass_now]
    exact ⟨rfl, rfl, rfl⟩
  case verified =>
    intro s t sum p hw hv hs
    have work := State.maskVerify_good (s := s.pass t) (by simpa using hw) hv hs
    refine ⟨_, rfl, ?_, ?_⟩
    · rw [State.run_braid, work]
    · rw [State.run_flag _ _ _ (by decide) (by decide) (by decide), work]
      exact State.flag_setFlag_same (s.pass t) (f := BRAID_PROT_STATUS_PUBLISHED) true (by decide) rfl
  case withdrawn =>
    intro s t sum u p hw hv hs
    have work := State.maskVerify_bad (s := s.pass t) (by simpa using hw) hv hs
    refine ⟨_, rfl, ?_, fun hr => ?_⟩
    · rw [State.run_braid, work]
      exact congrArg (·.waiting) (State.accept_braid _ ⟨0x0203, 2, 0, 0, 0, 0, 0⟩ _ _ _ _ rfl)
    · obtain ⟨free, locked, alive⟩ := (s.records_iff t).mp hr
      rw [State.newest, State.run_keeper, work]
      refine State.fault_newest rfl (by simpa [State.unpublished] using free) (by simpa [State.unpublished] using locked) ?_
      exact (State.flag_set_other _ _ (by decide) (by decide)).trans ((s.pass_flag t _).trans alive)
  case evaluation =>
    intro s t hm
    have inputs := SameInputs.pass s t
    obtain ⟨active, valid, clamps⟩ := (s.pass t).zoneEval_shows
    rw [inputs.activeZones] at active
    rw [inputs.maskValid] at valid clamps
    refine does_guarded rfl hm ⟨fun n hn => ?_, ?_, fun invalid sec c hs hc => ?_⟩
    · have awayA : GUARD_A_ZONE_ACTIVE_OFF ≠ GUARD_A_STATUS_OFF := by decide
      have awayB : GUARD_A_ZONE_ACTIVE_OFF ≠ GUARD_B_STATUS_OFF := by decide
      rw [State.run_flag _ _ _ (show n + 1 ≤ 32 from hn) (.inl awayA) (.inl awayB)]
      exact active n hn
    · rw [State.run_flag _ _ _ (by decide) (by decide) (by decide)]
      exact valid
    · have shown : (s.run t (·.zoneEval)).reg (TONE_SREF_OFF (4 * sec + c)) =
          (s.pass t).zoneEval.reg (TONE_SREF_OFF (4 * sec + c)) :=
        State.run_reg _ _ _ (by rw [TONE_SREF_OFF, GUARD_A_STATUS_OFF]; omega) (by rw [TONE_SREF_OFF, GUARD_B_STATUS_OFF]; omega)
      obtain ⟨capped, dark⟩ := (clamps invalid sec c hs hc).of_reg shown
      rw [inputs.sectorCap] at capped dark
      refine ⟨fun some_cap => ?_, dark⟩
      obtain ⟨k, cap⟩ := Option.isSome_iff_exists.mp some_cap
      rw [capped k cap, cap]
      rfl
  case curve =>
    intro n m hn _ hm
    exact builtIn_share _ _ _ hn hm

end

section
/-! PROOF. The mesh of WARP: IDENTITY's footprints and pixels (R242 to R245, R248), and a bank's load with the checks that decide it
(R246, R247, R324). -/

namespace Sys2Proof.Machine

open Reg

/-! ### IDENTITY (R244) -/

theorem State.footprint_identity (s : State) (x y : Nat) : s.footprint 2 x y = [((x : Int), (y : Int), 65536)] := rfl

theorem onCanvas_nat {x y : Nat} (hx : x < 1024) (hy : y < 1024) : onCanvas (x : Int) (y : Int) = true := by
  simp only [onCanvas, Bool.and_eq_true, decide_eq_true_eq]
  omega

theorem rnd_mul_self (a : Nat) {b : Nat} (hb : 0 < b) : rnd (a * b) b = a := by
  rw [rnd, Nat.div_eq_iff (by omega), ← Nat.mul_assoc, ← Nat.mul_assoc, Nat.mul_comm a 2]
  omega

/-- The blend of one canvas point of full weight is that point. -/
theorem warpBlend_point {x y c : Nat} (f : Nat → Nat → List Nat × Nat) (hx : x < 1024) (hy : y < 1024) (hc : c < 3) :
    (warpBlend [((x : Int), (y : Int), 65536)] f).1.getD c 0 = (f x y).1.getD c 0 ∧
    (warpBlend [((x : Int), (y : Int), 65536)] f).2 = (f x y).2 := by
  have whole (v : Nat) : rnd (v * 65536) 65536 = v := rnd_mul_self v (by decide)
  constructor
  · simp [warpBlend, onCanvas_nat hx hy, whole, hc]
  · simp [warpBlend, onCanvas_nat hx hy]

/-- A row that has just left WARP holds the blends of its own windows. -/
theorem State.passRow_warpPixel (s : State) {x : Nat} (y : Nat) (hx : x < 1024) :
    (s.passRow y).warpPixel x y = warpBlend (s.footprint s.inUse x y) (s.windowPoint y) := by
  simp [State.passRow, State.warpPixel, hx]

/-- A pixel of a row that has not left WARP is the canvas's. -/
theorem State.warpPixel_ahead {s : State} {y : Nat} (x : Nat) (h : ∀ r ∈ s.warp.comp.rows, r.1 ≠ y) :
    s.warpPixel x y = warpBlend (s.footprint s.inUse x y) s.canvas := by
  have absent : s.warp.comp.rows.find? (fun r => r.1 == y) = none :=
    List.find?_eq_none.mpr fun r hr => by simpa using h r hr
  rw [State.warpPixel, absent]

theorem State.selectRejected_identity (s : State) :
    s.selectRejected 2 = (s.flag WARP_MESH_STATUS_PENDING || s.follows) := rfl

/-! ### A load begins (R247) -/

/-- VALID of a bank. -/
abbrev bankValid (bank : Nat) : Field := ⟨WARP_MESH_STATUS_OFF, 8 + bank, 1⟩

theorem bankValid_fits {bank : Nat} (h : bank < 2) : (bankValid bank).lsb + (bankValid bank).width ≤ 32 := by
  simp only
  omega

theorem State.run_bankValid (s : State) (t : Nat) (f : State → State) {bank : Nat} (h : bank < 2) :
    (s.run t f).flag (bankValid bank) = (f (s.pass t)).flag (bankValid bank) := by
  have notA : WARP_MESH_STATUS_OFF ≠ GUARD_A_STATUS_OFF := by decide
  have notB : WARP_MESH_STATUS_OFF ≠ GUARD_B_STATUS_OFF := by decide
  exact State.run_flag s t f (bankValid_fits h) (.inl notA) (.inl notB)

@[simp] theorem State.pass_bankBusy (s : State) (t bank : Nat) : (s.pass t).bankBusy bank = s.bankBusy bank := by
  simp only [State.bankBusy, State.pass_get, State.pass_flag]

/-- A load that begins has invalidated its bank, and its image waits for the checks. -/
def State.Loading (s : State) (l : MeshLoad) : Prop :=
  s.get WARP_MESH_STATUS_LOADING = 1 ∧ s.flag (bankValid l.bank) = false ∧ s.warp.load = some l

/-- An image with a good header, for a bank that is neither in use nor selected, begins its load. -/
theorem State.loadStart_good {s : State} {w : List Nat} {bank : Nat} (ring index : Nat) (h2 : bank < 2)
    (hh : headerBad w bank = false) (hb : s.bankBusy bank = false) :
    ∃ s', s.loadStart w bank ring index = (0, s') ∧ s'.Loading ⟨bank, w, ring, index⟩ := by
  have fits := bankValid_fits h2
  have below {f : Field} (hf : 10 ≤ f.lsb) : 8 + bank + 1 ≤ f.lsb := by omega
  simp only [State.loadStart, hh, hb, Bool.false_eq_true, if_false]
  refine ⟨_, rfl, ?_, ?_, rfl⟩
  · exact (State.get_set_other _ bank (by decide) (by decide)).trans (State.get_set_same _ 1 (by decide))
  · calc (((s.set (bankValid bank) 0).set WARP_MESH_STATUS_LOADING 1).set WARP_MESH_STATUS_LOAD_BANK bank).flag (bankValid bank)
      _ = ((s.set (bankValid bank) 0).set WARP_MESH_STATUS_LOADING 1).flag (bankValid bank) :=
        State.flag_set_other _ _ fits (.inr (.inr (below (by decide))))
      _ = (s.set (bankValid bank) 0).flag (bankValid bank) := State.flag_set_other _ _ fits (.inr (.inr (below (by decide))))
      _ = false := State.flag_setFlag_same s false fits rfl

/-- The burst that a descriptor may move when it begins changes the HOST island alone. -/
theorem State.begins_moveFor_host (s : State) (n index total : Nat) (d : Desc) :
    ∃ host, ((s.begins n index).moveFor n total d).2 = { s with host := host } := by
  obtain ⟨host, moves⟩ := (s.begins n index).moveFor_host n total d
  exact ⟨host, moves⟩

/-- A MESH_LOAD that passes its checks begins the load of its image. -/
theorem State.meshLoadDesc_begins {s : State} {n : Nat} {d : Desc} {w : List Nat} (hd : s.flying n 0 0x20 = some d)
    (hs : d.started = false) (hf : s.descFails 0 d [(d.p 2 != meshBytes, 3, 0), (d.p 0 % 4 != 0, 4, 0)] = none)
    (h2 : d.param 0 % 4 < 2) (hl : s.warp.load = none) (hm : s.mayMaster = true) (hh : headerBad w (d.param 0 % 4) = false)
    (hb : s.bankBusy (d.param 0 % 4) = false) :
    (s.meshLoadDesc n (.data w)).Loading ⟨d.param 0 % 4, w, n, d.index⟩ := by
  obtain ⟨s', starts, loading⟩ := State.loadStart_good n d.index h2 hh hb
  obtain ⟨host, moves⟩ := s'.begins_moveFor_host n d.index meshBytes d
  have work : s.meshLoadDesc n (.data w) = { s' with host := host } := by
    rw [← moves]
    simp only [State.meshLoadDesc, hd, hf, hl, hm, hs, starts, Nat.not_le.mpr h2, Bool.not_true, Bool.or_self,
      Bool.false_eq_true, if_false]
  rw [work]
  exact loading

/-! ### The checks end (R246, R247, R324) -/

/-- The code of a mesh's first failing check fits LOAD_ERR. -/
theorem meshChecks_lt (words : List Nat) : (meshChecks words).1 < 2 ^ 4 := by
  unfold meshChecks
  extract_lets nodes order upper lower split u0 ps
  split
  · simp
  · split
    · simp
    · split
      · simp
      · split
        · simp
        · split <;> simp

/-- What a bank takes of a checked image shows in WARP_MESH_STATUS as the load's result and the bank's VALID. -/
theorem State.bankTakes_status (s : State) (bank : Nat) (words : List Nat) (err place split first : Nat) :
    (s.bankTakes bank words err place split first).reg WARP_MESH_STATUS_OFF =
      ((s.loadResult err place bank).setFlag (bankValid bank) (decide (err = 0))).reg WARP_MESH_STATUS_OFF := by
  have info : WARP_MESH_STATUS_OFF ≠ WARP_BANK_INFO_OFF bank := by
    unfold WARP_MESH_STATUS_OFF WARP_BANK_INFO_OFF
    omega
  have sum : WARP_MESH_STATUS_OFF ≠ WARP_BANK_SUM_OFF bank := by
    unfold WARP_MESH_STATUS_OFF WARP_BANK_SUM_OFF
    omega
  unfold State.bankTakes
  extract_lets s1 nodes warp s2 s3 s4 s5 s6
  by_cases good : err = 0
  · subst good
    calc (s6.setReg (WARP_BANK_SUM_OFF bank) (words.getD 2 0)).reg WARP_MESH_STATUS_OFF
      _ = s6.reg WARP_MESH_STATUS_OFF := State.reg_setReg_other s6 _ sum
      _ = s5.reg WARP_MESH_STATUS_OFF := State.reg_set_other s5 _ info
      _ = s4.reg WARP_MESH_STATUS_OFF := State.reg_set_other s4 _ info
      _ = s3.reg WARP_MESH_STATUS_OFF := State.reg_set_other s3 _ info
  · rw [if_pos (bne_iff_ne.mpr good), decide_eq_false good]
    rfl

theorem State.bankTakes_host (s : State) (bank : Nat) (words : List Nat) (err place split first : Nat) :
    (s.bankTakes bank words err place split first).host = s.host := by
  unfold State.bankTakes
  extract_lets s1 nodes warp s2 s3 s4 s5 s6
  split <;> rfl

theorem State.bankTakes_load (s : State) (bank : Nat) (words : List Nat) (err place split first : Nat) :
    (s.bankTakes bank words err place split first).warp.load = s.warp.load := by
  unfold State.bankTakes
  extract_lets s1 nodes warp s2 s3 s4 s5 s6
  have kept : s2.warp.load = s.warp.load := by
    unfold s2
    dsimp only
    split <;> rfl
  split <;> exact kept

/-- The status register after a bank has taken a checked image: LOADING stays, LOAD_ERR and VALID tell the checks' result. -/
theorem State.bankTakes_shows (s : State) {bank err : Nat} (words : List Nat) (place split first : Nat) (hb : bank < 2)
    (he : err < 2 ^ 4) :
    (s.bankTakes bank words err place split first).get WARP_MESH_STATUS_LOADING = s.get WARP_MESH_STATUS_LOADING ∧
    (s.bankTakes bank words err place split first).get WARP_MESH_STATUS_LOAD_ERR = err ∧
    (s.bankTakes bank words err place split first).flag (bankValid bank) = decide (err = 0) := by
  have status := s.bankTakes_status bank words err place split first
  have apart {f : Field} (hf : 10 ≤ f.lsb) : 8 + bank + 1 ≤ f.lsb := by omega
  have result {f : Field} (ho : f.off = WARP_MESH_STATUS_OFF) (hf : 10 ≤ f.lsb) (h32 : f.lsb + f.width ≤ 32) :
      (s.bankTakes bank words err place split first).get f =
        ((s.set WARP_MESH_STATUS_LOAD_ERR err).set WARP_MESH_STATUS_LOAD_BANK bank).get f :=
    calc (s.bankTakes bank words err place split first).get f
      _ = ((s.loadResult err place bank).setFlag (bankValid bank) (decide (err = 0))).get f := State.get_of_reg (ho ▸ status)
      _ = (s.loadResult err place bank).get f := State.get_set_other _ _ h32 (.inr (.inl (apart hf)))
      _ = _ := State.get_setReg_other _ _ (by rw [ho]; decide)
  refine ⟨?_, ?_, ?_⟩
  · rw [result rfl (by decide) (by decide), State.get_set_other _ _ (by decide) (by decide),
      State.get_set_other _ _ (by decide) (by decide)]
  · rw [result rfl (by decide) (by decide), State.get_set_other _ _ (by decide) (by decide),
      State.get_set_same _ _ (by decide)]
    exact Nat.mod_eq_of_lt he
  · rw [State.flag_of_reg status]
    exact State.flag_setFlag_same _ _ (bankValid_fits hb) rfl

/-- A load that has ended: none is in progress, and WARP_MESH_STATUS tells the result of its checks. -/
def State.Loaded (s : State) (l : MeshLoad) : Prop :=
  s.warp.load = none ∧ s.get WARP_MESH_STATUS_LOADING = 0 ∧ s.get WARP_MESH_STATUS_LOAD_ERR = (meshChecks l.words).1 ∧
  s.flag (bankValid l.bank) = decide ((meshChecks l.words).1 = 0)

/-- The load is over and its bank has taken the image as far as the checks let it. -/
def State.loadTaken (s : State) (l : MeshLoad) : State :=
  let r := meshChecks l.words
  (({ s with warp := { s.warp with load := none } } : State).set WARP_MESH_STATUS_LOADING 0).bankTakes l.bank l.words
    r.1 r.2.1 r.2.2.1 r.2.2.2

theorem State.loadEnds_eq {s : State} {l : MeshLoad} (hl : s.warp.load = some l) : s.loadEnds =
    if (meshChecks l.words).1 = 0 then (s.loadTaken l).finish l.ring l.index 0 0 0
    else (s.loadTaken l).finish l.ring l.index 0x0B (meshChecks l.words).1 ((meshChecks l.words).2.1 % 2 ^ 16) := by
  simp only [State.loadEnds, hl, State.loadTaken]

theorem State.loadTaken_host (s : State) (l : MeshLoad) : (s.loadTaken l).host = s.host :=
  State.bankTakes_host _ _ _ _ _ _ _

theorem State.loadTaken_loaded (s : State) {l : MeshLoad} (hb : l.bank < 2) : (s.loadTaken l).Loaded l := by
  obtain ⟨loading, err, valid⟩ := State.bankTakes_shows
    (({ s with warp := { s.warp with load := none } } : State).set WARP_MESH_STATUS_LOADING 0) l.words
    (meshChecks l.words).2.1 (meshChecks l.words).2.2.1 (meshChecks l.words).2.2.2 hb (meshChecks_lt l.words)
  exact ⟨State.bankTakes_load _ _ _ _ _ _ _, loading.trans (State.get_set_same _ 0 (by decide)), err, valid⟩

/-- The checks of a load end it, and its descriptor ends with their result. -/
theorem State.loadEnds_loaded {s : State} {l : MeshLoad} (hl : s.warp.load = some l) (hb : l.bank < 2)
    (hw : s.Works l.ring l.index) : s.loadEnds.Loaded l ∧
    ((meshChecks l.words).1 = 0 → s.loadEnds.ended l.ring l.index (0, 0, 0)) ∧
    ((meshChecks l.words).1 ≠ 0 → s.loadEnds.ended l.ring l.index
      (0x0B, (meshChecks l.words).1, (meshChecks l.words).2.1 % 2 ^ 16)) := by
  have works : (s.loadTaken l).Works l.ring l.index := hw.of_host (s.loadTaken_host l)
  have loaded := s.loadTaken_loaded hb
  rw [State.loadEnds_eq hl]
  by_cases good : (meshChecks l.words).1 = 0
  · rw [if_pos good]
    exact ⟨loaded, fun _ => State.finish_ended 0 0 0 works, fun bad => absurd good bad⟩
  · rw [if_neg good]
    exact ⟨loaded, fun zero => absurd zero good, fun _ => State.finish_ended _ _ _ works⟩

end Sys2Proof.Machine

open Sys2Proof Sys2Proof.Machine Sys2Proof.Machine.Reg

/-- Settles O10: the blend of IDENTITY's one point, of full weight, is that point, whatever the canvas is read through. -/
theorem identityMesh : Obligations.IdentityMesh := by
  refine ⟨?footprint, ?left, ?ahead, State.selectRejected_identity⟩
  case footprint =>
    intro s x y c f hx hy hc
    exact ⟨s.footprint_identity x y, warpBlend_point f hx hy hc⟩
  case left =>
    intro s x y c hu hx hy hc
    have identity : s.inUse = 2 := hu
    rw [s.passRow_warpPixel y hx, identity]
    exact warpBlend_point _ hx hy hc
  case ahead =>
    intro s x y c hu hx hy hc hr
    have identity : s.inUse = 2 := hu
    rw [State.warpPixel_ahead x hr, identity]
    exact warpBlend_point _ hx hy hc

/-- Settles O27: a load begins and ends by one operation of WARP each; the bytes that move and the descriptor's end change the HOST
island alone. -/
theorem meshLoadAndCheck : Obligations.MeshLoadAndCheck := by
  refine ⟨?load, ?check⟩
  case load =>
    intro s t n d w hd hs hf h2 hl hm hh hb
    obtain ⟨loading, invalid, load⟩ := State.meshLoadDesc_begins (s := s.pass t) (by simpa using hd) hs (by simpa using hf) h2
      (by simpa using hl) (by simpa using hm) hh (by simpa using hb)
    refine ⟨_, rfl, ?_, ?_, ?_⟩
    · rw [State.run_get _ _ _ (by decide) (by decide) (by decide), loading]
    · exact (State.run_bankValid s t _ h2).trans invalid
    · rw [State.run_warp, load]
  case check =>
    intro s t l d hl hd hu hb
    have work : (s.pass t).meshCheckDone = (s.pass t).loadEnds := by
      simp only [State.meshCheckDone, State.pass_warp, hl, State.pass_flyingAt, hd, hu, if_true]
    obtain ⟨⟨load, loading, err, valid⟩, success, failure⟩ := State.loadEnds_loaded (s := s.pass t) (by simpa using hl) hb
      (State.Works.of_flyingAt (by simpa using hd))
    rw [← work] at load loading err valid success failure
    refine ⟨_, rfl, ?_, ?_, ?_, ?_, fun good => ?_, fun bad => ?_⟩
    · rw [State.run_warp, load]
    · rw [State.run_get _ _ _ (by decide) (by decide) (by decide), loading]
    · rw [State.run_get _ _ _ (by decide) (by decide) (by decide), err]
    · exact (State.run_bankValid s t _ hb).trans valid
    · exact State.ended_of_host (success good) (State.run_host s t _)
    · exact State.ended_of_host (failure bad) (State.run_host s t _)

end

section
/-! PROOF. What the lanes and the streams report (R266 to R280, R285, R286, R293): reports that KEEPER records one after the other, and one
lemma for each operation that says which registers it changes and that it leaves the lanes beside their registers alone. -/

namespace Sys2Proof.Machine

open Reg

/-! ### Reports that follow each other (R476, R478) -/

/-- KEEPER records the reports that reach it now (R476, R478): a record that is being written began no earlier, KEEPER's PLL is
locked, and the module is not in FATAL. -/
structure State.Recording (s : State) : Prop where
  free : s.keeper.busyUntil ≤ s.now ∨ s.now ≤ s.keeper.busySince
  pll : s.house.pllUnlocked.contains 9 = false
  alive : s.flag KEEPER_STATUS_FATAL = false

theorem State.Recording.of {s s' : State} (h : s.Recording) (now : s'.now = s.now) (keeper : s'.keeper = s.keeper)
    (pll : s'.house.pllUnlocked = s.house.pllUnlocked) (fatal : s'.flag KEEPER_STATUS_FATAL = s.flag KEEPER_STATUS_FATAL) :
    s'.Recording :=
  ⟨by rw [now, keeper]; exact h.free, by rw [pll]; exact h.pll, fatal.trans h.alive⟩

theorem State.Recording.set {s : State} (h : s.Recording) {f : Field} (v : Nat) (hf : f.off ≠ KEEPER_STATUS_OFF) :
    (s.set f v).Recording :=
  h.of rfl rfl rfl (State.flag_set_other s v (by decide) (.inl hf.symm))

theorem State.Recording.event {s : State} (h : s.Recording) (e : Event) : (s.event e).Recording :=
  h.of (State.event_now s e) (State.event_keeper s e) (congrArg House.pllUnlocked (State.event_house s e))
    ((State.event_elsewhere s e).flag (by decide))

theorem State.Recording.driveErr {s : State} (h : s.Recording) : s.driveErr.Recording := by
  refine h.of (State.driveErr_now s) (State.driveErr_keeper s) (SameClocks.refl s).driveErr.pll ?_
  unfold State.driveErr
  extract_lets src s1 opens s2 house pin
  have sources : s1.flag KEEPER_STATUS_FATAL = s.flag KEEPER_STATUS_FATAL := State.flag_set_other s _ (by decide) (by decide)
  have count : s2.flag KEEPER_STATUS_FATAL = s1.flag KEEPER_STATUS_FATAL := State.flag_set_other s1 _ (by decide) (by decide)
  exact (State.flag_set_other _ _ (by decide) (by decide)).trans (count.trans sources)

theorem State.record_busySince (s : State) (r : Report) (cls : Nat) (real injected : Bool) :
    (s.record r cls real injected).keeper.busySince = if s.keeper.busyUntil ≤ s.now then s.now else s.keeper.busySince := by
  unfold State.record
  extract_lets _ _ _ s1 s2 s3
  have written : s3.keeper = s1.keeper := State.event_keeper s2 _
  rw [apply_ite State.keeper, State.raise_keeper, ite_self, written]

/-- The record that begins now stands in no later report's way. -/
theorem State.Recording.record {s : State} (h : s.Recording) (r : Report) (cls : Nat) (real injected : Bool) :
    (s.record r cls real injected).Recording := by
  refine ⟨.inr ?_, ?_, ?_⟩
  · rw [State.record_now, State.record_busySince]
    split
    · exact Nat.le_refl _
    · next busy => exact h.free.resolve_left busy
  · rw [State.record_house]
    exact h.pll
  · rw [State.flag_of_reg (State.record_reg s r cls real injected (by decide) (by decide))]
    exact h.alive

/-- A report that KEEPER takes is recorded, after its count and its open bit. -/
theorem State.Recording.collect {s : State} (h : s.Recording) (r : Report) (real injected react : Bool) :
    ∃ x : State, x.Recording ∧ s.collect r real injected react false = x.record r r.class_ real injected := by
  unfold State.collect
  extract_lets cls full s1 s2 busy lost
  have counted : s1.Recording := by
    refine h.set _ ?_
    clear_value cls
    split <;> decide
  have opened (b : Nat) : (openBit b).off ≠ KEEPER_STATUS_OFF := by
    rcases openBit_off b with hb | hb <;> rw [hb] <;> decide
  have taken : s2.Recording := by
    unfold s2
    split
    · split
      · split
        · exact counted.set 1 (opened _)
        · exact counted
      · exact counted
    · exact counted
  have kept : lost = false := by
    have idle : busy = false := by
      simp only [busy, Bool.false_or, Bool.and_eq_false_iff, decide_eq_false_iff_not, Nat.not_lt]
      exact taken.free
    simp only [lost, idle, taken.pll, taken.alive, Bool.false_and, Bool.or_false]
  exact ⟨s2, taken, if_neg (by simp [kept])⟩

theorem State.Recording.note {s : State} (h : s.Recording) (r : Report) : (s.note r).Recording := by
  obtain ⟨x, taken, recorded⟩ := h.collect r true (s.injecting r) false
  rw [State.note, recorded]
  exact (taken.record _ _ _ _).driveErr

/-- A fault without a reaction is the newest record. -/
theorem State.Recording.note_newest {s : State} (h : s.Recording) (r : Report) :
    (s.note r).newest = some (r.code, r.source, r.subject) := by
  obtain ⟨x, -, recorded⟩ := h.collect r true (s.injecting r) false
  rw [State.note, recorded, State.newest, State.driveErr_keeper]
  exact State.record_newest x r _ _ _

theorem State.Recording.noteFault_newest {s : State} (h : s.Recording) (code source subject : Nat) :
    (s.noteFault code source subject).newest = some (code, source, subject) := h.note_newest _

/-- A KEEPER that records a report at a time takes every report of that time. -/
theorem State.recording_of_records {s : State} {t : Nat} (h : s.records t = true) : (s.pass t).Recording := by
  obtain ⟨free, pll, alive⟩ := (s.records_iff t).mp h
  exact ⟨.inl (by simpa using free), by simpa using pll, by simpa using alive⟩

theorem State.note_elsewhere (s : State) (r : Report) : Elsewhere [1, 2] s (s.note r) :=
  (s.collect_elsewhere r true (s.injecting r) false false).trans ((State.driveErr_elsewhere _).mono (by decide))

theorem State.note_intake (s : State) (r : Report) : (s.note r).intake = s.intake := by
  rw [State.note, State.driveErr_intake, State.collect_intake]

/-! ### What reports of lanes and streams change -/

/-- Offset of a register in a lane's window. -/
def laneReg (n win : Nat) : Nat := (laneField n win 0 0).off

/-- The registers in which the lanes and streams report what befalls them, beside the lanes' own states: the status registers of
INTAKE, the status and the frame counters of the streams, and the lanes' error counters. -/
def reported (off : Nat) : Prop :=
  off = INTAKE_STATUS_OFF ∨ off = INTAKE_EYE_STATUS_OFF ∨
    (∃ m < 8, off = INTAKE_STR_STATUS_OFF m ∨ off = INTAKE_STR_FRAMES_OFF m) ∨ ∃ n, off = laneReg n 0x10

/-- The same with the status and the channel registers of some lanes. -/
def laneShown (p : Nat → Prop) (off : Nat) : Prop :=
  reported off ∨ ∃ n, p n ∧ (off = laneReg n 4 ∨ off = laneReg n 8)

theorem laneReg_inj {n k win win' : Nat} (hw : win < 0x40) (hw' : win' < 0x40) (h : laneReg n win = laneReg k win') :
    n = k ∧ win = win' := by
  simp only [laneReg, laneField] at h
  split at h <;> split at h <;> omega

theorem laneReg_lower (n win : Nat) : 0x30100 ≤ laneReg n win := by
  simp only [laneReg, laneField]
  split <;> omega

theorem laneReg_not_reported {n win : Nat} (hw : win < 0x10) : ¬ reported (laneReg n win) := by
  rintro (h | h | ⟨m, hm, h⟩ | ⟨k, h⟩)
  · exact absurd h (Nat.ne_of_gt (Nat.lt_of_lt_of_le (by decide) (laneReg_lower n win)))
  · exact absurd h (Nat.ne_of_gt (Nat.lt_of_lt_of_le (by decide) (laneReg_lower n win)))
  · simp only [laneReg, laneField, INTAKE_STR_STATUS_OFF, INTAKE_STR_FRAMES_OFF] at h
    split at h <;> omega
  · have := (laneReg_inj (by omega) (by decide) h).2
    omega

theorem laneReg_not_shown {p : Nat → Prop} {n win : Nat} (hw : win < 0x10) (h : ¬ p n ∨ (win ≠ 4 ∧ win ≠ 8)) :
    ¬ laneShown p (laneReg n win) := by
  rintro (shown | ⟨k, hk, same⟩)
  · exact laneReg_not_reported hw shown
  · rcases same with same | same
    · obtain ⟨rfl, rfl⟩ := laneReg_inj (by omega) (by decide) same
      exact h.elim (· hk) (·.1 rfl)
    · obtain ⟨rfl, rfl⟩ := laneReg_inj (by omega) (by decide) same
      exact h.elim (· hk) (·.2 rfl)

/-- What an operation may change: the registers named, and those of KEEPER and HOST that its reports change. It leaves the lanes beside
their registers, the clock, and KEEPER ready for more reports. -/
structure Within (own : Nat → Prop) (a s : State) : Prop where
  now : s.now = a.now
  lanes : s.intake.lanes = a.intake.lanes
  regs : ∀ off, off / 65536 ≠ 1 → off / 65536 ≠ 2 → ¬ own off → s.reg off = a.reg off
  recording : a.Recording → s.Recording

namespace Within

variable {own own' : Nat → Prop} {a s s' : State}

theorem refl (own : Nat → Prop) (s : State) : Within own s s := ⟨rfl, rfl, fun _ _ _ _ => rfl, id⟩

theorem trans (h : Within own a s) (k : Within own s s') : Within own a s' :=
  ⟨k.now.trans h.now, k.lanes.trans h.lanes, fun o h1 h2 ho => (k.regs o h1 h2 ho).trans (h.regs o h1 h2 ho),
    fun r => k.recording (h.recording r)⟩

theorem mono (h : Within own a s) (hs : ∀ off, own off → own' off) : Within own' a s :=
  ⟨h.now, h.lanes, fun o h1 h2 ho => h.regs o h1 h2 fun e => ho (hs o e), h.recording⟩

theorem ite {c : Prop} [Decidable c] {x y : State} (hx : Within own a x) (hy : Within own a y) :
    Within own a (if c then x else y) := by
  split
  · exact hx
  · exact hy

theorem foldl {β : Type} {l : List β} {f : State → β → State} (h : Within own a s) (hf : ∀ s b, Within own s (f s b)) :
    Within own a (l.foldl f s) := by
  induction l generalizing s with
  | nil => exact h
  | cons b l ih => exact ih (h.trans (hf s b))

theorem set (h : Within own a s) {f : Field} (v : Nat) (hf : own f.off) (hk : 0x30000 ≤ f.off) : Within own a (s.set f v) :=
  h.trans ⟨rfl, rfl, fun _ _ _ ho => State.reg_set_other s v fun e => ho (e ▸ hf),
    fun r => r.set v fun e => absurd (e ▸ hk) (by decide)⟩

theorem setFlag (h : Within own a s) {f : Field} (b : Bool) (hf : own f.off) (hk : 0x30000 ≤ f.off) :
    Within own a (s.setFlag f b) := h.set _ hf hk

theorem bump (h : Within own a s) {f : Field} (hf : own f.off) (hk : 0x30000 ≤ f.off) : Within own a (s.bump f) := h.set _ hf hk

theorem latch (h : Within own a s) {f : Field} (hf : own f.off) (hk : 0x30000 ≤ f.off) : Within own a (s.latch f) :=
  (h.set 1 hf hk).trans ⟨rfl, rfl, fun _ _ _ _ => rfl, fun r => r.of rfl rfl rfl rfl⟩

theorem setStream (h : Within own a s) (m : Nat) (r : Stream) : Within own a (s.setStream m r) :=
  h.trans ⟨rfl, rfl, fun _ _ _ _ => rfl, fun r => r.of rfl rfl rfl rfl⟩

theorem event (h : Within own a s) (e : Event) : Within own a (s.event e) :=
  h.trans ⟨State.event_now s e, congrArg Intake.lanes (State.event_intake s e),
    fun _ _ h2 _ => (State.event_elsewhere s e).reg (by simpa using h2), fun r => r.event e⟩

theorem note (h : Within own a s) (r : Report) : Within own a (s.note r) :=
  h.trans ⟨by rw [State.note, State.driveErr_now, State.collect_now], congrArg Intake.lanes (State.note_intake s r),
    fun _ h1 h2 _ => (State.note_elsewhere s r).reg (by simp [h1, h2]), fun h => h.note r⟩

theorem noteFault (h : Within own a s) (code source subject : Nat) : Within own a (s.noteFault code source subject) := h.note _

theorem get (h : Within own a s) {f : Field} (hb : 0x30000 ≤ f.off) (ho : ¬ own f.off) : s.get f = a.get f :=
  State.get_of_reg (h.regs _ (by omega) (by omega) ho)

theorem flag (h : Within own a s) {f : Field} (hb : 0x30000 ≤ f.off) (ho : ¬ own f.off) : s.flag f = a.flag f :=
  State.flag_of_reg (h.regs _ (by omega) (by omega) ho)

theorem lane (h : Within own a s) (n : Nat) : s.lane n = a.lane n := congrArg (sget (fun _ => Lane.cold) · n) h.lanes

/-! ### Lanes and streams -/

theorem showLane (h : Within reported a s) (n : Nat) : Within reported a (s.showLane n) :=
  .ite (h.setFlag _ (.inl rfl) (show 0x30000 ≤ INTAKE_STATUS_OFF by decide)) h

theorem eyeCut (h : Within reported a s) (n : Nat) : Within reported a (s.eyeCut n) := by
  have own : reported INTAKE_EYE_STATUS_OFF := .inr (.inl rfl)
  exact .ite (((h.set 1 own (by decide)).set 0 own (by decide)).set 1 own (by decide)) h

theorem streamDown (h : Within reported a s) {m : Nat} (hm : m < 8) (cause : Nat) : Within reported a (s.streamDown m cause) := by
  have status : reported (INTAKE_STR_STATUS_OFF m) := .inr (.inr (.inl ⟨m, hm, .inl rfl⟩))
  have above : 0x30000 ≤ INTAKE_STR_STATUS_OFF m := by rw [INTAKE_STR_STATUS_OFF]; omega
  have shown := ((h.set (f := INTAKE_STR_STATUS_UP m) 0 status above).set (f := INTAKE_STR_STATUS_DOWN_CAUSE m) cause status
    above).set (f := ⟨INTAKE_STATUS_OFF, 8 + m, 1⟩) 0 (.inl rfl)
    (show 0x30000 ≤ INTAKE_STATUS_OFF by decide)
  exact .ite shown ((shown.event _).note _)

theorem discard (h : Within reported a s) {m : Nat} (hm : m < 8) (code : Nat) : Within reported a (s.discard m code) := by
  have own (o : Nat) (ho : o = INTAKE_STR_STATUS_OFF m ∨ o = INTAKE_STR_FRAMES_OFF m) : reported o :=
    .inr (.inr (.inl ⟨m, hm, ho⟩))
  have frames : 0x30000 ≤ INTAKE_STR_FRAMES_OFF m := by rw [INTAKE_STR_FRAMES_OFF]; omega
  have status : 0x30000 ≤ INTAKE_STR_STATUS_OFF m := by rw [INTAKE_STR_STATUS_OFF]; omega
  have counted := ((h.setStream m { s.stream m with frame := none, run := true }).bump (f := INTAKE_STR_FRAMES_DISCARDED m)
    (own _ (.inr rfl)) frames).set (f := INTAKE_STR_STATUS_LAST_DISCARD m) code (own _ (.inl rfl)) status
  exact .ite counted (counted.note _)

end Within

/-- The stream of a lane's group is one of the eight, and enabled. -/
theorem State.streamOf_spec {s : State} {logical m : Nat} (h : s.streamOf logical = some m) :
    m < 8 ∧ s.flag (INTAKE_STR_CFG_ENABLE m) = true := by
  have found := List.find?_some h
  have member := List.mem_of_find?_eq_some h
  simp only [Bool.and_eq_true] at found
  exact ⟨List.mem_range.mp member, found.1.1⟩

theorem Within.laneLeaves {a s : State} (h : Within reported a s) (logical : Nat) : Within reported a (s.laneLeaves logical) := by
  unfold State.laneLeaves
  split
  · exact h
  · next m hm =>
    obtain ⟨hm, -⟩ := State.streamOf_spec hm
    extract_lets s1
    have h1 : Within reported a s1 := by
      unfold s1
      split
      · exact .ite (h.discard hm 4) h
      · exact h
    exact .ite (h1.streamDown hm 3) h1

/-! ### A lane that falls (R271) -/

theorem laneReg_large (n win : Nat) : 0x30000 ≤ laneReg n win := Nat.le_trans (by decide) (laneReg_lower n win)

theorem Within.laneSet {own : Nat → Prop} {a s : State} (h : Within own a s) {n win lsb width : Nat} (v : Nat)
    (ho : own (laneReg n win)) : Within own a (s.set (laneField n win lsb width) v) :=
  h.set v ho (laneReg_large n win)

theorem Within.laneLatch {own : Nat → Prop} {a s : State} (h : Within own a s) {n win lsb width : Nat}
    (ho : own (laneReg n win)) : Within own a (s.latch (laneField n win lsb width)) :=
  h.latch ho (laneReg_large n win)

/-- A lane's field reads what it was set to. -/
theorem State.get_laneSet_same (s : State) (n win v : Nat) {lsb width : Nat} (h : lsb + width ≤ 32) (hv : v < 2 ^ width) :
    (s.set (laneField n win lsb width) v).get (laneField n win lsb width) = v :=
  (State.get_set_same s (f := laneField n win lsb width) v h).trans (Nat.mod_eq_of_lt hv)

/-- Fields of one lane's register apart from each other. -/
theorem State.get_laneSet_other (s : State) {n win l w l' w' : Nat} (v : Nat) (hg : l' + w' ≤ 32) (h : l + w ≤ l' ∨ l' + w' ≤ l) :
    (s.set (laneField n win l w) v).get (laneField n win l' w') = s.get (laneField n win l' w') :=
  State.get_set_other s v hg (.inr h)

theorem State.setLink_within (s : State) (n link : Nat) : Within (laneShown (· = n)) s (s.set (laneLink n) link) :=
  (Within.refl _ s).laneSet link (.inr ⟨n, rfl, .inl rfl⟩)

/-- A lane that was up is no more: DOWN_SEEN is set, and its number and skew are lost. -/
def State.laneDown (s : State) (n : Nat) : State :=
  ((s.latch (laneField n 4 16 1)).set (laneLogical n) 15).set (laneField n 4 24 8) 0

/-- What a lane's fall is: its new link state, reports, and where it was up and falls below MARKED the loss of its number, which KEEPER
records where it is told to. -/
theorem State.laneFalls_spec (s : State) (n link : Nat) (note : Bool) :
    ∃ x, Within reported (s.set (laneLink n) link) x ∧ s.laneFalls n link note =
      if s.get (laneLink n) < 3 ∨ link = 3 then x
      else if note then (x.laneDown n).noteFault 0x0001 (laneIsland n) (s.laneSubj n) else x.laneDown n := by
  unfold State.laneFalls
  extract_lets was logical sub s1 s2 s3 s4 s5
  have h1 : Within reported (s.set (laneLink n) link) s1 := (Within.refl _ _).showLane n
  have h2 : Within reported (s.set (laneLink n) link) s2 := .ite (h1.eyeCut n) h1
  have h3 : Within reported (s.set (laneLink n) link) s3 := .ite (h2.laneLeaves logical) h2
  by_cases low : was < 3
  · exact ⟨s2, h2, by rw [if_pos low, if_pos (.inl low)]⟩
  · refine ⟨s3, h3, ?_⟩
    by_cases marked : link = 3
    · rw [if_neg low, if_pos (beq_iff_eq.mpr marked), if_pos (.inr marked)]
    · rw [if_neg low, if_neg (mt beq_iff_eq.mp marked), if_neg (not_or.mpr ⟨low, marked⟩)]
      rfl

theorem State.laneDown_within (s : State) (n : Nat) : Within (laneShown (· = n)) s (s.laneDown n) := by
  have own : laneShown (· = n) (laneReg n 4) := .inr ⟨n, rfl, .inl rfl⟩
  exact (((Within.refl _ s).laneLatch own).laneSet 15 own).laneSet 0 own

theorem State.laneFalls_within (s : State) (n link : Nat) (note : Bool) :
    Within (laneShown (· = n)) s (s.laneFalls n link note) := by
  obtain ⟨x, reports, falls⟩ := s.laneFalls_spec n link note
  have fallen : Within (laneShown (· = n)) s x :=
    (s.setLink_within n link).trans (reports.mono fun _ => .inl)
  have down := fallen.trans (x.laneDown_within n)
  rw [falls]
  exact .ite fallen (.ite (down.noteFault _ _ _) down)

theorem State.laneDown_link (s : State) (n : Nat) : (s.laneDown n).get (laneLink n) = s.get (laneLink n) := by
  unfold State.laneDown laneLink laneLogical
  rw [State.get_laneSet_other _ _ (by decide) (by decide), State.get_laneSet_other _ _ (by decide) (by decide),
    State.latch_get, State.get_laneSet_other _ _ (by decide) (by decide)]

theorem State.laneDown_logical (s : State) (n : Nat) : (s.laneDown n).get (laneLogical n) = 15 := by
  unfold State.laneDown laneLogical
  rw [State.get_laneSet_other _ _ (by decide) (by decide),
    State.get_laneSet_same _ _ _ _ (by decide) (by decide)]

theorem State.laneDown_seen (s : State) (n : Nat) : (s.laneDown n).get (laneField n 4 16 1) = 1 := by
  unfold State.laneDown laneLogical
  rw [State.get_laneSet_other _ _ (by decide) (by decide), State.get_laneSet_other _ _ (by decide) (by decide),
    State.latch_get,
    State.get_laneSet_same _ _ _ _ (by decide) (by decide)]

theorem Within.laneGet {own : Nat → Prop} {a s : State} (h : Within own a s) {n win lsb width : Nat} (ho : ¬ own (laneReg n win)) :
    s.get (laneField n win lsb width) = a.get (laneField n win lsb width) := h.get (laneReg_large n win) ho

/-- A lane that falls is in its new link state. -/
theorem State.laneFalls_link (s : State) (n : Nat) {link : Nat} (note : Bool) (hl : link < 8) :
    (s.laneFalls n link note).get (laneLink n) = link := by
  obtain ⟨x, reports, falls⟩ := s.laneFalls_spec n link note
  have fallen : x.get (laneLink n) = link :=
    (reports.laneGet (laneReg_not_reported (by decide))).trans (s.get_laneSet_same n 4 link (by decide) hl)
  have down := (x.laneDown_link n).trans fallen
  rw [falls]
  split
  · exact fallen
  · split
    · exact (((Within.refl reported _).noteFault _ _ _).laneGet (laneReg_not_reported (by decide))).trans down
    · exact down

/-- A lane that was up and falls below MARKED has lost its number, with DOWN_SEEN. -/
theorem State.laneFalls_down {s : State} {n link : Nat} (note : Bool) (up : 3 ≤ s.get (laneLink n)) (hl : link ≠ 3) :
    (s.laneFalls n link note).get (laneLogical n) = 15 ∧ (s.laneFalls n link note).get (laneField n 4 16 1) = 1 := by
  obtain ⟨x, -, falls⟩ := s.laneFalls_spec n link note
  rw [falls, if_neg (not_or.mpr ⟨Nat.not_lt.mpr up, hl⟩)]
  split
  · have kept := (Within.refl reported (x.laneDown n)).noteFault 0x0001 (laneIsland n) (s.laneSubj n)
    exact ⟨(kept.laneGet (laneReg_not_reported (by decide))).trans (x.laneDown_logical n),
      (kept.laneGet (laneReg_not_reported (by decide))).trans (x.laneDown_seen n)⟩
  · exact ⟨x.laneDown_logical n, x.laneDown_seen n⟩

/-- LANE_DOWN of a lane that was up is the newest record. -/
theorem State.laneFalls_newest {s : State} {n link : Nat} (up : 3 ≤ s.get (laneLink n)) (hl : link ≠ 3) (h : s.Recording) :
    (s.laneFalls n link true).newest = some (0x0001, laneIsland n, s.laneSubj n) := by
  obtain ⟨x, reports, falls⟩ := s.laneFalls_spec n link true
  have fallen := (s.setLink_within n link).recording h
  rw [falls, if_neg (not_or.mpr ⟨Nat.not_lt.mpr up, hl⟩), if_pos rfl]
  exact ((x.laneDown_within n).recording (reports.recording fallen)).noteFault_newest _ _ _

/-! ### Loss and cable length (R273) -/

theorem State.cableLength_congr {s s' : State} (loss : Nat) (h : s'.reg INTAKE_CTRL_OFF = s.reg INTAKE_CTRL_OFF) :
    s'.cableLength loss = s.cableLength loss := by
  have ref : s'.get INTAKE_CTRL_REF_LOSS = s.get INTAKE_CTRL_REF_LOSS := State.get_of_reg h
  have fixed : s'.get INTAKE_CTRL_CHAN_FIXED = s.get INTAKE_CTRL_CHAN_FIXED := State.get_of_reg h
  rw [State.cableLength, State.cableLength, ref, fixed]

theorem control_not_shown (p : Nat → Prop) : ¬ laneShown p INTAKE_CTRL_OFF := by
  have below (n win : Nat) : INTAKE_CTRL_OFF ≠ laneReg n win :=
    Nat.ne_of_lt (Nat.lt_of_lt_of_le (by decide) (laneReg_lower n win))
  rintro ((h | h | ⟨m, -, h⟩ | ⟨n, h⟩) | ⟨n, -, h⟩)
  · exact absurd h (by decide)
  · exact absurd h (by decide)
  · simp only [INTAKE_CTRL_OFF, INTAKE_STR_STATUS_OFF, INTAKE_STR_FRAMES_OFF] at h
    omega
  · exact below _ _ h
  · exact h.elim (below _ _) (below _ _)

theorem Within.cableLength {p : Nat → Prop} {a s : State} (h : Within (laneShown p) a s) (loss : Nat) :
    s.cableLength loss = a.cableLength loss :=
  State.cableLength_congr loss (h.regs _ (by decide) (by decide) (control_not_shown p))

theorem State.showLoss_within (s : State) (n : Nat) : Within (laneShown (· = n)) s (s.showLoss n) := by
  have own : laneShown (· = n) (laneReg n 8) := .inr ⟨n, rfl, .inr rfl⟩
  unfold State.showLoss
  exact (((Within.refl _ s).laneSet 1 own).laneSet _ own).laneSet _ own

/-- The status register of a lane stands apart from its channel register. -/
theorem State.showLoss_status (s : State) (n lsb width : Nat) :
    (s.showLoss n).get (laneField n 4 lsb width) = s.get (laneField n 4 lsb width) := by
  have apart (l w : Nat) : (laneField n 4 lsb width).off ≠ (laneField n 8 l w).off := fun e =>
    absurd (laneReg_inj (by decide) (by decide) e).2 (by decide)
  unfold State.showLoss
  refine State.get_of_reg ?_
  rw [State.reg_set_other _ _ (apart _ _), State.reg_set_other _ _ (apart _ _), State.reg_set_other _ _ (apart _ _)]

/-- An entry to BLOCK shows TRAINED, the loss and the cable length. -/
theorem State.showLoss_shows (s : State) (n : Nat) :
    (s.showLoss n).get (laneField n 8 0 12) = min (s.lane n).loss 0xFFF ∧ (s.showLoss n).get (laneField n 8 31 1) = 1 ∧
    (s.showLoss n).get (laneField n 8 16 12) = s.cableLength (s.lane n).loss := by
  unfold State.showLoss
  extract_lets loss s1
  have length : s1.cableLength loss = s.cableLength loss :=
    ((Within.refl (laneShown (· = n)) s).laneSet 1 (.inr ⟨n, rfl, .inr rfl⟩)).cableLength loss
  have fits : s.cableLength loss < 2 ^ 12 := Nat.lt_of_le_of_lt (Nat.min_le_right _ _) (by decide)
  have short : min loss 0xFFF < 2 ^ 12 := Nat.lt_of_le_of_lt (Nat.min_le_right _ _) (by decide)
  refine ⟨State.get_laneSet_same _ n 8 _ (by decide) short, ?_, ?_⟩
  · rw [State.get_laneSet_other _ _ (by decide) (by decide), State.get_laneSet_other _ _ (by decide) (by decide)]
    exact State.get_laneSet_same s n 8 1 (by decide) (by decide)
  · rw [State.get_laneSet_other _ _ (by decide) (by decide), length]
    exact State.get_laneSet_same _ n 8 _ (by decide) fits

/-! ### Lanes beside their registers -/

theorem State.lane_setLane_same (s : State) (n : Nat) (l : Lane) : (s.setLane n l).lane n = l := sget_sput_same _ _ _

theorem State.lane_setLane_other (s : State) {n k : Nat} (l : Lane) (h : k ≠ n) : (s.setLane n l).lane k = s.lane k :=
  sget_sput_other _ _ h

@[simp] theorem State.set_lane (s : State) (f : Field) (v n : Nat) : (s.set f v).lane n = s.lane n := rfl

@[simp] theorem State.latch_lane (s : State) (f : Field) (n : Nat) : (s.latch f).lane n = s.lane n := rfl

@[simp] theorem State.setLane_get (s : State) (n : Nat) (l : Lane) (f : Field) : (s.setLane n l).get f = s.get f := rfl

@[simp] theorem State.setLane_reg (s : State) (n : Nat) (l : Lane) (off : Nat) : (s.setLane n l).reg off = s.reg off := rfl

theorem State.Recording.setLane {s : State} (h : s.Recording) (n : Nat) (l : Lane) : (s.setLane n l).Recording :=
  h.of rfl rfl rfl rfl

/-- A field of INTAKE or SPLICE after a command. -/
theorem State.run_laneGet (s : State) (t : Nat) (g : State → State) (n win : Nat) {lsb width : Nat} (hn : n < 10) (hw : win < 0x40)
    (h : lsb + width ≤ 32) : (s.run t g).get (laneField n win lsb width) = (g (s.pass t)).get (laneField n win lsb width) := by
  have away (o : Nat) (ho : o = GUARD_A_STATUS_OFF ∨ o = GUARD_B_STATUS_OFF) : (laneField n win lsb width).off ≠ o := by
    simp only [laneField, GUARD_A_STATUS_OFF, GUARD_B_STATUS_OFF] at ho ⊢
    split <;> omega
  exact State.run_get s t g h (.inl (away _ (.inl rfl))) (.inl (away _ (.inr rfl)))

theorem State.run_lane (s : State) (t : Nat) (g : State → State) (n : Nat) : (s.run t g).lane n = (g (s.pass t)).lane n :=
  congrArg (fun i : Intake => sget (fun _ => Lane.cold) i.lanes n) (State.run_intake s t g)

theorem State.run_newest (s : State) (t : Nat) (g : State → State) : (s.run t g).newest = (g (s.pass t)).newest := by
  rw [State.newest, State.run_keeper, State.newest]

@[simp] theorem State.pass_lane (s : State) (t n : Nat) : (s.pass t).lane n = s.lane n :=
  State.pass_keeps (·.lane n) (fun _ _ _ _ _ _ _ => rfl) s t

@[simp] theorem State.pass_laneHeld (s : State) (t n : Nat) : (s.pass t).laneHeld n = s.laneHeld n :=
  State.pass_keeps (·.laneHeld n) (fun _ _ _ _ _ _ _ => rfl) s t

@[simp] theorem State.pass_laneSubj (s : State) (t n : Nat) : (s.pass t).laneSubj n = s.laneSubj n :=
  State.pass_keeps (·.laneSubj n) (fun _ _ _ _ _ _ _ => rfl) s t

@[simp] theorem State.pass_cableLength (s : State) (t loss : Nat) : (s.pass t).cableLength loss = s.cableLength loss :=
  State.pass_keeps (·.cableLength loss) (fun _ _ _ _ _ _ _ => rfl) s t

@[simp] theorem State.pass_orderOk (s : State) (t n lane : Nat) : (s.pass t).orderOk n lane = s.orderOk n lane :=
  State.pass_keeps (·.orderOk n lane) (fun _ _ _ _ _ _ _ => rfl) s t

@[simp] theorem State.pass_twins (s : State) (t n lane : Nat) : (s.pass t).twins n lane = s.twins n lane :=
  State.pass_keeps (·.twins n lane) (fun _ _ _ _ _ _ _ => rfl) s t

end Sys2Proof.Machine
end

section
/-! PROOF. The lanes (R266 to R273, R275): training, block lock, markers accepted and refused, and a lane that falls. -/

namespace Sys2Proof.Machine

open Reg

/-! ### TRAIN ends, and a lane loses its markers (R269, R271, R273) -/

/-- A lane whose equaliser has adapted, with a loss. -/
def Lane.adapted (l : Lane) (loss : Nat) : Lane :=
  { l with stored := true, loss := loss, locked := false, good := 0, window := [] }

theorem State.laneTrained_eq {s : State} {n loss : Nat} (hn : n < 10) (hh : s.laneHeld n = false) (hl : s.get (laneLink n) = 1) :
    s.laneTrained n loss = ((s.setLane n ((s.lane n).adapted loss)).set (laneLink n) 2).showLoss n := by
  simp only [State.laneTrained, hl, hh, bne_self_eq_false, Bool.false_or, Bool.or_false, decide_eq_true_eq,
    if_neg (Nat.not_le.mpr hn)]
  rfl

theorem State.laneTrained_shows {s : State} {n loss : Nat} (hn : n < 10) (hh : s.laneHeld n = false) (hl : s.get (laneLink n) = 1) :
    (s.laneTrained n loss).get (laneLink n) = 2 ∧ (s.laneTrained n loss).get (laneField n 8 0 12) = min loss 0xFFF ∧
    (s.laneTrained n loss).get (laneField n 8 31 1) = 1 ∧
    (s.laneTrained n loss).get (laneField n 8 16 12) = s.cableLength loss ∧
    (s.laneTrained n loss).lane n = (s.lane n).adapted loss := by
  have block := (s.setLane n ((s.lane n).adapted loss)).setLink_within n 2
  have mine := (block.lane n).trans (s.lane_setLane_same n _)
  have length : _ = s.cableLength loss := block.cableLength loss
  obtain ⟨shown, done, cable⟩ :=
    ((s.setLane n ((s.lane n).adapted loss)).set (laneLink n) 2).showLoss_shows n
  rw [mine] at shown cable
  rw [State.laneTrained_eq hn hh hl]
  refine ⟨?_, shown, done, cable.trans length, ?_⟩
  · exact (State.showLoss_status _ n 0 3).trans (State.get_laneSet_same _ n 4 2 (by decide) (by decide))
  · exact ((State.showLoss_within _ n).lane n).trans mine

/-- A lane whose markers are missing. -/
def Lane.unmarked (l : Lane) : Lane := { l with since := none, marker := none }

theorem State.markerMissing_eq {s : State} {n : Nat} (hh : s.laneHeld n = false) (up : 3 ≤ s.get (laneLink n)) :
    s.markerMissing n = ((s.setLane n (s.lane n).unmarked).laneFalls n 2 true).showLoss n := by
  simp only [State.markerMissing, hh, Bool.false_eq_true, if_false, up, if_true]
  rfl

/-- A lane that was up and loses its markers falls to BLOCK. -/
theorem State.markerMissing_shows {s : State} {n : Nat} (hh : s.laneHeld n = false) (up : 3 ≤ s.get (laneLink n)) :
    (s.markerMissing n).get (laneLink n) = 2 ∧ (s.markerMissing n).get (laneLogical n) = 15 ∧
    (s.markerMissing n).get (laneField n 4 16 1) = 1 ∧ (s.markerMissing n).lane n = (s.lane n).unmarked ∧
    (s.markerMissing n).get (laneField n 8 0 12) = min (s.lane n).loss 0xFFF ∧
    (s.markerMissing n).get (laneField n 8 16 12) = s.cableLength (s.lane n).loss ∧
    (s.Recording → (s.markerMissing n).newest = some (0x0001, laneIsland n, s.laneSubj n)) := by
  have falls := (s.setLane n (s.lane n).unmarked).laneFalls_within n 2 true
  have mine := (falls.lane n).trans (s.lane_setLane_same n _)
  have length : _ = s.cableLength (s.lane n).loss := falls.cableLength _
  obtain ⟨logical, seen⟩ :=
    State.laneFalls_down (s := s.setLane n (s.lane n).unmarked) (link := 2) true up (by decide)
  obtain ⟨shown, -, cable⟩ := ((s.setLane n (s.lane n).unmarked).laneFalls n 2 true).showLoss_shows n
  rw [mine] at shown cable
  rw [State.markerMissing_eq hh up]
  refine ⟨?_, ?_, ?_, ?_, shown, cable.trans length, fun h => ?_⟩
  · exact (State.showLoss_status _ n 0 3).trans (State.laneFalls_link _ n true (by decide))
  · exact (State.showLoss_status _ n 8 4).trans logical
  · exact (State.showLoss_status _ n 16 1).trans seen
  · exact ((State.showLoss_within _ n).lane n).trans mine
  · exact State.laneFalls_newest (s := s.setLane n (s.lane n).unmarked) up (by decide) (h.setLane n _)

/-! ### Block lock (R267) -/

/-- A header that takes no lock away joins the last 64. -/
def Lane.header (l : Lane) (bad : Bool) : Lane :=
  { l with
    window := (bad :: l.window).take 64, good := if bad then 0 else min (l.good + 1) 64
    locked := l.locked || (if bad then 0 else min (l.good + 1) 64) == 64 }

/-- A valid header never takes the lock of a lane with less than sixteen invalid ones among the 63 before it. -/
theorem State.syncHeader_valid {s : State} {n : Nat}
    (h : (s.lane n).locked = false ∨ (((s.lane n).window.take 63).filter id).length < 16) :
    s.syncHeader n false = (false, s.setLane n ((s.lane n).header false)) := by
  have kept : ¬ ((s.lane n).locked && decide (16 ≤ (((false :: (s.lane n).window).take 64).filter id).length)) = true := by
    rcases h with h | h
    · simp [h]
    · simpa using fun _ => h
  simp only [State.syncHeader, Bool.false_eq_true, if_false, if_neg kept]
  rfl

/-- A lane that loses block lock has nothing of the blocks it received. -/
def Lane.unlocked (l : Lane) : Lane :=
  { l with locked := false, good := 0, window := [], bip := 0, bipOn := false, since := none, marker := none }

/-- Block lock goes, with DOWN_SEEN, at an invalid header. -/
def State.lockGoes (s : State) (n : Nat) : State :=
  ((s.bump (laneField n 0x10 16 16)).setLane n (s.lane n).unlocked).latch (laneField n 4 16 1)

theorem State.lockGoes_lane (s : State) (n : Nat) : (s.lockGoes n).lane n = (s.lane n).unlocked := by
  rw [State.lockGoes, State.latch_lane, State.lane_setLane_same]

theorem State.bumpErrors_within (s : State) (n lsb width : Nat) : Within reported s (s.bump (laneField n 0x10 lsb width)) :=
  (Within.refl _ s).bump (.inr (.inr (.inr ⟨n, rfl⟩))) (laneReg_large n 0x10)

theorem State.lockGoes_status (s : State) (n : Nat) {lsb width : Nat} (h32 : lsb + width ≤ 32)
    (apart : lsb + width ≤ 16 ∨ 17 ≤ lsb) : (s.lockGoes n).get (laneField n 4 lsb width) = s.get (laneField n 4 lsb width) := by
  rw [State.lockGoes, State.latch_get, State.get_laneSet_other _ _ h32 apart.symm, State.setLane_get]
  exact (s.bumpErrors_within n 16 16).laneGet (laneReg_not_reported (by decide))

theorem State.Recording.lockGoes {s : State} (h : s.Recording) (n : Nat) : (s.lockGoes n).Recording :=
  ((Within.refl (laneShown (· = n)) _).laneLatch (.inr ⟨n, rfl, .inl rfl⟩)).recording
    (((s.bumpErrors_within n 16 16).recording h).setLane n _)

/-- The sixteenth invalid header of any 64 takes the lock away. -/
theorem State.syncHeader_lost {s : State} {n : Nat} (hl : (s.lane n).locked = true)
    (h : 15 ≤ (((s.lane n).window.take 63).filter id).length) :
    s.syncHeader n true = (true, (s.lockGoes n).laneFalls n 1 true) := by
  have sixteen : ((s.lane n).locked && decide (16 ≤ (((true :: (s.lane n).window).take 64).filter id).length)) = true := by
    simpa [hl] using h
  have same : (s.bump (laneField n 0x10 16 16)).lane n = s.lane n := rfl
  simp only [State.syncHeader, if_true, same, if_pos sixteen]
  rfl

theorem Within.blockInFrame {a s : State} (h : Within reported a s) (n logical sync type : Nat) :
    Within reported a (s.blockInFrame n logical sync type) := by
  unfold State.blockInFrame
  extract_lets bad inMap
  have bound : ∀ m, inMap = some m → m < 8 := by
    intro m hm
    unfold inMap at hm
    split at hm
    · cases hm
    · next k hk =>
      split at hm
      · split at hm
        · exact Option.some.inj hm ▸ (State.streamOf_spec hk).1
        · cases hm
      · cases hm
  clear_value inMap
  cases inMap with
  | none => exact .ite (h.trans (s.bumpErrors_within n 16 16)) h
  | some m =>
    have hm := bound m rfl
    exact .ite (.ite h (h.discard hm 7)) (.ite (h.discard hm 6) h)

/-- The block's payload passes the descrambler and joins the parity of R268; its number counts since the last marker. -/
def Lane.payload (l : Lane) (bytes : List Nat) : Lane :=
  { l with
    scr := (descramble l.scr (bytes.flatMap bitsOf)).2, bip := (bytes.take 8).foldl (fun a b => a ^^^ (b % 256)) l.bip
    since := l.since.map (· + 1) }

/-- A lane in BLOCK or above whose island's PLL is locked takes blocks. -/
theorem takesBlocks {s : State} {n : Nat} (hn : n < 10) (hh : s.laneHeld n = false) (hl : 2 ≤ s.get (laneLink n)) :
    ¬ (decide (s.get (laneLink n) < 2) || decide (10 ≤ n) || s.laneHeld n) = true := by
  simp only [hh, Bool.or_false, Bool.or_eq_true, decide_eq_true_eq]
  omega

/-- A block whose header takes no lock away changes its lane by the header and the payload, beside what it reports. -/
theorem State.laneBlock_kept {s x : State} {n sync : Nat} (bytes : List Nat) {bad : Bool} (hb : (sync % 4 == 0 || sync % 4 == 3) = bad)
    (hn : n < 10) (hh : s.laneHeld n = false) (hl : 2 ≤ s.get (laneLink n)) (hx : s.syncHeader n bad = (false, x)) :
    Within reported (x.setLane n ((x.lane n).payload bytes)) (s.laneBlock n sync bytes) := by
  simp only [State.laneBlock, if_neg (takesBlocks hn hh hl), hb, hx]
  exact .ite (.refl _ _) ((Within.refl _ _).blockInFrame _ _ _ _)

theorem State.laneBlock_lost {s x : State} {n sync : Nat} (bytes : List Nat) {bad : Bool} (hb : (sync % 4 == 0 || sync % 4 == 3) = bad)
    (hn : n < 10) (hh : s.laneHeld n = false) (hl : 2 ≤ s.get (laneLink n)) (hx : s.syncHeader n bad = (true, x)) :
    s.laneBlock n sync bytes = x := by
  simp only [State.laneBlock, if_neg (takesBlocks hn hh hl), hb, hx]

/-- Without lock a valid header counts, and the 64th in a row gives lock. -/
theorem State.laneBlock_counts {s : State} {n sync : Nat} (bytes : List Nat) (hn : n < 10) (hh : s.laneHeld n = false)
    (hl : 2 ≤ s.get (laneLink n)) (hu : (s.lane n).locked = false) (hs : sync = 1 ∨ sync = 2) :
    let s' := s.laneBlock n sync bytes
    (s'.lane n).good = min ((s.lane n).good + 1) 64 ∧ (s'.lane n).locked = decide (63 ≤ (s.lane n).good) ∧
    s'.get (laneLink n) = s.get (laneLink n) := by
  intro s'
  have valid : (sync % 4 == 0 || sync % 4 == 3) = false := by
    rcases hs with rfl | rfl <;> rfl
  have block := State.laneBlock_kept bytes valid hn hh hl (State.syncHeader_valid (.inl hu))
  have mine : s'.lane n = ((s.lane n).header false).payload bytes := by
    rw [block.lane, State.lane_setLane_same, State.lane_setLane_same]
  refine ⟨?_, ?_, block.laneGet (laneReg_not_reported (by decide))⟩
  · rw [mine]
    rfl
  · rw [mine, Bool.eq_iff_iff]
    simp only [Lane.payload, Lane.header, hu, Bool.false_or, Bool.false_eq_true, if_false, beq_iff_eq, decide_eq_true_eq]
    omega

/-- With lock the sixteenth invalid header takes it away, and the lane trains again. -/
theorem State.laneBlock_loses {s : State} {n sync : Nat} (bytes : List Nat) (hn : n < 10) (hh : s.laneHeld n = false)
    (hl : 2 ≤ s.get (laneLink n)) (hu : (s.lane n).locked = true) (hs : sync = 0 ∨ sync = 3)
    (hw : 15 ≤ (((s.lane n).window.take 63).filter id).length) :
    let s' := s.laneBlock n sync bytes
    (s'.lane n).locked = false ∧ s'.get (laneLink n) = 1 ∧
    (3 ≤ s.get (laneLink n) → s'.get (laneLogical n) = 15 ∧ s'.get (laneField n 4 16 1) = 1 ∧
      (s.Recording → s'.newest = some (0x0001, laneIsland n, s.laneSubj n))) := by
  intro s'
  have invalid : (sync % 4 == 0 || sync % 4 == 3) = true := by
    rcases hs with rfl | rfl <;> rfl
  have lost : s' = (s.lockGoes n).laneFalls n 1 true :=
    State.laneBlock_lost bytes invalid hn hh hl (State.syncHeader_lost hu hw)
  have link : (s.lockGoes n).get (laneLink n) = s.get (laneLink n) := s.lockGoes_status n (by decide) (by decide)
  have subject : (s.lockGoes n).laneSubj n = s.laneSubj n :=
    congrArg (subj 4) (s.lockGoes_status n (by decide) (by decide))
  rw [lost]
  refine ⟨?_, State.laneFalls_link _ n true (by decide), fun up => ?_⟩
  · rw [((s.lockGoes n).laneFalls_within n 1 true).lane, State.lockGoes_lane]
    rfl
  · have up : 3 ≤ (s.lockGoes n).get (laneLink n) := link ▸ up
    obtain ⟨logical, seen⟩ := State.laneFalls_down (link := 1) true up (by decide)
    refine ⟨logical, seen, fun h => ?_⟩
    rw [State.laneFalls_newest up (by decide) (h.lockGoes n), subject]

/-! ### Deskew (R275) -/

/-- What each lane that becomes ALIGNED keeps, and each that falls to MARKED, deskew keeps. -/
theorem State.deskew_induction {P : State → Prop} {s : State}
    (aligned : ∀ (x : State) (k skew : Nat), P x → P (((x.set (laneLink k) 4).set (laneField k 4 24 8) skew).showLane k))
    (failed : ∀ (x : State) (k : Nat), P x →
      P (((x.laneFalls k 3 false).latch (laneField k 4 18 1)).noteFault 0x0003 (laneIsland k) (x.laneSubj k)))
    (ks : List Nat) (h : P s) : P (s.deskew ks) := by
  unfold State.deskew
  extract_lets marks low
  split
  · refine List.foldlRecOn ks _ h fun x hx k _ => ?_
    split
    · exact aligned x k _ hx
    · exact hx
  · exact h
  · refine List.foldlRecOn ks _ h fun x hx k _ => ?_
    split
    · exact failed x k hx
    · exact hx

/-- A marker has lanes deskewed, or none. -/
theorem State.deskewOf_cases (s : State) (n : Nat) : s.deskewOf n = s ∨ ∃ ks, s.deskewOf n = s.deskew ks := by
  unfold State.deskewOf
  split
  · split
    · exact .inl rfl
    · extract_lets g ks want
      split
      · exact .inr ⟨_, rfl⟩
      · split
        · exact .inr ⟨_, rfl⟩
        · exact .inl rfl
  · exact .inr ⟨_, rfl⟩

theorem State.alignedStep_within (s : State) (k skew : Nat) :
    Within (laneShown (· = k)) s (((s.set (laneLink k) 4).set (laneField k 4 24 8) skew).showLane k) :=
  ((s.setLink_within k 4).laneSet skew (.inr ⟨k, rfl, .inl rfl⟩)).trans
    (((Within.refl reported _).showLane k).mono fun _ => .inl)

theorem State.failedStep_within (s : State) (k subject : Nat) : Within (laneShown (· = k)) s
    (((s.laneFalls k 3 false).latch (laneField k 4 18 1)).noteFault 0x0003 (laneIsland k) subject) :=
  ((s.laneFalls_within k 3 false).laneLatch (.inr ⟨k, rfl, .inl rfl⟩)).noteFault _ _ _

theorem State.deskew_within (s : State) (ks : List Nat) : Within (laneShown fun _ => True) s (s.deskew ks) := by
  have any {x y : State} {k : Nat} (h : Within (laneShown (· = k)) x y) : Within (laneShown fun _ => True) x y :=
    h.mono fun _ shown => shown.imp_right fun ⟨n, _, hn⟩ => ⟨n, trivial, hn⟩
  exact State.deskew_induction (P := Within (laneShown fun _ => True) s)
    (fun x k skew hx => hx.trans (any (x.alignedStep_within k skew)))
    (fun x k hx => hx.trans (any (x.failedStep_within k (x.laneSubj k)))) ks (.refl _ s)

/-- A lane in MARKED or ALIGNED with an accepted number and its marker. -/
def State.upAs (s : State) (n lane : Nat) (marker : Option (Nat × Nat × Nat)) : Prop :=
  3 ≤ s.get (laneLink n) ∧ s.get (laneLogical n) = lane ∧ (s.lane n).marker = marker

/-- What befalls another lane leaves a lane up. -/
theorem State.upAs.of_other {s s' : State} {n k lane : Nat} {marker : Option (Nat × Nat × Nat)} (h : s.upAs n lane marker)
    (hw : Within (laneShown (· = k)) s s') (hk : n ≠ k) : s'.upAs n lane marker := by
  obtain ⟨up, logical, mark⟩ := h
  have link : s'.get (laneLink n) = s.get (laneLink n) := hw.laneGet (laneReg_not_shown (by decide) (.inl hk))
  refine ⟨link ▸ up, ?_, ?_⟩
  · exact (hw.laneGet (laneReg_not_shown (by decide) (.inl hk))).trans logical
  · exact (congrArg Lane.marker (hw.lane n)).trans mark

theorem State.laneFalls_logical (s : State) (n : Nat) (note : Bool) :
    (s.laneFalls n 3 note).get (laneLogical n) = s.get (laneLogical n) := by
  obtain ⟨x, reports, falls⟩ := s.laneFalls_spec n 3 note
  rw [falls, if_pos (.inr rfl)]
  exact (reports.laneGet (laneReg_not_reported (by decide))).trans (s.get_laneSet_other 3 (by decide) (by decide))

theorem State.upAs.alignedStep {s : State} {n lane : Nat} {marker : Option (Nat × Nat × Nat)} (h : s.upAs n lane marker)
    (k skew : Nat) : (((s.set (laneLink k) 4).set (laneField k 4 24 8) skew).showLane k).upAs n lane marker := by
  by_cases hk : n = k
  · subst hk
    obtain ⟨-, logical, mark⟩ := h
    have shown := (Within.refl reported ((s.set (laneLink n) 4).set (laneField n 4 24 8) skew)).showLane n
    have link : (((s.set (laneLink n) 4).set (laneField n 4 24 8) skew).showLane n).get (laneLink n) = 4 := by
      refine (shown.laneGet (laneReg_not_reported (by decide))).trans ?_
      exact (State.get_laneSet_other _ _ (by decide) (by decide)).trans (s.get_laneSet_same n 4 4 (by decide) (by decide))
    refine ⟨by omega, ?_, (congrArg Lane.marker (shown.lane n)).trans mark⟩
    refine (shown.laneGet (laneReg_not_reported (by decide))).trans (Eq.trans ?_ logical)
    exact (State.get_laneSet_other _ _ (by decide) (by decide)).trans (s.get_laneSet_other _ (by decide) (by decide))
  · exact h.of_other (s.alignedStep_within k skew) hk

theorem State.upAs.failedStep {s : State} {n lane : Nat} {marker : Option (Nat × Nat × Nat)} (h : s.upAs n lane marker)
    (k subject : Nat) :
    (((s.laneFalls k 3 false).latch (laneField k 4 18 1)).noteFault 0x0003 (laneIsland k) subject).upAs n lane marker := by
  by_cases hk : n = k
  · subst hk
    obtain ⟨-, logical, mark⟩ := h
    have noted := (Within.refl reported ((s.laneFalls n 3 false).latch (laneField n 4 18 1))).noteFault 0x0003 (laneIsland n) subject
    have link : (((s.laneFalls n 3 false).latch (laneField n 4 18 1)).noteFault 0x0003 (laneIsland n) subject).get (laneLink n)
        = 3 := by
      refine (noted.laneGet (laneReg_not_reported (by decide))).trans ?_
      exact (State.get_laneSet_other _ _ (by decide) (by decide)).trans (s.laneFalls_link n false (by decide))
    refine ⟨by omega, ?_, (congrArg Lane.marker ((s.failedStep_within n subject).lane n)).trans mark⟩
    refine (noted.laneGet (laneReg_not_reported (by decide))).trans (Eq.trans ?_ logical)
    exact (State.get_laneSet_other _ _ (by decide) (by decide)).trans (s.laneFalls_logical n false)
  · exact h.of_other (s.failedStep_within k subject) hk

/-- Deskew leaves a lane up with its number and marker. -/
theorem State.upAs.deskewOf {s : State} {n lane : Nat} {marker : Option (Nat × Nat × Nat)} (h : s.upAs n lane marker) (k : Nat) :
    (s.deskewOf k).upAs n lane marker := by
  rcases s.deskewOf_cases k with same | ⟨ks, deskewed⟩
  · rw [same]
    exact h
  · rw [deskewed]
    exact State.deskew_induction (P := (·.upAs n lane marker)) (fun x k skew hx => hx.alignedStep k skew)
      (fun x k hx => hx.failedStep k (x.laneSubj k)) ks h

/-! ### Markers accepted and refused (R268 to R271) -/

/-- A lane stays in BLOCK with ORDER_ERR. -/
def State.refused (s : State) (n : Nat) : Prop := s.get (laneLink n) = 2 ∧ s.get (laneField n 4 17 1) = 1

/-- A lane falls to BLOCK unless it is there. -/
def State.toBlock (s : State) (n : Nat) : State :=
  if s.get (laneLink n) == 2 then s else (s.laneFalls n 2 false).showLoss n

theorem State.laneRefused_eq (s : State) (n : Nat) : s.laneRefused n =
    ((s.toBlock n).latch (laneField n 4 17 1)).noteFault 0x0002 (laneIsland n) (subj 4 15) := rfl

theorem State.toBlock_link (s : State) (n : Nat) : (s.toBlock n).get (laneLink n) = 2 := by
  unfold State.toBlock
  split
  · next h => exact beq_iff_eq.mp h
  · exact (State.showLoss_status _ n 0 3).trans (s.laneFalls_link n false (by decide))

theorem State.laneRefused_refused (s : State) (n : Nat) : (s.laneRefused n).refused n := by
  have noted := (Within.refl reported ((s.toBlock n).latch (laneField n 4 17 1))).noteFault 0x0002 (laneIsland n) (subj 4 15)
  constructor
  · refine (noted.laneGet (laneReg_not_reported (by decide))).trans ?_
    exact (State.get_laneSet_other _ _ (by decide) (by decide)).trans (s.toBlock_link n)
  · refine (noted.laneGet (laneReg_not_reported (by decide))).trans ?_
    exact State.get_laneSet_same _ n 4 1 (by decide) (by decide)

theorem State.laneRefused_within (s : State) (n : Nat) : Within (laneShown (· = n)) s (s.laneRefused n) := by
  have block : Within (laneShown (· = n)) s (s.toBlock n) :=
    .ite (.refl _ s) ((s.laneFalls_within n 2 false).trans (State.showLoss_within _ n))
  exact (block.laneLatch (.inr ⟨n, rfl, .inl rfl⟩)).noteFault _ _ _

/-- A lane stays refused whichever lane is refused next. -/
theorem State.refused.laneRefused {s : State} {k : Nat} (h : s.refused k) (n : Nat) : (s.laneRefused n).refused k := by
  by_cases hk : k = n
  · exact hk ▸ s.laneRefused_refused n
  · obtain ⟨link, order⟩ := h
    have within := s.laneRefused_within n
    exact ⟨(within.laneGet (laneReg_not_shown (by decide) (.inl hk))).trans link,
      (within.laneGet (laneReg_not_shown (by decide) (.inl hk))).trans order⟩

theorem State.foldl_laneRefused (ks : List Nat) (s : State) : ∀ k ∈ ks, (ks.foldl (fun s k => s.laneRefused k) s).refused k := by
  induction ks generalizing s with
  | nil => exact fun k hk => absurd hk List.not_mem_nil
  | cons j ks ih =>
    intro k hk
    rcases List.mem_cons.mp hk with rfl | hk
    · exact List.foldlRecOn (motive := fun x : State => x.refused k) ks _ (s.laneRefused_refused k) fun x hx j _ => hx.laneRefused j
    · exact ih (s.laneRefused j) k hk

theorem State.foldl_laneRefused_lane (ks : List Nat) (s : State) (n : Nat) :
    (ks.foldl (fun s k => s.laneRefused k) s).lane n = s.lane n :=
  foldl_keeps (·.lane n) _ (fun s k => (s.laneRefused_within k).lane n) ks s

/-- A marker that is accepted brings the lane up with its number. -/
theorem State.laneMarked_upAs (s : State) (n : Nat) {lane : Nat} (hl : lane < 16) :
    (s.laneMarked n lane).upAs n lane (s.lane n).marker := by
  unfold State.laneMarked
  extract_lets s1 l s2
  have shown : Within reported ((s.set (laneLink n) 3).set (laneLogical n) lane) s1 := (Within.refl _ _).showLane n
  have link : s2.get (laneLink n) = 3 :=
    (shown.laneGet (laneReg_not_reported (by decide))).trans
      ((State.get_laneSet_other _ _ (by decide) (by decide)).trans (s.get_laneSet_same n 4 3 (by decide) (by decide)))
  have logical : s2.get (laneLogical n) = lane :=
    (shown.laneGet (laneReg_not_reported (by decide))).trans (State.get_laneSet_same _ n 4 lane (by decide) hl)
  have marker : (s2.lane n).marker = (s.lane n).marker :=
    (congrArg Lane.marker (s1.lane_setLane_same n { l with idleHeld := false })).trans
      (show l.marker = _ from congrArg Lane.marker (shown.lane n))
  have up : s2.upAs n lane (s.lane n).marker := ⟨by omega, logical, marker⟩
  have power : laneReg n 4 ≠ INTAKE_LANE_PWR_OFF n := by
    simp only [laneReg, laneField, INTAKE_LANE_PWR_OFF]
    split <;> omega
  split
  · have kept (l w : Nat) : (s2.set (INTAKE_LANE_PWR_STATE n) 1).get (laneField n 4 l w) = s2.get (laneField n 4 l w) :=
      State.get_of_reg (State.reg_set_other s2 1 power)
    obtain ⟨up, logical, marker⟩ := up
    exact ⟨(kept 0 3).symm ▸ up, (kept 8 4).trans logical, marker⟩
  · exact up

theorem State.twins_congr {s s' : State} {n : Nat} (lane : Nat) (link : ∀ k, s'.get (laneLink k) = s.get (laneLink k))
    (other : ∀ k, k ≠ n → s'.lane k = s.lane k) : s'.twins n lane = s.twins n lane := by
  refine List.filter_congr fun k _ => ?_
  by_cases hk : k = n
  · simp [hk]
  · rw [link, other k hk]

theorem State.orderOk_congr {s s' : State} {n : Nat} (lane : Nat) (link : ∀ k, s'.get (laneLink k) = s.get (laneLink k))
    (other : ∀ k, k ≠ n → s'.lane k = s.lane k) (remap : s'.flag INTAKE_CTRL_REMAP = s.flag INTAKE_CTRL_REMAP) :
    s'.orderOk n lane = s.orderOk n lane := by
  rw [State.orderOk, State.orderOk, remap, State.twins_congr lane link other]

/-- A lane after a valid ALIGN block. -/
def Lane.marked (l : Lane) (lane mcount arrival : Nat) : Lane :=
  { l with bip := 0, bipOn := true, since := some 0, marker := some (lane, mcount, arrival) }

theorem Within.setLane {own : Nat → Prop} {a s : State} (h : Within own a s) (n : Nat) (l : Lane) :
    Within own (a.setLane n l) (s.setLane n l) :=
  ⟨h.now, congrArg (sput (fun _ => Lane.cold) · n l) h.lanes, h.regs,
    fun r => (h.recording (r.of rfl rfl rfl rfl)).setLane n l⟩

/-- A marker in its place on a locked lane in BLOCK: its lane is up where the order accepts the number, and otherwise refused, with all
that carry it. -/
theorem State.alignBlock_placed {s : State} {n : Nat} {b : List Nat} (arrival : Nat) (hn : n < 10) (hh : s.laneHeld n = false)
    (hl : s.get (laneLink n) = 2) (hu : (s.lane n).locked = true) (hw : (((s.lane n).window.take 63).filter id).length < 16)
    (hb : alignValid b = true) (hs : (s.lane n).since = some 16383)
    (hm : (s.lane n).marker.map (·.1) = some (b.getD 1 0 % 16)) :
    ∃ x, Within reported ((s.setLane n ((s.lane n).header false)).setLane n
        (((s.lane n).header false).marked (b.getD 1 0 % 16) (field b 2 2) arrival)) x ∧
      s.alignBlock n b arrival = if x.orderOk n (b.getD 1 0 % 16) then (x.laneMarked n (b.getD 1 0 % 16)).deskewOf n
        else ((x.twins n (b.getD 1 0 % 16)).foldl (fun s k => s.laneRefused k) x).laneRefused n := by
  unfold State.alignBlock
  rw [if_neg (takesBlocks hn hh (by omega)), State.syncHeader_valid (.inr hw)]
  extract_lets s1 l lane s2 paired s3
  have mine : l = (s.lane n).header false := s.lane_setLane_same n _
  have locked : l.locked = true := by
    rw [mine]
    simp [Lane.header, hu]
  have inPlace : paired = true := by
    obtain ⟨m, marker, number⟩ := Option.map_eq_some_iff.mp hm
    have since : l.since = some 16383 := by rw [mine]; exact hs
    have mark : l.marker = some m := by rw [mine]; exact marker
    simp only [paired, since, mark, beq_self_eq_true, Bool.true_and]
    exact beq_iff_eq.mpr number
  have parity : Within reported s1 s2 := .ite (s1.bumpErrors_within n 0 16) (.refl _ s1)
  have taken : Within reported (s1.setLane n (l.marked lane (field b 2 2) arrival)) s3 := parity.setLane n _
  have link : s3.get (laneLink n) = 2 := (taken.laneGet (laneReg_not_reported (by decide))).trans hl
  rw [if_neg (by simp [locked]), if_neg (by simp [hb]), if_neg (by simp [link]), if_neg (by simp [inPlace])]
  rw [mine] at taken
  exact ⟨s3, taken, rfl⟩

/-- The marker of a lane stays its last one whether or not the order accepts its number. -/
theorem State.alignBlock_marks {s : State} {n : Nat} {b : List Nat} (arrival : Nat) (hn : n < 10) (hh : s.laneHeld n = false)
    (hl : s.get (laneLink n) = 2) (hu : (s.lane n).locked = true) (hw : (((s.lane n).window.take 63).filter id).length < 16)
    (hb : alignValid b = true) (hs : (s.lane n).since = some 16383)
    (hm : (s.lane n).marker.map (·.1) = some (b.getD 1 0 % 16)) :
    (s.orderOk n (b.getD 1 0 % 16) = true →
      (s.alignBlock n b arrival).upAs n (b.getD 1 0 % 16) (some (b.getD 1 0 % 16, field b 2 2, arrival))) ∧
    (s.orderOk n (b.getD 1 0 % 16) = false →
      ((s.alignBlock n b arrival).lane n).marker = some (b.getD 1 0 % 16, field b 2 2, arrival) ∧
      (s.alignBlock n b arrival).refused n ∧
      ∀ k ∈ s.twins n (b.getD 1 0 % 16), (s.alignBlock n b arrival).refused k) := by
  obtain ⟨x, taken, effect⟩ := State.alignBlock_placed arrival hn hh hl hu hw hb hs hm
  have link (k : Nat) : x.get (laneLink k) = s.get (laneLink k) := taken.laneGet (laneReg_not_reported (by decide))
  have other (k : Nat) (hk : k ≠ n) : x.lane k = s.lane k := by
    rw [taken.lane, State.lane_setLane_other _ _ hk, State.lane_setLane_other _ _ hk]
  have remap : x.flag INTAKE_CTRL_REMAP = s.flag INTAKE_CTRL_REMAP :=
    taken.flag (by decide) fun shown => control_not_shown (fun _ => False) (.inl shown)
  have marker : (x.lane n).marker = some (b.getD 1 0 % 16, field b 2 2, arrival) := by
    rw [taken.lane, State.lane_setLane_same]
    rfl
  rw [State.orderOk_congr _ link other remap, State.twins_congr _ link other] at effect
  constructor
  · intro ok
    rw [effect, if_pos ok, ← marker]
    exact (x.laneMarked_upAs n (Nat.mod_lt _ (by decide))).deskewOf n
  · intro bad
    rw [effect, if_neg (Bool.eq_false_iff.mp bad)]
    have refusals := State.foldl_laneRefused (s.twins n (b.getD 1 0 % 16)) x
    refine ⟨?_, State.laneRefused_refused _ n, fun k hk => (refusals k hk).laneRefused n⟩
    rw [(State.laneRefused_within _ n).lane, State.foldl_laneRefused_lane, marker]

end Sys2Proof.Machine

open Sys2Proof Sys2Proof.Machine Sys2Proof.Machine.Reg

/-- Settles O43: a lane that falls changes its own status and channel registers, beside what it reports; a marker in its place brings its
lane up, which deskew leaves up, or is refused with every lane that carries it. -/
theorem lanesLockAndMark : Obligations.LanesLockAndMark := by
  refine ⟨?trained, ?counts, ?loses, ?aligned, ?missing⟩
  case trained =>
    intro s t n loss hn hh hl
    obtain ⟨link, shown, done, cable, lane⟩ :=
      State.laneTrained_shows (s := s.pass t) (loss := loss) hn (by simpa using hh) (by simpa using hl)
    refine ⟨_, rfl, ?_, ?_, ?_, ?_, ?_, ?_⟩
    · exact (State.run_laneGet s t _ n 4 hn (by decide) (by decide)).trans link
    · exact (State.run_laneGet s t _ n 8 hn (by decide) (by decide)).trans shown
    · exact (State.run_laneGet s t _ n 8 hn (by decide) (by decide)).trans done
    · exact (State.run_laneGet s t _ n 8 hn (by decide) (by decide)).trans (cable.trans (s.pass_cableLength t loss))
    · rw [State.run_lane, lane]
      rfl
    · rw [State.run_lane, lane]
      rfl
  case counts =>
    intro s t n sync b hn hh hl hu hs
    obtain ⟨good, locked, link⟩ := State.laneBlock_counts (s := s.pass t) (sync := sync) b hn (by simpa using hh)
      (by simpa using hl) (by simpa using hu) hs
    rw [State.pass_lane] at good locked
    refine ⟨_, rfl, ?_, ?_, ?_⟩
    · rw [State.run_lane]
      exact good
    · rw [State.run_lane]
      exact locked
    · exact (State.run_laneGet s t _ n 4 hn (by decide) (by decide)).trans (link.trans (s.pass_get t _))
  case loses =>
    intro s t n sync b hn hh hl hu hs hw
    obtain ⟨locked, link, down⟩ := State.laneBlock_loses (s := s.pass t) (sync := sync) b hn (by simpa using hh)
      (by simpa using hl) (by simpa using hu) hs (by simpa using hw)
    refine ⟨_, rfl, ?_, ?_, fun up => ?_⟩
    · rw [State.run_lane]
      exact locked
    · exact (State.run_laneGet s t _ n 4 hn (by decide) (by decide)).trans link
    · obtain ⟨logical, seen, newest⟩ := down (by simpa using up)
      refine ⟨?_, ?_, fun hr => ?_⟩
      · exact (State.run_laneGet s t _ n 4 hn (by decide) (by decide)).trans logical
      · exact (State.run_laneGet s t _ n 4 hn (by decide) (by decide)).trans seen
      · rw [State.run_newest, ← s.pass_laneSubj t n]
        exact newest (State.recording_of_records hr)
  case aligned =>
    intro s t n mc arr b hn hh hl hu hw hb hs hm rfl
    obtain ⟨placed, rejected⟩ := State.alignBlock_marks (s := s.pass t) arr hn (by simpa using hh) (by simpa using hl)
      (by simpa using hu) (by simpa using hw) hb (by simpa using hs) (by simpa using hm)
    have link (k : Nat) (hk : k < 10) := State.run_laneGet s t (·.alignBlock n b arr) k 4 (lsb := 0) (width := 3) hk
      (by decide) (by decide)
    rw [State.pass_orderOk] at placed rejected
    refine ⟨_, rfl, ?_, fun ok => ?_, fun bad => ?_⟩
    · rw [State.run_lane]
      cases ok : s.orderOk n (b.getD 1 0 % 16)
      · exact (rejected ok).1
      · exact (placed ok).2.2
    · obtain ⟨up, logical, -⟩ := placed ok
      refine ⟨(link n hn).symm ▸ up, ?_⟩
      exact (State.run_laneGet s t _ n 4 hn (by decide) (by decide)).trans logical
    · obtain ⟨-, ⟨stays, order⟩, others⟩ := rejected bad
      refine ⟨(link n hn).trans stays, ?_, fun k hk => ?_⟩
      · exact (State.run_laneGet s t _ n 4 hn (by decide) (by decide)).trans order
      · have lane : k < 10 := List.mem_range.mp (List.mem_filter.mp hk).1
        obtain ⟨stays, order⟩ := others k (by simpa using hk)
        exact ⟨(link k lane).trans stays, (State.run_laneGet s t _ k 4 lane (by decide) (by decide)).trans order⟩
  case missing =>
    intro s t n hn hh up
    obtain ⟨link, logical, seen, lane, shown, cable, newest⟩ :=
      State.markerMissing_shows (s := s.pass t) (n := n) (by simpa using hh) (by simpa using up)
    rw [State.pass_lane] at lane shown cable
    have effect : (s.pass t).markerMissing n = if n < 10 then (s.pass t).markerMissing n else s.pass t := (if_pos hn).symm
    rw [effect] at link logical seen lane shown cable newest
    refine ⟨_, rfl, ?_, ?_, ?_, ?_, ?_, ?_, fun hr => ?_⟩
    · exact (State.run_laneGet s t _ n 4 hn (by decide) (by decide)).trans link
    · exact (State.run_laneGet s t _ n 4 hn (by decide) (by decide)).trans logical
    · exact (State.run_laneGet s t _ n 4 hn (by decide) (by decide)).trans seen
    · rw [State.run_lane, lane]
      rfl
    · exact (State.run_laneGet s t _ n 8 hn (by decide) (by decide)).trans shown
    · exact (State.run_laneGet s t _ n 8 hn (by decide) (by decide)).trans (cable.trans (s.pass_cableLength t _))
    · rw [State.run_newest, ← s.pass_laneSubj t n]
      exact newest (State.recording_of_records hr)

end

section
/-! PROOF. The streams (R281 to R293): a frame's beginning, its blocks in its buffer, its end, and a stream that goes down. -/

namespace Sys2Proof.Machine

open Reg

/-! ### Streams beside their registers -/

theorem State.stream_setStream_same (s : State) (m : Nat) (r : Stream) : (s.setStream m r).stream m = r := sget_sput_same _ _ _

theorem State.stream_setStream_other (s : State) {m k : Nat} (r : Stream) (h : k ≠ m) : (s.setStream m r).stream k = s.stream k :=
  sget_sput_other _ _ h

theorem State.stream_of_intake {s s' : State} (m : Nat) (h : s'.intake = s.intake) : s'.stream m = s.stream m :=
  congrArg (fun i : Intake => sget (fun _ => Stream.cold) i.streams m) h

@[simp] theorem State.set_stream (s : State) (f : Field) (v m : Nat) : (s.set f v).stream m = s.stream m := rfl

@[simp] theorem State.setStream_get (s : State) (m : Nat) (r : Stream) (f : Field) : (s.setStream m r).get f = s.get f := rfl

@[simp] theorem State.setStream_flag (s : State) (m : Nat) (r : Stream) (f : Field) : (s.setStream m r).flag f = s.flag f := rfl

theorem State.run_stream (s : State) (t : Nat) (g : State → State) (m : Nat) : (s.run t g).stream m = (g (s.pass t)).stream m :=
  State.stream_of_intake m (State.run_intake s t g)

@[simp] theorem State.pass_stream (s : State) (t m : Nat) : (s.pass t).stream m = s.stream m :=
  State.stream_of_intake m (s.pass_intake t)

@[simp] theorem State.pass_streamOf (s : State) (t logical : Nat) : (s.pass t).streamOf logical = s.streamOf logical :=
  State.pass_keeps (·.streamOf logical) (fun _ _ _ _ _ _ _ => rfl) s t

@[simp] theorem State.pass_deframe (s : State) (t n : Nat) : (s.pass t).deframe n = s.deframe n :=
  State.pass_keeps (·.deframe n) (fun _ _ _ _ _ _ _ => rfl) s t

@[simp] theorem State.pass_payloadBlocks (s : State) (t m : Nat) : (s.pass t).payloadBlocks m = s.payloadBlocks m :=
  State.pass_keeps (·.payloadBlocks m) (fun _ _ _ _ _ _ _ => rfl) s t

@[simp] theorem State.pass_streamStride (s : State) (t m : Nat) : (s.pass t).streamStride m = s.streamStride m :=
  State.pass_keeps (·.streamStride m) (fun _ _ _ _ _ _ _ => rfl) s t

@[simp] theorem State.pass_eofCode (s : State) (t n m : Nat) (f : StreamFrame) (b : List Nat) :
    (s.pass t).eofCode n m f b = s.eofCode n m f b :=
  State.pass_keeps (·.eofCode n m f b) (fun _ _ _ _ _ _ _ => rfl) s t

@[simp] theorem State.pass_streamLimit (s : State) (t m : Nat) : (s.pass t).streamLimit m = s.streamLimit m :=
  State.pass_keeps (·.streamLimit m) (fun _ _ _ _ _ _ _ => rfl) s t

/-- The registers of a stream stand in the block INTAKE. -/
theorem stream_block {m base : Nat} (hm : m < 8) (hl : 0x30000 ≤ base) (hh : base < 0x30440) : (base + 0x40 * m) / 65536 = 3 := by
  omega

/-- A field of INTAKE after a command. -/
theorem State.run_intakeGet (s : State) (t : Nat) (g : State → State) {f : Field} (h : f.lsb + f.width ≤ 32)
    (hb : f.off / 65536 = 3) : (s.run t g).get f = (g (s.pass t)).get f := by
  have away (o : Nat) (ho : o / 65536 ≠ 3) : f.off ≠ o := fun e => ho (e ▸ hb)
  exact State.run_get s t g h (.inl (away _ (by decide))) (.inl (away _ (by decide)))

theorem State.run_intakeFlag (s : State) (t : Nat) (g : State → State) {f : Field} (h : f.lsb + f.width ≤ 32)
    (hb : f.off / 65536 = 3) : (s.run t g).flag f = (g (s.pass t)).flag f := by
  rw [State.flag_iff, State.flag_iff, State.run_intakeGet s t g h hb]

theorem State.note_intakeGet (s : State) (r : Report) {f : Field} (hb : f.off / 65536 = 3) : (s.note r).get f = s.get f :=
  (State.note_elsewhere s r).get (by simp [hb])

theorem State.event_intakeGet (s : State) (e : Event) {f : Field} (hb : f.off / 65536 = 3) : (s.event e).get f = s.get f :=
  (State.event_elsewhere s e).get (by simp [hb])

/-! ### Frames discarded, and a stream that goes down (R286, R293) -/

/-- A stream whose frame is discarded. -/
def Stream.discarded (r : Stream) : Stream := { r with frame := none, run := true }

theorem State.discard_stream (s : State) (m code : Nat) : (s.discard m code).stream m = (s.stream m).discarded := by
  unfold State.discard
  extract_lets r s1 s2
  have discarded : s2.stream m = (s.stream m).discarded := s.stream_setStream_same m _
  split
  · exact discarded
  · rw [State.stream_of_intake m (State.note_intake s2 _), discarded]

theorem State.discard_code (s : State) {m code : Nat} (hm : m < 8) (hc : code < 16) :
    (s.discard m code).get (INTAKE_STR_STATUS_LAST_DISCARD m) = code := by
  unfold State.discard
  extract_lets r s1 s2
  have shown : s2.get (INTAKE_STR_STATUS_LAST_DISCARD m) = code :=
    (State.get_set_same _ _ (show 24 + 4 ≤ 32 by decide)).trans (Nat.mod_eq_of_lt hc)
  split
  · exact shown
  · rw [State.note_intakeGet s2 _ (stream_block hm (by decide) (by decide)), shown]

theorem State.streamDown_intake (s : State) (m cause : Nat) : (s.streamDown m cause).intake = s.intake := by
  unfold State.streamDown
  extract_lets wasUp s1 s2 s3
  split
  · rfl
  · rw [State.note_intake, State.event_intake]
    rfl

/-- A stream that goes down shows it with its cause. -/
theorem State.streamDown_shows (s : State) {m cause : Nat} (hm : m < 8) (hc : cause < 8) :
    (s.streamDown m cause).flag (INTAKE_STR_STATUS_UP m) = false ∧
    (s.streamDown m cause).get (INTAKE_STR_STATUS_DOWN_CAUSE m) = cause := by
  unfold State.streamDown
  extract_lets wasUp s1 s2 s3
  have apart : INTAKE_STR_STATUS_OFF m ≠ INTAKE_STATUS_OFF := by
    rw [INTAKE_STR_STATUS_OFF, INTAKE_STATUS_OFF]
    omega
  have up : s2.get (INTAKE_STR_STATUS_UP m) = 0 := by
    refine (State.get_set_other s1 _ (show 31 + 1 ≤ 32 by decide) (.inl apart)).trans ?_
    refine (State.get_set_other _ _ (show 31 + 1 ≤ 32 by decide) (.inr (.inl (show 28 + 3 ≤ 31 by decide)))).trans ?_
    exact State.get_set_same s 0 (show 31 + 1 ≤ 32 by decide)
  have shown : s2.get (INTAKE_STR_STATUS_DOWN_CAUSE m) = cause := by
    refine (State.get_set_other s1 _ (show 28 + 3 ≤ 32 by decide) (.inl apart)).trans ?_
    exact (State.get_set_same _ cause (show 28 + 3 ≤ 32 by decide)).trans (Nat.mod_eq_of_lt hc)
  have block : INTAKE_STR_STATUS_OFF m / 65536 = 3 := stream_block hm (by decide) (by decide)
  rw [State.flag_iff]
  split
  · exact ⟨by rw [up]; rfl, shown⟩
  · constructor
    · rw [State.note_intakeGet s3 _ block, State.event_intakeGet s2 _ block, up]
      rfl
    · rw [State.note_intakeGet s3 _ block, State.event_intakeGet s2 _ block, shown]

/-- STREAM_DOWN of a stream that was UP is the newest record. -/
theorem State.streamDown_newest {s : State} {m : Nat} (cause : Nat) (hm : m < 8) (up : s.flag (INTAKE_STR_STATUS_UP m) = true)
    (h : s.Recording) : (s.streamDown m cause).newest = some (0x0006, 0, subj 5 m) := by
  unfold State.streamDown
  extract_lets wasUp s1 s2 s3
  have own (v : Nat) {f : Field} (hf : f.off / 65536 = 3) {x : State} (hx : x.Recording) : (x.set f v).Recording :=
    hx.set v fun e => absurd (e ▸ hf) (by decide)
  have block : INTAKE_STR_STATUS_OFF m / 65536 = 3 := stream_block hm (by decide) (by decide)
  have marked : s2.Recording := own 0 (show INTAKE_STATUS_OFF / 65536 = 3 by decide) (own cause block (own 0 block h))
  rw [if_neg (by simp [wasUp, up])]
  exact (marked.event _).note_newest _

/-! ### De-framed blocks (R281 to R286) -/

/-- A stream with a frame in progress. -/
def Stream.inFrame (r : Stream) (f : StreamFrame) : Stream := { r with frame := some f }

/-- The logical number of a lane whose blocks are de-framed. -/
theorem State.deframe_logical {s : State} {n g : Nat} (h : s.deframe n = some g) : s.get (laneLogical n) = g := by
  unfold State.deframe at h
  split at h
  · exact Option.some.inj h
  · cases h

theorem State.deframe_stream {s : State} {n g m : Nat} (h : s.deframe n = some g) (hm : s.streamOf g = some m) :
    (s.deframe n).bind s.streamOf = some m := by
  rw [h, Option.bind_some, hm]

theorem State.sofCode_lt (s : State) (n m : Nat) (b : List Nat) : s.sofCode n m b < 16 := by
  unfold State.sofCode
  extract_lets
  repeat' split
  all_goals decide

/-- An SOF with no frame in progress begins one, or is discarded with the code of its check. -/
theorem State.sofBlock_eq {s : State} {n g m : Nat} (b : List Nat) (hg : s.deframe n = some g) (hm : s.streamOf g = some m)
    (hf : (s.stream m).frame = none) (hs : s.intake.stopped = false) (ht : s.flag (CVU_UNIT_CFG_SELFTEST_OK 7) = true) :
    s.sofBlock n b = if s.sofCode n m b = 0
      then s.setStream m ((s.stream m).inFrame ⟨s.now, b.getD 1 0 % 256, [], 1, (s.stream m).freeBuf⟩)
      else s.discard m (s.sofCode n m b) := by
  simp only [State.sofBlock, State.deframe_stream hg hm, hf, hs, ht, Option.isSome_none, Bool.false_eq_true, if_false,
    Bool.not_true, Bool.or_false, bne_iff_ne, ite_not]
  rfl

/-- A header block before the fourth joins the header. -/
theorem State.frameBlock_header {s : State} {n g m : Nat} {f : StreamFrame} (b : List Nat) (hg : s.deframe n = some g)
    (hm : s.streamOf g = some m) (hf : (s.stream m).frame = some f) (hl : f.nextLane = g) (hb : f.blocks < 4)
    (hh : f.header.length < 24) : s.frameBlock n b = s.setStream m ((s.stream m).inFrame { f with
      header := f.header ++ (List.range 8).map (fun i => b.getD i 0 % 256), blocks := f.blocks + 1 }) := by
  have place : ¬ (f.nextLane != s.get (laneLogical n)) = true := by simp [hl, State.deframe_logical hg]
  have short : (f.header ++ (List.range 8).map (fun i => b.getD i 0 % 256)).length < 32 := by
    simp only [List.length_append, List.length_map, List.length_range]
    omega
  have early : f.blocks < 5 := by omega
  simp only [State.frameBlock, State.deframe_stream hg hm, hf, if_neg place, if_pos early, if_pos short]
  rfl

/-- A payload block in its place counts, and its bytes are stored. -/
theorem State.frameBlock_payload {s : State} {n g m : Nat} {f : StreamFrame} (b : List Nat) (hg : s.deframe n = some g)
    (hm : s.streamOf g = some m) (hf : (s.stream m).frame = some f) (hl : f.nextLane = g) (hb : 5 ≤ f.blocks)
    (hp : f.blocks - 5 < s.payloadBlocks m) : s.frameBlock n b =
      (s.setStream m ((s.stream m).inFrame { f with blocks := f.blocks + 1 })).storePayload m f.buf (f.blocks - 5) b := by
  have place : ¬ (f.nextLane != s.get (laneLogical n)) = true := by simp [hl, State.deframe_logical hg]
  simp only [State.frameBlock, State.deframe_stream hg hm, hf, if_neg place, if_neg (Nat.not_lt.mpr hb),
    if_neg (Nat.not_le.mpr hp)]
  rfl

/-! ### Payload in its buffer (R288) -/

/-- Where byte `k` of a frame stands in its stream's buffers: rows of `row` bytes at a stride. -/
def payloadAt (buf row stride k : Nat) : Nat := buf * bufSize + k / row * stride + k % row

/-- Rows that fit their stride keep the bytes of a frame apart. -/
theorem payloadAt_inj {buf row stride j k : Nat} (h0 : 0 < row) (hs : row ≤ stride)
    (h : payloadAt buf row stride j = payloadAt buf row stride k) : j = k := by
  have hj : j % row < stride := Nat.lt_of_lt_of_le (Nat.mod_lt j h0) hs
  have hk : k % row < stride := Nat.lt_of_lt_of_le (Nat.mod_lt k h0) hs
  have sum : j % row + stride * (j / row) = k % row + stride * (k / row) := by
    simp only [payloadAt, Nat.mul_comm stride] at h ⊢
    omega
  have rows : j / row = k / row := by
    have := congrArg (· / stride) sum
    simpa only [Nat.add_mul_div_left _ _ (Nat.lt_of_lt_of_le h0 hs), Nat.div_eq_of_lt hj, Nat.div_eq_of_lt hk, Nat.zero_add]
      using this
  rw [← Nat.div_add_mod j row, ← Nat.div_add_mod k row, rows]
  rw [rows] at sum
  omega

/-- The bytes of a block written from place `i` of the frame up, but for the padding from `total` on. -/
def writePayload (mem : List Host.Cell) (addr : Nat → Nat) (total i : Nat) (l : List (Nat × Nat)) : List Host.Cell :=
  l.foldl (fun mem p => if i + p.2 < total then Mem.write mem (addr (i + p.2)) (BitVec.ofNat 8 p.1) else mem) mem

theorem writePayload_other {addr : Nat → Nat} (inj : Function.Injective addr) {total i x : Nat} (l : List Nat) :
    ∀ (mem : List Host.Cell) (j : Nat), x < i + j → Mem.read (writePayload mem addr total i (l.zipIdx j)) (addr x) =
      Mem.read mem (addr x) := by
  induction l with
  | nil => intro mem j _; rfl
  | cons b l ih =>
    intro mem j hx
    rw [List.zipIdx_cons, writePayload, List.foldl_cons]
    refine (ih _ (j + 1) (by omega)).trans ?_
    split
    · exact Mem.read_write_other _ _ (inj.ne (by dsimp only; omega))
    · rfl

/-- Each byte of a block that is no padding reads back. -/
theorem writePayload_read {addr : Nat → Nat} (inj : Function.Injective addr) {total i : Nat} (l : List Nat) :
    ∀ (mem : List Host.Cell) (j k : Nat) (hk : k < l.length), i + (j + k) < total →
      Mem.read (writePayload mem addr total i (l.zipIdx j)) (addr (i + (j + k))) = BitVec.ofNat 8 l[k] := by
  induction l with
  | nil => intro mem j k hk; exact absurd hk (Nat.not_lt_zero k)
  | cons b l ih =>
    intro mem j k hk ht
    rw [List.zipIdx_cons, writePayload, List.foldl_cons]
    cases k with
    | zero =>
      refine (writePayload_other inj l _ (j + 1) (by omega)).trans ?_
      rw [if_pos (by simpa using ht)]
      exact Mem.read_write_same _ _ _
    | succ k =>
      have rest := ih (if i + j < total then Mem.write mem (addr (i + j)) (BitVec.ofNat 8 b) else mem) (j + 1) k
        (by simpa using hk) (by omega)
      rw [show j + 1 + k = j + (k + 1) by omega] at rest
      exact rest

/-- Bytes of one row of a stream's frame. -/
def State.rowBytes (s : State) (m : Nat) : Nat :=
  s.get (INTAKE_STR_SIZE_W m) * (streamBytes (s.get (INTAKE_STR_CFG_FORMAT m))).getD 0

@[simp] theorem State.pass_rowBytes (s : State) (t m : Nat) : (s.pass t).rowBytes m = s.rowBytes m :=
  State.pass_keeps (·.rowBytes m) (fun _ _ _ _ _ _ _ => rfl) s t

@[simp] theorem State.setStream_rowBytes (s : State) (m k : Nat) (r : Stream) : (s.setStream m r).rowBytes k = s.rowBytes k := rfl

@[simp] theorem State.setStream_streamStride (s : State) (m k : Nat) (r : Stream) :
    (s.setStream m r).streamStride k = s.streamStride k := rfl

/-- A row of a stream fits its stride. -/
theorem State.rowBytes_le_stride (s : State) (m : Nat) : s.rowBytes m ≤ s.streamStride m := by
  unfold State.rowBytes State.streamStride rowStride
  omega

theorem State.storePayload_frame (s : State) (m buf i : Nat) (b : List Nat) :
    ((s.storePayload m buf i b).stream m).frame = (s.stream m).frame := by
  rw [State.storePayload, State.stream_setStream_same]

theorem State.storePayload_bytes (s : State) (m buf i : Nat) (b : List Nat) : ((s.storePayload m buf i b).stream m).bytes =
    writePayload (s.stream m).bytes (payloadAt buf (s.rowBytes m) (s.streamStride m))
      (s.rowBytes m * s.get (INTAKE_STR_SIZE_H m)) (8 * i) (b.take 8).zipIdx :=
  congrArg Stream.bytes (s.stream_setStream_same m _)

/-- The eight bytes of a payload block stand in their rows. -/
theorem State.storePayload_read (s : State) {m i k : Nat} {b : List Nat} (buf : Nat) (hb : b.length = 8) (hk : k < 8)
    (ht : 8 * i + k < s.rowBytes m * s.get (INTAKE_STR_SIZE_H m)) :
    Mem.read ((s.storePayload m buf i b).stream m).bytes (payloadAt buf (s.rowBytes m) (s.streamStride m) (8 * i + k)) =
      BitVec.ofNat 8 (b.getD k 0) := by
  have row : 0 < s.rowBytes m := by
    refine Nat.pos_of_ne_zero fun none => ?_
    rw [none, Nat.zero_mul] at ht
    exact absurd ht (Nat.not_lt_zero _)
  have whole : b.take 8 = b := List.take_of_length_le (by omega)
  have stored := writePayload_read (fun _ _ => payloadAt_inj (buf := buf) row (s.rowBytes_le_stride m)) b (s.stream m).bytes 0 k
    (by omega) ((Nat.zero_add k).symm ▸ ht)
  rw [Nat.zero_add] at stored
  rw [State.storePayload_bytes, whole, stored, List.getD_eq_getElem b 0 (by omega)]

/-! ### A frame completes (R285, R289, R293) -/

theorem State.eofBlock_completes {s : State} {n g m : Nat} {f : StreamFrame} {b : List Nat} (hg : s.deframe n = some g)
    (hm : s.streamOf g = some m) (hf : (s.stream m).frame = some f) (hl : f.map / 2 ^ g % 2 = 1) (hc : s.eofCode n m f b = 0) :
    s.eofBlock n b = s.completeFrame m f := by
  simp only [State.eofBlock, State.deframe_stream hg hm, hf, hc, State.deframe_logical hg, hl, bne_self_eq_false,
    Bool.false_eq_true, if_false]

/-- A stream with its newest complete frame. -/
def Stream.completed (r : Stream) (f : StreamFrame) (now : Nat) : Stream :=
  { r with
    frame := none, newest := some f.buf, newestAt := now, used := false, lastSof := some f.sofAt, done := r.done + 1
    run := false }

/-- A complete frame is the newest of its stream, counts, and brings the stream up. -/
theorem State.completeFrame_shows (s : State) {m : Nat} (f : StreamFrame) (hm : m < 8) :
    (s.completeFrame m f).stream m = (s.stream m).completed f s.now ∧
    (s.completeFrame m f).get (INTAKE_STR_FRAMES_COMPLETED m) = min (s.get (INTAKE_STR_FRAMES_COMPLETED m) + 1) 0xFFFF ∧
    (s.completeFrame m f).flag (INTAKE_STR_STATUS_UP m) = true := by
  unfold State.completeFrame
  extract_lets r skipped s1 s2 s3 s4 s5
  have stream : s4.stream m = (s.stream m).completed f s.now := by
    have taken : s1.stream m = (s.stream m).completed f s.now := s.stream_setStream_same m _
    refine Eq.trans (b := s2.stream m) rfl ?_
    unfold s2
    split
    · exact taken
    · exact taken
  have frames : INTAKE_STR_FRAMES_OFF m ≠ INTAKE_STR_STATUS_OFF m := by
    simp only [INTAKE_STR_FRAMES_OFF, INTAKE_STR_STATUS_OFF]
    omega
  have completed : s4.get (INTAKE_STR_FRAMES_COMPLETED m) = min (s.get (INTAKE_STR_FRAMES_COMPLETED m) + 1) 0xFFFF := by
    have before : s2.get (INTAKE_STR_FRAMES_COMPLETED m) = s.get (INTAKE_STR_FRAMES_COMPLETED m) := by
      have skips : INTAKE_STR_FRAMES_OFF m ≠ INTAKE_STR_SKIPS_OFF m := by
        simp only [INTAKE_STR_FRAMES_OFF, INTAKE_STR_SKIPS_OFF]
        omega
      unfold s2
      split
      · exact State.get_set_other s1 _ (show 0 + 16 ≤ 32 by decide) (.inl skips)
      · rfl
    refine (State.get_set_other s3 _ (show 0 + 16 ≤ 32 by decide) (.inl frames)).trans ?_
    refine (State.get_set_other _ _ (show 0 + 16 ≤ 32 by decide) (.inl frames)).trans ?_
    refine (State.get_set_same s2 _ (show 0 + 16 ≤ 32 by decide)).trans ?_
    rw [before]
    exact Nat.mod_eq_of_lt (Nat.lt_of_le_of_lt (Nat.min_le_right _ _) (show 2 ^ 16 - 1 < 2 ^ 16 by decide))
  split
  · next up => exact ⟨stream, completed, up⟩
  · have global (base : Nat) (ho : 0x30400 ≤ base) : base + 0x40 * m ≠ INTAKE_STATUS_OFF := by
      rw [INTAKE_STATUS_OFF]
      omega
    have up : s5.get (INTAKE_STR_STATUS_UP m) = 1 :=
      (State.get_set_other _ _ (show 31 + 1 ≤ 32 by decide) (.inr (.inl (show 28 + 3 ≤ 31 by decide)))).trans
        (State.get_set_same s4 1 (show 31 + 1 ≤ 32 by decide))
    have kept : s5.get (INTAKE_STR_FRAMES_COMPLETED m) = s4.get (INTAKE_STR_FRAMES_COMPLETED m) :=
      (State.get_set_other _ _ (show 0 + 16 ≤ 32 by decide) (.inl frames)).trans
        (State.get_set_other s4 _ (show 0 + 16 ≤ 32 by decide) (.inl frames))
    refine ⟨?_, ?_, ?_⟩
    · rw [State.stream_of_intake m (State.event_intake _ _), State.set_stream, ← stream]
      rfl
    · rw [State.event_intakeGet _ _ (stream_block hm (by decide) (by decide)), ← completed, ← kept]
      exact State.get_set_other s5 _ (show 0 + 16 ≤ 32 by decide) (.inl (global _ (by decide)))
    · rw [State.flag_iff, State.event_intakeGet _ _ (stream_block hm (by decide) (by decide)), beq_iff_eq, ← up]
      exact State.get_set_other s5 _ (show 31 + 1 ≤ 32 by decide) (.inl (global _ (by decide)))

/-- A stream that is UP and whose last frame is too long ago goes down. -/
theorem State.streamTimeout_down {s : State} {m : Nat} (he : s.flag (INTAKE_STR_CFG_ENABLE m) = true)
    (hu : s.flag (INTAKE_STR_STATUS_UP m) = true) (ht : (s.stream m).newestAt + s.streamLimit m ≤ s.now) :
    s.streamTimeout m = s.streamDown m 2 := by
  simp only [State.streamTimeout, he, hu, ht, decide_true, Bool.and_self, if_true]

end Sys2Proof.Machine

open Sys2Proof Sys2Proof.Machine Sys2Proof.Machine.Reg

/-- Settles O44: each block is one operation of its stream; the rows of a buffer keep the bytes of a block apart, and what KEEPER and the
host are told leaves the registers of INTAKE alone. -/
theorem streamFrames : Obligations.StreamFrames := by
  refine ⟨?sof, ?header, ?payload, ?eof, ?timeout⟩
  case sof =>
    intro s t n g m b hn hg hm hf hs ht
    have effect := State.sofBlock_eq (s := s.pass t) b (by simpa using hg) (by simpa using hm) (by simpa using hf)
      (by simpa using hs) (by simpa using ht)
    obtain ⟨stream, -⟩ := State.streamOf_spec hm
    have ran : execSof t n b s = .next (s.run t (·.sofBlock n b)) := by simp only [execSof, hn, if_true]
    refine ⟨_, ran, fun good => ?_, fun bad => ?_⟩
    · rw [State.run_stream, effect, if_pos good, State.stream_setStream_same, State.pass_now, State.pass_stream]
      rfl
    · constructor
      · rw [State.run_stream, effect, if_neg bad, State.discard_stream]
        rfl
      · rw [State.run_intakeGet s t _ (show 24 + 4 ≤ 32 by decide) (stream_block stream (by decide) (by decide)), effect,
          if_neg bad]
        exact State.discard_code _ stream (State.sofCode_lt _ _ _ _)
  case header =>
    intro s t n g m b f hn hg hm hf hl hb hh
    have effect := State.frameBlock_header (s := s.pass t) b (by simpa using hg) (by simpa using hm) (by simpa using hf) hl hb hh
    have ran : execStreamBlock t n b s = .next (s.run t (·.frameBlock n b)) := by simp only [execStreamBlock, hn, if_true]
    refine ⟨_, ran, ?_⟩
    dsimp only
    rw [State.run_stream, effect, State.stream_setStream_same]
    rfl
  case payload =>
    intro s t n g m b f hn hg hm hf hl hb hp h8
    have effect := State.frameBlock_payload (s := s.pass t) b (by simpa using hg) (by simpa using hm) (by simpa using hf) hl hb
      (by simpa using hp)
    have ran : execStreamBlock t n b s = .next (s.run t (·.frameBlock n b)) := by simp only [execStreamBlock, hn, if_true]
    refine ⟨_, ran, ?_, fun k hk ht => ?_⟩
    · rw [State.run_stream, effect, State.storePayload_frame, State.stream_setStream_same]
      rfl
    · have stored := State.storePayload_read ((s.pass t).setStream m (((s.pass t).stream m).inFrame { f with blocks := f.blocks + 1 }))
        f.buf h8 hk (i := f.blocks - 5) (m := m) (by simpa [State.rowBytes] using ht)
      rw [State.setStream_rowBytes, State.pass_rowBytes, State.setStream_streamStride, State.pass_streamStride] at stored
      rw [State.run_stream, effect]
      exact stored
  case eof =>
    intro s t n g m b f hn hg hm hf hl hc
    obtain ⟨lt, -⟩ := State.streamOf_spec hm
    have effect := State.eofBlock_completes (s := s.pass t) (b := b) (by simpa using hg) (by simpa using hm) (by simpa using hf) hl
      (by simpa using hc)
    have ran : execEof t n b s = .next (s.run t (·.eofBlock n b)) := by simp only [execEof, hn, if_true]
    obtain ⟨stream, completed, up⟩ := (s.pass t).completeFrame_shows f lt
    rw [← effect] at stream completed up
    refine ⟨_, ran, ?_, ?_, ?_, ?_, ?_⟩
    · rw [State.run_stream, stream]
      rfl
    · rw [State.run_stream, stream]
      rfl
    · rw [State.run_stream, stream]
      rfl
    · rw [State.run_intakeGet s t _ (show 0 + 16 ≤ 32 by decide) (stream_block lt (by decide) (by decide)), completed, State.pass_get]
    · rw [State.run_intakeFlag s t _ (show 31 + 1 ≤ 32 by decide) (stream_block lt (by decide) (by decide)), up]
  case timeout =>
    intro s t m hm he hu ht
    have effect := State.streamTimeout_down (s := s.pass t) (m := m) (by simpa using he) (by simpa using hu) (by simpa using ht)
    have ran : execStreamTimeout t m s = .next (s.run t (·.streamTimeout m)) := by simp only [execStreamTimeout, hm, if_true]
    obtain ⟨down, cause⟩ := (s.pass t).streamDown_shows (cause := 2) hm (by decide)
    rw [← effect] at down cause
    refine ⟨_, ran, ?_, ?_, fun hr => ?_⟩
    · rw [State.run_intakeFlag s t _ (show 31 + 1 ≤ 32 by decide) (stream_block hm (by decide) (by decide)), down]
    · rw [State.run_intakeGet s t _ (show 28 + 3 ≤ 32 by decide) (stream_block hm (by decide) (by decide)), cause]
    · rw [State.run_newest, effect]
      exact State.streamDown_newest 2 hm (by simpa using hu) (State.recording_of_records hr)

end

section
/-! PROOF. The control of lanes and streams (R276 to R280, R287, R292): the register writes of INTAKE that do more than store a value, and
the eye measurements. -/

namespace Sys2Proof.Machine

open Reg

/-! ### Writes to the block INTAKE -/

/-- The register of a series at its place. -/
theorem copyAt_place {base count stride i : Nat} (hs : 0 < stride) (hi : i < count) :
    copyAt base count stride (base + stride * i) = some i := by
  simp [copyAt, Nat.mul_div_cancel_left i hs, hi]

/-- An offset between the registers of a series, or beyond them, is none of them. -/
theorem copyAt_none {base count stride off : Nat} (h : (off - base) % stride ≠ 0 ∨ count ≤ (off - base) / stride) :
    copyAt base count stride off = none := by
  refine if_neg ?_
  simp only [Bool.and_eq_true, beq_iff_eq, decide_eq_true_eq, not_and, Nat.not_lt]
  intro inside
  exact h.resolve_left (not_not_intro inside.2)

theorem State.regWrite_intake {s : State} {m : Master} {off : Nat} (v : Nat) (h : s.takes m off = true) (hb : off / 65536 = 3) :
    s.regWrite m off 4 v = (s.writeIntake m off v).wroteNow m off := by
  have runs : s.commitStopped off = false := by
    simp only [State.takes, Bool.and_eq_true, Bool.not_eq_true'] at h
    exact h.2
  rw [State.regWrite_takes v h, State.regTakes, runs, hb]
  rfl

theorem State.writeIntake_eye (s : State) (m : Master) (v : Nat) : s.writeIntake m INTAKE_EYE_CTRL_OFF v = s.eyeStart v := rfl

/-- A register of a series of INTAKE is not the control of the point measurement. -/
theorem not_eyeControl {off : Nat} (h : 0x30100 ≤ off) : (off == INTAKE_EYE_CTRL_OFF) = false :=
  beq_eq_false_iff_ne.mpr fun e => absurd (e ▸ h) (by decide)

theorem State.writeIntake_power (s : State) (m : Master) (v : Nat) {n : Nat} (hn : n < 8) :
    s.writeIntake m (INTAKE_LANE_PWR_OFF n) v = s.laneRequest n (v % 4) := by
  have power : copyAt (INTAKE_LANE_PWR_OFF 0) 8 64 (INTAKE_LANE_PWR_OFF n) = some n := copyAt_place (base := 0x30100) (by decide) hn
  rw [State.writeIntake, not_eyeControl (by rw [INTAKE_LANE_PWR_OFF]; omega), power]
  rfl

theorem State.writeIntake_errClear (s : State) (m : Master) (v : Nat) {n : Nat} (hn : n < 8) :
    s.writeIntake m (INTAKE_LANE_ERR_CLEAR_OFF n) v = s.laneErrClear n v := by
  have power : copyAt (INTAKE_LANE_PWR_OFF 0) 8 64 (INTAKE_LANE_ERR_CLEAR_OFF n) = none :=
    copyAt_none (by simp only [INTAKE_LANE_PWR_OFF, INTAKE_LANE_ERR_CLEAR_OFF]; omega)
  have clear : copyAt (INTAKE_LANE_ERR_CLEAR_OFF 0) 8 64 (INTAKE_LANE_ERR_CLEAR_OFF n) = some n :=
    copyAt_place (base := 0x30114) (by decide) hn
  rw [State.writeIntake, not_eyeControl (by rw [INTAKE_LANE_ERR_CLEAR_OFF]; omega), power, clear]
  rfl

/-- The registers of the streams stand beyond those of the lanes. -/
theorem copyAt_beyond {base off : Nat} (hb : base < 0x30140) (ho : 0x30400 ≤ off) : copyAt base 8 64 off = none :=
  copyAt_none (.inr (by omega))

theorem State.writeIntake_config (s : State) (m : Master) (v : Nat) {k : Nat} (hk : k < 8) :
    s.writeIntake m (INTAKE_STR_CFG_OFF k) v = s.writeStream k v := by
  have lanes (base : Nat) (hb : base < 0x30140) : copyAt base 8 64 (INTAKE_STR_CFG_OFF k) = none :=
    copyAt_beyond hb (Nat.le_add_right _ _)
  have config : copyAt (INTAKE_STR_CFG_OFF 0) 8 64 (INTAKE_STR_CFG_OFF k) = some k := copyAt_place (base := 0x30400) (by decide) hk
  rw [State.writeIntake, not_eyeControl (by rw [INTAKE_STR_CFG_OFF]; omega), lanes _ (by decide), lanes _ (by decide), config]
  rfl

theorem State.writeIntake_size (s : State) (m : Master) (v : Nat) {k : Nat} (hk : k < 8) :
    s.writeIntake m (INTAKE_STR_SIZE_OFF k) v = s.streamSize k v := by
  have lanes (base : Nat) (hb : base < 0x30140) : copyAt base 8 64 (INTAKE_STR_SIZE_OFF k) = none :=
    copyAt_beyond hb (by rw [INTAKE_STR_SIZE_OFF]; omega)
  have config : copyAt (INTAKE_STR_CFG_OFF 0) 8 64 (INTAKE_STR_SIZE_OFF k) = none :=
    copyAt_none (by simp only [INTAKE_STR_CFG_OFF, INTAKE_STR_SIZE_OFF]; omega)
  have size : copyAt (INTAKE_STR_SIZE_OFF 0) 8 64 (INTAKE_STR_SIZE_OFF k) = some k := copyAt_place (base := 0x30404) (by decide) hk
  rw [State.writeIntake, not_eyeControl (by rw [INTAKE_STR_SIZE_OFF]; omega), lanes _ (by decide), lanes _ (by decide), config, size]
  rfl

theorem State.writeIntake_clear (s : State) (m : Master) (v : Nat) {k : Nat} (hk : k < 8) :
    s.writeIntake m (INTAKE_STR_CLEAR_OFF k) v = s.streamClear k v := by
  have lanes (base : Nat) (hb : base < 0x30140) : copyAt base 8 64 (INTAKE_STR_CLEAR_OFF k) = none :=
    copyAt_beyond hb (by rw [INTAKE_STR_CLEAR_OFF]; omega)
  have config : copyAt (INTAKE_STR_CFG_OFF 0) 8 64 (INTAKE_STR_CLEAR_OFF k) = none :=
    copyAt_none (by simp only [INTAKE_STR_CFG_OFF, INTAKE_STR_CLEAR_OFF]; omega)
  have size : copyAt (INTAKE_STR_SIZE_OFF 0) 8 64 (INTAKE_STR_CLEAR_OFF k) = none :=
    copyAt_none (by simp only [INTAKE_STR_SIZE_OFF, INTAKE_STR_CLEAR_OFF]; omega)
  have clear : copyAt (INTAKE_STR_CLEAR_OFF 0) 8 64 (INTAKE_STR_CLEAR_OFF k) = some k := copyAt_place (base := 0x3041C) (by decide) hk
  rw [State.writeIntake, not_eyeControl (by rw [INTAKE_STR_CLEAR_OFF]; omega), lanes _ (by decide), lanes _ (by decide), config, size,
    clear]
  rfl

/-- After a write of INTAKE a register of its block reads what the operation left there. -/
theorem State.intakeWrite_reg {s s' : State} {t : Nat} {m : Master} {off v : Nat} (ht : (s.pass t).takes m off = true)
    (hb : off / 65536 = 3) (hw : (s.pass t).writeIntake m off v = s') {o : Nat} (ho : o / 65536 = 3) :
    (s.run t fun s => s.regWrite m off 4 v).reg o = s'.reg o := by
  have away (g : Nat) (hg : g / 65536 ≠ 3) : o ≠ g := fun e => hg (e ▸ ho)
  rw [State.run_reg s t _ (away _ (by decide)) (away _ (by decide)), State.regWrite_intake v ht hb, hw]
  rfl

theorem State.intakeWrite_get {s s' : State} {t : Nat} {m : Master} {off v : Nat} (ht : (s.pass t).takes m off = true)
    (hb : off / 65536 = 3) (hw : (s.pass t).writeIntake m off v = s') {f : Field} (hf : f.off / 65536 = 3) :
    (s.run t fun s => s.regWrite m off 4 v).get f = s'.get f := State.get_of_reg (State.intakeWrite_reg ht hb hw hf)

theorem State.intakeWrite_intake {s s' : State} {t : Nat} {m : Master} {off v : Nat} (ht : (s.pass t).takes m off = true)
    (hb : off / 65536 = 3) (hw : (s.pass t).writeIntake m off v = s') :
    (s.run t fun s => s.regWrite m off 4 v).intake = s'.intake := by
  rw [State.run_intake, State.regWrite_intake v ht hb, hw]
  rfl

/-! ### Power states (R276 to R278) -/

/-- The power register of a Hawser lane stands in its window. -/
theorem lanePower_laneReg {n : Nat} (hn : n < 8) : INTAKE_LANE_PWR_OFF n = laneReg n 0 := by
  simp only [INTAKE_LANE_PWR_OFF, laneReg, laneField, if_pos hn, Nat.add_zero]

/-- A request and the power state that it finds. -/
def State.setPower (s : State) (n req state : Nat) : State :=
  (s.set (INTAKE_LANE_PWR_REQ n) req).set (INTAKE_LANE_PWR_STATE n) state

theorem State.setPower_shows (s : State) (n : Nat) {req state : Nat} (hr : req < 4) (hs : state < 4) :
    (s.setPower n req state).get (INTAKE_LANE_PWR_REQ n) = req ∧ (s.setPower n req state).get (INTAKE_LANE_PWR_STATE n) = state := by
  constructor
  · refine (State.get_set_other _ _ (show 0 + 2 ≤ 32 by decide) (.inr (.inr (show 0 + 2 ≤ 8 by decide)))).trans ?_
    exact (State.get_set_same s _ (show 0 + 2 ≤ 32 by decide)).trans (Nat.mod_eq_of_lt hr)
  · exact (State.get_set_same _ _ (show 8 + 2 ≤ 32 by decide)).trans (Nat.mod_eq_of_lt hs)

/-- The power register stands apart from the status register. -/
theorem State.setPower_status (s : State) {n : Nat} (req state lsb width : Nat) (hn : n < 8) :
    (s.setPower n req state).get (laneField n 4 lsb width) = s.get (laneField n 4 lsb width) := by
  have apart : laneReg n 4 ≠ INTAKE_LANE_PWR_OFF n := by
    rw [lanePower_laneReg hn]
    exact fun e => absurd (laneReg_inj (by decide) (by decide) e).2 (by decide)
  exact State.get_of_reg ((State.reg_set_other _ _ apart).trans (State.reg_set_other s _ apart))

theorem Within.power {p : Nat → Prop} {a s : State} (h : Within (laneShown p) a s) {n : Nat} (hn : n < 8) {lsb width : Nat} :
    s.get ⟨INTAKE_LANE_PWR_OFF n, lsb, width⟩ = a.get ⟨INTAKE_LANE_PWR_OFF n, lsb, width⟩ := by
  rw [lanePower_laneReg hn]
  exact h.get (laneReg_large n 0) (laneReg_not_shown (by decide) (.inr (by decide)))

/-- What a request leaves in the lane's power register. -/
def State.power (s : State) (n req state : Nat) : Prop :=
  s.get (INTAKE_LANE_PWR_REQ n) = req ∧ s.get (INTAKE_LANE_PWR_STATE n) = state

theorem Within.keepsPower {p : Nat → Prop} {a s : State} (h : Within (laneShown p) a s) {n req state : Nat} (hn : n < 8)
    (hp : a.power n req state) : s.power n req state := ⟨(h.power hn).trans hp.1, (h.power hn).trans hp.2⟩

theorem State.laneTrain_within (s : State) (n : Nat) : Within (laneShown (· = n)) s (s.laneTrain n) :=
  .ite (s.setLink_within n 1) (.refl _ s)

theorem State.laneTrain_link (s : State) (n : Nat) : (s.laneTrain n).get (laneLink n) = max 1 (s.get (laneLink n)) := by
  unfold State.laneTrain
  split
  · next off =>
    rw [beq_iff_eq.mp off]
    exact s.get_laneSet_same n 4 1 (by decide) (by decide)
  · next on =>
    have on : s.get (laneLink n) ≠ 0 := fun e => on (beq_iff_eq.mpr e)
    omega

/-- DEEP takes the lane OFF. -/
theorem State.laneRequest_deep {s : State} {n req : Nat} (hm : s.house.mode.lanesRun = true) (hn : n < 8) (hr : 2 ≤ req) (h4 : req < 4) :
    (s.laneRequest n req).power n req 2 ∧ (s.laneRequest n req).get (laneLink n) = 0 := by
  have want : min req 2 = 2 := Nat.min_eq_right hr
  obtain ⟨off, idle, effect⟩ : ∃ off idle, s.laneRequest n req =
      (((s.setPower n req 2).laneFalls n 0 false).setLane n off).setLane n idle := by
    simp only [State.laneRequest, State.set_house, hm, want, Bool.not_true, Bool.false_or, decide_eq_true_eq,
      if_neg (Nat.not_le.mpr hn), beq_self_eq_true, if_true]
    exact ⟨_, _, rfl⟩
  rw [effect]
  exact ⟨((s.setPower n req 2).laneFalls_within n 0 false).keepsPower hn (s.setPower_shows n h4 (by decide)),
    (s.setPower n req 2).laneFalls_link n false (by decide)⟩

/-- ACTIVE lets a lane that is OFF train. -/
theorem State.laneRequest_active {s : State} {n : Nat} (hm : s.house.mode.lanesRun = true) (hn : n < 8) :
    (s.laneRequest n 0).power n 0 0 ∧ (s.laneRequest n 0).get (laneLink n) = max 1 (s.get (laneLink n)) := by
  obtain ⟨l, effect⟩ : ∃ l, s.laneRequest n 0 = ((s.setPower n 0 0).setLane n l).laneTrain n := by
    simp only [State.laneRequest, State.set_house, hm, Bool.not_true, Bool.false_or, decide_eq_true_eq,
      if_neg (Nat.not_le.mpr hn)]
    exact ⟨_, rfl⟩
  rw [effect]
  refine ⟨(State.laneTrain_within _ n).keepsPower hn (s.setPower_shows n (by decide) (by decide)), ?_⟩
  rw [State.laneTrain_link, State.setLane_get]
  exact congrArg (max 1) (s.setPower_status 0 0 0 3 hn)

theorem State.setReq_link (s : State) {n : Nat} (req : Nat) (hn : n < 8) :
    (s.set (INTAKE_LANE_PWR_REQ n) req).get (laneLink n) = s.get (laneLink n) := by
  refine State.get_of_reg (State.reg_set_other s req ?_)
  change laneReg n 4 ≠ INTAKE_LANE_PWR_OFF n
  rw [lanePower_laneReg hn]
  exact fun e => absurd (laneReg_inj (by decide) (by decide) e).2 (by decide)

theorem State.setReq_shows (s : State) (n : Nat) {req : Nat} (hr : req < 4) :
    (s.set (INTAKE_LANE_PWR_REQ n) req).get (INTAKE_LANE_PWR_REQ n) = req :=
  (State.get_set_same s _ (show 0 + 2 ≤ 32 by decide)).trans (Nat.mod_eq_of_lt hr)

/-- IDLE of a lane below MARKED is held. -/
theorem State.laneRequest_held {s : State} {n : Nat} (hm : s.house.mode.lanesRun = true) (hn : n < 8) (hl : s.get (laneLink n) < 3) :
    (s.laneRequest n 1).get (INTAKE_LANE_PWR_REQ n) = 1 ∧ ((s.laneRequest n 1).lane n).idleHeld = true := by
  have below : (s.set (INTAKE_LANE_PWR_REQ n) 1).get (laneLink n) < 3 := by rwa [s.setReq_link 1 hn]
  have effect : s.laneRequest n 1 =
      if (s.set (INTAKE_LANE_PWR_REQ n) 1).get (INTAKE_LANE_PWR_STATE n) == 2
      then ((s.setPower n 1 0).setLane n { s.lane n with idleHeld := true }).laneTrain n
      else (s.set (INTAKE_LANE_PWR_REQ n) 1).setLane n { s.lane n with idleHeld := true } := by
    simp only [State.laneRequest, State.set_house, hm, Bool.not_true, Bool.false_or, decide_eq_true_eq,
      if_neg (Nat.not_le.mpr hn), if_pos below]
    rfl
  rw [effect]
  split
  · constructor
    · exact ((State.laneTrain_within _ n).power hn).trans (s.setPower_shows n (by decide) (by decide)).1
    · rw [(State.laneTrain_within _ n).lane, State.lane_setLane_same]
  · exact ⟨s.setReq_shows n (by decide), by rw [State.lane_setLane_same]⟩

/-- IDLE of a lane in MARKED or ALIGNED takes effect. -/
theorem State.laneRequest_idle {s : State} {n : Nat} (hm : s.house.mode.lanesRun = true) (hn : n < 8) (hl : 3 ≤ s.get (laneLink n)) :
    (s.laneRequest n 1).power n 1 1 := by
  have up : ¬ (s.set (INTAKE_LANE_PWR_REQ n) 1).get (laneLink n) < 3 := by
    rw [s.setReq_link 1 hn]
    omega
  have effect : ∃ logical, s.laneRequest n 1 = (s.setPower n 1 1).laneLeaves logical := by
    simp only [State.laneRequest, State.set_house, hm, Bool.not_true, Bool.false_or, decide_eq_true_eq,
      if_neg (Nat.not_le.mpr hn), if_neg up]
    exact ⟨_, rfl⟩
  obtain ⟨logical, effect⟩ := effect
  rw [effect]
  exact (((Within.refl reported _).laneLeaves logical).mono (own' := laneShown fun _ => False) fun _ => .inl).keepsPower hn
    (s.setPower_shows n (by decide) (by decide))

/-- A request stands in its field whatever its power state. -/
theorem State.laneRequest_req {s : State} {n req : Nat} (hm : s.house.mode.lanesRun = true) (hn : n < 8) (h4 : req < 4) :
    (s.laneRequest n req).get (INTAKE_LANE_PWR_REQ n) = req := by
  rcases Nat.lt_or_ge req 2 with small | deep
  · rcases Nat.lt_or_ge (s.get (laneLink n)) 3 with below | up
    · interval_cases req
      · exact (State.laneRequest_active hm hn).1.1
      · exact (State.laneRequest_held hm hn below).1
    · interval_cases req
      · exact (State.laneRequest_active hm hn).1.1
      · exact (State.laneRequest_idle hm hn up).1
  · exact (State.laneRequest_deep hm hn deep h4).1.1

/-! ### Eye scans and point measurements (R279, R280) -/

/-- A lane that a background scan finds low once more, or not. -/
def Lane.scanned (l : Lane) (low : Bool) : Lane := { l with lowEyes := if low then l.lowEyes + 1 else 0 }

/-- What a background scan shows of a lane, before its report. -/
def State.eyeShown (s : State) (n width height : Nat) : State :=
  ((s.set (laneField n 0xC 0 8) (min width 255)).set (laneField n 0xC 8 8) (min height 255)).setLane n
    ((s.lane n).scanned (decide (width < 16) || decide (height < 15)))

theorem State.eyeScan_eq {s : State} {n : Nat} (width height : Nat) (hn : n < 10) (hl : 2 ≤ s.get (laneLink n)) (hp : s.lanePow n ≠ 2)
    (hb : s.flag INTAKE_EYE_STATUS_BUSY = false) (hh : s.laneHeld n = false) : s.eyeScan n width height =
      if 2 ≤ ((s.eyeShown n width height).lane n).lowEyes
      then ((s.eyeShown n width height).latch (laneField n 4 19 1)).noteFault 0x0004 (laneIsland n)
        ((s.eyeShown n width height).laneSubj n)
      else s.eyeShown n width height := by
  have runs : ¬ (decide (s.get (laneLink n) < 2) || s.lanePow n == 2 || (s.flag INTAKE_EYE_STATUS_BUSY && s.intake.eyeLane == n) ||
      decide (10 ≤ n) || s.laneHeld n) = true := by
    simp only [hb, hh, Bool.false_and, Bool.or_false, Bool.or_eq_true, decide_eq_true_eq, beq_iff_eq]
    omega
  simp only [State.eyeScan, if_neg runs, State.eyeShown, Lane.scanned, State.set_lane, State.lane_setLane_same]
  rfl

/-- The eye registers of a lane after a background scan. -/
theorem State.eyeShown_eye (s : State) (n width height : Nat) :
    (s.eyeShown n width height).get (laneField n 0xC 0 8) = min width 255 ∧
    (s.eyeShown n width height).get (laneField n 0xC 8 8) = min height 255 := by
  have fits (x : Nat) : min x 255 < 2 ^ 8 := Nat.lt_of_le_of_lt (Nat.min_le_right _ _) (by decide)
  rw [State.eyeShown, State.setLane_get, State.setLane_get]
  constructor
  · rw [State.get_laneSet_other _ _ (by decide) (by decide)]
    exact s.get_laneSet_same n 0xC _ (by decide) (fits width)
  · exact State.get_laneSet_same _ n 0xC _ (by decide) (fits height)

theorem State.eyeShown_status (s : State) (n width height lsb w : Nat) :
    (s.eyeShown n width height).get (laneField n 4 lsb w) = s.get (laneField n 4 lsb w) := by
  have apart (l k : Nat) : (laneField n 4 lsb w).off ≠ (laneField n 0xC l k).off := fun e =>
    absurd (laneReg_inj (by decide) (by decide) e).2 (by decide)
  rw [State.eyeShown, State.setLane_get]
  refine State.get_of_reg ?_
  rw [State.reg_set_other _ _ (apart _ _), State.reg_set_other _ _ (apart _ _)]

theorem State.Recording.eyeShown {s : State} (h : s.Recording) (n width height : Nat) : (s.eyeShown n width height).Recording := by
  have apart (l k : Nat) : (laneField n 0xC l k).off ≠ KEEPER_STATUS_OFF :=
    Nat.ne_of_gt (Nat.lt_of_lt_of_le (by decide) (laneReg_lower n 0xC))
  have wide := h.set (min width 255) (apart 0 8)
  exact (wide.set (min height 255) (apart 8 8)).setLane n _

/-- A background scan stores its width and height; from the second low one in a row on it sets EYE_LOW, which KEEPER records. -/
theorem State.eyeScan_shows {s : State} {n : Nat} (width height : Nat) (hn : n < 10) (hl : 2 ≤ s.get (laneLink n)) (hp : s.lanePow n ≠ 2)
    (hb : s.flag INTAKE_EYE_STATUS_BUSY = false) (hh : s.laneHeld n = false) :
    (s.eyeScan n width height).get (laneField n 0xC 0 8) = min width 255 ∧
    (s.eyeScan n width height).get (laneField n 0xC 8 8) = min height 255 ∧
    ((width < 16 ∨ height < 15) → 1 ≤ (s.lane n).lowEyes → (s.eyeScan n width height).get (laneField n 4 19 1) = 1 ∧
      (s.Recording → (s.eyeScan n width height).newest = some (0x0004, laneIsland n, s.laneSubj n))) := by
  obtain ⟨wide, high⟩ := s.eyeShown_eye n width height
  rw [State.eyeScan_eq width height hn hl hp hb hh]
  have latched := (Within.refl (laneShown (· = n)) (s.eyeShown n width height)).laneLatch (n := n) (win := 4) (lsb := 19) (width := 1)
    (.inr ⟨n, rfl, .inl rfl⟩)
  have noted (subject : Nat) := latched.noteFault 0x0004 (laneIsland n) subject
  refine ⟨?_, ?_, fun low again => ?_⟩
  · split
    · exact ((noted _).laneGet (laneReg_not_shown (by decide) (.inr (by decide)))).trans wide
    · exact wide
  · split
    · exact ((noted _).laneGet (laneReg_not_shown (by decide) (.inr (by decide)))).trans high
    · exact high
  · have second : 2 ≤ ((s.eyeShown n width height).lane n).lowEyes := by
      rw [State.eyeShown, State.lane_setLane_same, Lane.scanned, if_pos (by simpa using low)]
      exact Nat.succ_le_succ again
    have subject : (s.eyeShown n width height).laneSubj n = s.laneSubj n :=
      congrArg (subj 4) (s.eyeShown_status n width height 8 4)
    rw [if_pos second, subject]
    constructor
    · refine (((Within.refl reported _).noteFault _ _ _).laneGet (laneReg_not_reported (by decide))).trans ?_
      exact State.get_laneSet_same _ n 4 1 (by decide) (by decide)
    · exact fun h => (latched.recording (h.eyeShown n width height)).noteFault_newest _ _ _

/-- A written word by the fields that its register has. -/
theorem State.setReg_and (s : State) (v : Nat) {off mask lsb width : Nat} (h : lsb + width ≤ 32)
    (kept : ∀ i < width, mask.testBit (lsb + i) = true) :
    (s.setReg off (v &&& mask)).get ⟨off, lsb, width⟩ = getBits v lsb width :=
  (State.get_setReg_same s (f := ⟨off, lsb, width⟩) _ h).trans (getBits_and_mask v kept)

/-- The three status bits of a point measurement. -/
def State.eyeStatus (s : State) (done busy invalid : Nat) : State :=
  ((s.set INTAKE_EYE_STATUS_DONE done).set INTAKE_EYE_STATUS_BUSY busy).set INTAKE_EYE_STATUS_INVALID invalid

theorem State.eyeStatus_shows (s : State) {done busy invalid : Nat} (hd : done < 2) (hb : busy < 2) (hi : invalid < 2) :
    (s.eyeStatus done busy invalid).get INTAKE_EYE_STATUS_DONE = done ∧
    (s.eyeStatus done busy invalid).get INTAKE_EYE_STATUS_BUSY = busy ∧
    (s.eyeStatus done busy invalid).get INTAKE_EYE_STATUS_INVALID = invalid := by
  unfold State.eyeStatus
  refine ⟨?_, ?_, ?_⟩
  · rw [State.get_set_other _ _ (by decide) (by decide), State.get_set_other _ _ (by decide) (by decide),
      State.get_set_same _ _ (by decide)]
    exact Nat.mod_eq_of_lt hd
  · rw [State.get_set_other _ _ (by decide) (by decide), State.get_set_same _ _ (by decide)]
    exact Nat.mod_eq_of_lt hb
  · rw [State.get_set_same _ _ (by decide)]
    exact Nat.mod_eq_of_lt hi

theorem State.eyeStatus_reg (s : State) (done busy invalid : Nat) {off : Nat} (h : off ≠ INTAKE_EYE_STATUS_OFF) :
    (s.eyeStatus done busy invalid).reg off = s.reg off := by
  rw [State.eyeStatus, State.reg_set_other _ _ h, State.reg_set_other _ _ h, State.reg_set_other _ _ h]

/-- A lane that a point measurement can run on. -/
def State.eyeRuns (s : State) (n : Nat) : Prop := n < 10 ∧ 2 ≤ s.get (laneLink n) ∧ s.lanePow n ≠ 2

/-- A write of the control of the point measurement leaves the lanes alone. -/
theorem State.eyeRuns_setReg (s : State) (v n : Nat) : (s.setReg INTAKE_EYE_CTRL_OFF v).eyeRuns n ↔ s.eyeRuns n := by
  have link : (s.setReg INTAKE_EYE_CTRL_OFF v).get (laneLink n) = s.get (laneLink n) :=
    State.get_setReg_other s v (Nat.ne_of_gt (Nat.lt_of_lt_of_le (by decide) (laneReg_lower n 4)))
  have power : (s.setReg INTAKE_EYE_CTRL_OFF v).lanePow n = s.lanePow n := by
    have state : (s.setReg INTAKE_EYE_CTRL_OFF v).get (INTAKE_LANE_PWR_STATE n) = s.get (INTAKE_LANE_PWR_STATE n) :=
      State.get_setReg_other s v (by simp only [INTAKE_LANE_PWR_STATE, INTAKE_LANE_PWR_OFF, INTAKE_EYE_CTRL_OFF]; omega)
    have twin : (s.setReg INTAKE_EYE_CTRL_OFF v).twinEn = s.twinEn :=
      State.flag_of_reg (State.reg_setReg_other s v (by decide))
    rw [State.lanePow, State.lanePow, state, twin]
    rfl
  rw [State.eyeRuns, State.eyeRuns, link, power]

/-- GO starts a measurement of a running lane, which shows BUSY; for another it ends at once with INVALID. -/
theorem State.eyeStart_go {s : State} {v : Nat} (hv : getBits v 31 1 = 1) (hb : s.flag INTAKE_EYE_STATUS_BUSY = false) :
    (s.eyeStart v).get INTAKE_EYE_CTRL_LANE = getBits v 24 4 ∧
    (s.eyeRuns (getBits v 24 4) → (s.eyeStart v).get INTAKE_EYE_STATUS_DONE = 0 ∧
      (s.eyeStart v).get INTAKE_EYE_STATUS_BUSY = 1 ∧ (s.eyeStart v).get INTAKE_EYE_STATUS_INVALID = 0) ∧
    (¬ s.eyeRuns (getBits v 24 4) → (s.eyeStart v).get INTAKE_EYE_STATUS_DONE = 1 ∧
      (s.eyeStart v).get INTAKE_EYE_STATUS_BUSY = 0 ∧ (s.eyeStart v).get INTAKE_EYE_STATUS_INVALID = 1) := by
  rw [← s.eyeRuns_setReg (v &&& 0x0F3FFF0F)]
  unfold State.eyeStart
  rw [if_neg (by simp [hv]), if_neg (by simp [hb])]
  extract_lets s1 n intake s2
  have lane : s1.get INTAKE_EYE_CTRL_LANE = n := s.setReg_and v (by decide) (by decide)
  have shown (x : State) (done busy invalid : Nat) (hx : x.get INTAKE_EYE_CTRL_LANE = n) :
      (x.eyeStatus done busy invalid).get INTAKE_EYE_CTRL_LANE = n :=
    (State.get_of_reg (State.eyeStatus_reg x done busy invalid (by decide))).trans hx
  have stopped : (decide (10 ≤ n) || decide (s1.get (laneLink n) < 2) || s1.lanePow n == 2) = true ↔ ¬ s1.eyeRuns n := by
    simp only [State.eyeRuns, Bool.or_eq_true, decide_eq_true_eq, beq_iff_eq]
    omega
  by_cases runs : s1.eyeRuns n
  · rw [if_neg (fun stops => stopped.mp stops runs)]
    exact ⟨shown s2 0 1 0 lane, fun _ => s2.eyeStatus_shows (by decide) (by decide) (by decide), fun stops => absurd runs stops⟩
  · rw [if_pos (stopped.mpr runs)]
    exact ⟨shown s1 1 0 1 lane, fun starts => absurd starts runs, fun _ => s1.eyeStatus_shows (by decide) (by decide) (by decide)⟩

/-- The end of a measurement shows its disagreements. -/
theorem State.eyeEnd_shows {s : State} (errors : Nat) (hb : s.flag INTAKE_EYE_STATUS_BUSY = true) :
    (s.eyeEnd errors).get INTAKE_EYE_ERR_ERR = min errors 0xFFFFFFFF ∧ (s.eyeEnd errors).get INTAKE_EYE_STATUS_DONE = 1 ∧
    (s.eyeEnd errors).get INTAKE_EYE_STATUS_BUSY = 0 := by
  have fits : min errors 0xFFFFFFFF < 2 ^ 32 := Nat.lt_of_le_of_lt (Nat.min_le_right _ _) (by decide)
  rw [State.eyeEnd, if_neg (by simp [hb])]
  refine ⟨?_, ?_, State.get_set_same _ _ (by decide)⟩
  · rw [State.get_set_other _ _ (by decide) (by decide), State.get_set_other _ _ (by decide) (by decide),
      State.get_set_same _ _ (by decide)]
    exact Nat.mod_eq_of_lt fits
  · rw [State.get_set_other _ _ (by decide) (by decide), State.get_set_same _ _ (by decide)]
    rfl

/-! ### A stream that rests through what befalls the lanes (R286, R287, R293) -/

/-- A stream that is not UP and holds no frame. -/
def State.resting (s : State) (k : Nat) : Prop :=
  s.get (INTAKE_STR_STATUS_UP k) = 0 ∧ (s.stream k).frame = none ∧ (s.stream k).newest = none

namespace State.resting

variable {s s' : State} {k : Nat}

theorem of (h : s.resting k) (up : s'.get (INTAKE_STR_STATUS_UP k) = s.get (INTAKE_STR_STATUS_UP k))
    (stream : s'.stream k = s.stream k) : s'.resting k := by
  obtain ⟨down, frame, newest⟩ := h
  exact ⟨up.trans down, by rw [stream, frame], by rw [stream, newest]⟩

theorem ite {c : Prop} [Decidable c] {x y : State} (hx : x.resting k) (hy : y.resting k) : (if c then x else y).resting k := by
  split
  · exact hx
  · exact hy

theorem set (h : s.resting k) {f : Field} (v : Nat) (hf : f.off ≠ INTAKE_STR_STATUS_OFF k ∨ f.lsb + f.width ≤ 31) :
    (s.set f v).resting k :=
  h.of (State.get_set_other s v (show 31 + 1 ≤ 32 by decide) (hf.imp Ne.symm .inl)) rfl

theorem setLaneField (h : s.resting k) {n win lsb width : Nat} (v : Nat) (hk : k < 8) (hw : win < 0x40) :
    (s.set (laneField n win lsb width) v).resting k := by
  refine h.set v (.inl ?_)
  simp only [laneField, INTAKE_STR_STATUS_OFF]
  split <;> omega

theorem latchLaneField (h : s.resting k) {n win lsb width : Nat} (hk : k < 8) (hw : win < 0x40) :
    (s.latch (laneField n win lsb width)).resting k :=
  (h.setLaneField 1 hk hw).of rfl rfl

theorem note (h : s.resting k) (hk : k < 8) (r : Report) : (s.note r).resting k :=
  h.of (State.note_intakeGet s r (stream_block hk (by decide) (by decide))) (State.stream_of_intake k (State.note_intake s r))

theorem event (h : s.resting k) (hk : k < 8) (e : Event) : (s.event e).resting k :=
  h.of (State.event_intakeGet s e (stream_block hk (by decide) (by decide))) (State.stream_of_intake k (State.event_intake s e))

theorem setGlobal (h : s.resting k) {f : Field} (v : Nat) (hf : f.off < 0x30400) : (s.set f v).resting k := by
  refine h.set v (.inl ?_)
  rw [INTAKE_STR_STATUS_OFF]
  omega

theorem showLane (h : s.resting k) (n : Nat) : (s.showLane n).resting k :=
  .ite (h.setGlobal _ (show INTAKE_STATUS_OFF < 0x30400 by decide)) h

theorem eyeCut (h : s.resting k) (n : Nat) : (s.eyeCut n).resting k :=
  .ite (((h.setGlobal 1 (by decide)).setGlobal 0 (by decide)).setGlobal 1 (by decide)) h

/-- Discarding a frame of any stream brings none up. -/
theorem discard (h : s.resting k) (hk : k < 8) {m : Nat} (hm : m < 8) (code : Nat) : (s.discard m code).resting k := by
  unfold State.discard
  extract_lets r s1 s2
  have frames : INTAKE_STR_FRAMES_OFF m ≠ INTAKE_STR_STATUS_OFF k := by
    simp only [INTAKE_STR_FRAMES_OFF, INTAKE_STR_STATUS_OFF]
    omega
  have gone : s1.resting k := by
    by_cases same : k = m
    · subst same
      obtain ⟨down, -, newest⟩ := h
      have mine : s1.stream k = (s.stream k).discarded := s.stream_setStream_same k _
      exact ⟨down, by rw [mine]; rfl, by rw [mine]; exact newest⟩
    · exact h.of rfl (s.stream_setStream_other _ same)
  have counted : s2.resting k := State.resting.set (gone.set _ (.inl frames)) code (.inr (show 24 + 4 ≤ 31 by decide))
  exact .ite counted (counted.note hk _)

theorem streamDown (h : s.resting k) (hk : k < 8) {m : Nat} (hm : m < 8) {cause : Nat} (hc : cause < 8) :
    (s.streamDown m cause).resting k := by
  by_cases same : k = m
  · subst same
    obtain ⟨-, frame, newest⟩ := h
    have stream := State.stream_of_intake k (s.streamDown_intake k cause)
    have down := State.get_lt (s.streamDown k cause) (INTAKE_STR_STATUS_UP k)
    have notUp := beq_eq_false_iff_ne.mp ((s.streamDown_shows hk hc).1)
    refine ⟨?_, by rw [stream, frame], by rw [stream, newest]⟩
    change _ < 2 at down
    change (s.streamDown k cause).get _ ≠ 1 at notUp
    omega
  · have apart : INTAKE_STR_STATUS_OFF m ≠ INTAKE_STR_STATUS_OFF k := by
      simp only [INTAKE_STR_STATUS_OFF]
      omega
    unfold State.streamDown
    extract_lets wasUp s1 s2 s3
    have shown : s2.resting k :=
      State.resting.setGlobal ((h.set 0 (.inl apart)).set cause (.inl apart)) 0 (show INTAKE_STATUS_OFF < 0x30400 by decide)
    exact .ite shown ((shown.event hk _).note hk _)

theorem laneLeaves (h : s.resting k) (hk : k < 8) (logical : Nat) : (s.laneLeaves logical).resting k := by
  unfold State.laneLeaves
  split
  · exact h
  · next m hm =>
    obtain ⟨hm, -⟩ := State.streamOf_spec hm
    extract_lets s1
    have h1 : s1.resting k := by
      unfold s1
      split
      · exact .ite (h.discard hk hm 4) h
      · exact h
    exact .ite (h1.streamDown hk hm (by decide)) h1

theorem laneFalls (h : s.resting k) (hk : k < 8) (n link : Nat) (note : Bool) : (s.laneFalls n link note).resting k := by
  unfold State.laneFalls
  extract_lets was logical sub s1 s2 s3 s4 s5
  have h1 : s1.resting k := (h.setLaneField link hk (by decide)).showLane n
  have h2 : s2.resting k := .ite (h1.eyeCut n) h1
  have h3 : s3.resting k := .ite (h2.laneLeaves hk logical) h2
  have h5 : s5.resting k :=
    ((h3.latchLaneField hk (by decide)).setLaneField 15 hk (by decide)).setLaneField 0 hk (by decide)
  exact .ite h2 (.ite h3 (.ite (h5.note hk _) h5))

/-- Deskew brings no stream up. -/
theorem deskew (h : s.resting k) (hk : k < 8) (ks : List Nat) : (s.deskew ks).resting k := by
  refine State.deskew_induction (P := (·.resting k)) (fun x n skew hx => ?_) (fun x n hx => ?_) ks h
  · exact ((State.resting.setLaneField hx 4 hk (by decide)).setLaneField skew hk (by decide)).showLane n
  · exact ((State.resting.laneFalls hx hk n 3 false).latchLaneField hk (by decide)).note hk _

end State.resting

/-! ### Stream configuration (R287, R288, R292) -/

theorem State.showAdmit_elsewhere (s : State) : Elsewhere [4] s s.showAdmit := by
  unfold State.showAdmit
  exact ((Elsewhere.refl _ s).set _ (by decide)).set _ (by decide)

@[simp] theorem State.pass_trafficBut (s : State) (t k : Nat) : (s.pass t).trafficBut k = s.trafficBut k :=
  State.pass_keeps (·.trafficBut k) (fun _ _ _ _ _ _ _ => rfl) s t

theorem State.configCode_lt (s : State) (k other : Nat) : s.configCode k other < 16 := by
  unfold State.configCode
  extract_lets
  repeat' split
  all_goals decide

/-- A rejected configuration is shown with its code and its stream. -/
theorem State.configRejected_shows (s : State) {k code : Nat} (hk : k < 8) (hc : code < 16) :
    (s.configRejected k code).get INTAKE_STATUS_CFG_REJ = 1 ∧ (s.configRejected k code).get INTAKE_STATUS_REJ_CODE = code ∧
    (s.configRejected k code).get INTAKE_STATUS_REJ_STREAM = k := by
  unfold State.configRejected
  refine ⟨?_, ?_, ?_⟩
  · rw [State.get_set_other _ _ (by decide) (by decide), State.get_set_other _ _ (by decide) (by decide), State.latch_get,
      State.get_set_same _ _ (by decide)]
    rfl
  · rw [State.get_set_other _ _ (by decide) (by decide), State.get_set_same _ _ (by decide)]
    exact Nat.mod_eq_of_lt hc
  · rw [State.get_set_same _ _ (by decide)]
    exact Nat.mod_eq_of_lt hk

theorem State.configRejected_reg (s : State) (k code : Nat) {off : Nat} (h : off ≠ INTAKE_STATUS_OFF) :
    (s.configRejected k code).reg off = s.reg off := by
  rw [State.configRejected, State.reg_set_other _ _ h, State.reg_set_other _ _ h, State.latch_reg, State.reg_set_other _ _ h]

theorem config_not_status (k : Nat) : INTAKE_STR_CFG_OFF k ≠ INTAKE_STATUS_OFF := by
  rw [INTAKE_STR_CFG_OFF, INTAKE_STATUS_OFF]
  omega

/-- The mask of INTAKE_STR_m_CFG clears ENABLE, which the configuration sets by itself. -/
theorem State.setConfig_disabled (s : State) (k v : Nat) :
    (s.setReg (INTAKE_STR_CFG_OFF k) (v &&& 0x4FFF00FF)).get (INTAKE_STR_CFG_ENABLE k) = 0 := by
  refine (State.get_setReg_same s (f := INTAKE_STR_CFG_ENABLE k) _ (show 31 + 1 ≤ 32 by decide)).trans ?_
  have cut : v &&& 0x4FFF00FF ≤ 0x4FFF00FF := Nat.and_le_right
  change (v &&& 0x4FFF00FF) / 2 ^ 31 % 2 ^ 1 = 0
  omega

/-- A stream as a configuration leaves it. -/
def Stream.configured (r : Stream) : Stream :=
  { r with frame := none, newest := none, used := false, lastSof := none, run := false }

/-- A configuration that is taken, before deskew. -/
def State.configured (s : State) (k v : Nat) : State :=
  ((((s.setReg (INTAKE_STR_CFG_OFF k) (v &&& 0x4FFF00FF)).set (INTAKE_STR_CFG_ENABLE k) 1).setStream k
    (s.stream k).configured).set (INTAKE_STR_STATUS_UP k) 0).set (INTAKE_STR_STATUS_DOWN_CAUSE k) 1

theorem State.configured_config (s : State) (k v : Nat) : (s.configured k v).get (INTAKE_STR_CFG_ENABLE k) = 1 ∧
    (s.configured k v).get (INTAKE_STR_CFG_LANES k) = getBits v 0 8 := by
  have apart : INTAKE_STR_CFG_OFF k ≠ INTAKE_STR_STATUS_OFF k := by
    simp only [INTAKE_STR_CFG_OFF, INTAKE_STR_STATUS_OFF]
    omega
  have kept (f : Field) (hf : f.off = INTAKE_STR_CFG_OFF k) (h32 : f.lsb + f.width ≤ 32) : (s.configured k v).get f =
      ((s.setReg (INTAKE_STR_CFG_OFF k) (v &&& 0x4FFF00FF)).set (INTAKE_STR_CFG_ENABLE k) 1).get f :=
    have away : f.off ≠ INTAKE_STR_STATUS_OFF k := hf ▸ apart
    (State.get_set_other _ _ h32 (.inl away)).trans (State.get_set_other _ _ h32 (.inl away))
  constructor
  · rw [kept _ rfl (show 31 + 1 ≤ 32 by decide), State.get_set_same _ _ (show 31 + 1 ≤ 32 by decide)]
    rfl
  · rw [kept _ rfl (show 0 + 8 ≤ 32 by decide),
      State.get_set_other _ _ (show 0 + 8 ≤ 32 by decide) (.inr (.inr (show 0 + 8 ≤ 31 by decide)))]
    exact s.setReg_and v (by decide) (by decide)

theorem State.configured_resting (s : State) (k v : Nat) : (s.configured k v).resting k := by
  have stream : (s.configured k v).stream k = (s.stream k).configured := by
    rw [State.configured, State.set_stream, State.set_stream, State.stream_setStream_same]
  refine ⟨?_, by rw [stream]; rfl, by rw [stream]; rfl⟩
  rw [State.configured, State.get_set_other _ _ (show 31 + 1 ≤ 32 by decide) (.inr (.inl (show 28 + 3 ≤ 31 by decide))),
    State.get_set_same _ _ (show 31 + 1 ≤ 32 by decide)]
  rfl

theorem config_not_shown (p : Nat → Prop) {k : Nat} (hk : k < 8) : ¬ laneShown p (INTAKE_STR_CFG_OFF k) := by
  have lanes (n : Nat) {win : Nat} (hw : win < 0x40) : INTAKE_STR_CFG_OFF k ≠ laneReg n win := by
    simp only [INTAKE_STR_CFG_OFF, laneReg, laneField]
    split <;> omega
  rintro ((h | h | ⟨m, -, h⟩ | ⟨n, h⟩) | ⟨n, -, h⟩)
  · exact config_not_status k h
  · simp only [INTAKE_STR_CFG_OFF, INTAKE_EYE_STATUS_OFF] at h
    omega
  · simp only [INTAKE_STR_CFG_OFF, INTAKE_STR_STATUS_OFF, INTAKE_STR_FRAMES_OFF] at h
    omega
  · exact lanes n (by decide) h
  · exact h.elim (lanes n (by decide)) (lanes n (by decide))

/-- A configuration that passes its checks is taken, and its lanes may be deskewed. -/
theorem State.streamConfig_taken {s : State} {k v other : Nat} (he : s.flag (INTAKE_STR_CFG_ENABLE k) = false)
    (hv : getBits v 31 1 = 1) (hc : (s.setReg (INTAKE_STR_CFG_OFF k) (v &&& 0x4FFF00FF)).configCode k other = 0) :
    s.streamConfig k v other = s.configured k v ∨ ∃ ks, s.streamConfig k v other = (s.configured k v).deskew ks := by
  simp only [State.streamConfig, he, hv, hc, Bool.and_false, Bool.false_eq_true, if_false, bne_self_eq_false, Nat.reduceBEq]
  split
  · exact .inr ⟨_, rfl⟩
  · exact .inl rfl

/-- A configuration that fails a check is rejected with the code of the first. -/
theorem State.streamConfig_rejected {s : State} {k v other : Nat} (he : s.flag (INTAKE_STR_CFG_ENABLE k) = false)
    (hv : getBits v 31 1 = 1) (hc : (s.setReg (INTAKE_STR_CFG_OFF k) (v &&& 0x4FFF00FF)).configCode k other ≠ 0) :
    s.streamConfig k v other = (s.setReg (INTAKE_STR_CFG_OFF k) (v &&& 0x4FFF00FF)).configRejected k
      ((s.setReg (INTAKE_STR_CFG_OFF k) (v &&& 0x4FFF00FF)).configCode k other) := by
  simp only [State.streamConfig, he, hv, Bool.and_false, Bool.false_eq_true, if_false, Nat.reduceBEq, bne_iff_ne, ne_eq, hc,
    not_false_eq_true, if_true]

theorem State.streamConfig_taken_shows {s : State} {k v other : Nat} (hk : k < 8) (he : s.flag (INTAKE_STR_CFG_ENABLE k) = false)
    (hv : getBits v 31 1 = 1) (hc : (s.setReg (INTAKE_STR_CFG_OFF k) (v &&& 0x4FFF00FF)).configCode k other = 0) :
    (s.streamConfig k v other).get (INTAKE_STR_CFG_ENABLE k) = 1 ∧
    (s.streamConfig k v other).get (INTAKE_STR_CFG_LANES k) = getBits v 0 8 ∧ (s.streamConfig k v other).resting k := by
  obtain ⟨enable, lanes⟩ := s.configured_config k v
  rcases State.streamConfig_taken he hv hc with taken | ⟨ks, taken⟩
  · rw [taken]
    exact ⟨enable, lanes, s.configured_resting k v⟩
  · have within := (s.configured k v).deskew_within ks
    have above : 0x30000 ≤ INTAKE_STR_CFG_OFF k := by
      rw [INTAKE_STR_CFG_OFF]
      omega
    rw [taken]
    exact ⟨(within.get above (config_not_shown _ hk)).trans enable, (within.get above (config_not_shown _ hk)).trans lanes,
      (s.configured_resting k v).deskew hk ks⟩

/-- A stream that is disabled: not UP, and without a frame in progress. -/
theorem State.streamOff_shows {s : State} {k : Nat} (hk : k < 8) (he : s.flag (INTAKE_STR_CFG_ENABLE k) = true) :
    (s.streamOff k).flag (INTAKE_STR_STATUS_UP k) = false ∧ ((s.streamOff k).stream k).frame = none := by
  unfold State.streamOff
  rw [if_neg (by simp [he])]
  extract_lets s1 s2 lanes s3
  have frame : (s1.stream k).frame = none := by
    unfold s1
    split
    · rw [State.discard_stream]
      rfl
    · next none => exact Option.not_isSome_iff_eq_none.mp none
  have down : s3.flag (INTAKE_STR_STATUS_UP k) = false := by
    refine (State.flag_set_other s2 0 (show 31 + 1 ≤ 32 by decide) (.inl ?_)).trans (s1.streamDown_shows hk (by decide)).1
    simp only [INTAKE_STR_STATUS_UP, INTAKE_STR_CFG_ENABLE, INTAKE_STR_STATUS_OFF, INTAKE_STR_CFG_OFF]
    omega
  have apart (n : Nat) : (INTAKE_STR_STATUS_UP k).off ≠ (laneLink n).off := by
    simp only [INTAKE_STR_STATUS_UP, INTAKE_STR_STATUS_OFF, laneLink, laneField]
    split <;> omega
  constructor
  · refine (foldl_keeps (·.flag (INTAKE_STR_STATUS_UP k)) _ (fun x n => ?_) _ s3).trans down
    split
    · exact State.flag_set_other x 3 (show 31 + 1 ≤ 32 by decide) (.inl (apart n))
    · rfl
  · refine (congrArg Stream.frame (foldl_keeps (·.stream k) _ (fun x n => ?_) _ s3)).trans ?_
    · split <;> rfl
    · exact (congrArg Stream.frame (State.stream_of_intake k (s1.streamDown_intake k 4))).trans frame

/-- Clearing ENABLE takes a stream down. -/
theorem State.streamConfig_disables {s : State} {k v : Nat} (other : Nat) (he : s.flag (INTAKE_STR_CFG_ENABLE k) = true)
    (hv : getBits v 31 1 = 0) :
    s.streamConfig k v other = (s.streamOff k).setReg (INTAKE_STR_CFG_OFF k) (v &&& 0x4FFF00FF) := by
  simp only [State.streamConfig, he, hv, beq_self_eq_true, Bool.and_self, if_true]

theorem State.streamConfig_enabled {s : State} {k v : Nat} (other : Nat) (he : s.flag (INTAKE_STR_CFG_ENABLE k) = true)
    (hv : getBits v 31 1 = 1) : s.streamConfig k v other = s.configRejected k 1 := by
  simp only [State.streamConfig, he, hv, Nat.reduceBEq, Bool.false_and, Bool.false_eq_true, if_false, if_true]

theorem State.streamSize_enabled {s : State} {k : Nat} (v : Nat) (he : s.flag (INTAKE_STR_CFG_ENABLE k) = true) :
    s.streamSize k v = s.configRejected k 1 := by
  rw [State.streamSize, if_pos he]

/-- A clear of a stream's counters. -/
theorem State.streamClear_shows (s : State) {k v : Nat} (hv : v % 2 = 1) :
    (s.streamClear k v).reg (INTAKE_STR_FRAMES_OFF k) = 0 ∧ (s.streamClear k v).reg (INTAKE_STR_SKIPS_OFF k) = 0 ∧
    (s.streamClear k v).get (INTAKE_STR_MARGIN_MIN k) = 0xFFFF := by
  have frames : INTAKE_STR_FRAMES_OFF k ≠ INTAKE_STR_MARGIN_OFF k ∧ INTAKE_STR_FRAMES_OFF k ≠ INTAKE_STR_SKIPS_OFF k ∧
      INTAKE_STR_SKIPS_OFF k ≠ INTAKE_STR_MARGIN_OFF k := by
    simp only [INTAKE_STR_FRAMES_OFF, INTAKE_STR_MARGIN_OFF, INTAKE_STR_SKIPS_OFF]
    omega
  obtain ⟨margin, skips, others⟩ := frames
  rw [State.streamClear, if_neg (by simp [hv])]
  refine ⟨?_, ?_, State.get_set_same _ _ (show 16 + 16 ≤ 32 by decide)⟩
  · exact (State.reg_set_other _ _ margin).trans ((State.reg_setReg_other _ 0 skips).trans (State.reg_setReg_same s _ 0))
  · exact (State.reg_set_other _ _ others).trans (State.reg_setReg_same _ _ 0)

end Sys2Proof.Machine

open Sys2Proof Sys2Proof.Machine Sys2Proof.Machine.Reg

/-- Settles O45: each write is its register's own operation of INTAKE; what befalls the lanes at a new configuration brings its stream
neither up nor a frame. -/
theorem laneAndStreamControl : Obligations.LaneAndStreamControl := by
  refine ⟨?power, ?scan, ?go, ?done, ?config, ?reconfig, ?size, ?errClear, ?clear⟩
  case power =>
    intro s t n m v hn ht hm
    have block : INTAKE_LANE_PWR_OFF n / 65536 = 3 := by rw [INTAKE_LANE_PWR_OFF]; omega
    have status : (laneLink n).off / 65536 = 3 := by simp only [laneLink, laneField, if_pos hn]; omega
    have effect := (s.pass t).writeIntake_power m v.toNat hn
    have runs : (s.pass t).house.mode.lanesRun = true := by simpa using hm
    have ran : execLanePower t m n v s = .next (s.run t (·.regWrite m (INTAKE_LANE_PWR_OFF n) 4 v.toNat)) := by
      simp only [execLanePower, hn, if_true]
    have four : v.toNat % 4 < 4 := Nat.mod_lt _ (by decide)
    have low := State.pass_get s t (laneLink n)
    have lane := congrArg (fun i : Intake => sget (fun _ => Lane.cold) i.lanes n) (State.intakeWrite_intake ht block effect)
    refine ⟨_, ran, ?_, fun deep => ?_, fun active => ?_, fun idle below => ?_, fun idle up => ?_⟩
    · rw [State.intakeWrite_get ht block effect block]
      exact (State.laneRequest_req runs hn four).trans rfl
    · rw [State.intakeWrite_get ht block effect block, State.intakeWrite_get ht block effect status]
      obtain ⟨⟨-, state⟩, off⟩ := State.laneRequest_deep runs hn deep four
      exact ⟨state, off⟩
    · rw [State.intakeWrite_get ht block effect block, State.intakeWrite_get ht block effect status, active, ← low]
      obtain ⟨⟨-, state⟩, link⟩ := State.laneRequest_active runs hn
      exact ⟨state, link⟩
    · rw [idle] at lane
      exact (congrArg Lane.idleHeld lane).trans (State.laneRequest_held runs hn (low ▸ below)).2
    · rw [State.intakeWrite_get ht block effect block, idle]
      exact (State.laneRequest_idle runs hn (low ▸ up)).2
  case scan =>
    intro s t n w h hn hl hp hb hh
    have power : (s.pass t).lanePow n = s.lanePow n := State.pass_keeps (·.lanePow n) (fun _ _ _ _ _ _ _ => rfl) s t
    obtain ⟨wide, high, low⟩ := State.eyeScan_shows (s := s.pass t) w h hn (by simpa using hl) (by rwa [power]) (by simpa using hb)
      (by simpa using hh)
    refine ⟨_, rfl, ?_, ?_, fun small again => ?_⟩
    · exact (State.run_laneGet s t _ n 0xC hn (by decide) (by decide)).trans wide
    · exact (State.run_laneGet s t _ n 0xC hn (by decide) (by decide)).trans high
    · obtain ⟨shown, newest⟩ := low small (by simpa using again)
      refine ⟨(State.run_laneGet s t _ n 4 hn (by decide) (by decide)).trans shown, fun hr => ?_⟩
      rw [State.run_newest, ← s.pass_laneSubj t n]
      exact newest (State.recording_of_records hr)
  case go =>
    intro s t m v ht hb hv
    have effect := (s.pass t).writeIntake_eye m v.toNat
    obtain ⟨lane, starts, stops⟩ := State.eyeStart_go (s := s.pass t) (getBits_top hv) (by simpa using hb)
    have shown (f : Field) (hf : f.off / 65536 = 3) := State.intakeWrite_get ht (by decide) effect hf
    have same : (s.pass t).eyeRuns (getBits v.toNat 24 4) ↔ s.eyeRuns (getBits v.toNat 24 4) :=
      iff_of_eq (State.pass_keeps (·.eyeRuns (getBits v.toNat 24 4)) (fun _ _ _ _ _ _ _ => rfl) s t)
    refine ⟨_, rfl, (shown _ (by decide)).trans lane, ?_⟩
    simp only [State.flag_iff, shown INTAKE_EYE_STATUS_BUSY (by decide), shown INTAKE_EYE_STATUS_DONE (by decide),
      shown INTAKE_EYE_STATUS_INVALID (by decide)]
    split
    · next runs =>
      obtain ⟨done, busy, invalid⟩ := starts (same.mpr runs)
      rw [done, busy, invalid]
      decide
    · next rests =>
      obtain ⟨done, busy, invalid⟩ := stops (mt same.mp rests)
      rw [done, busy, invalid]
      decide
  case done =>
    intro s t e hb
    obtain ⟨errors, done, busy⟩ := State.eyeEnd_shows (s := s.pass t) e (by simpa using hb)
    refine ⟨_, rfl, ?_, ?_, ?_⟩
    · rw [State.run_intakeGet s t _ (by decide) (by decide), errors]
    · rw [State.flag_iff, State.run_intakeGet s t _ (by decide) (by decide), done]
      rfl
    · rw [State.flag_iff, State.run_intakeGet s t _ (by decide) (by decide), busy]
      rfl
  case config =>
    intro s t k c m v hk ht he hv hc
    have block : INTAKE_STR_CFG_OFF k / 65536 = 3 := stream_block hk (by decide) (by decide)
    have status : INTAKE_STR_STATUS_OFF k / 65536 = 3 := stream_block hk (by decide) (by decide)
    have effect := (s.pass t).writeIntake_config m v.toNat hk
    have ran : execStreamConfig t m k v s = .next (s.run t (·.regWrite m (INTAKE_STR_CFG_OFF k) 4 v.toNat)) := by
      simp only [execStreamConfig, hk, if_true]
    have disabled : (s.pass t).flag (INTAKE_STR_CFG_ENABLE k) = false := by simpa using he
    rw [← s.pass_trafficBut t k] at hc
    have get (f : Field) (hf : f.off / 65536 = 3) : _ = ((s.pass t).streamConfig k v.toNat _).get f :=
      (State.intakeWrite_get ht block effect hf).trans ((State.showAdmit_elsewhere _).get (by simp [hf]))
    have stream := congrArg (fun i : Intake => sget (fun _ => Stream.cold) i.streams k) (State.intakeWrite_intake ht block effect)
    refine ⟨_, ran, fun good => ?_, fun bad => ?_⟩
    · obtain ⟨enable, lanes, up, frame, newest⟩ := State.streamConfig_taken_shows hk disabled (getBits_top hv) (hc.trans good)
      refine ⟨?_, (get _ block).trans (lanes.trans ?_), ?_, ?_, ?_⟩
      · rw [State.flag_iff, get _ block, enable]
        rfl
      · simp [getBits]
      · rw [State.flag_iff, get _ status, up]
        rfl
      · exact (congrArg Stream.frame stream).trans frame
      · exact (congrArg Stream.newest stream).trans newest
    · have rejected := State.streamConfig_rejected disabled (getBits_top hv) (hc ▸ bad)
      have few : c < 16 := hc ▸ State.configCode_lt _ _ _
      rw [hc] at rejected
      obtain ⟨flag, code, which⟩ := State.configRejected_shows
        ((s.pass t).setReg (INTAKE_STR_CFG_OFF k) (v.toNat &&& 0x4FFF00FF)) hk few
      rw [← rejected] at flag code which
      refine ⟨?_, ?_, (get _ (by decide)).trans code, (get _ (by decide)).trans which⟩
      · rw [State.flag_iff, get _ block, rejected, State.get_of_reg (State.configRejected_reg _ k c (config_not_status k)),
          State.setConfig_disabled]
        rfl
      · rw [State.flag_iff, get _ (by decide), flag]
        rfl
  case reconfig =>
    intro s t k m v hk ht he
    have block : INTAKE_STR_CFG_OFF k / 65536 = 3 := stream_block hk (by decide) (by decide)
    have status : INTAKE_STR_STATUS_OFF k / 65536 = 3 := stream_block hk (by decide) (by decide)
    have effect := (s.pass t).writeIntake_config m v.toNat hk
    have ran : execStreamConfig t m k v s = .next (s.run t (·.regWrite m (INTAKE_STR_CFG_OFF k) 4 v.toNat)) := by
      simp only [execStreamConfig, hk, if_true]
    have enabled : (s.pass t).flag (INTAKE_STR_CFG_ENABLE k) = true := by simpa using he
    have reg (o : Nat) (ho : o / 65536 = 3) : _ = ((s.pass t).streamConfig k v.toNat _).reg o :=
      (State.intakeWrite_reg ht block effect ho).trans ((State.showAdmit_elsewhere _).reg (by simp [ho]))
    have stream := congrArg (fun i : Intake => sget (fun _ => Stream.cold) i.streams k) (State.intakeWrite_intake ht block effect)
    refine ⟨_, ran, fun clears => ?_, fun sets => ?_⟩
    · have zero : getBits v.toNat 31 1 = 0 := by
        rw [getBits, Nat.div_eq_of_lt clears, Nat.zero_mod]
      obtain ⟨down, frame⟩ := State.streamOff_shows hk enabled
      have off := State.streamConfig_disables ((s.pass t).trafficBut k) enabled zero
      have apart : INTAKE_STR_STATUS_OFF k ≠ INTAKE_STR_CFG_OFF k := by
        simp only [INTAKE_STR_STATUS_OFF, INTAKE_STR_CFG_OFF]
        omega
      refine ⟨?_, ?_, ?_⟩
      · rw [State.flag_iff, State.get_of_reg (reg _ block), off, State.setConfig_disabled]
        rfl
      · rw [State.flag_of_reg (reg _ status), off, State.flag_of_reg (State.reg_setReg_other _ _ apart)]
        exact down
      · have kept : (((s.pass t).streamConfig k v.toNat ((s.pass t).trafficBut k)).stream k).frame = none := by
          rw [off]
          exact frame
        exact (congrArg Stream.frame stream).trans kept
    · have rejected := State.streamConfig_enabled ((s.pass t).trafficBut k) enabled (getBits_top sets)
      obtain ⟨flag, code, which⟩ := (s.pass t).configRejected_shows (code := 1) hk (by decide)
      rw [← rejected] at flag code which
      refine ⟨?_, (State.get_of_reg (reg _ (by decide))).trans code, (State.get_of_reg (reg _ (by decide))).trans which, ?_⟩
      · rw [State.flag_iff, State.get_of_reg (reg _ (by decide)), flag]
        rfl
      · rw [reg _ block, rejected, State.configRejected_reg _ k 1 (config_not_status k), State.pass_reg]
  case size =>
    intro s t k m v hk ht he
    have block : INTAKE_STR_SIZE_OFF k / 65536 = 3 := stream_block hk (by decide) (by decide)
    have effect := ((s.pass t).writeIntake_size m v.toNat hk).trans (State.streamSize_enabled v.toNat (by simpa using he))
    obtain ⟨flag, code, which⟩ := (s.pass t).configRejected_shows (code := 1) hk (by decide)
    have apart : INTAKE_STR_SIZE_OFF k ≠ INTAKE_STATUS_OFF := by
      rw [INTAKE_STR_SIZE_OFF, INTAKE_STATUS_OFF]
      omega
    refine ⟨_, rfl, ?_, ?_, ?_, ?_⟩
    · rw [State.flag_iff, State.intakeWrite_get ht block effect (by decide), flag]
      rfl
    · rw [State.intakeWrite_get ht block effect (by decide), code]
    · rw [State.intakeWrite_get ht block effect (by decide), which]
    · rw [State.intakeWrite_reg ht block effect block, State.configRejected_reg _ k 1 apart, State.pass_reg]
  case errClear =>
    intro s t n m v hn ht hv hs
    have block : INTAKE_LANE_ERR_CLEAR_OFF n / 65536 = 3 := by rw [INTAKE_LANE_ERR_CLEAR_OFF]; omega
    have effect : (s.pass t).regWrite m (INTAKE_LANE_ERR_CLEAR_OFF n) 4 v.toNat =
        ((s.pass t).setReg (INTAKE_LANE_ERR_OFF n) 0).wroteNow m (INTAKE_LANE_ERR_CLEAR_OFF n) := by
      rw [State.regWrite_intake v.toNat ht block, State.writeIntake_errClear _ m _ hn, State.laneErrClear, if_pos (by simp [hv])]
    have ran : execLaneErrClear t m n v s = .next (s.run t (·.regWrite m (INTAKE_LANE_ERR_CLEAR_OFF n) 4 v.toNat)) := by
      simp only [execLaneErrClear, hn, if_true]
    have light (f : Field) (hf : f.off / 65536 ≠ 3) :
        (((s.pass t).setReg (INTAKE_LANE_ERR_OFF n) 0).wroteNow m (INTAKE_LANE_ERR_CLEAR_OFF n)).get f = s.get f := by
      refine (State.get_setReg_other (s.pass t) 0 fun e => hf ?_).trans (State.pass_get s t f)
      rw [e, INTAKE_LANE_ERR_OFF]
      omega
    rw [← effect] at light ⊢
    refine ran.trans (congrArg Host.Outcome.next ?_)
    exact State.run_of_lightSafe hs (by rw [effect]; rfl) (by rw [effect]; rfl) (by rw [effect]; exact State.pass_house s t)
      (light _ (by decide)) (light _ (by decide))
  case clear =>
    intro s t k m v hk ht hv
    have block : INTAKE_STR_CLEAR_OFF k / 65536 = 3 := stream_block hk (by decide) (by decide)
    have effect := (s.pass t).writeIntake_clear m v.toNat hk
    have ran : execStrClear t m k v s = .next (s.run t (·.regWrite m (INTAKE_STR_CLEAR_OFF k) 4 v.toNat)) := by
      simp only [execStrClear, hk, if_true]
    obtain ⟨frames, skips, margin⟩ := (s.pass t).streamClear_shows (k := k) hv
    refine ⟨_, ran, ?_, ?_, ?_⟩
    · have here : INTAKE_STR_FRAMES_OFF k / 65536 = 3 := stream_block hk (by decide) (by decide)
      exact (State.intakeWrite_reg ht block effect here).trans frames
    · have here : INTAKE_STR_SKIPS_OFF k / 65536 = 3 := stream_block hk (by decide) (by decide)
      exact (State.intakeWrite_reg ht block effect here).trans skips
    · have here : INTAKE_STR_MARGIN_OFF k / 65536 = 3 := stream_block hk (by decide) (by decide)
      exact (State.intakeWrite_get ht block effect (f := INTAKE_STR_MARGIN_MIN k) here).trans margin

end

section
/-! PROOF. Interrupt messages, Bus Master Enable and link training (R295, R299, R337 to R339): a message that is sent or becomes
pending, the messages of the enables that rise, and what goes out once the module may issue requests again. -/

namespace Sys2Proof.Machine

open Reg

/-! ### Registers of the HOST block after a command -/

theorem State.run_hostReg (s : State) (t : Nat) (g : State → State) {o : Nat} (h : o / 65536 = 2) :
    (s.run t g).reg o = (g (s.pass t)).reg o :=
  State.run_reg s t g (by rintro rfl; cases h) (by rintro rfl; cases h)

theorem State.run_hostGet (s : State) (t : Nat) (g : State → State) {f : Field} (h : f.off / 65536 = 2) :
    (s.run t g).get f = (g (s.pass t)).get f := State.get_of_reg (s.run_hostReg t g h)

theorem State.run_hostFlag (s : State) (t : Nat) (g : State → State) {f : Field} (h : f.off / 65536 = 2) :
    (s.run t g).flag f = (g (s.pass t)).flag f := State.flag_of_reg (s.run_hostReg t g h)

theorem State.flag_set_same (s : State) {f : Field} (h32 : f.lsb + f.width ≤ 32) (h1 : f.width = 1) : (s.set f 1).flag f = true := by
  rw [State.flag_iff, State.get_set_same s 1 h32, h1]
  rfl

/-! ### Requests and messages (R299, R337) -/

/-- The pending bit of a vector (R337). -/
abbrev pendingBit (v : Nat) : Field := ⟨MSIX_PBA_OFF (v / 32), v % 32, 1⟩

theorem State.toHost_sent {s : State} (o : Output) (hm : s.mayMaster = true) : s.toHost o = s.emit o := if_pos hm

theorem State.msix_sent {s : State} {v : Nat} (hm : s.mayMaster = true) (hu : s.flag (MSIX_CTRL_MASK v) = false) :
    s.msix v = s.emit (.msix v) := by
  rw [State.msix, if_neg (by simp [hu]), State.toHost_sent _ hm]

theorem State.msix_masked {s : State} {v : Nat} (h : s.flag (MSIX_CTRL_MASK v) = true) : s.msix v = s.set (pendingBit v) 1 :=
  if_pos h

theorem State.msix_masked_pends {s : State} {v : Nat} (h : s.flag (MSIX_CTRL_MASK v) = true) :
    (s.msix v).flag (pendingBit v) = true := by
  rw [State.msix_masked h]
  exact State.flag_set_same s (Nat.mod_lt v (by decide)) rfl

theorem State.toHost_rings (s : State) (o : Output) : (s.toHost o).host.rings = s.host.rings := by
  unfold State.toHost
  split <;> rfl

theorem State.toHost_conf (s : State) (o : Output) : (s.toHost o).host.conf = s.host.conf := by
  unfold State.toHost
  split <;> rfl

theorem State.msix_rings (s : State) (v : Nat) : (s.msix v).host.rings = s.host.rings := by
  unfold State.msix
  split
  · rfl
  · exact s.toHost_rings _

theorem State.msix_ring (s : State) (v n : Nat) : (s.msix v).ring n = s.ring n := by
  rw [State.ring, s.msix_rings]
  rfl

theorem State.msix_conf (s : State) (v : Nat) : (s.msix v).host.conf = s.host.conf := by
  unfold State.msix
  split
  · rfl
  · exact s.toHost_conf _

/-- A message changes no register below the pending bits. -/
theorem State.msix_reg (s : State) (v : Nat) {o : Nat} (h : o < MSIX_PBA_OFF 0) : (s.msix v).reg o = s.reg o := by
  unfold State.msix
  split
  · refine State.reg_set_other s 1 ?_
    simp only [MSIX_PBA_OFF] at h ⊢
    omega
  · rw [State.reg, State.toHost_regs]
    rfl

theorem State.msix_mayMaster (s : State) (v : Nat) : (s.msix v).mayMaster = s.mayMaster := by
  rw [State.mayMaster, s.msix_conf, State.flag_of_reg (s.msix_reg v (by decide))]
  rfl

/-- What has been sent stays sent. -/
theorem State.toHost_out (s : State) (o : Output) : s.out <:+ (s.toHost o).out := by
  unfold State.toHost
  split
  · exact List.suffix_cons _ _
  · exact List.suffix_rfl

theorem State.msix_out (s : State) (v : Nat) : s.out <:+ (s.msix v).out := by
  unfold State.msix
  split
  · exact List.suffix_rfl
  · exact s.toHost_out _

/-! ### The end of a holdoff (R338) -/

theorem State.holdoffEnds_due {s : State} {n x : Nat} (hw : (s.ring n).msgWaits = true) (hl : (s.ring n).lastMsg = some x)
    (hx : x + s.get (RING_CFG_HOLDOFF n) * 1000 ≤ s.now) :
    s.holdoffEnds n = (s.setRing n { s.ring n with lastMsg := some s.now, msgWaits := false }).msix n := by
  simp [State.holdoffEnds, hw, hl, hx]

/-! ### HOST_IRQ_EN (R339) -/

/-- The cause of vector 64 + k. -/
abbrev irqCause (k : Nat) : Field := ⟨HOST_IRQ_CAUSE_OFF, k, 1⟩

/-- The message of an enable that rises while its cause is set. -/
def State.irqRise (old v : Nat) (s : State) (k : Nat) : State :=
  if v / 2 ^ k % 2 == 1 && old / 2 ^ k % 2 == 0 && s.flag (irqCause k) then s.msix (64 + k) else s

theorem State.irqEnable_eq (s : State) (v : Nat) : s.irqEnable v =
    (List.range 8).foldl (State.irqRise (s.get HOST_IRQ_EN_EN) v) (s.set HOST_IRQ_EN_EN v) := rfl

theorem State.irqRise_reg (old v : Nat) (s : State) (k : Nat) {o : Nat} (h : o < MSIX_PBA_OFF 0) :
    (s.irqRise old v k).reg o = s.reg o := by
  unfold State.irqRise
  split
  · exact s.msix_reg _ h
  · rfl

/-- The enables hold what was written. -/
theorem State.irqEnable_enables (s : State) (v : Nat) : (s.irqEnable v).get HOST_IRQ_EN_EN = v % 2 ^ 8 :=
  (foldl_keeps (·.get HOST_IRQ_EN_EN) _ (fun s k => State.get_of_reg (s.irqRise_reg _ _ k (by decide))) _ _).trans
    (State.get_set_same s v (by decide))

/-- The cause of an unmasked vector is set in a module that may send. -/
def State.MaySend (k : Nat) (s : State) : Prop :=
  s.flag (irqCause k) = true ∧ s.flag (MSIX_CTRL_MASK (64 + k)) = false ∧ s.mayMaster = true

theorem maskOff_lt {k : Nat} (hk : k < 8) : MSIX_CTRL_OFF (64 + k) < MSIX_PBA_OFF 0 := by
  simp only [MSIX_CTRL_OFF, MSIX_PBA_OFF]
  omega

theorem State.MaySend.irqRise {s : State} {k : Nat} (old v j : Nat) (hk : k < 8) (h : s.MaySend k) :
    (s.irqRise old v j).MaySend k := by
  obtain ⟨cause, unmasked, master⟩ := h
  have below : HOST_IRQ_CAUSE_OFF < MSIX_PBA_OFF 0 := by decide
  refine ⟨(State.flag_of_reg (s.irqRise_reg old v j below)).trans cause,
    (State.flag_of_reg (s.irqRise_reg old v j (maskOff_lt hk))).trans unmasked, ?_⟩
  unfold State.irqRise
  split
  · exact (s.msix_mayMaster _).trans master
  · exact master

/-- An enable that rises while its cause is set sends its vector's message. -/
theorem State.irqEnable_sends {s : State} {v k : Nat} (hk : k < 8) (hv : v / 2 ^ k % 2 = 1)
    (ho : s.get HOST_IRQ_EN_EN / 2 ^ k % 2 = 0) (hs : s.MaySend k) : Output.msix (64 + k) ∈ (s.irqEnable v).out := by
  rw [State.irqEnable_eq]
  refine foldl_reaches (Inv := State.MaySend k) (Q := fun s => Output.msix (64 + k) ∈ s.out) (b := k) _
    (fun s j _ h => h.irqRise _ _ j hk) (fun s h => ?_) (fun s j _ _ h => ?_) (List.mem_range.mpr hk) ?_
  · obtain ⟨cause, unmasked, master⟩ := h
    rw [State.irqRise, if_pos (by simp [hv, ho, cause]), State.msix_sent master unmasked]
    exact List.mem_cons_self
  · unfold State.irqRise
    split
    · exact (s.msix_out _).subset h
    · exact h
  · obtain ⟨cause, unmasked, master⟩ := hs
    have kept {o : Nat} (h : o ≠ HOST_IRQ_EN_OFF) := s.reg_set_other (f := HOST_IRQ_EN_EN) v h
    have apart : HOST_IRQ_CAUSE_OFF ≠ HOST_IRQ_EN_OFF := by decide
    have mask : MSIX_CTRL_OFF (64 + k) ≠ HOST_IRQ_EN_OFF := by
      simp only [MSIX_CTRL_OFF, HOST_IRQ_EN_OFF]
      omega
    refine ⟨(State.flag_of_reg (kept apart)).trans cause, (State.flag_of_reg (kept mask)).trans unmasked, ?_⟩
    rw [State.mayMaster, State.flag_of_reg (kept (o := HOST_LINK_BME.off) (by decide))]
    exact master

theorem State.regWrite_irqEnable {s : State} {m : Master} (v : Nat) (h : s.takes m HOST_IRQ_EN_OFF = true) :
    s.regWrite m HOST_IRQ_EN_OFF 4 v = (s.irqEnable v).wroteNow m HOST_IRQ_EN_OFF := by
  rw [State.regWrite_takes v h]
  rfl

/-! ### Bus Master Enable (R295, R299) -/

theorem maskOff_ne_link (v : Nat) : (MSIX_CTRL_MASK v).off ≠ HOST_LINK_BME.off := by
  simp only [MSIX_CTRL_MASK, MSIX_CTRL_OFF, HOST_LINK_BME, HOST_LINK_OFF]
  omega

/-- The host has set the configuration space and Bus Master Enable. -/
def State.confSet (s : State) (bme : Bool) (c : PcieConf) : State :=
  { s.setFlag HOST_LINK_BME bme with host := { s.host with conf := c } }

theorem State.confSet_bme (s : State) (bme : Bool) (c : PcieConf) : (s.confSet bme c).flag HOST_LINK_BME = bme :=
  State.flag_setFlag_same s bme (by decide) rfl

theorem State.confSet_mayMaster (s : State) (bme : Bool) {c : PcieConf} (hc : c.d3hot = false) :
    (s.confSet bme c).mayMaster = bme := by
  have power : (s.confSet bme c).host.conf.d3hot = false := hc
  rw [State.mayMaster, s.confSet_bme, power]
  simp

/-- Nothing waits for Bus Master Enable. -/
def State.nothingStalled (s : State) : State := { s with host := { s.host with stalled := [] } }

/-- What has waited goes out, a message whose vector is masked becomes pending. -/
def State.sendStalled (s : State) (o : Output) : State :=
  match o with
  | .msix v => s.msix v
  | o => s.emit o

theorem State.busMaster_cleared (s : State) (c : PcieConf) : s.busMaster false c = s.confSet false c := by
  have still : (s.confSet false c).mayMaster = false := by
    rw [State.mayMaster, s.confSet_bme]
    rfl
  exact if_pos (congrArg not still)

theorem State.busMaster_set (s : State) {c : PcieConf} (hc : c.d3hot = false) : s.busMaster true c =
    s.host.stalled.reverse.foldl State.sendStalled
      (s.confSet true c).nothingStalled := by
  have may := s.confSet_mayMaster true hc
  exact if_neg (Bool.eq_false_iff.mp (congrArg not may))

theorem State.sendStalled_sent {s : State} {o : Output} (hm : s.mayMaster = true)
    (hu : ∀ v, o = .msix v → s.flag (MSIX_CTRL_MASK v) = false) : s.sendStalled o = s.emit o := by
  cases o with
  | msix v => exact State.msix_sent hm (hu v rfl)
  | _ => rfl

/-- All that waited goes out in order where no vector of it is masked. -/
theorem State.foldl_sendStalled (l : List Output) : ∀ {s : State}, s.mayMaster = true →
    (∀ v, Output.msix v ∈ l → s.flag (MSIX_CTRL_MASK v) = false) →
    l.foldl State.sendStalled s = { s with out := l.reverse ++ s.out } := by
  induction l with
  | nil => exact fun _ _ => rfl
  | cons o l ih =>
    intro s hm hu
    have sent : s.sendStalled o = s.emit o := State.sendStalled_sent hm fun v e => hu v (e ▸ List.mem_cons_self)
    rw [List.foldl_cons, sent, ih (s := s.emit o) hm fun v hv => hu v (List.mem_cons_of_mem o hv)]
    simp [State.emit]

/-! ### Link training (R295, R527) -/

/-- A link that comes up shows its width, its speed and PTM. -/
theorem State.pcieUp_shows {s : State} (width speed : Nat) (ptm : Bool) (hp : s.powered = true) (hr : s.house.perstLow = false)
    (hu : s.flag HOST_LINK_UP = false) : (s.pcieUp width speed ptm).flag HOST_LINK_UP = true ∧
    (s.pcieUp width speed ptm).get HOST_LINK_WIDTH = width % 8 ∧ (s.pcieUp width speed ptm).get HOST_LINK_SPEED = speed % 16 ∧
    (s.pcieUp width speed ptm).flag HOST_LINK_PTM = ptm := by
  have up : s.pcieUp width speed ptm =
      (((s.set HOST_LINK_UP 1).set HOST_LINK_WIDTH width).set HOST_LINK_SPEED speed).setFlag HOST_LINK_PTM ptm := by
    simp [State.pcieUp, hp, hr, hu]
  rw [up, State.setFlag]
  refine ⟨?_, ?_, ?_, State.flag_setFlag_same _ ptm (by decide) rfl⟩
  · rw [State.flag_set_other _ _ (by decide) (by decide), State.flag_set_other _ _ (by decide) (by decide),
      State.flag_set_other _ _ (by decide) (by decide)]
    exact State.flag_set_same s (by decide) rfl
  · rw [State.get_set_other _ _ (by decide) (by decide), State.get_set_other _ _ (by decide) (by decide)]
    exact State.get_set_same _ width (by decide)
  · rw [State.get_set_other _ _ (by decide) (by decide)]
    exact State.get_set_same _ speed (by decide)

end Sys2Proof.Machine

open Sys2Proof Sys2Proof.Machine Sys2Proof.Machine.Reg

/-- Settles O36: a message goes out or becomes pending and changes nothing else that a later one reads; so the enables that rise each
send theirs, and all that waited goes out in its order. -/
theorem hostLinkAndInterrupts : Obligations.HostLinkAndInterrupts := by
  refine ⟨?holdoff, ?enable, ?set, ?masked, ?cleared, ?up⟩
  case holdoff =>
    intro s t n x hn hw hl hx hm
    have ran : exec (.irqHoldoff t n) s = .next (s.run t (·.holdoffEnds n)) := by
      simp only [exec, execIrqHoldoff, hn, if_true]
    have effect := State.holdoffEnds_due (s := s.pass t) (n := n) (by simpa using hw) (by simpa using hl) (by simpa using hx)
    have master : ((s.pass t).setRing n { (s.pass t).ring n with lastMsg := some (s.pass t).now, msgWaits := false }).mayMaster =
        true := (s.pass_mayMaster t).trans hm
    have pba : (pendingBit n).off / 65536 = 2 := by
      simp only [MSIX_PBA_OFF]
      omega
    have ring : (s.run t (·.holdoffEnds n)).ring n =
        { (s.pass t).ring n with lastMsg := some (s.pass t).now, msgWaits := false } := by
      rw [State.ring, State.run_host, effect]
      exact (State.msix_ring _ n n).trans (State.ring_setRing_same _ _ _)
    refine ⟨_, ran, ?_, ?_, fun unmasked => ?_, fun masked => ?_⟩
    · rw [ring]
    · rw [ring, State.pass_now]
    · rw [State.run_out, effect, State.msix_sent master ((s.pass_flag t _).trans unmasked)]
      rfl
    · rw [State.run_hostFlag _ _ _ pba, effect]
      exact State.msix_masked_pends ((s.pass_flag t _).trans masked)
  case enable =>
    intro s t m v ht
    have effect := State.regWrite_irqEnable v.toNat ht
    refine ⟨_, rfl, ?_, fun k hk hv ho hc hu hm => ?_⟩
    · rw [State.run_hostGet _ _ _ (by decide), effect]
      exact State.irqEnable_enables _ _
    · rw [State.run_out, effect]
      exact State.irqEnable_sends hk hv (by simpa using ho) ⟨by simpa using hc, by simpa using hu, by simpa using hm⟩
  case set =>
    intro s t c hp hc hu
    have effect := (s.pass t).busMaster_set hc
    have start : ((s.pass t).confSet true c).nothingStalled.mayMaster = true := (s.pass t).confSet_mayMaster true hc
    rw [State.pass_stalled, State.foldl_sendStalled _ start fun v hv => ?unmasked] at effect
    case unmasked =>
      have kept : ((s.pass t).confSet true c).nothingStalled.flag (MSIX_CTRL_MASK v) = (s.pass t).flag (MSIX_CTRL_MASK v) :=
        State.flag_of_reg (State.reg_set_other _ _ (maskOff_ne_link v))
      exact kept.trans ((s.pass_flag t _).trans (hu v (List.mem_reverse.mp hv)))
    refine does_inside rfl hp ⟨?_, ?_, ?_, ?_⟩
    · rw [State.run_hostFlag _ _ _ (by decide), effect]
      exact (s.pass t).confSet_bme true c
    · rw [State.run_host, effect]
      rfl
    · rw [State.run_host, effect]
      rfl
    · rw [State.run_out, effect, List.reverse_reverse]
      rfl
  case masked =>
    intro s t v c hp hc hv hw hm
    have effect := (s.pass t).busMaster_set hc
    rw [State.pass_stalled, hw] at effect
    have masked : ((s.pass t).confSet true c).nothingStalled.flag (MSIX_CTRL_MASK v) = true :=
      (State.flag_of_reg (State.reg_set_other _ _ (maskOff_ne_link v))).trans
        ((s.pass_flag t _).trans hm)
    have pba : (pendingBit v).off / 65536 = 2 := by
      simp only [MSIX_PBA_OFF]
      omega
    refine does_inside rfl hp ⟨?_, ?_⟩
    · rw [State.run_hostFlag _ _ _ pba, effect]
      exact State.msix_masked_pends masked
    · rw [State.run_out, effect]
      have pends := congrArg State.out (State.msix_masked masked)
      exact pends
  case cleared =>
    intro s t c hp
    have effect := (s.pass t).busMaster_cleared c
    refine does_inside rfl hp ⟨?_, ?_, ?_, ?_⟩
    · rw [State.run_hostFlag _ _ _ (by decide), effect]
      exact (s.pass t).confSet_bme false c
    · rw [State.run_host, effect]
      rfl
    · rw [State.run_host, effect]
      exact s.pass_stalled t
    · rw [State.run_out, effect]
      rfl
  case up =>
    intro s t width speed ptm hp hr hu
    obtain ⟨up, wide, fast, precise⟩ := State.pcieUp_shows (s := s.pass t) width speed ptm (by simpa using hp) (by simpa using hr)
      (by simpa using hu)
    refine ⟨_, rfl, ?_, ?_, ?_, ?_⟩
    · exact (s.run_hostFlag t _ (by decide)).trans up
    · exact (s.run_hostGet t _ (by decide)).trans wide
    · exact (s.run_hostGet t _ (by decide)).trans fast
    · exact (s.run_hostFlag t _ (by decide)).trans precise

end

section
/-! PROOF. NOP and FRAME_WAIT (R320, R326, R332): each ends its descriptor or begins it, and leaves all beside its ring alone. -/

namespace Sys2Proof.Machine

open Reg

/-- A command that changes one ring alone needs no settling. -/
theorem State.run_setRing {s : State} {t n : Nat} {r : Ring} {f : State → State} (hs : LightSafe s)
    (hf : f (s.pass t) = (s.pass t).setRing n r) : s.run t f = (s.pass t).setRing n r := by
  rw [← hf]
  exact State.run_of_lightSafe hs (by rw [hf]; rfl) (by rw [hf]; rfl) (by rw [hf]; exact s.pass_house t)
    (by rw [hf]; exact s.pass_get t _) (by rw [hf]; exact s.pass_get t _)

theorem State.nop_passes {s : State} {n : Nat} {d : Desc} (hd : s.flying n 0 0x01 = some d) (hf : s.descFails 0 d [] = none) :
    s.nop n = s.finish n d.index 0 0 0 := by
  simp only [State.nop, hd, hf]

theorem State.nop_fails {s : State} {n c x : Nat} {d : Desc} (hd : s.flying n 0 0x01 = some d)
    (hf : s.descFails 0 d [] = some (c, x)) : s.nop n = s.finish n d.index c x 0 := by
  simp only [State.nop, hd, hf]

/-- FRAME_WAIT that passes its checks ends where its frame is reached or passed, and waits otherwise. -/
theorem State.frameWaitDesc_passes {s : State} {n : Nat} {d : Desc} (hd : s.flying n 0 0x38 = some d)
    (hf : s.descFails 0 d [(!s.timerRuns, 8, s.house.mode.num)] = none) : s.frameWaitDesc n =
      if 0 ≤ frameDiff s.frameNo (d.param 0) then s.finish n d.index 0 0 0 else s.begins n d.index := by
  simp only [State.frameWaitDesc, hd, hf]

@[simp] theorem State.pass_frameNo (s : State) (t : Nat) : (s.pass t).frameNo = s.frameNo := s.pass_get t _

end Sys2Proof.Machine

open Sys2Proof Sys2Proof.Machine Sys2Proof.Machine.Reg

/-- Settles O28: each command is one change of its ring at the command's time. -/
theorem nopAndFrameWait : Obligations.NopAndFrameWait := by
  refine ⟨?passes, ?fails, ?reached, ?waits⟩
  case passes =>
    intro s t n d hd hf hs
    have work := State.nop_passes (s := s.pass t) (by simpa using hd) (by simpa using hf)
    exact ⟨congrArg Host.Outcome.next (State.run_setRing hs work),
      State.finish_ended 0 0 0 (State.Works.of_flying (by simpa using hd))⟩
  case fails =>
    intro s t n c x d hd hf hs
    have work := State.nop_fails (s := s.pass t) (by simpa using hd) (by simpa using hf)
    exact congrArg Host.Outcome.next (State.run_setRing hs work)
  case reached =>
    intro s t n d hd hf hs hr
    have work := State.frameWaitDesc_passes (s := s.pass t) (by simpa using hd) (by simpa using hf)
    rw [State.pass_frameNo, if_pos hr] at work
    exact congrArg Host.Outcome.next (State.run_setRing hs work)
  case waits =>
    intro s t n d hd hf hs hr
    have work := State.frameWaitDesc_passes (s := s.pass t) (by simpa using hd) (by simpa using hf)
    rw [State.pass_frameNo, if_neg (Int.not_le.mpr hr)] at work
    exact congrArg Host.Outcome.next (State.run_setRing hs work)

end

section
/-! PROOF. Descriptors that are fetched, admitted and completed (R305 to R310, R316, R320): what each of the three changes of its ring,
and that what follows a completion leaves the ring's descriptors and HEAD alone. -/

namespace Sys2Proof.Machine

open Reg

theorem State.run_ring (s : State) (t : Nat) (f : State → State) (n : Nat) : (s.run t f).ring n = (f (s.pass t)).ring n := by
  rw [State.ring, State.run_host]
  rfl

/-- The registers of a ring stand in the HOST block, below the pending bits of the vectors. -/
theorem ringReg_host {n k : Nat} (hn : n < 64) (hk : k < 0x1000) : (0x21000 + k + 0x40 * n) / 65536 = 2 ∧
    0x21000 + k + 0x40 * n < MSIX_PBA_OFF 0 := by
  rw [MSIX_PBA_OFF]
  omega

/-! ### DESCRIPTOR_FETCH (R305) -/

/-- A slot whose read has been outstanding is stored, in index order. -/
theorem State.descFetch_stores {s : State} {n index : Nat} (w : List Nat) (h : (s.ring n).fetching.contains index = true) :
    s.descFetch n index (.data w) = s.setRing n { s.ring n with
      fetching := (s.ring n).fetching.filter (fun i => i != index)
      fetched := insertDesc ⟨index, w, 0, 0, false, none, 0⟩ (s.ring n).fetched } := by
  simp only [State.descFetch, h, Bool.not_true, Bool.false_eq_true, if_false]

/-! ### DESCRIPTOR_ADMIT (R316, R317) -/

/-- The oldest fetched descriptor stands behind those in flight, with its BW and its generation counter. -/
def State.takenIn (s : State) (n : Nat) (d : Desc) (rest : List Desc) : State :=
  (s.setRing n { s.ring n with
    fetched := rest
    inflight := (s.ring n).inflight ++ [{ d with bw := s.get (RING_QUOTA_BW n), gen := s.dumpGen d.op }] }).set
      (RING_STATUS_IN_FLIGHT n) ((s.ring n).inflight.length + 1)

theorem State.takenIn_ring (s : State) (n : Nat) (d : Desc) (rest : List Desc) : (s.takenIn n d rest).ring n = { s.ring n with
    fetched := rest
    inflight := (s.ring n).inflight ++ [{ d with bw := s.get (RING_QUOTA_BW n), gen := s.dumpGen d.op }] } :=
  State.ring_setRing_same s n _

theorem State.descAdmit_admits {s : State} {n : Nat} {d : Desc} {rest : List Desc} (hf : (s.ring n).fetched = d :: rest)
    (ha : s.admissible n d = true) : s.descAdmit n =
      if opDefined (s.ringClass n) d.op then s.takenIn n d rest else (s.takenIn n d rest).finish n d.index 1 0 0 := by
  have cls : (s.takenIn n d rest).ringClass n = s.ringClass n := by
    refine State.get_of_reg (State.reg_set_other _ _ ?_)
    simp only [RING_STATUS_IN_FLIGHT, RING_STATUS_OFF, RING_CFG_CLASS, RING_CFG_OFF]
    omega
  rw [← cls]
  simp only [State.descAdmit, hf, ha, Bool.not_true, Bool.false_eq_true, if_false]
  rfl

/-- Ending the work of a descriptor leaves its ring's other lists and the indices in flight alone. -/
theorem State.finish_ring (s : State) (n i status detail result : Nat) :
    ((s.finish n i status detail result).ring n).fetched = (s.ring n).fetched ∧
    ((s.finish n i status detail result).ring n).inflight.map (·.index) = (s.ring n).inflight.map (·.index) := by
  rw [State.finish, State.ring_setRing_same]
  refine ⟨rfl, ?_⟩
  rw [List.map_map]
  refine List.map_congr_left fun e _ => ?_
  simp only [Function.comp_apply]
  split <;> rfl

/-- A ring admits no more than 256 descriptors (R316). -/
theorem State.admissible_room {s : State} {n : Nat} {d : Desc} (h : s.admissible n d = true) : (s.ring n).inflight.length < 256 := by
  have cap : s.inflightCap n ≤ 256 := by
    unfold State.inflightCap
    dsimp only
    split <;> omega
  simp only [State.admissible, Bool.and_eq_true, decide_eq_true_eq] at h
  obtain ⟨⟨⟨⟨⟨-, room⟩, -⟩, -⟩, -⟩, -⟩ := h
  omega

/-- What the admission of a descriptor shows. -/
theorem State.descAdmit_shows {s : State} {n : Nat} {d : Desc} {rest : List Desc} (hf : (s.ring n).fetched = d :: rest)
    (ha : s.admissible n d = true) : ((s.descAdmit n).ring n).fetched = rest ∧
      ((s.descAdmit n).ring n).inflight.map (·.index) = (s.ring n).inflight.map (·.index) ++ [d.index] ∧
      (s.descAdmit n).get (RING_STATUS_IN_FLIGHT n) = (s.ring n).inflight.length + 1 := by
  have count : (s.takenIn n d rest).get (RING_STATUS_IN_FLIGHT n) = (s.ring n).inflight.length + 1 := by
    refine (State.get_set_same _ _ (show 16 + 9 ≤ 32 by decide)).trans (Nat.mod_eq_of_lt (show _ < 2 ^ 9 from ?_))
    have room := State.admissible_room ha
    omega
  have indices : ((s.takenIn n d rest).ring n).inflight.map (·.index) = (s.ring n).inflight.map (·.index) ++ [d.index] := by
    rw [State.takenIn_ring]
    exact List.map_append
  have fetched : ((s.takenIn n d rest).ring n).fetched = rest := by rw [State.takenIn_ring]
  rw [State.descAdmit_admits hf ha]
  split
  · exact ⟨fetched, indices, count⟩
  · obtain ⟨same, kept⟩ := (s.takenIn n d rest).finish_ring n d.index 1 0 0
    exact ⟨same.trans fetched, kept.trans indices, count⟩

/-- An opcode that is not of the class ends at once with E_OPCODE (R320). -/
theorem State.descAdmit_undefined {s : State} {n : Nat} {d : Desc} {rest : List Desc} (hf : (s.ring n).fetched = d :: rest)
    (ha : s.admissible n d = true) (hd : d.done = none) (ho : opDefined (s.ringClass n) d.op = false) :
    (s.descAdmit n).ended n d.index (1, 0, 0) := by
  have works : (s.takenIn n d rest).Works n d.index := by
    refine ⟨{ d with bw := s.get (RING_QUOTA_BW n), gen := s.dumpGen d.op }, ?_, rfl, hd⟩
    rw [State.takenIn_ring]
    exact List.mem_append_right _ List.mem_cons_self
  rw [State.descAdmit_admits hf ha, ho, if_neg Bool.false_ne_true]
  exact State.finish_ended 1 0 0 works

/-! ### DESCRIPTOR_COMPLETION (R308 to R310) -/

/-- What a completion shows of its ring: the descriptors in flight, HEAD, IN_FLIGHT and STATE. -/
def State.ringView (s : State) (n : Nat) : List Desc × Nat × Nat × Nat :=
  ((s.ring n).inflight, s.get (RING_HEAD_HEAD n), s.get (RING_STATUS_IN_FLIGHT n), s.ringState n)

theorem State.ringView_of {s s' : State} {n : Nat} (hi : (s'.ring n).inflight = (s.ring n).inflight)
    (hh : s'.reg (RING_HEAD_OFF n) = s.reg (RING_HEAD_OFF n)) (hs : s'.reg (RING_STATUS_OFF n) = s.reg (RING_STATUS_OFF n)) :
    s'.ringView n = s.ringView n := by
  have head : s'.get (RING_HEAD_HEAD n) = s.get (RING_HEAD_HEAD n) := State.get_of_reg hh
  have count : s'.get (RING_STATUS_IN_FLIGHT n) = s.get (RING_STATUS_IN_FLIGHT n) := State.get_of_reg hs
  have state : s'.ringState n = s.ringState n := State.get_of_reg (f := RING_STATUS_STATE n) hs
  rw [State.ringView, hi, head, count, state]
  rfl

theorem State.releaseCommits_host (s : State) (n : Nat) : (s.releaseCommits n).host = s.host := by
  unfold State.releaseCommits
  extract_lets
  split <;> rfl

theorem State.releaseCommits_regs (s : State) (n : Nat) : (s.releaseCommits n).regs = s.regs := by
  unfold State.releaseCommits
  extract_lets
  split <;> rfl

theorem State.releaseCommits_out (s : State) (n : Nat) : (s.releaseCommits n).out = s.out := by
  unfold State.releaseCommits
  extract_lets
  split <;> rfl

theorem State.releaseCommits_ringView (s : State) (n : Nat) : (s.releaseCommits n).ringView n = s.ringView n := by
  have regs (o : Nat) : (s.releaseCommits n).reg o = s.reg o := by rw [State.reg, s.releaseCommits_regs, State.reg]
  refine State.ringView_of ?_ (regs _) (regs _)
  rw [State.ring, s.releaseCommits_host]
  rfl

/-- A message of the ring's vector leaves the ring's descriptors and registers alone. -/
theorem State.ringMsg_ringView (s : State) {n : Nat} (hn : n < 64) : (s.ringMsg n).ringView n = s.ringView n := by
  have later (r : Ring) (hr : r.inflight = (s.ring n).inflight) : (s.setRing n r).ringView n = s.ringView n :=
    State.ringView_of (by rw [State.ring_setRing_same, hr]) rfl rfl
  have sent (s : State) : (s.msix n).ringView n = s.ringView n :=
    State.ringView_of (by rw [s.msix_ring]) (s.msix_reg n (ringReg_host (k := 0x1C) hn (by decide)).2)
      (s.msix_reg n (ringReg_host (k := 0x18) hn (by decide)).2)
  unfold State.ringMsg
  extract_lets r h free
  split
  · exact (sent _).trans (later _ rfl)
  · exact later _ rfl

theorem State.ringMsg_out (s : State) (n : Nat) : s.out <:+ (s.ringMsg n).out := by
  unfold State.ringMsg
  extract_lets r h free
  split
  · exact State.msix_out (s.setRing n _) n
  · exact List.suffix_rfl

/-- The completion record of a descriptor has been written, words 0 to 2 before word 3, and the ring is at the next index. -/
def State.recorded (s : State) (n : Nat) (d : Desc) (rest : List Desc) (r : Nat × Nat × Nat) : State :=
  let s1 := (s.emit (.hostWords (s.slotAddr n d.index) ((s.completionWords n d r).take 3))).emit
    (.hostWords (s.slotAddr n d.index + 12) ((s.completionWords n d r).drop 3))
  let s2 := s1.setRing n { s.ring n with inflight := rest }
  let s3 := (s2.set (RING_HEAD_HEAD n) (d.index + 1)).set (RING_STATUS_IN_FLIGHT n) rest.length
  s3.set (RING_STATUS_PHASE n) (s3.phaseOf n ((d.index + 1) % 2 ^ 32))

theorem State.recorded_ringView (s : State) (n : Nat) (d : Desc) (rest : List Desc) (r : Nat × Nat × Nat) :
    (s.recorded n d rest r).ringView n = (rest, (d.index + 1) % 2 ^ 32, rest.length % 2 ^ 9, s.ringState n) := by
  have ring : (s.recorded n d rest r).ring n = { s.ring n with inflight := rest } := State.ring_setRing_same _ _ _
  rw [State.ringView, ring]
  simp [State.recorded, State.ringState, RING_STATUS_PHASE, RING_STATUS_IN_FLIGHT, RING_STATUS_STATE, RING_HEAD_HEAD, RING_STATUS_OFF,
    RING_HEAD_OFF, State.get_set_other, State.get_set_same]
  rfl

/-- What follows a completion record: an error is counted, the commits that waited for it are let go, and the ring's vector is due. -/
def State.followed (s : State) (n : Nat) (d : Desc) (r : Nat × Nat × Nat) : State :=
  let s1 := (if r.1 != 0 then s.bump (RING_DROPPED_ERRORS n) else s).releaseCommits n
  if d.irq then s1.ringMsg n else s1

theorem State.bumpErrors_ringView (s : State) (n : Nat) : (s.bump (RING_DROPPED_ERRORS n)).ringView n = s.ringView n := by
  refine State.ringView_of rfl (State.reg_set_other _ _ ?_) (State.reg_set_other _ _ ?_)
  · simp [RING_HEAD_OFF, RING_DROPPED_ERRORS, RING_DROPPED_OFF]
  · simp [RING_STATUS_OFF, RING_DROPPED_ERRORS, RING_DROPPED_OFF]

theorem State.followed_ringView (s : State) {n : Nat} (d : Desc) (r : Nat × Nat × Nat) (hn : n < 64) :
    (s.followed n d r).ringView n = s.ringView n := by
  have released : ((if r.1 != 0 then s.bump (RING_DROPPED_ERRORS n) else s).releaseCommits n).ringView n = s.ringView n := by
    rw [State.releaseCommits_ringView]
    split
    · exact s.bumpErrors_ringView n
    · rfl
  unfold State.followed
  extract_lets s1
  split
  · exact (s1.ringMsg_ringView hn).trans released
  · exact released

theorem State.followed_out (s : State) (n : Nat) (d : Desc) (r : Nat × Nat × Nat) : s.out <:+ (s.followed n d r).out := by
  have released : ((if r.1 != 0 then s.bump (RING_DROPPED_ERRORS n) else s).releaseCommits n).out = s.out := by
    rw [State.releaseCommits_out]
    split <;> rfl
  unfold State.followed
  extract_lets s1
  split
  · exact released ▸ s1.ringMsg_out n
  · exact released ▸ List.suffix_rfl

/-- The completion of a ring in RUN: the record and what follows it. -/
theorem State.descCompletion_run {s : State} {n : Nat} {d : Desc} {rest : List Desc} {r : Nat × Nat × Nat} (hn : n < 64)
    (hi : (s.ring n).inflight = d :: rest) (hd : d.done = some r) (hm : s.mayMaster = true) (hs : s.ringState n = 1) :
    s.descCompletion n = (s.recorded n d rest r).followed n d r := by
  have state : ((s.recorded n d rest r).followed n d r).ringState n = 1 := by
    have view := ((s.recorded n d rest r).followed_ringView d r hn).trans (s.recorded_ringView n d rest r)
    exact (congrArg (·.2.2.2) view).trans hs
  have runs : (((s.recorded n d rest r).followed n d r).ringState n == 2 && rest == []) = false := by
    rw [state]
    rfl
  have completes : s.descCompletion n = if ((s.recorded n d rest r).followed n d r).ringState n == 2 && rest == [] then
      ((s.recorded n d rest r).followed n d r).ringOff n else (s.recorded n d rest r).followed n d r := by
    simp only [State.descCompletion, hi, hd, hm, Bool.not_true, Bool.false_eq_true, if_false]
    rfl
  rw [completes, runs, if_neg Bool.false_ne_true]

@[simp] theorem State.pass_slotAddr (s : State) (t n i : Nat) : (s.pass t).slotAddr n i = s.slotAddr n i :=
  State.pass_keeps (·.slotAddr n i) (fun _ _ _ _ _ _ _ => rfl) s t

@[simp] theorem State.pass_completionWords (s : State) (t n : Nat) (d : Desc) (r : Nat × Nat × Nat) :
    (s.pass t).completionWords n d r = s.completionWords n d r :=
  State.pass_keeps (·.completionWords n d r) (fun _ _ _ _ _ _ _ => rfl) s t

@[simp] theorem State.pass_ringState (s : State) (t n : Nat) : (s.pass t).ringState n = s.ringState n := s.pass_get t _

end Sys2Proof.Machine

open Sys2Proof Sys2Proof.Machine Sys2Proof.Machine.Reg

/-- Settles O33: a fetch and an admission change their ring alone, and what follows a completion record leaves the ring's descriptors
and HEAD as the record left them, and the record sent. -/
theorem descriptorFetchAdmitComplete : Obligations.DescriptorFetchAdmitComplete := by
  refine ⟨?fetch, ?admitted, ?undefined, ?complete⟩
  case fetch =>
    intro s t n index w h
    have stored : (s.run t (·.descFetch n index (.data w))).ring n = { (s.pass t).ring n with
        fetching := ((s.pass t).ring n).fetching.filter (fun i => i != index)
        fetched := insertDesc ⟨index, w, 0, 0, false, none, 0⟩ ((s.pass t).ring n).fetched } := by
      rw [State.run_ring, State.descFetch_stores w (by simpa using h)]
      exact State.ring_setRing_same _ _ _
    refine ⟨_, rfl, ?_, ?_, ?_⟩
    · exact (congrArg Ring.fetched stored).trans (by rw [State.pass_fetched])
    · exact (congrArg Ring.fetching stored).trans (by rw [State.pass_fetching])
    · exact (congrArg Ring.inflight stored).trans (by rw [State.pass_inflight])
  case admitted =>
    intro s t n d rest hn hf ha
    have ran : exec (.descAdmit t n) s = .next (s.run t (·.descAdmit n)) := by
      simp only [exec, execDescAdmit, hn, if_true]
    obtain ⟨fetched, indices, count⟩ := State.descAdmit_shows (s := s.pass t) (by simpa using hf) ha
    rw [State.pass_inflight] at indices count
    refine ⟨_, ran, ?_, ?_, ?_⟩
    · rw [State.run_ring, fetched]
    · rw [State.run_ring, indices]
    · rw [State.run_hostGet _ _ _ (ringReg_host (k := 0x18) hn (by decide)).1, count]
  case undefined =>
    intro s t n d rest hn hf ha hd ho
    have ran : exec (.descAdmit t n) s = .next (s.run t (·.descAdmit n)) := by
      simp only [exec, execDescAdmit, hn, if_true]
    have ends := State.descAdmit_undefined (s := s.pass t) (by simpa using hf) ha hd (by simpa using ho)
    exact ⟨_, ran, State.ended_of_host ends (State.run_host s t _)⟩
  case complete =>
    intro s t n d rest r hn hi hd hm hs
    have ran : exec (.descCompletion t n) s = .next (s.run t (·.descCompletion n)) := by
      simp only [exec, execDescCompletion, hn, if_true]
    have effect := State.descCompletion_run (s := s.pass t) hn (by simpa using hi) hd (by simpa using hm) (by simpa using hs)
    have view := (((s.pass t).recorded n d rest r).followed_ringView d r hn).trans ((s.pass t).recorded_ringView n d rest r)
    rw [← effect] at view
    refine ⟨_, ran, ?_, ?_, ?_, ?_⟩
    · rw [State.run_ring]
      exact congrArg (·.1) view
    · rw [State.run_hostGet _ _ _ (ringReg_host (k := 0x1C) hn (by decide)).1]
      exact congrArg (·.2.1) view
    · rw [State.run_hostGet _ _ _ (ringReg_host (k := 0x18) hn (by decide)).1]
      exact congrArg (·.2.2.1) view
    · obtain ⟨l, sent⟩ := ((s.pass t).recorded n d rest r).followed_out n d r
      refine ⟨l, ?_⟩
      rw [State.run_out, effect, ← sent, ← s.pass_slotAddr t, ← s.pass_completionWords t]
      rfl

end

section
/-! PROOF. The states of a ring (R301, R312, R313, R315): what a state's change leaves of the ring's registers, and the writes of
HOST_RING_nn_CTRL that enable, disable and reset a ring. -/

namespace Sys2Proof.Machine

open Reg

/-! ### A ring takes a state (R312) -/

/-- The summaries of the rings' states stand before the registers of the rings. -/
theorem State.ringSummary_reg (s : State) {o : Nat} (h : 0x21000 ≤ o) : s.ringSummary.reg o = s.reg o := by
  have apart (f : Field) (hf : f.off < 0x21000) (s : State) (v : Nat) : (s.set f v).reg o = s.reg o :=
    State.reg_set_other s v (by omega)
  unfold State.ringSummary
  extract_lets all halted busy s1 live s2 mask
  rw [apart _ (by decide), apart _ (by decide), apart _ (by decide), apart _ (by decide)]
  exact apart HOST_RING_STATUS_BUSY (by decide) s _

theorem State.setRingState_state (s : State) (n : Nat) {st : Nat} (h : st < 8) : (s.setRingState n st).ringState n = st := by
  have summed : (s.setRingState n st).ringState n = (s.set (RING_STATUS_STATE n) st).get (RING_STATUS_STATE n) :=
    State.get_of_reg (State.ringSummary_reg _ (by simp only [RING_STATUS_STATE, RING_STATUS_OFF]; omega))
  rw [summed, State.get_set_same _ _ (show 0 + 3 ≤ 32 by decide)]
  exact Nat.mod_eq_of_lt h

/-- A ring's change of state leaves every other field of the rings' registers alone. -/
theorem State.setRingState_get (s : State) (n st : Nat) {f : Field} (ho : 0x21000 ≤ f.off) (hw : f.lsb + f.width ≤ 32)
    (hf : f.off ≠ RING_STATUS_OFF n ∨ 3 ≤ f.lsb) : (s.setRingState n st).get f = s.get f := by
  refine (State.get_of_reg (State.ringSummary_reg _ ho)).trans (State.get_set_other s st hw ?_)
  exact hf.imp_right .inl

theorem State.setRingState_ring (s : State) (n st m : Nat) : (s.setRingState n st).ring m = s.ring m := by
  rw [State.ring, State.setRingState_host]
  rfl

/-! ### OFF (R312) -/

theorem State.set_ring (s : State) (f : Field) (v n : Nat) : (s.set f v).ring n = s.ring n := rfl

theorem State.ringOff_ring (s : State) (n : Nat) : (s.ringOff n).ring n = (s.ring n).stopped := by
  have same : ((s.forgetRing n).releaseCommits n).ring n = s.ring n := by
    rw [State.ring, State.releaseCommits_host]
    rfl
  rw [State.ringOff, State.setRingState_ring, ← same]
  exact State.ring_setRing_same _ _ _

theorem State.ringOff_state (s : State) (n : Nat) : (s.ringOff n).ringState n = 0 := State.setRingState_state _ n (by decide)

/-- A ring that is OFF shows ENABLE 0. -/
theorem State.ringOff_enable (s : State) (n : Nat) : (s.ringOff n).get (RING_CTRL_ENABLE n) = 0 := by
  unfold State.ringOff
  extract_lets s1 s2
  have apart : RING_CTRL_OFF n ≠ RING_STATUS_OFF n := by rw [RING_CTRL_OFF, RING_STATUS_OFF]; omega
  have shown : ((s2.set (RING_STATUS_IN_FLIGHT n) 0).set (RING_STATUS_PHASE n) 0).get (RING_CTRL_ENABLE n) =
      s2.get (RING_CTRL_ENABLE n) :=
    (State.get_set_other _ _ (show 0 + 1 ≤ 32 by decide) (.inl apart)).trans
      (State.get_set_other _ _ (show 0 + 1 ≤ 32 by decide) (.inl apart))
  refine (State.setRingState_get _ _ _ ?_ (show 0 + 1 ≤ 32 by decide) (.inl apart)).trans (shown.trans ?_)
  · simp only [RING_CTRL_ENABLE, RING_CTRL_OFF]
    omega
  · exact State.get_set_same _ _ (show 0 + 1 ≤ 32 by decide)

/-! ### ENABLE written to 1 (R312, R313) -/

/-- CFG_ERR of a write of ENABLE at 1 (R313). -/
def State.enableCode (s : State) (n : Nat) : Nat :=
  if s.ringState n != 0 then 5
  else if 5 ≤ s.ringClass n then 1
  else if s.get (RING_CFG_LOG2SIZE n) < 4 || 16 < s.get (RING_CFG_LOG2SIZE n) then 2
  else if !s.flag HOST_DBELL_LO_VALID then 4
  else if s.house.mode == .boot then 6
  else 0

@[simp] theorem State.pass_enableCode (s : State) (t n : Nat) : (s.pass t).enableCode n = s.enableCode n :=
  State.pass_keeps (·.enableCode n) (fun _ _ _ _ _ _ _ => rfl) s t

theorem State.ringEnable_refused {s : State} {n : Nat} (h : s.enableCode n ≠ 0) :
    s.ringEnable n = s.set (RING_STATUS_CFG_ERR n) (s.enableCode n) := by
  unfold State.ringEnable
  extract_lets cls lg code s0
  have said : code = s.enableCode n := by unfold State.enableCode; exact Eq.refl code
  rw [← said] at h ⊢
  exact if_pos (by simpa using h)

/-- A ring that starts is in RUN at index 0, with nothing fetched or in flight. -/
theorem State.ringEnable_starts {s : State} {n : Nat} (h : s.enableCode n = 0) :
    (s.ringEnable n).ringState n = 1 ∧ (s.ringEnable n).ring n = (s.ring n).stopped ∧
    (s.ringEnable n).get (RING_HEAD_HEAD n) = 0 ∧ (s.ringEnable n).get (RING_INDEX_INDEX n) = 0 ∧
    (s.ringEnable n).get (RING_STATUS_CFG_ERR n) = 0 ∧ (s.ringEnable n).get (RING_STATUS_HALT_ERR n) = 0 ∧
    (s.ringEnable n).get (RING_CTRL_ENABLE n) = 1 ∧ (s.ringEnable n).get (RING_STATUS_IN_FLIGHT n) = 0 ∧
    (s.ringEnable n).get (RING_STATUS_PHASE n) = 1 := by
  unfold State.ringEnable
  extract_lets cls lg code s0 s1 s2 s3 s4
  have said : code = s.enableCode n := by unfold State.enableCode; exact Eq.refl code
  rw [if_neg (by simp [said, h])]
  have written : s3.ring n = (s.ring n).stopped ∧ s3.get (RING_HEAD_HEAD n) = 0 ∧ s3.get (RING_INDEX_INDEX n) = 0 ∧
      s3.get (RING_STATUS_CFG_ERR n) = 0 ∧ s3.get (RING_STATUS_HALT_ERR n) = 0 ∧ s3.get (RING_CTRL_ENABLE n) = 1 ∧
      s3.get (RING_STATUS_IN_FLIGHT n) = 0 ∧ s3.get (RING_STATUS_PHASE n) = 1 := by
    refine ⟨State.ring_setRing_same _ _ _, ?_⟩
    simp [s1, s2, s3, State.get_set_other, State.get_set_same, RING_HEAD_HEAD, RING_INDEX_INDEX, RING_STATUS_HALT_ERR,
      RING_CTRL_ENABLE, RING_STATUS_IN_FLIGHT, RING_STATUS_PHASE, RING_STATUS_CFG_ERR, RING_HEAD_OFF, RING_INDEX_OFF,
      RING_STATUS_OFF, RING_CTRL_OFF]
    exact (State.get_set_same s code (show 4 + 4 ≤ 32 by decide)).trans (by rw [said, h, Nat.zero_mod])
  clear_value s3
  have state : s4.ringState n = 1 := by
    refine (State.get_of_reg (State.reg_set_other _ _ ?_)).trans (s3.setRingState_state n (by decide))
    simp only [RING_STATUS_STATE, RING_STATUS_OFF, HOST_WATCH_STATUS_FAST, HOST_WATCH_STATUS_OFF]
    omega
  have ring : s4.ring n = s3.ring n := (State.set_ring _ _ _ n).trans (s3.setRingState_ring n 1 n)
  have started (f : Field) (ho : 0x21000 ≤ f.off) (hw : f.lsb + f.width ≤ 32) (hf : f.off ≠ RING_STATUS_OFF n ∨ 3 ≤ f.lsb) :
      s4.get f = s3.get f := by
    refine (State.get_of_reg (State.reg_set_other _ _ fun e => ?_)).trans (s3.setRingState_get n 1 ho hw hf)
    exact absurd (e ▸ ho) (by decide)
  clear_value s4
  obtain ⟨stopped, head, index, code, halt, enable, count, phase⟩ := written
  refine ⟨state, ring.trans stopped, (started _ ?_ ?_ ?_).trans head, (started _ ?_ ?_ ?_).trans index,
    (started _ ?_ ?_ ?_).trans code, (started _ ?_ ?_ ?_).trans halt, (started _ ?_ ?_ ?_).trans enable,
    (started _ ?_ ?_ ?_).trans count, (started _ ?_ ?_ ?_).trans phase⟩
  all_goals
    simp only [RING_HEAD_HEAD, RING_INDEX_INDEX, RING_STATUS_HALT_ERR, RING_CTRL_ENABLE, RING_STATUS_IN_FLIGHT,
      RING_STATUS_PHASE, RING_STATUS_CFG_ERR, RING_HEAD_OFF, RING_INDEX_OFF, RING_STATUS_OFF, RING_CTRL_OFF]
    omega

/-! ### HOST_RING_nn_CTRL -/

theorem State.writeHost_ringCtrl (s : State) (m : Master) (v : Nat) {n : Nat} (hn : n < 64) :
    s.writeHost m (RING_CTRL_OFF n) v = s.ringCtrl n v := by
  have other (o : Nat) (h : o < 0x21000 ∨ 0x22014 ≤ o) : (RING_CTRL_OFF n == o) = false :=
    beq_eq_false_iff_ne.mpr (by rw [RING_CTRL_OFF]; omega)
  have vector : copyAt (MSIX_CTRL_OFF 0) 72 16 (RING_CTRL_OFF n) = none := by
    have below : RING_CTRL_OFF n < MSIX_CTRL_OFF 0 := by rw [MSIX_CTRL_OFF, RING_CTRL_OFF]; omega
    exact if_neg (by rw [decide_eq_false (Nat.not_le.mpr below)]; exact Bool.false_ne_true)
  have ring : copyAt (RING_CTRL_OFF 0) 64 64 (RING_CTRL_OFF n) = some n := copyAt_place (base := 0x21014) (by decide) hn
  rw [State.writeHost, other KEEPER_CLEAR_OFF (by decide), other KEEPER_HIST_INDEX_OFF (by decide),
    other KEEPER_INJ_CTRL_OFF (by decide), other KEEPER_INJ_SUBJECT_OFF (by decide), other KEEPER_INJ_HOLD_OFF (by decide),
    other HOST_NUDGE_OFF (by decide), other HOST_DBELL_LO_OFF (by decide), other HOST_DBELL_HI_OFF (by decide),
    other HOST_IRQ_EN_OFF (by decide), other HOST_IRQ_CAUSE_OFF (by decide), vector, ring]
  rfl

theorem State.regWrite_host {s : State} {m : Master} {off : Nat} (v : Nat) (h : s.takes m off = true) (hb : off / 65536 = 2) :
    s.regWrite m off 4 v = (s.writeHost m off v).wroteNow m off := by
  have runs : s.commitStopped off = false := by
    simp only [State.takes, Bool.and_eq_true, Bool.not_eq_true'] at h
    exact h.2
  rw [State.regWrite_takes v h, State.regTakes, runs, hb]
  rfl

theorem State.regWrite_ringCtrl {s : State} {m : Master} {n : Nat} (v : Nat) (hn : n < 64)
    (h : s.takes m (RING_CTRL_OFF n) = true) : s.regWrite m (RING_CTRL_OFF n) 4 v = (s.ringCtrl n v).wroteNow m (RING_CTRL_OFF n) := by
  rw [State.regWrite_host v h (ringReg_host (k := 0x14) hn (by decide)).1, s.writeHost_ringCtrl m v hn]


/-! ### ENABLE written to 0, and RESET (R312, R315) -/

/-- A ring in RUN whose ENABLE is written to 0 drops what it has fetched; it is OFF once nothing is in flight. -/
theorem State.ringDisable_drains {s : State} {n : Nat} (h : s.ringState n = 1) :
    (s.ringDisable n).get (RING_CTRL_ENABLE n) = 0 ∧ ((s.ringDisable n).ring n).fetched = [] ∧
    ((s.ringDisable n).ring n).fetching = [] ∧ ((s.ringDisable n).ring n).inflight = (s.ring n).inflight ∧
    (s.ringDisable n).ringState n = if (s.ring n).inflight = [] then 0 else 2 := by
  unfold State.ringDisable
  extract_lets s0 r s1
  have apart : RING_CTRL_OFF n ≠ RING_STATUS_OFF n := by rw [RING_CTRL_OFF, RING_STATUS_OFF]; omega
  have running : s0.ringState n = 1 := (State.get_of_reg (State.reg_set_other _ _ apart.symm)).trans h
  rw [if_neg (by simp [running])]
  have ring : s1.ring n = { r with fetched := [], fetching := [] } :=
    (State.setRingState_ring _ _ _ _).trans (State.ring_setRing_same _ _ _)
  have enable : s1.get (RING_CTRL_ENABLE n) = 0 := by
    refine (State.setRingState_get _ _ _ ?_ (show 0 + 1 ≤ 32 by decide) (.inl apart)).trans
      (State.get_set_same s 0 (show 0 + 1 ≤ 32 by decide))
    simp only [RING_CTRL_ENABLE, RING_CTRL_OFF]
    omega
  have draining : s1.ringState n = 2 := State.setRingState_state _ n (by decide)
  have before : (s.ring n).inflight = r.inflight := rfl
  rw [before]
  clear_value s1 r
  by_cases empty : r.inflight = []
  · rw [if_pos (by simpa using empty), if_pos empty, State.ringOff_ring, ring]
    exact ⟨State.ringOff_enable _ n, rfl, rfl, empty.symm, State.ringOff_state _ n⟩
  · rw [if_neg (by simpa using empty), if_neg empty, ring]
    exact ⟨enable, rfl, rfl, rfl, draining⟩

theorem State.stopLoad_host (s : State) (n : Nat) : (s.stopLoad n).host = s.host := by
  unfold State.stopLoad
  split
  · split <;> rfl
  · rfl

/-- A ring in RUN, DRAIN or HALT that is reset drops what it has fetched and keeps the indices in flight. -/
theorem State.ringReset_resets {s : State} {n : Nat} (h0 : s.ringState n ≠ 0) (h4 : s.ringState n ≠ 4) :
    (s.ringReset n).ringState n = 4 ∧ ((s.ringReset n).ring n).fetched = [] ∧
    ((s.ringReset n).ring n).inflight.map (·.index) = (s.ring n).inflight.map (·.index) := by
  unfold State.ringReset
  extract_lets cls s1 r s2
  have same : r = s.ring n := congrArg (fun x : HostIsl => sget (fun _ => Ring.off) x.rings n) ((s.forgetRing n).stopLoad_host n)
  rw [if_neg (by simp [h0, h4]), State.setRingState_ring, State.ring_setRing_same, ← same]
  refine ⟨State.setRingState_state _ n (by decide), rfl, ?_⟩
  rw [List.map_map]
  refine List.map_congr_left fun d _ => ?_
  simp only [Function.comp_apply]
  split <;> rfl

/-- A ring in RESET whose ENABLE is written to 0 shows nothing else. -/
theorem State.ringDisable_reset {s : State} {n : Nat} (h : s.ringState n = 4) : s.ringDisable n = s.set (RING_CTRL_ENABLE n) 0 := by
  unfold State.ringDisable
  extract_lets s0 r s1
  have apart : RING_STATUS_OFF n ≠ RING_CTRL_OFF n := by rw [RING_CTRL_OFF, RING_STATUS_OFF]; omega
  have resetting : s0.ringState n = 4 := (State.get_of_reg (State.reg_set_other _ _ apart)).trans h
  exact if_pos (by simp [resetting])

/-! ### The command of a write -/

/-- What a write of HOST_RING_nn_CTRL does to its ring and to the registers of HOST. -/
theorem State.run_ringCtrl {s : State} {t n : Nat} {m : Master} (v : Nat) (hn : n < 64)
    (h : (s.pass t).takes m (RING_CTRL_OFF n) = true) :
    (s.run t (·.regWrite m (RING_CTRL_OFF n) 4 v)).ring n = ((s.pass t).ringCtrl n v).ring n ∧
    ∀ f : Field, f.off / 65536 = 2 →
      (s.run t (·.regWrite m (RING_CTRL_OFF n) 4 v)).get f = ((s.pass t).ringCtrl n v).get f := by
  have wrote := State.regWrite_ringCtrl v hn h
  constructor
  · rw [State.run_ring, wrote]
    rfl
  · intro f hf
    rw [State.run_hostGet s t _ hf, wrote]
    rfl

end Sys2Proof.Machine

open Sys2Proof Sys2Proof.Machine Sys2Proof.Machine.Reg

/-- Settles O34: each write of HOST_RING_nn_CTRL is `State.ringCtrl`, whose three parts start, drain and reset the ring. -/
theorem ringStates : Obligations.RingStates := by
  have block {n : Nat} (hn : n < 64) : (RING_STATUS_OFF n) / 65536 = 2 ∧ (RING_CTRL_OFF n) / 65536 = 2 ∧
      (RING_HEAD_OFF n) / 65536 = 2 ∧ (RING_INDEX_OFF n) / 65536 = 2 :=
    ⟨(ringReg_host (k := 0x18) hn (by decide)).1, (ringReg_host (k := 0x14) hn (by decide)).1,
      (ringReg_host (k := 0x1C) hn (by decide)).1, (ringReg_host (k := 0x20) hn (by decide)).1⟩
  refine ⟨?start, ?refuse, ?drain, ?reset, ?resetDone⟩
  case start =>
    intro s t n m hn takes off cls low high line mode
    have ran : exec (.ringEnable t m n) s = .next (s.run t (·.regWrite m (RING_CTRL_OFF n) 4 1)) := by
      simp only [exec, execRingEnable, hn, if_true]
    have passes : (s.pass t).enableCode n = 0 := by
      simp [State.enableCode, off, Nat.not_le.mpr cls, Nat.not_lt.mpr low, Nat.not_lt.mpr high, line, mode]
    obtain ⟨ring, fields⟩ := State.run_ringCtrl 1 hn takes
    obtain ⟨status, ctrl, head, index⟩ := block hn
    obtain ⟨state', ring', head', index', code', halt', enable', count', phase'⟩ := State.ringEnable_starts passes
    exact ⟨_, ran, (fields _ status).trans state', ring.trans ring', (fields _ head).trans head', (fields _ index).trans index',
      (fields _ status).trans code', (fields _ status).trans halt', (fields _ ctrl).trans enable', (fields _ status).trans count',
      (fields _ status).trans phase'⟩
  case refuse =>
    intro s t n code m hn takes safe why
    have ran : exec (.ringEnable t m n) s = .next (s.run t (·.regWrite m (RING_CTRL_OFF n) 4 1)) := by
      simp only [exec, execRingEnable, hn, if_true]
    have found : (s.pass t).enableCode n = code ∧ code ≠ 0 := by
      rw [State.pass_enableCode, State.enableCode]
      obtain ⟨rfl, on⟩ | ⟨rfl, off, cls⟩ | ⟨rfl, off, cls, size⟩ | ⟨rfl, off, cls, low, high, line⟩ := why
      · simp [on]
      · simp [off, cls]
      · simp [off, Nat.not_le.mpr cls, size]
      · simp [off, Nat.not_le.mpr cls, Nat.not_lt.mpr low, Nat.not_lt.mpr high, line]
    obtain ⟨found, failing⟩ := found
    have effect : (s.pass t).regWrite m (RING_CTRL_OFF n) 4 1 =
        ((s.pass t).set (RING_STATUS_CFG_ERR n) code).wroteNow m (RING_CTRL_OFF n) := by
      rw [State.regWrite_ringCtrl 1 hn takes, ← found, ← State.ringEnable_refused (by rwa [found])]
      rfl
    have guard (f : Field) (hf : f.off / 65536 ≠ 2) :
        (((s.pass t).set (RING_STATUS_CFG_ERR n) code).wroteNow m (RING_CTRL_OFF n)).get f = s.get f :=
      (State.get_of_reg (s := s.pass t) (State.reg_set_other (s.pass t) (f := RING_STATUS_CFG_ERR n) code
        (fun e : f.off = RING_STATUS_OFF n => hf (by rw [e]; exact (block hn).1)))).trans (s.pass_get t f)
    rw [ran, State.run_of_lightSafe safe, effect] <;> rw [effect]
    · rfl
    · rfl
    · exact s.pass_house t
    · exact guard _ (by decide)
    · exact guard _ (by decide)
  case drain =>
    intro s t n m hn takes on
    have ran : exec (.ringDisable t m n) s = .next (s.run t (·.regWrite m (RING_CTRL_OFF n) 4 0)) := by
      simp only [exec, execRingDisable, hn, if_true]
    obtain ⟨ring, fields⟩ := State.run_ringCtrl 0 hn takes
    obtain ⟨status, ctrl, -, -⟩ := block hn
    obtain ⟨enable', fetched', fetching', inflight', state'⟩ :=
      State.ringDisable_drains (s := s.pass t) (n := n) (by rw [State.pass_ringState, on])
    rw [State.pass_inflight] at inflight' state'
    exact ⟨_, ran, (fields _ ctrl).trans enable', (congrArg Ring.fetched ring).trans fetched',
      (congrArg Ring.fetching ring).trans fetching', (congrArg Ring.inflight ring).trans inflight', (fields _ status).trans state'⟩
  case reset =>
    intro s t n m hn takes low high
    have ran : exec (.ringReset t m n) s = .next (s.run t (·.regWrite m (RING_CTRL_OFF n) 4 2)) := by
      simp only [exec, execRingReset, hn, if_true]
    obtain ⟨ring, fields⟩ := State.run_ringCtrl 2 hn takes
    obtain ⟨status, ctrl, -, -⟩ := block hn
    obtain ⟨state', fetched', inflight'⟩ := State.ringReset_resets (s := s.pass t) (n := n)
      (by rw [State.pass_ringState]; omega) (by rw [State.pass_ringState]; omega)
    have effect : (s.pass t).ringCtrl n 2 = ((s.pass t).ringReset n).set (RING_CTRL_ENABLE n) 0 := State.ringDisable_reset state'
    rw [State.pass_inflight] at inflight'
    rw [effect] at ring fields
    have apart : RING_STATUS_OFF n ≠ RING_CTRL_OFF n := by rw [RING_CTRL_OFF, RING_STATUS_OFF]; omega
    exact ⟨_, ran, (fields _ status).trans ((State.get_of_reg (State.reg_set_other _ _ apart)).trans state'),
      (fields _ ctrl).trans (State.get_set_same _ 0 (show 0 + 1 ≤ 32 by decide)), (congrArg Ring.fetched ring).trans fetched',
      (congrArg (fun r : Ring => r.inflight.map (·.index)) ring).trans inflight'⟩
  case resetDone =>
    intro s t n hn on none
    have ran : exec (.ringResetDone t n) s = .next (s.run t (·.ringResetDone n)) := by
      simp only [exec, execRingResetDone, hn, if_true]
    obtain ⟨status, ctrl, -, -⟩ := block hn
    have effect : (s.pass t).ringResetDone n = (s.pass t).ringOff n := if_pos (by simp [on, none])
    refine ⟨_, ran, ?_, ?_, ?_⟩
    · exact (State.run_hostGet s t _ status).trans (effect ▸ State.ringOff_state _ n)
    · rw [State.run_ring, effect, State.ringOff_ring]
    · exact (State.run_hostGet s t _ ctrl).trans (effect ▸ State.ringOff_enable _ n)

end

section
/-! PROOF. The doorbell watcher (R302 to R306, R328): its polls and nudges read the active lines; what the records and the halt of a
ring leave of the registers, so that each ring of a line takes its INDEX, or halts, beside the others. -/

namespace Sys2Proof.Machine

open Reg

/-! ### The reads of lines (R303, R304) -/

theorem State.reg_of_regs {s s' : State} (h : s'.regs = s.regs) (o : Nat) : s'.reg o = s.reg o := by
  rw [State.reg, h, State.reg]

theorem State.toHost_linesOut (s : State) (o : Output) : (s.toHost o).host.linesOut = s.host.linesOut := by
  unfold State.toHost
  split <;> rfl

theorem State.toHost_idleRounds (s : State) (o : Output) : (s.toHost o).host.idleRounds = s.host.idleRounds := by
  unfold State.toHost
  split <;> rfl

/-- A read of a line is outstanding. -/
def State.lineAsked (s : State) (g : Nat) : State := { s with host := { s.host with linesOut := g :: s.host.linesOut } }

theorem State.askLine_active {s : State} {g : Nat} (h : s.lineActive g = true) :
    s.askLine g = (s.lineAsked g).toHost (.hostRead (s.lineAddr g) 64) := if_neg (by simp [h])

theorem State.askLine_idle {s : State} {g : Nat} (h : ¬ s.lineActive g = true) : s.askLine g = s := if_pos (by simpa using h)

/-- Reads of lines leave the registers and the watcher alone, and what is outstanding or sent stays so. -/
structure AsksOnly (s s' : State) : Prop where
  regs : s'.regs = s.regs
  conf : s'.host.conf = s.host.conf
  idle : s'.host.idleRounds = s.host.idleRounds
  lines : s.host.linesOut <:+ s'.host.linesOut
  out : s.out <:+ s'.out

theorem AsksOnly.refl (s : State) : AsksOnly s s := ⟨rfl, rfl, rfl, List.suffix_rfl, List.suffix_rfl⟩

theorem State.askLine_asks (s : State) (g : Nat) : AsksOnly s (s.askLine g) := by
  by_cases active : s.lineActive g = true
  · rw [State.askLine_active active]
    refine ⟨State.toHost_regs _ _, State.toHost_conf _ _, State.toHost_idleRounds _ _, ?_, (s.lineAsked g).toHost_out _⟩
    rw [State.toHost_linesOut]
    exact List.suffix_cons _ _
  · rw [State.askLine_idle active]
    exact .refl s

theorem State.readLine_asks (s : State) (g : Nat) : AsksOnly s (s.readLine g) := by
  unfold State.readLine
  split
  · exact .refl s
  · exact s.askLine_asks g

theorem State.readLine_reads {s : State} {g : Nat} (h : s.lineActive g = true) :
    g ∈ (s.readLine g).host.linesOut := by
  unfold State.readLine
  split
  · next out => exact List.contains_iff_mem.mp out
  · rw [State.askLine_active h, State.toHost_linesOut]
    exact List.mem_cons_self

/-! ### WATCH_POLL (R303) -/

/-- A round has ended: FAST falls to SLOW after IDLE of them. -/
def State.roundEnds (s : State) : State :=
  if !s.flag HOST_WATCH_STATUS_FAST then s
  else if max 1 (s.get HOST_WATCH_IDLE) ≤ s.host.idleRounds then
    ({ s with host := { s.host with idleRounds := 0 } }).set HOST_WATCH_STATUS_FAST 0
  else { s with host := { s.host with idleRounds := s.host.idleRounds + 1 } }

theorem State.watchPoll_eq {s : State} (h : s.mayMaster = true) :
    s.watchPoll = (List.range 8).foldl State.readLine s.roundEnds := if_neg (by simp [h])

theorem State.roundEnds_active (s : State) {g : Nat} (hg : g < 8) : s.roundEnds.lineActive g = s.lineActive g := by
  unfold State.roundEnds
  split
  · rfl
  · split
    · exact State.flag_set_other _ 0 (show g + 1 ≤ 32 by omega) (.inr (.inr hg))
    · rfl

/-- A poll reads each active line. -/
theorem State.watchPoll_reads {s : State} (hm : s.mayMaster = true) {g : Nat} (hg : g < 8) (ha : s.lineActive g = true) :
    g ∈ s.watchPoll.host.linesOut := by
  rw [State.watchPoll_eq hm]
  refine foldl_reaches (Inv := fun s => s.lineActive g = true) (Q := fun s => g ∈ s.host.linesOut) (g := State.readLine)
    (b := g) (List.range 8) (fun s k _ h => ?_) (fun s h => State.readLine_reads h) (fun s k _ _ h => (s.readLine_asks k).lines.subset h)
    (List.mem_range.mpr hg) ((s.roundEnds_active hg).trans ha)
  exact (State.flag_of_reg (State.reg_of_regs (s.readLine_asks k).regs _)).trans h

/-- A poll leaves FAST and the count of idle rounds as the end of the round did. -/
theorem State.watchPoll_round {s : State} (hm : s.mayMaster = true) :
    s.watchPoll.flag HOST_WATCH_STATUS_FAST = s.roundEnds.flag HOST_WATCH_STATUS_FAST ∧
    s.watchPoll.host.idleRounds = s.roundEnds.host.idleRounds := by
  rw [State.watchPoll_eq hm]
  have regs := foldl_keeps State.regs State.readLine (fun s g => (s.readLine_asks g).regs) (List.range 8) s.roundEnds
  have idle := foldl_keeps (·.host.idleRounds) State.readLine (fun s g => (s.readLine_asks g).idle) (List.range 8) s.roundEnds
  exact ⟨State.flag_of_reg (State.reg_of_regs regs _), idle⟩

theorem State.roundEnds_slow {s : State} (hf : s.flag HOST_WATCH_STATUS_FAST = true)
    (hi : max 1 (s.get HOST_WATCH_IDLE) ≤ s.host.idleRounds) :
    s.roundEnds.flag HOST_WATCH_STATUS_FAST = false ∧ s.roundEnds.host.idleRounds = 0 := by
  rw [State.roundEnds, if_neg (by simp [hf]), if_pos hi]
  refine ⟨?_, rfl⟩
  rw [State.flag_iff, State.get_set_same _ 0 (by decide)]
  rfl

theorem State.roundEnds_fast {s : State} (hf : s.flag HOST_WATCH_STATUS_FAST = true)
    (hi : s.host.idleRounds < max 1 (s.get HOST_WATCH_IDLE)) :
    s.roundEnds.flag HOST_WATCH_STATUS_FAST = true ∧ s.roundEnds.host.idleRounds = s.host.idleRounds + 1 := by
  rw [State.roundEnds, if_neg (by simp [hf]), if_neg (Nat.not_le.mpr hi)]
  exact ⟨hf, rfl⟩

/-! ### HOST_NUDGE (R304) -/

/-- The lines that a nudge names: all, where its value is 0. -/
def linesNamed (v : Nat) : Nat := if v % 256 == 0 then 255 else v % 256

theorem linesNamed_bit {v g : Nat} (hg : g < 8) (h : v % 256 = 0 ∨ v / 2 ^ g % 2 = 1) : linesNamed v / 2 ^ g % 2 = 1 := by
  unfold linesNamed
  split
  · interval_cases g <;> rfl
  · next some =>
    have bit := h.resolve_left (by simpa using some)
    have low : v % 256 / 2 ^ g % 2 = v / 2 ^ g % 2 := by interval_cases g <;> omega
    exact low.trans bit

/-- The read of a line that a nudge names. -/
def State.nudgeLine (v : Nat) (s : State) (g : Nat) : State := if linesNamed v / 2 ^ g % 2 == 1 then s.askLine g else s

theorem State.watchFast_mayMaster (s : State) : s.watchFast.mayMaster = s.mayMaster := by
  have link : s.watchFast.flag HOST_LINK_BME = s.flag HOST_LINK_BME := State.flag_of_reg (State.reg_set_other _ 1 (by decide))
  rw [State.mayMaster, link]
  rfl

theorem State.nudge_eq {s : State} (v : Nat) (h : s.mayMaster = true) :
    s.nudge v = (List.range 8).foldl (State.nudgeLine v) s.watchFast := by
  exact if_neg (by simp [s.watchFast_mayMaster, h])

theorem State.nudgeLine_asks (v : Nat) (s : State) (g : Nat) : AsksOnly s (s.nudgeLine v g) := by
  unfold State.nudgeLine
  split
  · exact s.askLine_asks g
  · exact .refl s

/-- A nudge reads each active line that it names. -/
theorem State.nudge_reads {s : State} {v g : Nat} (hm : s.mayMaster = true) (hg : g < 8) (ha : s.lineActive g = true)
    (hv : v % 256 = 0 ∨ v / 2 ^ g % 2 = 1) : Output.hostRead (s.lineAddr g) 64 ∈ (s.nudge v).out := by
  rw [State.nudge_eq v hm]
  refine foldl_reaches
    (Inv := fun x => x.lineActive g = true ∧ x.lineAddr g = s.lineAddr g ∧ x.mayMaster = true)
    (Q := fun x => Output.hostRead (s.lineAddr g) 64 ∈ x.out) (g := State.nudgeLine v) (b := g) (List.range 8)
    (fun x k _ h => ?inv) (fun x h => ?here) (fun x k _ _ h => (x.nudgeLine_asks v k).out.subset h) (List.mem_range.mpr hg) ?start
  case inv =>
    obtain ⟨active, addr, master⟩ := h
    have same (o : Nat) : (x.nudgeLine v k).reg o = x.reg o := State.reg_of_regs (x.nudgeLine_asks v k).regs o
    refine ⟨(State.flag_of_reg (same _)).trans active, ?_, ?_⟩
    · rw [State.lineAddr, State.get_of_reg (same _), State.get_of_reg (same _)]
      exact addr
    · rw [State.mayMaster, State.flag_of_reg (same _), (x.nudgeLine_asks v k).conf]
      exact master
  case here =>
    obtain ⟨active, addr, master⟩ := h
    have named : (linesNamed v / 2 ^ g % 2 == 1) = true := by rw [linesNamed_bit hg hv]; rfl
    rw [State.nudgeLine, if_pos named, State.askLine_active active, State.toHost_sent (s := x.lineAsked g) _ master, addr]
    exact List.mem_cons_self
  case start =>
    have kept {o : Nat} (h : o ≠ HOST_WATCH_STATUS_OFF) : s.watchFast.reg o = s.reg o := State.reg_set_other _ 1 h
    refine ⟨(State.flag_set_other _ 1 (show g + 1 ≤ 32 by omega) (.inr (.inr (show g + 1 ≤ 8 from hg)))).trans ha,
      ?_, ?_⟩
    · rw [State.lineAddr, State.get_of_reg (kept (by decide)), State.get_of_reg (kept (by decide))]
      rfl
    · exact s.watchFast_mayMaster.trans hm

/-- A nudge puts the watcher in FAST. -/
theorem State.nudge_fast (s : State) (v : Nat) : (s.nudge v).flag HOST_WATCH_STATUS_FAST = true ∧ (s.nudge v).host.idleRounds = 0 := by
  have fast : s.watchFast.flag HOST_WATCH_STATUS_FAST = true := State.flag_set_same _ (by decide) rfl
  have idle : s.watchFast.host.idleRounds = 0 := rfl
  by_cases master : s.mayMaster = true
  · rw [State.nudge_eq v master]
    have regs := foldl_keeps State.regs (State.nudgeLine v) (fun s g => (s.nudgeLine_asks v g).regs) (List.range 8) s.watchFast
    have rounds := foldl_keeps (·.host.idleRounds) (State.nudgeLine v) (fun s g => (s.nudgeLine_asks v g).idle) (List.range 8)
      s.watchFast
    exact ⟨(State.flag_of_reg (State.reg_of_regs regs _)).trans fast, rounds.trans idle⟩
  · have stands : s.nudge v = s.watchFast := if_pos (by simp [s.watchFast_mayMaster, master])
    rw [stands]
    exact ⟨fast, idle⟩

theorem State.regWrite_nudge {s : State} {m : Master} (v : Nat) (h : s.takes m HOST_NUDGE_OFF = true) :
    s.regWrite m HOST_NUDGE_OFF 4 v = (s.nudge v).wroteNow m HOST_NUDGE_OFF := by
  rw [State.regWrite_takes v h]
  rfl

/-! ### What records and halts leave alone (R312, R333) -/

/-- Fields of a family lie apart from a field. -/
def Apart (P : Field → Prop) (g : Field) : Prop :=
  ∀ f, P f → f.lsb + f.width ≤ 32 ∧ (f.off ≠ g.off ∨ g.lsb + g.width ≤ f.lsb ∨ f.lsb + f.width ≤ g.lsb)

/-- Two states agree in a family of fields and in the reads outstanding. -/
structure Kept (P : Field → Prop) (s s' : State) : Prop where
  lines : s'.host.linesOut = s.host.linesOut
  get (f : Field) : P f → s'.get f = s.get f

namespace Kept

variable {P : Field → Prop} {s s' s'' : State}

theorem refl (P : Field → Prop) (s : State) : Kept P s s := ⟨rfl, fun _ _ => rfl⟩

theorem trans (h : Kept P s s') (h' : Kept P s' s'') : Kept P s s'' :=
  ⟨h'.lines.trans h.lines, fun f hf => (h'.get f hf).trans (h.get f hf)⟩

theorem of_regs (hl : s'.host.linesOut = s.host.linesOut) (hr : s'.regs = s.regs) : Kept P s s' :=
  ⟨hl, fun _ _ => State.get_of_reg (State.reg_of_regs hr _)⟩

theorem set (h : Kept P s s') (v : Nat) {g : Field} (hg : Apart P g) : Kept P s (s'.set g v) :=
  ⟨h.lines, fun f hf => by
    obtain ⟨word, apart⟩ := hg f hf
    exact (State.get_set_other s' v word apart).trans (h.get f hf)⟩

theorem foldl {β : Type} {g : State → β → State} (l : List β) (h : ∀ s, ∀ b ∈ l, Kept P s (g s b)) (s : State) :
    Kept P s (l.foldl g s) := by
  induction l generalizing s with
  | nil => exact .refl P s
  | cons b l ih =>
    exact (h s b List.mem_cons_self).trans (ih (fun s c hc => h s c (List.mem_cons_of_mem b hc)) (g s b))

end Kept

section

variable {P : Field → Prop}

theorem State.toHost_kept (s : State) (o : Output) : Kept P s (s.toHost o) := .of_regs (s.toHost_linesOut o) (s.toHost_regs o)

/-- The fields of a family that no interrupt message and no record of an EVENT ring changes, and the classes of the rings among
them. -/
structure Steady (P : Field → Prop) (s : State) : Prop where
  pending (v : Nat) : Apart P (pendingBit v)
  records (n : Nat) : n < 64 → s.ringClass n = 4 → Apart P (RING_HEAD_HEAD n) ∧ Apart P (RING_STATUS_PHASE n) ∧
    Apart P (RING_DROPPED_EVENTS n)
  classes (n : Nat) : n < 64 → P (RING_CFG_CLASS n)

theorem Steady.kept {s s' : State} (h : Steady P s) (hk : Kept P s s') : Steady P s' :=
  ⟨h.pending, fun n hn hc => h.records n hn ((hk.get _ (h.classes n hn)).symm.trans hc), h.classes⟩

theorem State.msix_kept (s : State) (v : Nat) (hp : ∀ v, Apart P (pendingBit v)) : Kept P s (s.msix v) := by
  unfold State.msix
  split
  · exact (Kept.refl P s).set 1 (hp v)
  · exact s.toHost_kept _

theorem State.raise_kept (s : State) (k : Nat) (hp : ∀ v, Apart P (pendingBit v))
    (hk : Apart P (irqCause k) ∨ s.flag (irqCause k) = true) : Kept P s (s.raise k) := by
  unfold State.raise
  extract_lets cause en s1
  split
  · exact .of_regs rfl rfl
  · next clear =>
    have set : Kept P s (s.set (irqCause k) 1) := (Kept.refl P s).set 1 (hk.resolve_right clear)
    have latched : Kept P s s1 := set.trans (.of_regs rfl rfl)
    split
    · exact latched.trans (s1.msix_kept _ hp)
    · exact latched

theorem State.ringMsg_kept (s : State) (n : Nat) (hp : ∀ v, Apart P (pendingBit v)) : Kept P s (s.ringMsg n) := by
  unfold State.ringMsg
  extract_lets r h free
  have due : Kept P s (s.setRing n { r with lastMsg := some s.now, msgWaits := false }) := .of_regs rfl rfl
  split
  · exact due.trans (State.msix_kept _ n hp)
  · exact .of_regs rfl rfl

theorem State.writeRecord_kept {s : State} {n : Nat} (w : List Nat) (h : Steady P s) (hn : n < 64) (hc : s.ringClass n = 4) :
    Kept P s (s.writeRecord n w) := by
  obtain ⟨head, phase, -⟩ := h.records n hn hc
  unfold State.writeRecord
  extract_lets x s1 s2
  have sent : Kept P s s1 := (s.toHost_kept _).trans (State.toHost_kept _ _)
  exact ((sent.set _ head).set _ phase).trans (State.ringMsg_kept _ n h.pending)

theorem State.deliver_kept {s : State} {n : Nat} (w : List Nat) (h : Steady P s) (hn : n < 64) (hc : s.ringClass n = 4) :
    Kept P s (s.deliver w n) := by
  obtain ⟨-, -, dropped⟩ := h.records n hn hc
  unfold State.deliver
  split
  · exact State.writeRecord_kept w h hn hc
  · have counted : Kept P s (s.setRing n { s.ring n with dropped := (s.ring n).dropped + 1 }) := .of_regs rfl rfl
    exact counted.set _ dropped

theorem State.event_kept {s : State} (e : Event) (h : Steady P s) : Kept P s (s.event e) := by
  unfold State.event
  extract_lets words _ s1
  have numbered : Kept P s s1 := .of_regs rfl rfl
  have classed (l : List Nat) (hl : ∀ n ∈ l, n < 64 ∧ s.ringClass n = 4) (x : State) (hx : Kept P s x) :
      Kept P s (l.foldl (fun s n => s.deliver words n) x) := by
    induction l generalizing x with
    | nil => exact hx
    | cons n l ih =>
      obtain ⟨hn, hc⟩ := hl n List.mem_cons_self
      have class' : x.ringClass n = 4 := (hx.get _ (h.classes n hn)).trans hc
      exact ih (fun m hm => hl m (List.mem_cons_of_mem n hm)) _
        (hx.trans (State.deliver_kept words (h.kept hx) hn class'))
  refine classed _ (fun n hn => ?_) s1 numbered
  simp only [State.subscribers, List.mem_filter, List.mem_range, Bool.and_eq_true, beq_iff_eq] at hn
  obtain ⟨hn, ⟨-, hc⟩, -⟩ := hn
  exact ⟨hn, hc⟩

theorem State.overflow_kept {s : State} {n : Nat} (h : Steady P s) (hn : n < 64) (hc : s.ringClass n = 4) :
    Kept P s (s.overflow n) := by
  unfold State.overflow
  extract_lets r e words _ s1
  split
  · exact .refl P s
  · have numbered : Kept P s (s1.setRing n { r with dropped := 0 }) := .of_regs rfl rfl
    have steady := h.kept numbered
    exact numbered.trans (State.writeRecord_kept words steady hn hc)

/-- The summaries of the rings' states (R312). -/
def summaries : List Field :=
  [HOST_RING_STATUS_BUSY, HOST_RING_STATUS_HALTED, HOST_WATCH_STATUS_ACTIVE, HOST_RING_HALT_HALT 0, HOST_RING_HALT_HALT 1]

theorem State.setRingState_kept (s : State) (n st : Nat) (hs : ∀ g ∈ summaries, Apart P g) (hn : Apart P (RING_STATUS_STATE n)) :
    Kept P s (s.setRingState n st) := by
  unfold State.setRingState State.ringSummary
  extract_lets all halted busy s1 live s2 mask
  have summary (g : Field) (hg : g ∈ summaries := by simp [summaries]) := hs g hg
  exact (((((Kept.refl P s).set st hn).set _ (summary _)).set _ (summary _)).set _ (summary _) |>.set _ (summary _)).set _
    (summary _)

/-- A ring that halts changes its own STATE and HALT_ERR, the summaries and RING_ERR, beside what records change. -/
theorem State.haltRing_kept {s : State} (n err : Nat) (h : Steady P s) (hs : ∀ g ∈ summaries, Apart P g)
    (hn : Apart P (RING_STATUS_STATE n)) (he : Apart P (RING_STATUS_HALT_ERR n))
    (hc : Apart P (irqCause 6) ∨ P (irqCause 6) ∧ s.flag (irqCause 6) = true) : Kept P s (s.haltRing n err) := by
  unfold State.haltRing
  extract_lets s1 r s2
  split
  · have halted : Kept P s s1 := ((Kept.refl P s).set err he).trans (State.setRingState_kept _ n 3 hs hn)
    have cause : Apart P (irqCause 6) ∨ s2.flag (irqCause 6) = true :=
      hc.imp_right fun ⟨kept, set⟩ => (congrArg (· == 1) (halted.get _ kept)).trans set
    have still : Kept P s1 s2 := .of_regs rfl rfl
    have raised : Kept P s (s2.raise 6) := (halted.trans still).trans (s2.raise_kept 6 h.pending cause)
    exact raised.trans (State.event_kept _ (h.kept raised))
  · exact .refl P s

/-! ### An INDEX is taken (R303, R305, R306) -/

theorem State.fetchTo_kept (s : State) (n index : Nat) : Kept P s (s.fetchTo n index) := by
  unfold State.fetchTo
  extract_lets r k idx s1
  have begun : Kept P s s1 := .of_regs rfl rfl
  exact begun.trans (Kept.foldl idx (fun x i _ => x.toHost_kept _) s1)

theorem State.watchFast_kept (s : State) (hf : Apart P HOST_WATCH_STATUS_FAST) : Kept P s s.watchFast := by
  have rested : Kept P s { s with host := { s.host with idleRounds := 0 } } := .of_regs rfl rfl
  exact rested.set 1 hf

/-- An INDEX that is taken changes its own ring's INDEX and the pace of the watcher, or the ring halts. -/
theorem State.takeIndex_kept {s : State} {n : Nat} (v : Nat) (h : Steady P s) (h64 : n < 64) (hs : ∀ g ∈ summaries, Apart P g)
    (hn : Apart P (RING_STATUS_STATE n)) (he : Apart P (RING_STATUS_HALT_ERR n)) (hc : Apart P (irqCause 6))
    (hi : Apart P (RING_INDEX_INDEX n)) (hf : Apart P HOST_WATCH_STATUS_FAST) : Kept P s (s.takeIndex n v) := by
  unfold State.takeIndex
  extract_lets old done s1
  have shown : Kept P s s1 := by
    have index : Kept P s (s.set (RING_INDEX_INDEX n) v) := (Kept.refl P s).set v hi
    exact index.trans (State.watchFast_kept _ hf)
  have steady := h.kept shown
  have halts : Kept P s (s1.haltRing n 1) := shown.trans (State.haltRing_kept n 1 steady hs hn he (.inl hc))
  split
  · exact .refl P s
  · split
    · next cls =>
      split
      · exact halts
      · exact shown.trans (State.overflow_kept steady h64 (by simpa using cls))
    · split
      · exact halts
      · split
        · exact shown.trans (s1.fetchTo_kept n v)
        · exact shown

end

theorem Kept.weaken {P Q : Field → Prop} {s s' : State} (h : Kept P s s') (hq : ∀ f, Q f → P f) : Kept Q s s' :=
  ⟨h.lines, fun f hf => h.get f (hq f hf)⟩

theorem Apart.mono {P Q : Field → Prop} {g : Field} (h : Apart P g) (hq : ∀ f, Q f → P f) : Apart Q g :=
  fun f hf => h f (hq f hf)

/-- A ring's INDEX and what it is judged by, with the classes of all rings. -/
inductive RingKey (j : Nat) : Field → Prop
  | cls {m : Nat} (hm : m < 64) : RingKey j (RING_CFG_CLASS m)
  | state : RingKey j (RING_STATUS_STATE j)
  | head : RingKey j (RING_HEAD_HEAD j)
  | size : RingKey j (RING_CFG_LOG2SIZE j)
  | index : RingKey j (RING_INDEX_INDEX j)

/-- The registers of the rings stand between those of the island and the pending bits of the vectors. -/
theorem RingKey.apart_island {j : Nat} {g : Field} (hj : j < 64) (hg : g.off < 0x21000 ∨ 0x22000 ≤ g.off) : Apart (RingKey j) g := by
  intro f hf
  cases hf <;> simp only [RING_CFG_CLASS, RING_CFG_OFF, RING_STATUS_STATE, RING_STATUS_OFF, RING_HEAD_HEAD, RING_HEAD_OFF,
    RING_CFG_LOG2SIZE, RING_INDEX_INDEX, RING_INDEX_OFF] <;> omega

/-- Another ring's register is none of them, but for CFG. -/
theorem RingKey.apart_ring {j n k : Nat} {g : Field} (hn : n ≠ j) (hk : k < 0x40) (hc : k ≠ 8) (hg : g.off = 0x21000 + k + 0x40 * n) :
    Apart (RingKey j) g := by
  intro f hf
  rw [hg]
  cases hf <;> simp only [RING_CFG_CLASS, RING_CFG_OFF, RING_STATUS_STATE, RING_STATUS_OFF, RING_HEAD_HEAD, RING_HEAD_OFF,
    RING_CFG_LOG2SIZE, RING_INDEX_INDEX, RING_INDEX_OFF] <;> omega

/-- What a ring's INDEX is judged by. -/
def JudgedBy (j : Nat) (f : Field) : Prop := RingKey j f ∧ f ≠ RING_INDEX_INDEX j

theorem JudgedBy.cls (j : Nat) {m : Nat} (hm : m < 64) : JudgedBy j (RING_CFG_CLASS m) :=
  ⟨.cls hm, fun e => absurd (congrArg Field.width e) (by decide : ¬ 3 = 32)⟩

theorem JudgedBy.state (j : Nat) : JudgedBy j (RING_STATUS_STATE j) :=
  ⟨.state, fun e => absurd (congrArg Field.width e) (by decide : ¬ 3 = 32)⟩

theorem JudgedBy.size (j : Nat) : JudgedBy j (RING_CFG_LOG2SIZE j) :=
  ⟨.size, fun e => absurd (congrArg Field.width e) (by decide : ¬ 5 = 32)⟩

theorem JudgedBy.head (j : Nat) : JudgedBy j (RING_HEAD_HEAD j) := by
  refine ⟨.head, fun e => ?_⟩
  have off := congrArg Field.off e
  simp only [RING_HEAD_HEAD, RING_HEAD_OFF, RING_INDEX_INDEX, RING_INDEX_OFF] at off
  omega

theorem JudgedBy.apart_index (j : Nat) : Apart (JudgedBy j) (RING_INDEX_INDEX j) := by
  rintro f ⟨hf, other⟩
  cases hf with
  | index => exact absurd rfl other
  | _ => simp only [RING_CFG_CLASS, RING_CFG_OFF, RING_STATUS_STATE, RING_STATUS_OFF, RING_HEAD_HEAD, RING_HEAD_OFF,
      RING_CFG_LOG2SIZE, RING_INDEX_INDEX, RING_INDEX_OFF]; omega

theorem RingKey.steady {s : State} {j : Nat} (hj : j < 64) (hc : s.ringClass j < 4) : Steady (RingKey j) s where
  pending v := RingKey.apart_island hj (.inr (by simp only [MSIX_PBA_OFF]; omega))
  records n _ h4 := by
    have other : n ≠ j := fun e => absurd (e ▸ h4) (Nat.ne_of_lt hc)
    exact ⟨apart_ring (k := 0x1C) other (by decide) (by decide) rfl, apart_ring (k := 0x18) other (by decide) (by decide) rfl,
      apart_ring (k := 0x28) other (by decide) (by decide) rfl⟩
  classes _ hn := .cls hn

/-- A ring that takes an INDEX leaves each other ring what its own is judged by. -/
theorem State.takeIndex_other {s : State} {j n : Nat} (v : Nat) (hj : j < 64) (hn : n < 64) (hc : s.ringClass j < 4) (h : n ≠ j) :
    Kept (RingKey j) s (s.takeIndex n v) :=
  State.takeIndex_kept v (RingKey.steady hj hc) hn (fun g hg => RingKey.apart_island hj (.inl (by
      simp only [summaries, List.mem_cons, List.not_mem_nil, or_false] at hg
      rcases hg with rfl | rfl | rfl | rfl | rfl <;> decide)))
    (RingKey.apart_ring (k := 0x18) h (by decide) (by decide) rfl) (RingKey.apart_ring (k := 0x18) h (by decide) (by decide) rfl)
    (RingKey.apart_island hj (.inl (by decide))) (RingKey.apart_ring (k := 0x20) h (by decide) (by decide) rfl)
    (RingKey.apart_island hj (.inl (by decide)))

/-- A ring in RUN takes a later INDEX within its size. -/
structure State.Takes (s : State) (j v : Nat) : Prop where
  run : s.ringState j = 1
  cls : s.ringClass j < 4
  later : 0 ≤ frameDiff v (s.get (RING_INDEX_INDEX j))
  within : (2 ^ 32 + v - s.get (RING_HEAD_HEAD j)) % 2 ^ 32 ≤ s.ringSize j

theorem State.Takes.takeIndex {s : State} {j v : Nat} (h : s.Takes j v) (hv : v < 2 ^ 32) (hj : j < 64) :
    Kept (JudgedBy j) s (s.takeIndex j v) ∧ (s.takeIndex j v).get (RING_INDEX_INDEX j) = v := by
  unfold State.takeIndex
  extract_lets old done s1
  have shown : Kept (JudgedBy j) s s1 := by
    have set : Kept (JudgedBy j) s (s.set (RING_INDEX_INDEX j) v) := (Kept.refl _ s).set v (JudgedBy.apart_index j)
    have fast : Apart (RingKey j) HOST_WATCH_STATUS_FAST := RingKey.apart_island hj (.inl (by decide))
    exact set.trans (State.watchFast_kept _ (fast.mono fun f hf => hf.1))
  by_cases same : v = old
  · rw [if_pos (by simp [same])]
    exact ⟨.refl _ s, same.symm⟩
  · have class' : s1.ringClass j = s.ringClass j := shown.get _ (.cls j hj)
    have size' : s1.ringSize j = s.ringSize j := congrArg (2 ^ ·) (shown.get _ (.size j))
    have state' : s1.ringState j = s.ringState j := shown.get _ (.state j)
    have written : s1.get (RING_INDEX_INDEX j) = v := by
      have apart : (RING_INDEX_INDEX j).off ≠ HOST_WATCH_STATUS_FAST.off := by
        simp only [RING_INDEX_INDEX, RING_INDEX_OFF, HOST_WATCH_STATUS_FAST, HOST_WATCH_STATUS_OFF]
        omega
      refine (State.get_of_reg (State.reg_set_other _ 1 apart)).trans ?_
      exact (State.get_set_same s v (show 0 + 32 ≤ 32 by decide)).trans (Nat.mod_eq_of_lt hv)
    rw [if_neg (by simp [h.run, same]), if_neg (by rw [class']; simpa using (Nat.ne_of_lt h.cls)),
      if_neg (by rw [size']; simpa using ⟨h.later, h.within⟩), if_pos (by simp [state', h.run])]
    exact ⟨shown.trans (s1.fetchTo_kept j v), ((s1.fetchTo_kept (P := (· = RING_INDEX_INDEX j)) j v).get _ rfl).trans written⟩

theorem frameDiff_self (v : Nat) : frameDiff v v = 0 := by
  have multiple : (2 ^ 32 + v - v % 2 ^ 32) % 2 ^ 32 = 0 := by omega
  rw [frameDiff, multiple]
  rfl

/-- What a ring's INDEX is judged by decides whether it takes an INDEX. -/
theorem State.Takes.kept {s s' : State} {j v : Nat} (h : s.Takes j v) (hj : j < 64) (hk : Kept (JudgedBy j) s s')
    (hi : s'.get (RING_INDEX_INDEX j) = s.get (RING_INDEX_INDEX j) ∨ s'.get (RING_INDEX_INDEX j) = v) : s'.Takes j v where
  run := (hk.get _ (.state j)).trans h.run
  cls := (hk.get _ (.cls j hj)).trans_lt h.cls
  later := by
    rcases hi with hi | hi
    · exact hi ▸ h.later
    · rw [hi, frameDiff_self]
  within := by
    rw [State.ringSize, hk.get _ (.head j), hk.get _ (.size j)]
    exact h.within

/-- The entries of a line are taken, each by its ring. -/
def State.takeLine (s : State) (g : Nat) (w : List Nat) : State :=
  (List.range 8).foldl (fun s k => s.takeIndex (8 * g + k) (w.getD (2 * k) 0 % 2 ^ 32)) s

/-- Where a line is taken a ring in RUN takes its INDEX, and the reads outstanding stand. -/
theorem State.takeLine_takes {s : State} {g k : Nat} {w : List Nat} (hg : g < 8) (hk : k < 8)
    (h : s.Takes (8 * g + k) (w.getD (2 * k) 0 % 2 ^ 32)) :
    (s.takeLine g w).host.linesOut = s.host.linesOut ∧
      (s.takeLine g w).get (RING_INDEX_INDEX (8 * g + k)) = w.getD (2 * k) 0 % 2 ^ 32 := by
  have hj : 8 * g + k < 64 := by omega
  have small : w.getD (2 * k) 0 % 2 ^ 32 < 2 ^ 32 := Nat.mod_lt _ (by decide)
  have other {x : State} {i : Nat} (u : Nat) (hx : Kept (JudgedBy (8 * g + k)) s x) (hi : i < 8) (hik : i ≠ k) :
      Kept (RingKey (8 * g + k)) x (x.takeIndex (8 * g + i) u) :=
    State.takeIndex_other u hj (by omega) ((hx.get _ (.cls _ hj)).trans_lt h.cls) (by omega)
  suffices done : Kept (JudgedBy (8 * g + k)) s (s.takeLine g w) ∧
      (s.takeLine g w).get (RING_INDEX_INDEX (8 * g + k)) = w.getD (2 * k) 0 % 2 ^ 32 from ⟨done.1.lines, done.2⟩
  refine foldl_reaches
    (Inv := fun x => Kept (JudgedBy (8 * g + k)) s x ∧ x.Takes (8 * g + k) (w.getD (2 * k) 0 % 2 ^ 32))
    (Q := fun x => Kept (JudgedBy (8 * g + k)) s x ∧ x.get (RING_INDEX_INDEX (8 * g + k)) = w.getD (2 * k) 0 % 2 ^ 32)
    (b := k) (List.range 8) (fun x i hi ⟨judged, takes⟩ => ?inv) (fun x ⟨judged, takes⟩ => ?here)
    (fun x i hi hik ⟨judged, index⟩ => ?kept) (List.mem_range.mpr hk)
    ⟨.refl _ s, h⟩
  case inv =>
    by_cases hik : i = k
    · subst hik
      obtain ⟨same, index⟩ := takes.takeIndex small hj
      exact ⟨judged.trans same, takes.kept hj same (.inr index)⟩
    · have untouched := other (w.getD (2 * i) 0 % 2 ^ 32) judged (List.mem_range.mp hi) hik
      have same := untouched.weaken (Q := JudgedBy (8 * g + k)) fun f hf => hf.1
      exact ⟨judged.trans same, takes.kept hj same (.inl (untouched.get _ .index))⟩
  case here =>
    obtain ⟨same, index⟩ := takes.takeIndex small hj
    exact ⟨judged.trans same, index⟩
  case kept =>
    have untouched := other (w.getD (2 * i) 0 % 2 ^ 32) judged (List.mem_range.mp hi) hik
    exact ⟨judged.trans (untouched.weaken fun f hf => hf.1), (untouched.get _ .index).trans index⟩

/-- A read of a line has ended: it is outstanding no longer. -/
def State.lineDone (s : State) (g : Nat) : State :=
  { s with host := { s.host with linesOut := s.host.linesOut.erase g } }

/-- The failures of a line count `fails`. -/
def State.countFails (s : State) (g fails : Nat) : State :=
  { s with host := { s.host with lineFails := sput (fun _ => 0) s.host.lineFails g fails } }

theorem State.lineRead_data {s : State} {g : Nat} (w : List Nat) (h : s.host.linesOut.contains g = true) :
    s.lineRead g (.data w) = ((s.lineDone g).countFails g 0).takeLine g w := if_neg (by rw [h]; decide)

/-! ### The third failure of a line (R303) -/

/-- What is said of a failing read of a line. -/
def State.lineFailed (s : State) (g kind : Nat) : State :=
  ((s.lineDone g).dmaError (s.lineAddr g) kind (8 * g) true).bump HOST_WATCH_STATUS_READ_FAIL

/-- The rings of a line that are active halt. -/
def State.haltLine (s : State) (g : Nat) : State := (List.range 8).foldl (fun s k => s.haltRing (8 * g + k) 3) s

theorem State.lineRead_failed {s : State} {g : Nat} {r : HostRead (List Nat)} (h : s.host.linesOut.contains g = true)
    (hr : r.kind ≠ 0) : s.lineRead g r =
      if sget (fun _ => 0) s.host.lineFails g < 2 then
        ((s.lineFailed g r.kind).countFails g (sget (fun _ => 0) s.host.lineFails g + 1)).askLine g
      else ((s.lineFailed g r.kind).countFails g 0).haltLine g := by
  have outstanding : ¬ (!s.host.linesOut.contains g) = true := by rw [h]; decide
  cases r with
  | data => exact absurd rfl hr
  | _ => exact if_neg outstanding


theorem State.raise_get (s : State) (k : Nat) {f : Field} (hw : f.lsb + f.width ≤ 32) (ho : f.off < MSIX_PBA_OFF 0)
    (hc : f.off ≠ HOST_IRQ_CAUSE_OFF) : (s.raise k).get f = s.get f := by
  refine (s.raise_kept (P := (· = f)) k (fun v g hg => ?_) (.inl fun g hg => ?_)).get f rfl
  · rw [hg]
    refine ⟨hw, .inl (Nat.ne_of_lt (ho.trans_le ?_))⟩
    simp only [MSIX_PBA_OFF]
    omega
  · rw [hg]
    exact ⟨hw, .inl hc⟩

/-- A cause that is raised is set. -/
theorem State.raise_flag (s : State) {k : Nat} (hk : k < 32) : (s.raise k).flag (irqCause k) = true := by
  unfold State.raise
  extract_lets cause en s1
  split
  · next set => exact set
  · have latched : s1.flag (irqCause k) = true := State.flag_set_same s hk rfl
    split
    · exact (State.flag_of_reg (s1.msix_reg _ (show HOST_IRQ_CAUSE_OFF < _ by decide))).trans latched
    · exact latched

/-- The kind and the address of a failed request and its cause, with the classes of all rings. -/
inductive ErrKey : Field → Prop
  | cls {m : Nat} (hm : m < 64) : ErrKey (RING_CFG_CLASS m)
  | kind : ErrKey HOST_DMA_ERR_INFO_KIND
  | addr : ErrKey ⟨HOST_DMA_ERR_LO_OFF, 0, 32⟩
  | cause : ErrKey (irqCause 6)

theorem ErrKey.apart {g : Field} (hg : g.off < 0x20028 ∨ 0x22000 ≤ g.off) : Apart ErrKey g := by
  intro f hf
  cases hf <;> simp only [RING_CFG_CLASS, RING_CFG_OFF, HOST_DMA_ERR_INFO_KIND, HOST_DMA_ERR_INFO_OFF, HOST_DMA_ERR_LO_OFF,
    HOST_IRQ_CAUSE_OFF] <;> omega

theorem ErrKey.apart_ring {n k : Nat} {g : Field} (hk : k < 0x40) (hc : k ≠ 8) (hg : g.off = 0x21000 + k + 0x40 * n) :
    Apart ErrKey g := by
  intro f hf
  rw [hg]
  cases hf <;> simp only [RING_CFG_CLASS, RING_CFG_OFF, HOST_DMA_ERR_INFO_KIND, HOST_DMA_ERR_INFO_OFF, HOST_DMA_ERR_LO_OFF,
    HOST_IRQ_CAUSE_OFF] <;> omega

theorem ErrKey.steady (s : State) : Steady ErrKey s where
  pending v := ErrKey.apart (.inr (by simp only [MSIX_PBA_OFF]; omega))
  records _ _ _ := ⟨ErrKey.apart_ring (k := 0x1C) (by decide) (by decide) rfl, ErrKey.apart_ring (k := 0x18) (by decide) (by decide) rfl,
    ErrKey.apart_ring (k := 0x28) (by decide) (by decide) rfl⟩
  classes _ hn := .cls hn

theorem summaries_off {g : Field} (hg : g ∈ summaries) : g.off < 0x20028 := by
  simp only [summaries, List.mem_cons, List.not_mem_nil, or_false] at hg
  rcases hg with rfl | rfl | rfl | rfl | rfl <;> decide

/-- The halt of a line's rings leaves what was said of the failure. -/
theorem State.haltLine_errKey {s : State} (g : Nat) (h : s.flag (irqCause 6) = true) : Kept ErrKey s (s.haltLine g) := by
  refine List.foldlRecOn (List.range 8) _ (motive := fun x => Kept ErrKey s x) (.refl _ s) fun x hx k _ => hx.trans ?_
  have cause : x.flag (irqCause 6) = true := (congrArg (· == 1) (hx.get _ .cause)).trans h
  exact State.haltRing_kept _ 3 (ErrKey.steady x) (fun g hg => ErrKey.apart (.inl (summaries_off hg)))
    (ErrKey.apart_ring (k := 0x18) (by decide) (by decide) rfl) (ErrKey.apart_ring (k := 0x18) (by decide) (by decide) rfl)
    (.inr ⟨.cause, cause⟩)

/-- A ring's STATE and HALT_ERR, with the classes of all rings. -/
inductive HaltKey (j : Nat) : Field → Prop
  | cls {m : Nat} (hm : m < 64) : HaltKey j (RING_CFG_CLASS m)
  | state : HaltKey j (RING_STATUS_STATE j)
  | err : HaltKey j (RING_STATUS_HALT_ERR j)

theorem HaltKey.apart_island {j : Nat} {g : Field} (hj : j < 64) (hg : g.off < 0x21000 ∨ 0x22000 ≤ g.off) : Apart (HaltKey j) g := by
  intro f hf
  cases hf <;> simp only [RING_CFG_CLASS, RING_CFG_OFF, RING_STATUS_STATE, RING_STATUS_HALT_ERR, RING_STATUS_OFF] <;> omega

/-- A ring's register is none of them, but for CFG and the ring's own STATUS below its PHASE. -/
theorem HaltKey.apart_ring {j n k : Nat} {g : Field} (hk : k < 0x40) (hc : k ≠ 8) (hn : n ≠ j ∨ k ≠ 0x18 ∨ 12 ≤ g.lsb)
    (hg : g.off = 0x21000 + k + 0x40 * n) : Apart (HaltKey j) g := by
  intro f hf
  rw [hg]
  cases hf <;> simp only [RING_CFG_CLASS, RING_CFG_OFF, RING_STATUS_STATE, RING_STATUS_HALT_ERR, RING_STATUS_OFF] <;> omega

theorem HaltKey.steady {j : Nat} (hj : j < 64) (s : State) : Steady (HaltKey j) s where
  pending v := HaltKey.apart_island hj (.inr (by simp only [MSIX_PBA_OFF]; omega))
  records _ _ _ := ⟨HaltKey.apart_ring (k := 0x1C) (by decide) (by decide) (.inr (.inl (by decide))) rfl,
    HaltKey.apart_ring (k := 0x18) (by decide) (by decide) (.inr (.inr (show 12 ≤ 31 by decide))) rfl,
    HaltKey.apart_ring (k := 0x28) (by decide) (by decide) (.inr (.inl (by decide))) rfl⟩
  classes _ hn := .cls hn

theorem State.haltRing_other {s : State} {j n : Nat} (err : Nat) (hj : j < 64) (h : n ≠ j) : Kept (HaltKey j) s (s.haltRing n err) :=
  State.haltRing_kept n err (HaltKey.steady hj s) (fun g hg => HaltKey.apart_island hj (.inl (lt_trans (summaries_off hg) (by decide))))
    (HaltKey.apart_ring (k := 0x18) (by decide) (by decide) (.inl h) rfl)
    (HaltKey.apart_ring (k := 0x18) (by decide) (by decide) (.inl h) rfl) (.inl (HaltKey.apart_island hj (.inl (by decide))))

/-- A ring in RUN that halts shows why. -/
theorem State.haltRing_halts {s : State} {n err : Nat} (hn : n < 64) (h : s.ringState n = 1) (he : err < 16) :
    (s.haltRing n err).ringState n = 3 ∧ (s.haltRing n err).get (RING_STATUS_HALT_ERR n) = err := by
  unfold State.haltRing
  extract_lets s1 r s2
  rw [if_pos (by simp [h])]
  have state : s1.ringState n = 3 := State.setRingState_state (s.set (RING_STATUS_HALT_ERR n) err) n (by decide)
  have code : s1.get (RING_STATUS_HALT_ERR n) = err := by
    refine (State.setRingState_get (s.set (RING_STATUS_HALT_ERR n) err) n 3 ?_ (show 8 + 4 ≤ 32 by decide)
      (.inr (show 3 ≤ 8 by decide))).trans ((State.get_set_same s err (show 8 + 4 ≤ 32 by decide)).trans (Nat.mod_eq_of_lt he))
    simp only [RING_STATUS_HALT_ERR, RING_STATUS_OFF]
    omega
  have still : Kept (HaltKey n) s1 s2 := .of_regs rfl rfl
  have steady := HaltKey.steady hn s2
  have raised : Kept (HaltKey n) s2 (s2.raise 6) :=
    s2.raise_kept 6 steady.pending (.inl (HaltKey.apart_island hn (.inl (by decide))))
  have told := (still.trans raised).trans (State.event_kept ⟨7, n, 1, false, false, false, 0, [err]⟩ (steady.kept raised))
  exact ⟨(told.get _ .state).trans state, (told.get _ .err).trans code⟩

/-- Each ring of the line that is in RUN halts. -/
theorem State.haltLine_halts {s : State} {g k : Nat} (hg : g < 8) (hk : k < 8) (h : s.ringState (8 * g + k) = 1) :
    (s.haltLine g).ringState (8 * g + k) = 3 ∧ (s.haltLine g).get (RING_STATUS_HALT_ERR (8 * g + k)) = 3 := by
  have hj : 8 * g + k < 64 := by omega
  have other (x : State) {i : Nat} (hik : i ≠ k) : Kept (HaltKey (8 * g + k)) x (x.haltRing (8 * g + i) 3) :=
    State.haltRing_other 3 hj (by omega)
  have here (x : State) (hx : x.ringState (8 * g + k) = 1 ∨
      (x.ringState (8 * g + k) = 3 ∧ x.get (RING_STATUS_HALT_ERR (8 * g + k)) = 3)) :
      (x.haltRing (8 * g + k) 3).ringState (8 * g + k) = 3 ∧
        (x.haltRing (8 * g + k) 3).get (RING_STATUS_HALT_ERR (8 * g + k)) = 3 := by
    rcases hx with run | halted
    · exact State.haltRing_halts hj run (by decide)
    · have stands : x.haltRing (8 * g + k) 3 = x := if_neg (by simp [halted.1])
      rw [stands]
      exact halted
  have kept {x : State} {i : Nat} (hik : i ≠ k)
      (hx : x.ringState (8 * g + k) = 3 ∧ x.get (RING_STATUS_HALT_ERR (8 * g + k)) = 3) :=
    And.intro (((other x hik).get _ .state).trans hx.1) (((other x hik).get _ .err).trans hx.2)
  refine foldl_reaches
    (Inv := fun x => x.ringState (8 * g + k) = 1 ∨
      (x.ringState (8 * g + k) = 3 ∧ x.get (RING_STATUS_HALT_ERR (8 * g + k)) = 3))
    (Q := fun x => x.ringState (8 * g + k) = 3 ∧ x.get (RING_STATUS_HALT_ERR (8 * g + k)) = 3)
    (b := k) (List.range 8) (fun x i _ hx => ?inv) here (fun x i _ hik hx => kept hik hx) (List.mem_range.mpr hk) (.inl h)
  by_cases hik : i = k
  · subst hik
    exact .inr (here x hx)
  · rcases hx with run | halted
    · exact .inl (((other x hik).get _ .state).trans run)
    · exact .inr (kept hik halted)

theorem State.get_word (s : State) (o : Nat) : s.get ⟨o, 0, 32⟩ = s.reg o := by
  have small : s.reg o / 2 ^ 0 < 2 ^ 32 := by
    rw [pow_zero, Nat.div_one]
    exact (rread s.regs o).isLt
  exact (Nat.mod_eq_of_lt small).trans (Nat.div_one _)

/-- A failed request names its kind, its address and the cause, and halts no ring. -/
theorem State.dmaError_shows (s : State) (addr n : Nat) (line : Bool) {kind : Nat} (hk : kind < 8) :
    (s.dmaError addr kind n line).get HOST_DMA_ERR_INFO_KIND = kind ∧
    (s.dmaError addr kind n line).reg HOST_DMA_ERR_LO_OFF = addr % 2 ^ 32 ∧
    (s.dmaError addr kind n line).flag (irqCause 6) = true ∧
    ∀ j, j < 64 → (s.dmaError addr kind n line).ringState j = s.ringState j := by
  unfold State.dmaError
  extract_lets s1 s2
  have addressed {f : Field} (hw : f.lsb + f.width ≤ 32) (ho : f.off < MSIX_PBA_OFF 0) (hc : f.off ≠ HOST_IRQ_CAUSE_OFF)
      (hi : f.off ≠ HOST_DMA_ERR_INFO_OFF) :
      (((s2.setFlag HOST_DMA_ERR_INFO_DBELL line).set HOST_DMA_ERR_INFO_RING n).raise 6).get f = s1.get f :=
    calc
      _ = ((s2.setFlag HOST_DMA_ERR_INFO_DBELL line).set HOST_DMA_ERR_INFO_RING n).get f := State.raise_get _ 6 hw ho hc
      _ = (s2.setFlag HOST_DMA_ERR_INFO_DBELL line).get f := State.get_set_other _ _ hw (.inl hi)
      _ = s2.get f := State.get_set_other _ _ hw (.inl hi)
      _ = (s1.bump HOST_DMA_ERR_INFO_COUNT).get f := State.get_set_other _ _ hw (.inl hi)
      _ = s1.get f := State.get_set_other _ _ hw (.inl hi)
  refine ⟨?kind, ?addr, State.raise_flag _ (by decide), fun j hj => ?state⟩
  case kind =>
    calc
      _ = ((s2.setFlag HOST_DMA_ERR_INFO_DBELL line).set HOST_DMA_ERR_INFO_RING n).get HOST_DMA_ERR_INFO_KIND :=
        State.raise_get _ 6 (by decide) (by decide) (by decide)
      _ = (s2.setFlag HOST_DMA_ERR_INFO_DBELL line).get HOST_DMA_ERR_INFO_KIND := State.get_set_other _ _ (by decide) (by decide)
      _ = s2.get HOST_DMA_ERR_INFO_KIND := State.get_set_other _ _ (by decide) (by decide)
      _ = kind % 2 ^ 3 := State.get_set_same _ kind (by decide)
      _ = kind := Nat.mod_eq_of_lt hk
  case addr =>
    have apart : HOST_DMA_ERR_LO_OFF ≠ HOST_DMA_ERR_HI_OFF := by decide
    rw [← State.get_word, addressed (by decide) (by decide) (by decide) (by decide), State.get_word]
    exact (State.reg_setReg_other _ _ apart).trans ((State.reg_setReg_same _ _ _).trans (Nat.mod_mod _ _))
  case state =>
    have block := (ringReg_host (k := 0x18) hj (by decide)).2
    have off : RING_STATUS_OFF j ≠ HOST_IRQ_CAUSE_OFF ∧ RING_STATUS_OFF j ≠ HOST_DMA_ERR_INFO_OFF ∧
        RING_STATUS_OFF j ≠ HOST_DMA_ERR_LO_OFF ∧ RING_STATUS_OFF j ≠ HOST_DMA_ERR_HI_OFF := by
      simp only [RING_STATUS_OFF, HOST_IRQ_CAUSE_OFF, HOST_DMA_ERR_INFO_OFF, HOST_DMA_ERR_LO_OFF, HOST_DMA_ERR_HI_OFF]
      omega
    obtain ⟨cause, info, lo, hi⟩ := off
    refine (addressed (show 0 + 3 ≤ 32 by decide) block cause info).trans (State.get_of_reg ?_)
    exact (State.reg_setReg_other _ _ hi).trans (State.reg_setReg_other _ _ lo)

theorem kind_lt_eight {α : Type} (r : HostRead α) : r.kind < 8 := by
  cases r <;> simp only [HostRead.kind] <;> decide

theorem State.lineFailed_shows (s : State) {g kind : Nat} (hk : kind < 8) :
    (s.lineFailed g kind).get HOST_DMA_ERR_INFO_KIND = kind ∧ (s.lineFailed g kind).reg HOST_DMA_ERR_LO_OFF = s.lineAddr g % 2 ^ 32 ∧
    (s.lineFailed g kind).flag (irqCause 6) = true ∧ ∀ j, j < 64 → (s.lineFailed g kind).ringState j = s.ringState j := by
  obtain ⟨kinds, addr, cause, states⟩ := (s.lineDone g).dmaError_shows (s.lineAddr g) (8 * g) true hk
  have counted {o : Nat} (h : o ≠ HOST_WATCH_STATUS_OFF) :
      (s.lineFailed g kind).reg o = ((s.lineDone g).dmaError (s.lineAddr g) kind (8 * g) true).reg o := State.reg_set_other _ _ h
  refine ⟨(State.get_of_reg (counted (by decide))).trans kinds, (counted (by decide)).trans addr,
    (State.flag_of_reg (counted (show HOST_IRQ_CAUSE_OFF ≠ _ by decide))).trans cause,
    fun j hj => (State.get_of_reg (counted ?_)).trans (states j hj)⟩
  simp only [RING_STATUS_STATE, RING_STATUS_OFF, HOST_WATCH_STATUS_OFF]
  omega

/-- What a failing read of a line shows, whether it is tried again or the line's rings halt. -/
theorem State.lineRead_shows {s : State} {g : Nat} {r : HostRead (List Nat)} (h : s.host.linesOut.contains g = true)
    (hr : r.kind ≠ 0) : (s.lineRead g r).get HOST_DMA_ERR_INFO_KIND = r.kind ∧
      (s.lineRead g r).reg HOST_DMA_ERR_LO_OFF = s.lineAddr g % 2 ^ 32 ∧ (s.lineRead g r).flag (irqCause 6) = true := by
  obtain ⟨kind, addr, cause, -⟩ := s.lineFailed_shows (g := g) (kind_lt_eight r)
  rw [State.lineRead_failed h hr, ← State.get_word]
  rw [← State.get_word] at addr
  generalize sget (fun _ => 0) s.host.lineFails g = fails
  have shown (f : Field) (hf : ErrKey f) : State.get (if fails < 2 then
      ((s.lineFailed g r.kind).countFails g (fails + 1)).askLine g
      else ((s.lineFailed g r.kind).countFails g 0).haltLine g) f = (s.lineFailed g r.kind).get f := by
    split
    · exact State.get_of_reg (State.reg_of_regs (State.askLine_asks _ g).regs _)
    · exact (State.haltLine_errKey (s := (s.lineFailed g r.kind).countFails g 0) g cause).get f hf
  exact ⟨(shown _ .kind).trans kind, (shown _ .addr).trans addr, (congrArg (· == 1) (shown _ .cause)).trans cause⟩

/-- The third failure of a line halts each of its rings that is in RUN. -/
theorem State.lineRead_halts {s : State} {g k : Nat} {r : HostRead (List Nat)} (h : s.host.linesOut.contains g = true)
    (hr : r.kind ≠ 0) (hf : 2 ≤ sget (fun _ => 0) s.host.lineFails g) (hg : g < 8) (hk : k < 8)
    (hs : s.ringState (8 * g + k) = 1) :
    (s.lineRead g r).ringState (8 * g + k) = 3 ∧ (s.lineRead g r).get (RING_STATUS_HALT_ERR (8 * g + k)) = 3 := by
  obtain ⟨-, -, -, states⟩ := s.lineFailed_shows (g := g) (kind_lt_eight r)
  rw [State.lineRead_failed h hr, if_neg (Nat.not_lt.mpr hf)]
  exact State.haltLine_halts hg hk ((states _ (by omega)).trans hs)

end Sys2Proof.Machine

open Sys2Proof Sys2Proof.Machine Sys2Proof.Machine.Reg

/-- Settles O35: a poll and a nudge read the active lines; a ring of a line takes its INDEX, or halts, whatever the other rings of the
line do. -/
theorem doorbellWatcher : Obligations.DoorbellWatcher := by
  refine ⟨?poll, ?nudge, ?taken, ?failed⟩
  case poll =>
    intro s t hp hm
    have may : (s.pass t).mayMaster = true := (s.pass_mayMaster t).trans hm
    obtain ⟨fast, rounds⟩ := State.watchPoll_round may
    refine does_inside rfl hp ⟨fun g hg ha => ?_, fun hf hi => ?_, fun hf hi => ?_⟩
    · rw [State.run_host, List.contains_iff_mem]
      exact State.watchPoll_reads may hg ((s.pass_flag t _).trans ha)
    · rw [State.run_hostFlag _ _ _ (by decide), State.run_host, fast, rounds]
      exact State.roundEnds_slow (by simpa using hf) (by simpa using hi)
    · rw [State.run_hostFlag _ _ _ (by decide), State.run_host, fast, rounds, ← s.pass_idleRounds t]
      exact State.roundEnds_fast (by simpa using hf) (by simpa using hi)
  case nudge =>
    intro s t m v ht
    have effect := State.regWrite_nudge v.toNat ht
    obtain ⟨fast, rounds⟩ := (s.pass t).nudge_fast v.toNat
    refine ⟨_, rfl, ?_, ?_, fun g hg ha hm hv => ?_⟩
    · rw [State.run_hostFlag _ _ _ (by decide), effect]
      exact fast
    · rw [State.run_host, effect]
      exact rounds
    · have sent := State.nudge_reads (s := s.pass t) ((s.pass_mayMaster t).trans hm) hg ((s.pass_flag t _).trans ha) hv
      have addr : (s.pass t).lineAddr g = s.lineAddr g := by simp only [State.lineAddr, State.pass_get]
      rw [State.run_out, effect, ← addr]
      exact sent
  case taken =>
    intro s t g k w hg hk one run cls later within
    have out : (s.pass t).host.linesOut.contains g = true := by
      rw [State.pass_linesOut, List.contains_iff_mem]
      exact List.count_pos_iff.mp (by omega)
    have takes : (((s.pass t).lineDone g).countFails g 0).Takes (8 * g + k) (w.getD (2 * k) 0 % 2 ^ 32) :=
      ⟨(s.pass_get t _).trans run, (s.pass_get t _).trans_lt cls, by
        exact (s.pass_get t _).symm ▸ later, by
        have head : (((s.pass t).lineDone g).countFails g 0).get (RING_HEAD_HEAD (8 * g + k)) = s.get (RING_HEAD_HEAD (8 * g + k)) :=
          s.pass_get t _
        have size : (((s.pass t).lineDone g).countFails g 0).ringSize (8 * g + k) = s.ringSize (8 * g + k) :=
          congrArg (2 ^ ·) (s.pass_get t _)
        rw [head, size]
        exact within⟩
    obtain ⟨lines, index⟩ := State.takeLine_takes hg hk takes
    have block : (RING_INDEX_INDEX (8 * g + k)).off / 65536 = 2 := (ringReg_host (k := 0x20) (by omega) (by decide)).1
    refine ⟨_, rfl, ?_, ?_⟩
    · rw [State.run_host, State.lineRead_data w out, lines]
      have none : (s.host.linesOut.erase g).count g = 0 := by rw [List.count_erase_self, one]
      rw [← Bool.not_eq_true, List.contains_iff_mem]
      exact fun still => absurd none (Nat.ne_of_gt (List.count_pos_iff.mpr (s.pass_linesOut t ▸ still)))
    · rw [State.run_hostGet _ _ _ block, State.lineRead_data w out, index]
  case failed =>
    intro s t g r hg out hr
    have outstanding : (s.pass t).host.linesOut.contains g = true := by
      rw [State.pass_linesOut]
      exact out
    have line : (s.pass t).lineAddr g = s.lineAddr g := by simp only [State.lineAddr, State.pass_get]
    obtain ⟨kind, addr, cause⟩ := State.lineRead_shows outstanding hr
    refine ⟨_, rfl, ?_, ?_, ?_, fun third k hk run => ?_⟩
    · rw [State.run_hostGet _ _ _ (by decide), kind]
    · rw [State.run_hostReg _ _ _ (by decide), addr, line]
    · rw [State.run_hostFlag _ _ _ (by decide), cause]
    · have block : (RING_STATUS_OFF (8 * g + k)) / 65536 = 2 := (ringReg_host (k := 0x18) (by omega) (by decide)).1
      obtain ⟨halted, code⟩ := State.lineRead_halts outstanding hr (by rw [State.pass_lineFails]; exact third) hg hk
        ((s.pass_ringState t _).trans run)
      exact ⟨(State.run_hostGet s t _ block).trans halted, (State.run_hostGet s t _ block).trans code⟩

end

section
/-! PROOF. SURFACE descriptors of one row in one aligned block (R317, R327, R328): one burst moves the row, and the descriptor ends. -/

namespace Sys2Proof.Machine

open Reg

/-! ### Bytes at the places of a transfer -/

/-- Bytes scattered to consecutive addresses are written from the first one up. -/
theorem Mem.scatter_consecutive {at_ : Nat → Nat} (data : List Nat) : ∀ (m : List Host.Cell) (p a : Nat),
    (∀ k, k < data.length → at_ (p + k) = a + k) → Mem.scatter m at_ p data = Mem.writes m a data := by
  induction data with
  | nil => exact fun _ _ _ _ => rfl
  | cons b bs ih =>
    intro m p a h
    have first : at_ p = a := h 0 (by simp)
    rw [Mem.scatter, Mem.writes, first]
    refine ih _ _ _ fun k hk => ?_
    rw [Nat.add_assoc, h (1 + k) (by simp only [List.length_cons]; omega), Nat.add_assoc]

/-- A copy leaves the bytes outside its destination alone. -/
theorem Mem.read_copy_outside {dst src : Nat → Nat} {x : Nat} : ∀ (k : Nat) (m : List Host.Cell) (p : Nat),
    (∀ j, j < k → x ≠ dst (p + j)) → Mem.read (Mem.copy m dst src p k) x = Mem.read m x
  | 0, _, _, _ => rfl
  | k + 1, m, p, h => by
    rw [Mem.copy, Mem.read_copy_outside k _ _ fun j hj => ?later]
    · exact Mem.read_write_other m _ (h 0 (by omega))
    case later =>
      rw [Nat.add_assoc, Nat.add_comm 1]
      exact h (j + 1) (by omega)

theorem Desc.modByte_row {d : Desc} {k : Nat} (h : k < d.rowBytes) : d.modByte k = d.modAddr + k := by
  rw [Desc.modByte, Nat.div_eq_of_lt h, Nat.mod_eq_of_lt h, Nat.zero_mul, Nat.add_zero]

theorem Desc.hostByte_row {d : Desc} {k : Nat} (h : k < d.rowBytes) : d.hostByte k = d.hostAddr + k := by
  rw [Desc.hostByte, Nat.div_eq_of_lt h, Nat.mod_eq_of_lt h, Nat.zero_mul, Nat.add_zero]

/-! ### A transfer of one row is one burst (R317) -/

/-- The numbers below `m` are the first of those below `n` that have a property, where it holds of them and not of `m`. -/
theorem length_takeWhile_range {p : Nat → Bool} {m n : Nat} (hm : m ≤ n) (hp : ∀ k, k < m → p k = true) (hn : p m = false) :
    ((List.range n).takeWhile p).length = m := by
  obtain ⟨j, rfl⟩ := Nat.exists_eq_add_of_le hm
  rw [List.range_add, List.takeWhile_append_of_pos fun k hk => hp k (List.mem_range.mp hk)]
  have none : ((List.range j).map (m + ·)).takeWhile p = [] := by
    cases j with
    | zero => rfl
    | succ j => simp [List.range_succ_eq_map, hn]
  rw [none, List.append_nil, List.length_range]

/-- The bytes of an aligned block of module DRAM. -/
def Desc.block (d : Desc) : Nat := if d.op == 4 then 256 else 512

theorem Desc.block_eq (d : Desc) : d.block = 256 ∨ d.block = 512 := by
  unfold Desc.block
  split
  · exact .inl rfl
  · exact .inr rfl

/-- A descriptor moves one row that lies in one aligned block. -/
structure Desc.OneRow (d : Desc) : Prop where
  rows : d.rows = 1
  bytes : 1 ≤ d.rowBytes
  inBlock : d.modAddr % d.block + d.rowBytes ≤ d.block

theorem Desc.OneRow.burstLen {d : Desc} (h : d.OneRow) : d.burstLen 0 = d.rowBytes := by
  obtain ⟨rows, bytes, inBlock⟩ := h
  refine length_takeWhile_range (le_trans (Nat.le_add_left _ _) inBlock) (fun k hk => ?_) (by simp [rows])
  have same : (d.modAddr + k) / d.block = d.modAddr / d.block := by
    rcases d.block_eq with block | block <;> rw [block] at inBlock ⊢ <;> omega
  have place : d.modByte 0 = d.modAddr := Desc.modByte_row bytes
  rw [Nat.zero_add, rows, Nat.mul_one, Desc.modByte_row hk, place, decide_eq_true hk]
  exact beq_iff_eq.mpr same

/-- The state after the burst of a row, its ring debited. -/
def State.rowMoved (s : State) (n : Nat) (d : Desc) (data : List Nat) : State :=
  (s.burst d 0 d.rowBytes (data.take d.rowBytes)).debit n (if d.op == 4 then 2 * d.rowBytes else d.rowBytes)

theorem State.bursts_row {s : State} {n : Nat} {d : Desc} (data : List Nat) (h : d.OneRow) (hb : s.mayBurst n = true)
    (hd : d.op = 1 → d.rowBytes ≤ data.length) (fuel : Nat) :
    s.bursts n d 0 data none (fuel + 2) = (.all, s.rowMoved n d data) := by
  have first : ¬ d.rowBytes * d.rows ≤ 0 := by
    rw [h.rows, Nat.mul_one]
    exact Nat.not_le.mpr h.bytes
  have all : d.rowBytes * d.rows ≤ 0 + d.rowBytes := by rw [h.rows, Nat.mul_one, Nat.zero_add]
  have whole : (d.op == 1 && decide (data.length < d.rowBytes)) = false := by
    rw [Bool.and_eq_false_imp]
    exact fun op => decide_eq_false (Nat.not_lt.mpr (hd (by simpa using op)))
  rw [State.bursts, if_neg first, if_neg (by simp [hb])]
  simp only [ite_self, h.burstLen, whole, Bool.false_eq_true, if_false]
  rw [State.bursts, if_pos all]
  rfl

/-! ### The descriptor begins, moves its row and ends (R310, R327) -/

theorem State.pass_surfFails (s : State) (t : Nat) (d : Desc) : (s.pass t).surfFails d = s.surfFails d := by
  simp only [State.surfFails, State.pass_descFails]

theorem State.begins_turnOf (s : State) (n i : Nat) : (s.begins n i).turnOf n i = s.turnOf n i := by
  have index : (fun e : Desc => e.index != i) ∘ (fun e => if e.index == i then { e with started := true } else e) =
      fun e => e.index != i := by
    funext e
    simp only [Function.comp_apply]
    split <;> rfl
  have done : (fun e : Desc => e.done.isSome) ∘ (fun e => if e.index == i then { e with started := true } else e) =
      fun e => e.done.isSome := by
    funext e
    simp only [Function.comp_apply]
    split <;> rfl
  rw [State.turnOf, State.turnOf, State.begins, State.setDesc, State.ring_setRing_same, List.takeWhile_map, List.all_map, index, done]

theorem State.begins_mayBurst (s : State) (n i : Nat) : (s.begins n i).mayBurst n = s.mayBurst n := by
  rw [State.mayBurst, State.begins, State.setDesc, State.ring_setRing_same]
  rfl

/-- The bytes moved stand in the descriptor. -/
def State.rowCounted (s : State) (n i : Nat) (d : Desc) (data : List Nat) : State :=
  ((s.begins n i).rowMoved n d data).setDesc n i (fun e => { e with
    used := State.burstsUsed d ((s.begins n i).ring n).debt (((s.begins n i).rowMoved n d data).ring n).debt })

/-- A descriptor of one row that may run moves it and ends with success. -/
theorem State.surfRun_row {s : State} {n i op : Nat} {d : Desc} (data : List Nat) (hd : s.flyingAt n i 1 op = some d)
    (hs : d.started = false) (hu : d.used = 0) (hf : s.surfFails d = none) (h : d.OneRow) (ht : s.turnOf n i = true)
    (hb : s.mayBurst n = true) (hm : s.mayMaster = true) (hl : d.op = 1 → d.rowBytes ≤ data.length) :
    s.surfRun n i op data none = (s.rowCounted n i d data).finish n i 0 0 0 := by
  have rows : (d.rows == 0 || d.rowBytes == 0) = false := by
    obtain ⟨one, bytes, -⟩ := h
    simp [one, Nat.ne_of_gt bytes]
  have runs : (!(s.begins n i).mayMaster || !(s.begins n i).turnOf n i) = false := by
    have master : (s.begins n i).mayMaster = true := hm
    rw [master, s.begins_turnOf, ht]
    rfl
  have moved := State.bursts_row (s := s.begins n i) data h ((s.begins_mayBurst n i).trans hb) hl 65535
  unfold State.surfRun
  rw [hd]
  simp only [hs, hf, Bool.false_eq_true, if_false, rows, runs, hu, moved]
  rfl

theorem State.sendRows_host (d : Desc) : ∀ (fuel : Nat) (s : State) (p len : Nat), (s.sendRows d p fuel len).host = s.host
  | 0, _, _, _ => rfl
  | _ + 1, _, _, 0 => rfl
  | fuel + 1, _, _, _ + 1 => State.sendRows_host d fuel _ _ _

theorem State.burst_host (s : State) (d : Desc) (p len : Nat) (data : List Nat) : (s.burst d p len data).host = s.host := by
  unfold State.burst
  split
  · rfl
  · exact State.sendRows_host d len s p len
  · rfl
  · rfl

/-- The bytes of one row go to the host in one write. -/
theorem State.sendRows_row (s : State) {d : Desc} (h : 1 ≤ d.rowBytes) : s.sendRows d 0 d.rowBytes d.rowBytes =
    s.emit (.hostBytes d.hostAddr (Mem.reads s.dram d.modAddr d.rowBytes) s.host.conf.relaxed) := by
  obtain ⟨k, bytes⟩ := Nat.exists_eq_add_of_le' h
  have mod : d.modByte 0 = d.modAddr := Desc.modByte_row h
  have host : d.hostByte 0 = d.hostAddr := Desc.hostByte_row h
  have whole : min d.rowBytes (d.rowBytes - 0 % d.rowBytes) = d.rowBytes := by simp
  rw [bytes] at whole
  conv_lhs => rw [bytes]
  rw [State.sendRows, bytes, whole, Nat.sub_self, mod, host]
  cases k <;> rfl

theorem State.rowCounted_works {s : State} {n i : Nat} (d : Desc) (data : List Nat) (h : s.Works n i) :
    (s.rowCounted n i d data).Works n i :=
  State.Works.setDesc ((h.begins.of_host (State.burst_host _ d _ _ _)).debit _) (fun _ => rfl) (fun _ => rfl)

/-- The command of a descriptor of one row that may run: it ends with success, and memory and what was sent are as its burst left
them. -/
theorem State.run_surfRow {s : State} {t n i op : Nat} {d : Desc} (data : List Nat) (hd : s.flyingAt n i 1 op = some d)
    (hs : d.started = false) (hu : d.used = 0) (hf : s.surfFails d = none) (h : d.OneRow) (ht : s.turnOf n i = true)
    (hb : (s.pass t).mayBurst n = true) (hm : s.mayMaster = true) (hl : d.op = 1 → d.rowBytes ≤ data.length) :
    (s.run t (·.surfRun n i op data none)).ended n i (0, 0, 0) ∧
    (s.run t (·.surfRun n i op data none)).dram = (((s.pass t).begins n i).burst d 0 d.rowBytes (data.take d.rowBytes)).dram ∧
    (s.run t (·.surfRun n i op data none)).out = (((s.pass t).begins n i).burst d 0 d.rowBytes (data.take d.rowBytes)).out := by
  have flies : (s.pass t).flyingAt n i 1 op = some d := (s.pass_flyingAt t n i 1 op).trans hd
  have passes : (s.pass t).surfFails d = none := (s.pass_surfFails t d).trans hf
  have effect := State.surfRun_row data flies hs hu passes h ((s.pass_turnOf t n i).trans ht) hb ((s.pass_mayMaster t).trans hm) hl
  refine ⟨?_, ?_, ?_⟩
  · refine State.ended_of_host ?_ (State.run_host s t _)
    rw [effect]
    exact State.finish_ended 0 0 0 (State.rowCounted_works d data (.of_flyingAt flies))
  · rw [State.run_dram, effect]
    rfl
  · rw [State.run_out, effect]
    rfl

/-! ### What each burst writes -/

theorem State.burst_write (s : State) {d : Desc} {data : List Nat} (ho : d.op = 1) (hl : data.length = d.rowBytes) :
    (s.burst d 0 d.rowBytes data).dram = Mem.writes s.dram d.modAddr data := by
  simp only [State.burst, ho]
  refine Mem.scatter_consecutive data _ 0 _ fun k hk => ?_
  rw [Nat.zero_add, Desc.modByte_row (hl ▸ hk)]

theorem State.burst_read (s : State) {d : Desc} (data : List Nat) (ho : d.op = 2) (h : 1 ≤ d.rowBytes) :
    s.burst d 0 d.rowBytes data = s.emit (.hostBytes d.hostAddr (Mem.reads s.dram d.modAddr d.rowBytes) s.host.conf.relaxed) := by
  simp only [State.burst, ho]
  exact s.sendRows_row h

/-- The bytes of a row filled with the pattern word. -/
def Desc.rowFill (d : Desc) : List Nat := (List.range d.rowBytes).map (fun k => d.p 8 / 256 ^ (k % 4) % 256)

theorem State.burst_fill (s : State) {d : Desc} (data : List Nat) (ho : d.op = 3) :
    (s.burst d 0 d.rowBytes data).dram = Mem.writes s.dram d.modAddr d.rowFill := by
  have fill : (List.range d.rowBytes).map (fun k => d.p 8 / 256 ^ ((0 + k) % d.rowBytes % 4) % 256) = d.rowFill :=
    List.map_congr_left fun k hk => by rw [Nat.zero_add, Nat.mod_eq_of_lt (List.mem_range.mp hk)]
  simp only [State.burst, ho, fill]
  refine Mem.scatter_consecutive d.rowFill _ 0 _ fun k hk => ?_
  have inside : k < d.rowBytes := by simpa [Desc.rowFill] using hk
  rw [Nat.zero_add, Desc.modByte_row inside]

theorem State.burst_copy (s : State) {d : Desc} (data : List Nat) (ho : d.op = 4) :
    (s.burst d 0 d.rowBytes data).dram = Mem.copy s.dram d.modByte d.hostByte 0 d.rowBytes := by
  simp only [State.burst, ho]

theorem State.flyingAt_op {s : State} {n i cls op : Nat} {d : Desc} (h : s.flyingAt n i cls op = some d) : d.op = op := by
  unfold State.flyingAt at h
  split at h
  · have holds := List.find?_some h
    simp only [Bool.and_eq_true, beq_iff_eq] at holds
    exact holds.1.2
  · cases h

end Sys2Proof.Machine

open Sys2Proof Sys2Proof.Machine Sys2Proof.Machine.Reg

/-- Settles O31: a row in one aligned block is one burst, which moves the row's bytes one after another. -/
theorem surfaceDescriptors : Obligations.SurfaceDescriptors := by
  intro s t n i op d hd hs hu hf rows bytes block ht hb hm
  obtain rfl : d.op = op := State.flyingAt_op hd
  have row : d.OneRow := ⟨rows, bytes, by simpa [Desc.block] using block⟩
  have runs (data : List Nat) := State.run_surfRow data hd hs hu hf row ht hb hm
  refine ⟨fun ho data hl => ?write, fun ho => ?read, fun ho => ?fill, fun ho => ?copy⟩
  case write =>
    obtain ⟨ended, dram, -⟩ := runs data fun _ => hl.ge
    rw [ho] at ended dram
    have written := ((s.pass t).begins n i).burst_write (data := data) ho hl
    rw [List.take_of_length_le hl.le, written] at dram
    refine ⟨_, rfl, ended, dram, fun a ha => ?_⟩
    rw [dram]
    exact Mem.read_writes_outside data _ _ _ (hl ▸ ha)
  case read =>
    obtain ⟨ended, dram, out⟩ := runs [] fun op => absurd (ho.symm.trans op) (by decide)
    rw [ho] at ended dram out
    rw [State.burst_read _ _ ho bytes] at dram out
    exact ⟨_, rfl, ended, dram, by rw [out, ← s.pass_conf t]; rfl⟩
  case fill =>
    obtain ⟨ended, dram, -⟩ := runs [] fun op => absurd (ho.symm.trans op) (by decide)
    rw [ho] at ended dram
    rw [State.burst_fill _ _ ho] at dram
    have length : d.rowFill.length = d.rowBytes := by simp [Desc.rowFill]
    refine ⟨_, rfl, ended, fun k hk => ?_, fun a ha => ?_⟩
    · rw [dram, Mem.read_writes_inside d.rowFill _ _ k (length.symm ▸ hk)]
      simp [Desc.rowFill]
    · rw [dram]
      exact Mem.read_writes_outside d.rowFill _ _ _ (length.symm ▸ ha)
  case copy =>
    obtain ⟨ended, dram, -⟩ := runs [] fun op => absurd (ho.symm.trans op) (by decide)
    rw [ho] at ended dram
    rw [State.burst_copy _ _ ho] at dram
    refine ⟨_, rfl, ended, dram, fun a ha => ?_⟩
    rw [dram]
    refine Mem.read_copy_outside _ _ _ fun j hj => ?_
    rw [Nat.zero_add, Desc.modByte_row hj]
    omega

end

section
/-! PROOF. A mode request applies the overlay of its state with the effect of host writes (R497), and an entry of an overlay that
injects a fault with its reaction (R483, R484) takes the module into SAFE. -/

namespace Sys2Proof.Machine

open Reg

/-- A module in DARK whose SERVICE overlay injects ENC_FAULT (0x0703) with its reaction; the host holds LOCK_10, and its request for
SERVICE is in flight. -/
def faultingOverlay : State :=
  { Tests.flight 0 (Tests.desc 0x30 [5]) [] with
    house := { (Tests.flight 0 (Tests.desc 0x30 [5]) []).house with
      overlays := [⟨5, [(KEEPER_INJ_SUBJECT_OFF, 11 * 2 ^ 24), (KEEPER_INJ_CTRL_OFF, 2 ^ 31 + 2 ^ 29 + 0x0703)]⟩] }
    hk := { State.reset.hk with holder := [(10, .host)] } }

/-- Its request is one for SERVICE in DARK that passes its checks. -/
theorem faultingOverlay_request : faultingOverlay.flying 0 0 0x30 = some (Tests.desc 0x30 [5]) ∧
    faultingOverlay.descFails 0 (Tests.desc 0x30 [5]) [] = none ∧ faultingOverlay.house.mode = .dark ∧
    faultingOverlay.twinEn = false ∧ faultingOverlay.changing = false := by decide +kernel

/-- The request takes it into SAFE. -/
theorem faultingOverlay_safe : (faultingOverlay.run 0 fun s => s.modeRequestDesc 0 false true).house.mode = .safe := by
  decide +kernel

end Sys2Proof.Machine

open Sys2Proof Sys2Proof.Machine Sys2Proof.Machine.Reg

/-- Refutes O30: the second clause is about every state, and so about one whose SERVICE overlay injects a fault with its reaction. The
request applies the overlay at once, and the module is in SAFE where the statement has it in DARK. -/
theorem not_regWriteAndModeRequests : ¬ Obligations.RegWriteAndModeRequests := by
  rintro ⟨-, service, -⟩
  obtain ⟨flying, passes, dark, single, still⟩ := faultingOverlay_request
  obtain ⟨plain, -⟩ := service faultingOverlay 0 0 (Tests.desc 0x30 [5]) true flying rfl passes (by decide) dark single still
  obtain ⟨s', ran, mode, -⟩ := plain (by decide)
  have after : s' = faultingOverlay.run 0 fun s => s.modeRequestDesc 0 false true := (Host.Outcome.next.inj ran).symm
  rw [after, faultingOverlay_safe] at mode
  cases mode

end

section
/-! PROOF. The mailboxes (R341 to R356): what a channel holds after a push, a read, a tear, a reply without room and a reset, and what
messages between the host and firmware leave alone. -/

namespace Sys2Proof.Machine

open Reg

/-! ### Registers beside the guards' after a command -/

theorem State.run_regOf (s : State) (t : Nat) (g : State → State) {o : Nat} (ha : o / 65536 ≠ 9) (hb : o / 65536 ≠ 10) :
    (s.run t g).reg o = (g (s.pass t)).reg o :=
  State.run_reg s t g (by rintro rfl; exact ha rfl) (by rintro rfl; exact hb rfl)

theorem State.run_getOf (s : State) (t : Nat) (g : State → State) {f : Field} (ha : f.off / 65536 ≠ 9) (hb : f.off / 65536 ≠ 10) :
    (s.run t g).get f = (g (s.pass t)).get f := State.get_of_reg (s.run_regOf t g ha hb)

theorem State.run_flagOf (s : State) (t : Nat) (g : State → State) {f : Field} (ha : f.off / 65536 ≠ 9) (hb : f.off / 65536 ≠ 10) :
    (s.run t g).flag f = (g (s.pass t)).flag f := State.flag_of_reg (s.run_regOf t g ha hb)

/-- An effect on registers beside the guards', which leaves the clock, the queue and HOUSE alone, is the whole of its command. -/
theorem State.run_effect {s x : State} {t : Nat} {g : State → State} {bs : List Nat} (light : LightSafe s)
    (effect : g (s.pass t) = x) (now : x.now = (s.pass t).now) (pending : x.pending = (s.pass t).pending)
    (house : x.house = (s.pass t).house) (regs : Elsewhere bs (s.pass t) x) (ha : 9 ∉ bs) (hb : 10 ∉ bs) : s.run t g = x := by
  subst effect
  exact State.run_of_lightSafe light now pending (house.trans (s.pass_house t))
    ((regs.get (f := GUARD_A_STATUS_EN_A) ha).trans (s.pass_get t _))
    ((regs.get (f := GUARD_B_STATUS_EN_B) hb).trans (s.pass_get t _))

/-- A command on a channel of a powered module is its effect. -/
theorem State.run_channel {s : State} {t ch : Nat} (f : State → State) (hc : ch < 8) (hp : s.powered = true) :
    s.run t (fun s => if ch < 8 then s.inside f else s) = s.run t f := by
  rw [State.run, State.run, if_pos hc, State.inside_powered f (by rwa [State.pass_powered])]

/-! ### Writes and reads of the mailboxes and the locks -/

/-- In the blocks of the mailboxes and the locks a register that takes a write does so by `writeHouse`. -/
theorem State.regWrite_house {s : State} {m : Master} {off : Nat} (v : Nat) (h : s.takes m off = true)
    (hb : off / 65536 = 12 ∨ off / 65536 = 13) : s.regWrite m off 4 v = (s.writeHouse m off v).wroteNow m off := by
  have runs : s.commitStopped off = false := by
    simp only [State.takes, Bool.and_eq_true, Bool.not_eq_true'] at h
    exact h.2
  rw [State.regWrite_takes v h]
  rcases hb with hb | hb
  · rw [State.regTakes, runs, hb]; rfl
  · rw [State.regTakes, runs, hb]; rfl

/-- A register of a channel, and a lock, is none of the registers that `writeHouse` names. -/
theorem series_not_single {off : Nat} (h : 0xC0000 ≤ off ∧ off < 0xC8000 ∨ 0xD0000 ≤ off ∧ off < 0xD0040) :
    (off == SPLICE_LANE_CLEAR_OFF) = false ∧ (off == MBOX_DBELL_SET_OFF) = false ∧ (off == CVU_CLEAR_OFF) = false := by
  simp only [beq_eq_false_iff_ne, SPLICE_LANE_CLEAR_OFF, MBOX_DBELL_SET_OFF, CVU_CLEAR_OFF]
  omega

theorem State.writeHouse_tx (s : State) (m : Master) (v : Nat) {n : Nat} (hn : n < 8) :
    s.writeHouse m (MBOX_TX_OFF n) v = s.mboxPush n v := by
  obtain ⟨splice, bell, cvu⟩ := series_not_single (off := MBOX_TX_OFF n) (.inl (by rw [MBOX_TX_OFF]; omega))
  have tx : copyAt (MBOX_TX_OFF 0) 8 4096 (MBOX_TX_OFF n) = some n := copyAt_place (base := 0xC0000) (by decide) hn
  rw [State.writeHouse, splice, bell, cvu, tx]
  rfl

theorem State.writeHouse_control (s : State) (m : Master) (v : Nat) {n : Nat} (hn : n < 8) :
    s.writeHouse m (MBOX_CH_CTRL_OFF n) v = s.mboxReset n v := by
  obtain ⟨splice, bell, cvu⟩ := series_not_single (off := MBOX_CH_CTRL_OFF n) (.inl (by rw [MBOX_CH_CTRL_OFF]; omega))
  have tx : copyAt (MBOX_TX_OFF 0) 8 4096 (MBOX_CH_CTRL_OFF n) = none :=
    copyAt_none (by simp only [MBOX_TX_OFF, MBOX_CH_CTRL_OFF]; omega)
  have control : copyAt (MBOX_CH_CTRL_OFF 0) 8 4096 (MBOX_CH_CTRL_OFF n) = some n :=
    copyAt_place (base := 0xC001C) (by decide) hn
  rw [State.writeHouse, splice, bell, cvu, tx, control]
  rfl

theorem State.writeHouse_lock (s : State) (m : Master) (v : Nat) {n : Nat} (hn : n < 16) :
    s.writeHouse m (LOCK_OFF n) v = s.lockRelease n m v := by
  obtain ⟨splice, bell, cvu⟩ := series_not_single (off := LOCK_OFF n) (.inr (by rw [LOCK_OFF]; omega))
  have tx : copyAt (MBOX_TX_OFF 0) 8 4096 (LOCK_OFF n) = none := copyAt_none (by simp only [MBOX_TX_OFF, LOCK_OFF]; omega)
  have control : copyAt (MBOX_CH_CTRL_OFF 0) 8 4096 (LOCK_OFF n) = none :=
    copyAt_none (by simp only [MBOX_CH_CTRL_OFF, LOCK_OFF]; omega)
  have lock : copyAt (LOCK_OFF 0) 16 4 (LOCK_OFF n) = some n := copyAt_place (base := 0xD0000) (by decide) hn
  rw [State.writeHouse, splice, bell, cvu, tx, control, lock]
  rfl

theorem State.writeHouse_dbellSet (s : State) (m : Master) (v : Nat) : s.writeHouse m MBOX_DBELL_SET_OFF v = s.dbellSet v := rfl

/-- A read of MBOX_n_RX takes the next word of its channel. -/
theorem State.readOut_mailbox {s : State} {r : Reader} {n : Nat} (hn : n < 8) (hm : s.reaches r.master = true)
    (hs : s.stalls (MBOX_RX_OFF n) = false) :
    s.readOut r (MBOX_RX_OFF n) = (s.mboxRead n).2.emit (.readData (cutRead r.sub r.bytes (s.mboxRead n).1)) := by
  have register : ∀ n < 8, (regAt (MBOX_RX_OFF n)).isNone = false := by decide +kernel
  have lock : copyAt (LOCK_OFF 0) 16 4 (MBOX_RX_OFF n) = none := by
    have below : MBOX_RX_OFF n < LOCK_OFF 0 := by rw [MBOX_RX_OFF, LOCK_OFF]; omega
    exact if_neg (by rw [decide_eq_false (Nat.not_le.mpr below)]; exact Bool.false_ne_true)
  have mine : copyAt (MBOX_RX_OFF 0) 8 4096 (MBOX_RX_OFF n) = some n := copyAt_place (base := 0xC0010) (by decide) hn
  have read : s.regRead r.master (MBOX_RX_OFF n) = s.mboxRead n := by
    rw [State.regRead, if_neg (by rw [hm, register n hn]; decide), lock, mine]
  rw [State.readOut_locked hm hs, State.readNow, read]

/-- A read of LOCK_n is the master's bid for the lock. -/
theorem State.readOut_lock {s : State} {r : Reader} {n : Nat} (hn : n < 16) (hm : s.reaches r.master = true)
    (hs : s.stalls (LOCK_OFF n) = false) :
    s.readOut r (LOCK_OFF n) =
      (s.lockRead n r.master).2.emit (.readData (cutRead r.sub r.bytes (s.lockRead n r.master).1)) := by
  have register : ∀ n < 16, (regAt (LOCK_OFF n)).isNone = false := by decide +kernel
  have mine : copyAt (LOCK_OFF 0) 16 4 (LOCK_OFF n) = some n := copyAt_place (base := 0xD0000) (by decide) hn
  have read : s.regRead r.master (LOCK_OFF n) = s.lockRead n r.master := by
    rw [State.regRead, if_neg (by rw [hm, register n hn]; decide), mine]
  rw [State.readOut_locked hm hs, State.readNow, read]

/-! ### Channels -/

/-- The status fields of a channel after a command. -/
theorem State.run_channelFlag (s : State) (t : Nat) (g : State → State) {n : Nat} {f : Field} (hn : n < 8)
    (h : f.off = MBOX_TX_STATUS_OFF n ∨ f.off = MBOX_RX_STATUS_OFF n) : (s.run t g).flag f = (g (s.pass t)).flag f := by
  simp only [MBOX_TX_STATUS_OFF, MBOX_RX_STATUS_OFF] at h
  exact s.run_flagOf t g (by omega) (by omega)

theorem State.mbox_of_hk {s s' : State} (h : s'.hk.mbox = s.hk.mbox) (n : Nat) : s'.mbox n = s.mbox n :=
  congrArg (sget (fun _ => Mbox.empty) · n) h

@[simp] theorem State.pass_mbox (s : State) (t n : Nat) : (s.pass t).mbox n = s.mbox n :=
  State.mbox_of_hk (by rw [State.pass_hk]) n

theorem State.run_mbox (s : State) (t : Nat) (g : State → State) (n : Nat) : (s.run t g).mbox n = (g (s.pass t)).mbox n :=
  State.mbox_of_hk (by rw [State.run_hk]) n

@[simp] theorem State.mbox_setMbox_same (s : State) (n : Nat) (m : Mbox) : (s.setMbox n m).mbox n = m := sget_sput_same _ _ _

theorem State.set_mbox (s : State) (f : Field) (v n : Nat) : (s.set f v).mbox n = s.mbox n := rfl

theorem State.bump_mbox (s : State) (f : Field) (n : Nat) : (s.bump f).mbox n = s.mbox n := State.set_mbox _ _ _ _

theorem State.latch_mbox (s : State) (f : Field) (n : Nat) : (s.latch f).mbox n = s.mbox n := rfl

theorem State.emit_mbox (s : State) (o : Output) (n : Nat) : (s.emit o).mbox n = s.mbox n := rfl

theorem State.wroteNow_mbox (s : State) (m : Master) (off n : Nat) : (s.wroteNow m off).mbox n = s.mbox n := rfl

theorem State.wroteNow_flag (s : State) (m : Master) (off : Nat) (f : Field) : (s.wroteNow m off).flag f = s.flag f := rfl

/-- A channel's change shows in its registers and in nothing else. -/
theorem State.setMbox_eq (s : State) (n : Nat) (m : Mbox) : ∃ regs, s.setMbox n m =
    { s with regs := regs, hk := { s.hk with mbox := sput (fun _ => Mbox.empty) s.hk.mbox n m } } := by
  simp only [State.setMbox, State.setFlag, State.set]
  exact ⟨_, rfl⟩

theorem State.setMbox_now (s : State) (n : Nat) (m : Mbox) : (s.setMbox n m).now = s.now := by
  obtain ⟨regs, e⟩ := s.setMbox_eq n m
  rw [e]

theorem State.setMbox_out (s : State) (n : Nat) (m : Mbox) : (s.setMbox n m).out = s.out := by
  obtain ⟨regs, e⟩ := s.setMbox_eq n m
  rw [e]

theorem State.setMbox_house (s : State) (n : Nat) (m : Mbox) : (s.setMbox n m).house = s.house := by
  obtain ⟨regs, e⟩ := s.setMbox_eq n m
  rw [e]

theorem State.setMbox_keeper (s : State) (n : Nat) (m : Mbox) : (s.setMbox n m).keeper = s.keeper := by
  obtain ⟨regs, e⟩ := s.setMbox_eq n m
  rw [e]

/-- A doorbell bit notifies firmware while its mask bit is 1, unless it is one of the host's (R354). -/
theorem State.bell_hk (s : State) (b : Nat) : (s.bell b).hk =
    if s.flag ⟨MBOX_DBELL_MASK_OFF, b, 1⟩ && !(decide (8 ≤ b) && decide (b < 24)) then { s.hk with bells := s.hk.bells + 1 }
    else s.hk := by
  have mask : (s.latch ⟨MBOX_DBELL_OFF, b, 1⟩).flag ⟨MBOX_DBELL_MASK_OFF, b, 1⟩ = s.flag ⟨MBOX_DBELL_MASK_OFF, b, 1⟩ :=
    State.flag_of_reg (State.reg_set_other _ _ (show MBOX_DBELL_MASK_OFF ≠ MBOX_DBELL_OFF by decide))
  simp only [State.bell, mask]
  cases s.flag ⟨MBOX_DBELL_MASK_OFF, b, 1⟩
  · rfl
  · cases hb : decide (8 ≤ b) && decide (b < 24)
    · rfl
    · exact State.raise_hk _ 3

theorem State.bell_channels (s : State) (b : Nat) : (s.bell b).hk.mbox = s.hk.mbox := by
  rw [State.bell_hk]
  split <;> rfl

theorem State.notifyFw_mbox (s : State) (n k : Nat) : (s.notifyFw n).mbox k = s.mbox k := by
  refine State.mbox_of_hk ?_ k
  unfold State.notifyFw
  split
  · exact s.bell_channels n
  · rfl

theorem State.notifyHost_mbox (s : State) (n k : Nat) : (s.notifyHost n).mbox k = s.mbox k := by
  refine State.mbox_of_hk ?_ k
  unfold State.notifyHost
  split
  · exact s.bell_channels _
  · rw [State.raise_hk]

/-! ### A push, a read, a tear (R343 to R345) -/

/-- A channel with room after a push of a word at a time: a message of LEN + 1 words is complete. -/
def Mbox.pushed (m : Mbox) (w now : Nat) : Mbox :=
  let part := m.txPart ++ [w]
  let since := if m.txPart == [] then now else m.txSince
  if part.length = msgLen (part.getD 0 0) + 1 then { m with tx := m.tx ++ [part], txPart := [], txSince := since, spoken := true }
  else { m with txPart := part, txSince := since }

theorem State.mboxPush_room {s : State} {n : Nat} (w : Nat) (h : (s.mbox n).txCount ≠ 8) :
    (s.mboxPush n w).mbox n = (s.mbox n).pushed w s.now := by
  unfold State.mboxPush Mbox.pushed
  extract_lets m part since
  rw [if_neg (by simpa using h)]
  by_cases full : part.length = msgLen (part.getD 0 0) + 1
  · rw [if_pos (by simpa using full), if_pos full, State.notifyFw_mbox, State.mbox_setMbox_same]
  · rw [if_neg (by simpa using full), if_neg full, State.mbox_setMbox_same]

theorem State.mboxPush_full {s : State} {n : Nat} (w : Nat) (h : (s.mbox n).txCount = 8) :
    s.mboxPush n w = s.mboxDrop n (MBOX_TX_STATUS_DROP n) := by
  simp [State.mboxPush, h]

/-- The channel without its incomplete message. -/
def Mbox.whole (m : Mbox) : Mbox := { m with txPart := [] }

theorem State.mboxDrop_mbox (s : State) (n : Nat) (f : Field) : (s.mboxDrop n f).mbox n = (s.mbox n).whole := by
  unfold State.mboxDrop
  extract_lets m
  rw [State.bump_mbox, State.latch_mbox, State.mbox_setMbox_same]
  rfl

/-- Its status says why the message was discarded. -/
theorem State.mboxDrop_flag (s : State) {n : Nat} {f : Field} (hn : f.off = MBOX_TX_STATUS_OFF n) (h32 : f.lsb + f.width ≤ 32)
    (h1 : f.width = 1) : (s.mboxDrop n f).flag f = true := by
  have apart : f.off ≠ MBOX_ERR_DISCARDS.off := by
    rw [hn, MBOX_TX_STATUS_OFF]
    change 0xC0004 + 0x1000 * n ≠ 0xC8010
    omega
  unfold State.mboxDrop State.bump State.bumpBy
  rw [State.flag_set_other _ _ h32 (.inl apart), State.latch_flag, State.flag_set_same _ h32 h1]

theorem State.mboxTorn_due {s : State} {n : Nat} (hp : (s.mbox n).txPart ≠ []) (h : 10000000 + (s.mbox n).txSince ≤ s.now) :
    s.mboxTorn n = s.mboxDrop n (MBOX_TX_STATUS_TORN n) := by
  rw [State.mboxTorn, if_pos h, State.mboxTear, if_neg (by simpa using hp)]

/-- The channel without the first word of its head message. -/
def Mbox.advanced (m : Mbox) (r : List Nat) (rest : List (List Nat)) : Mbox :=
  { m with rx := if r = [] then rest else r :: rest, rxWait := [] }

/-- The next word of the head message goes out; with nothing waiting for room, nothing takes its place. -/
theorem State.mboxRead_next {s : State} {n w : Nat} {r : List Nat} {rest : List (List Nat)}
    (h : (s.mbox n).rx = (w :: r) :: rest) (hw : (s.mbox n).rxWait = []) :
    s.mboxRead n = (w, s.setMbox n ((s.mbox n).advanced r rest)) := by
  simp [State.mboxRead, h, hw, State.mboxFlush, Mbox.advanced]

theorem State.mboxRead_empty {s : State} {n : Nat} (h : (s.mbox n).rx = []) :
    s.mboxRead n = (0, s.latch (MBOX_RX_STATUS_UNDER n)) := by
  simp [State.mboxRead, h]

/-! ### A reply without room, and a reset (R347, R356) -/

/-- The channels' registers stand in the block of the mailboxes. -/
theorem State.setMbox_elsewhere (s : State) {n : Nat} (hn : n < 8) (m : Mbox) : Elsewhere [12] s (s.setMbox n m) := by
  have tx : MBOX_TX_STATUS_OFF n / 65536 ∈ [12] := by rw [MBOX_TX_STATUS_OFF, List.mem_singleton]; omega
  have rx : MBOX_RX_STATUS_OFF n / 65536 ∈ [12] := by rw [MBOX_RX_STATUS_OFF, List.mem_singleton]; omega
  have stored : Elsewhere [12] s { s with hk := { s.hk with mbox := sput (fun _ => Mbox.empty) s.hk.mbox n m } } := .of_regs rfl
  unfold State.setMbox
  exact ((((((((((stored.set _ tx).setFlag _ tx).set _ tx).setFlag _ tx).set _ rx).setFlag _ rx).set _ rx).setFlag _ rx).setFlag
    _ (by simp [MBOX_STATUS_OFF])).setFlag _ (by simp [MBOX_STATUS_OFF]))

/-- The channel without the replies that wait for room. -/
def Mbox.unwaiting (m : Mbox) : Mbox := { m with rxWait := [] }

/-- The only reply that waits is discarded and counted. -/
def State.replyLost (s : State) (n : Nat) : State :=
  ((s.setMbox n (s.mbox n).unwaiting).bump (MBOX_RX_STATUS_LOST n)).bump MBOX_ERR_TIMEOUTS

theorem State.mboxReplyTimeout_due {s : State} {n x : Nat} {w : List Nat} (h : (s.mbox n).rxWait = [(w, x)])
    (ht : 10000000 + x ≤ s.now) : s.mboxReplyTimeout n = (s.replyLost n).fault 0x0A01 10 (subj 17 n) := by
  simp [State.mboxReplyTimeout, h, Nat.not_lt.mpr ht, State.mboxFlush, State.replyLost, Mbox.unwaiting]

theorem State.replyLost_mbox (s : State) (n : Nat) : (s.replyLost n).mbox n = (s.mbox n).unwaiting := by
  rw [State.replyLost, State.bump_mbox, State.bump_mbox, State.mbox_setMbox_same]

theorem State.replyLost_elsewhere (s : State) {n : Nat} (hn : n < 8) : Elsewhere [12] s (s.replyLost n) :=
  ((s.setMbox_elsewhere hn _).bump (f := MBOX_RX_STATUS_LOST n)
    (by change (0xC0014 + 0x1000 * n) / 65536 ∈ [12]; rw [List.mem_singleton]; omega)).bump (by decide)

/-- A doorbell bit that is cleared reads 0, whatever other bit is cleared after it. -/
theorem State.clearBell_flag (s : State) {b : Nat} (hb : b < 32) :
    (s.set ⟨MBOX_DBELL_OFF, b, 1⟩ 0).flag ⟨MBOX_DBELL_OFF, b, 1⟩ = false := by
  rw [State.flag_iff, State.get_set_same s (f := ⟨MBOX_DBELL_OFF, b, 1⟩) 0 hb]
  rfl

/-- A channel that is reset is empty, with its doorbell bits cleared. -/
def State.emptied (s : State) (n : Nat) : State :=
  ((s.setMbox n Mbox.empty).set ⟨MBOX_DBELL_OFF, n, 1⟩ 0).set ⟨MBOX_DBELL_OFF, 8 + n, 1⟩ 0

theorem State.mboxReset_eq (s : State) {n v : Nat} (hv : v % 2 = 1) : s.mboxReset n v = { s.emptied n with
    hk := { (s.emptied n).hk with resets := sput (fun _ => 0) s.hk.resets n (sget (fun _ => 0) s.hk.resets n + 1) } } := by
  rw [State.mboxReset, if_neg (by simp [hv])]
  rfl

theorem State.emptied_mbox (s : State) (n : Nat) : (s.emptied n).mbox n = Mbox.empty := by
  rw [State.emptied, State.set_mbox, State.set_mbox, State.mbox_setMbox_same]

theorem State.emptied_flags (s : State) {n : Nat} (hn : n < 8) : (s.emptied n).flag ⟨MBOX_DBELL_OFF, n, 1⟩ = false ∧
    (s.emptied n).flag ⟨MBOX_DBELL_OFF, 8 + n, 1⟩ = false := by
  have low : n + 1 ≤ 32 := by omega
  have below : n + 1 ≤ 8 + n := by omega
  refine ⟨?_, State.clearBell_flag _ (by omega)⟩
  rw [State.emptied, State.flag_set_other _ 0 (g := ⟨MBOX_DBELL_OFF, n, 1⟩) low (.inr (.inr below)), State.clearBell_flag _ low]

end Sys2Proof.Machine

open Sys2Proof Sys2Proof.Machine Sys2Proof.Machine.Reg

/-- Settles O38: each command is one operation of its channel, which notices to firmware and to KEEPER leave as it is. -/
theorem mailboxQueues : Obligations.MailboxQueues := by
  refine ⟨?push, ?full, ?read, ?empty, ?torn, ?timeout, ?reset⟩
  case push =>
    intro s t n m v hn ht room
    have pushed := State.mboxPush_room (s := s.pass t) v.toNat (by rwa [State.pass_mbox])
    have channel : (s.run t fun s => if n < 8 then s.regWrite m (MBOX_TX_OFF n) 4 v.toNat else s).mbox n =
        (s.mbox n).pushed v.toNat (s.pass t).now := by
      rw [State.run_mbox, if_pos hn, State.regWrite_house _ ht (.inl (by rw [MBOX_TX_OFF]; omega)), State.writeHouse_tx _ _ _ hn,
        ← s.pass_mbox t n, ← pushed]
      rfl
    refine ⟨_, rfl, ?_⟩
    beta_reduce
    rw [channel, Mbox.pushed]
    split
    · exact ⟨rfl, rfl, rfl⟩
    · exact ⟨rfl, rfl⟩
  case full =>
    intro s t n m v hn ht full
    have effect : (if n < 8 then (s.pass t).regWrite m (MBOX_TX_OFF n) 4 v.toNat else s.pass t) =
        ((s.pass t).mboxDrop n (MBOX_TX_STATUS_DROP n)).wroteNow m (MBOX_TX_OFF n) := by
      rw [if_pos hn, State.regWrite_house _ ht (.inl (by rw [MBOX_TX_OFF]; omega)), State.writeHouse_tx _ _ _ hn,
        State.mboxPush_full _ (by rwa [State.pass_mbox])]
    have mine : (s.run t fun s => if n < 8 then s.regWrite m (MBOX_TX_OFF n) 4 v.toNat else s).mbox n = (s.mbox n).whole := by
      rw [State.run_mbox, effect, State.wroteNow_mbox, State.mboxDrop_mbox, State.pass_mbox]
    refine ⟨_, rfl, (congrArg Mbox.tx mine).trans rfl, congrArg Mbox.txPart mine, ?_⟩
    rw [State.run_channelFlag _ _ _ hn (.inl rfl), effect, State.wroteNow_flag]
    exact State.mboxDrop_flag _ rfl (by decide : 30 + 1 ≤ 32) rfl
  case read =>
    intro s t n w m r rest hn hm hs hr hw
    have effect : (if n < 8 then (s.pass t).readOut m (MBOX_RX_OFF n) else s.pass t) =
        ((s.pass t).setMbox n ((s.mbox n).advanced r rest)).emit
          (.readData (cutRead m.sub m.bytes w)) := by
      rw [if_pos hn, State.readOut_mailbox hn (by rwa [State.pass_reaches]) (by rwa [State.pass_stalls]),
        State.mboxRead_next (by rwa [State.pass_mbox]) (by rwa [State.pass_mbox]), State.pass_mbox]
    have mine : (s.run t fun s => if n < 8 then s.readOut m (MBOX_RX_OFF n) else s).mbox n =
        (s.mbox n).advanced r rest := by
      rw [State.run_mbox, effect, State.emit_mbox, State.mbox_setMbox_same]
    refine ⟨_, rfl, ?_, congrArg Mbox.rx mine, (congrArg Mbox.tx mine).trans rfl⟩
    rw [State.run_out, effect, State.emit, State.setMbox_out]
  case empty =>
    intro s t n m hn hm hs hr light
    have effect : (if n < 8 then (s.pass t).readOut m (MBOX_RX_OFF n) else s.pass t) =
        ((s.pass t).latch (MBOX_RX_STATUS_UNDER n)).emit (.readData 0) := by
      have nothing : cutRead m.sub m.bytes 0 = 0 := by simp [cutRead]
      rw [if_pos hn, State.readOut_mailbox hn (by rwa [State.pass_reaches]) (by rwa [State.pass_stalls]),
        State.mboxRead_empty (by rwa [State.pass_mbox]), nothing]
    have block : MBOX_RX_STATUS_OFF n / 65536 ∈ [12] := by rw [MBOX_RX_STATUS_OFF, List.mem_singleton]; omega
    have shown : Elsewhere [12] (s.pass t) (((s.pass t).latch (MBOX_RX_STATUS_UNDER n)).emit (.readData 0)) :=
      ((s.pass t).latch_elsewhere (f := MBOX_RX_STATUS_UNDER n) block).trans (State.emit_elsewhere _ _ _)
    exact congrArg Host.Outcome.next (State.run_effect light effect rfl rfl rfl shown (by decide) (by decide))
  case torn =>
    intro s t n hn hp part due
    have torn := State.mboxTorn_due (s := s.pass t) (n := n) (by rwa [State.pass_mbox]) (by rwa [State.pass_mbox, State.pass_now])
    have mine : (s.run t fun s => s.mboxTorn n).mbox n = (s.mbox n).whole := by
      rw [State.run_mbox, torn, State.mboxDrop_mbox, State.pass_mbox]
    refine ⟨_, congrArg Host.Outcome.next (State.run_channel (fun s => s.mboxTorn n) hn hp), congrArg Mbox.txPart mine,
      (congrArg Mbox.tx mine).trans rfl, ?_⟩
    rw [State.run_channelFlag _ _ _ hn (.inl rfl), torn]
    exact State.mboxDrop_flag _ rfl (by decide : 31 + 1 ≤ 32) rfl
  case timeout =>
    intro s t n x w hn hp hw due
    have lost := State.mboxReplyTimeout_due (s := s.pass t) (n := n) (by rwa [State.pass_mbox]) (by rwa [State.pass_now])
    have heard : (⟨0x0A01, 10, subj 17 n, 0, 0, 0, 0⟩ : Report).reaction = .nothing := rfl
    have mine : (s.run t fun s => s.mboxReplyTimeout n).mbox n = (s.mbox n).unwaiting := by
      have kept : (((s.pass t).replyLost n).fault 0x0A01 10 (subj 17 n)).hk = ((s.pass t).replyLost n).hk :=
        State.accept_hk _ _ _ _ _ _ heard
      rw [State.run_mbox, lost, State.mbox_of_hk (congrArg Hk.mbox kept), State.replyLost_mbox, State.pass_mbox]
    refine ⟨_, congrArg Host.Outcome.next (State.run_channel (fun s => s.mboxReplyTimeout n) hn hp), congrArg Mbox.rxWait mine,
      (congrArg Mbox.rx mine).trans rfl, fun hr => ?_⟩
    obtain ⟨free, pll, alive⟩ := (s.records_iff t).mp hr
    rw [State.run_newest, lost]
    refine State.fault_newest heard ?_ ?_ ?_
    · simpa [State.replyLost, State.setMbox_now, State.setMbox_keeper] using free
    · simpa [State.replyLost, State.setMbox_house] using pll
    · exact (((s.pass t).replyLost_elsewhere hn).flag (by decide)).trans (by rwa [State.pass_flag])
  case reset =>
    intro s t n m v hn ht hv
    obtain ⟨low, high⟩ := (s.pass t).emptied_flags hn
    have effect : (if n < 8 then (s.pass t).regWrite m (MBOX_CH_CTRL_OFF n) 4 v.toNat else s.pass t) =
        ({ (s.pass t).emptied n with hk := { ((s.pass t).emptied n).hk with
          resets := sput (fun _ => 0) s.hk.resets n (sget (fun _ => 0) s.hk.resets n + 1) } } : State).wroteNow m
          (MBOX_CH_CTRL_OFF n) := by
      rw [if_pos hn, State.regWrite_house _ ht (.inl (by rw [MBOX_CH_CTRL_OFF]; omega)), State.writeHouse_control _ _ _ hn,
        State.mboxReset_eq _ hv, State.pass_hk]
    have flag (b : Nat) : (s.run t fun s => if n < 8 then s.regWrite m (MBOX_CH_CTRL_OFF n) 4 v.toNat else s).flag
        ⟨MBOX_DBELL_OFF, b, 1⟩ = ((s.pass t).emptied n).flag ⟨MBOX_DBELL_OFF, b, 1⟩ := by
      have doorbells : MBOX_DBELL_OFF / 65536 = 12 := rfl
      rw [State.run_flagOf s t _ (f := ⟨MBOX_DBELL_OFF, b, 1⟩) (by rw [doorbells]; decide) (by rw [doorbells]; decide), effect]
      rfl
    refine ⟨_, rfl, ?_, (flag n).trans low, (flag (8 + n)).trans high, ?_⟩
    · rw [State.run_mbox, effect, State.wroteNow_mbox]
      exact (State.mbox_of_hk (s := (s.pass t).emptied n) rfl n).trans ((s.pass t).emptied_mbox n)
    · rw [State.run_hk, effect]
      exact sget_sput_same s.hk.resets n _

end

section
/-! PROOF. What messages between firmware and the host leave alone (R346 to R356), and the requests that firmware or the boot ROM answers
(R348, R349, R514 to R516). -/

namespace Sys2Proof.Machine

open Reg

/-! ### Messages and doorbells leave the rest of the module alone -/

/-- A channel's change leaves the doorbells and the upper half of MBOX_STATUS alone. -/
theorem State.setMbox_get (s : State) {n : Nat} (hn : n < 8) (m : Mbox) {f : Field} (h32 : f.lsb + f.width ≤ 32)
    (h : f.off = MBOX_DBELL_OFF ∨ f.off = MBOX_STATUS_OFF ∧ 16 ≤ f.lsb) : (s.setMbox n m).get f = s.get f := by
  simp only [MBOX_DBELL_OFF, MBOX_STATUS_OFF] at h
  have channel (x : State) (g : Field) (v : Nat) (hg : g.off = MBOX_TX_STATUS_OFF n ∨ g.off = MBOX_RX_STATUS_OFF n) :
      (x.set g v).get f = x.get f := by
    simp only [MBOX_TX_STATUS_OFF, MBOX_RX_STATUS_OFF] at hg
    exact State.get_set_other x v h32 (.inl (by omega))
  have pending (x : State) (k v : Nat) (hk : k < 16) : (x.set ⟨MBOX_STATUS_OFF, k, 1⟩ v).get f = x.get f := by
    refine State.get_set_other x v h32 ?_
    simp only [MBOX_STATUS_OFF]
    omega
  simp only [State.setMbox, State.setFlag]
  rw [pending _ n _ (by omega), pending _ (8 + n) _ (by omega), channel _ _ _ (.inr rfl), channel _ _ _ (.inr rfl),
    channel _ _ _ (.inr rfl), channel _ _ _ (.inr rfl), channel _ _ _ (.inl rfl), channel _ _ _ (.inl rfl),
    channel _ _ _ (.inl rfl), channel _ _ _ (.inl rfl)]
  rfl

/-- What messages, doorbells and notices change between two states: the channels, registers of the mailboxes, and what the host hears.
RECOVERY and FW_READY stand, and a doorbell bit that is set stays set. -/
structure Mailed (a s : State) : Prop where
  now : s.now = a.now
  house : s.house = a.house
  keeper : s.keeper = a.keeper
  holder : s.hk.holder = a.hk.holder
  regs : Elsewhere [2, 12] a s
  status : ∀ f : Field, f.off = MBOX_STATUS_OFF → 16 ≤ f.lsb → f.lsb + f.width ≤ 31 → s.get f = a.get f
  bells : ∀ b < 32, a.flag ⟨MBOX_DBELL_OFF, b, 1⟩ = true → s.flag ⟨MBOX_DBELL_OFF, b, 1⟩ = true

namespace Mailed

variable {a s s' : State}

theorem refl (s : State) : Mailed s s := ⟨rfl, rfl, rfl, rfl, .refl _ s, fun _ _ _ _ => rfl, fun _ _ h => h⟩

theorem trans (h : Mailed a s) (k : Mailed s s') : Mailed a s' :=
  ⟨k.now.trans h.now, k.house.trans h.house, k.keeper.trans h.keeper, k.holder.trans h.holder, h.regs.trans k.regs,
    fun f h1 h2 h3 => (k.status f h1 h2 h3).trans (h.status f h1 h2 h3), fun b hb hs => k.bells b hb (h.bells b hb hs)⟩

theorem ite {c : Prop} [Decidable c] {x y : State} (hx : Mailed a x) (hy : Mailed a y) : Mailed a (if c then x else y) := by
  split
  · exact hx
  · exact hy

theorem foldl {β : Type} {l : List β} {g : State → β → State} (h : Mailed a s) (hg : ∀ x, ∀ b ∈ l, Mailed x (g x b)) :
    Mailed a (l.foldl g s) := List.foldlRecOn l g h fun x hx b hb => hx.trans (hg x b hb)

theorem setMbox (h : Mailed a s) {n : Nat} (hn : n < 8) (m : Mbox) : Mailed a (s.setMbox n m) := by
  obtain ⟨regs, e⟩ := s.setMbox_eq n m
  refine h.trans ⟨s.setMbox_now n m, s.setMbox_house n m, s.setMbox_keeper n m, by rw [e],
    (s.setMbox_elsewhere hn m).mono (by decide), fun f ho hl hw => ?_, fun b hb hs => ?_⟩
  · exact s.setMbox_get hn m (by omega) (.inr ⟨ho, hl⟩)
  · rw [State.flag_iff, s.setMbox_get hn m (f := ⟨MBOX_DBELL_OFF, b, 1⟩) hb (.inl rfl)]
    exact hs

theorem raise (h : Mailed a s) {k : Nat} (hk : k < 8) : Mailed a (s.raise k) := by
  have shown := s.raise_elsewhere hk
  refine h.trans ⟨s.raise_now k, s.raise_house k, s.raise_keeper k, by rw [s.raise_hk], shown.mono (by decide), fun f ho _ _ => ?_,
    fun b _ hs => ?_⟩
  · exact shown.get (by rw [ho]; decide)
  · exact (shown.flag (show ¬ MBOX_DBELL_OFF / 65536 ∈ [2] by decide)).trans hs

/-- A doorbell bit is set. -/
theorem latch (h : Mailed a s) (b : Nat) : Mailed a (s.latch ⟨MBOX_DBELL_OFF, b, 1⟩) := by
  have block : MBOX_DBELL_OFF / 65536 ∈ [2, 12] := by decide
  refine h.trans ⟨rfl, rfl, rfl, rfl, s.latch_elsewhere block, fun f ho _ hw => ?_, fun c hc hs => ?_⟩
  · have other : f.off ≠ MBOX_DBELL_OFF := by rw [ho]; decide
    exact State.get_set_other s 1 (by omega) (.inl other)
  · rw [State.latch_flag]
    by_cases same : c = b
    · exact same ▸ State.flag_set_same s (f := ⟨MBOX_DBELL_OFF, c, 1⟩) hc rfl
    · have apart : b + 1 ≤ c ∨ c + 1 ≤ b := by omega
      rwa [State.flag_set_other s 1 (g := ⟨MBOX_DBELL_OFF, c, 1⟩) hc (.inr apart)]

theorem bell (h : Mailed a s) (b : Nat) : Mailed a (s.bell b) := by
  have told (x : State) (n : Nat) : Mailed x { x with hk := { x.hk with bells := n } } :=
    ⟨rfl, rfl, rfl, rfl, .of_regs rfl, fun _ _ _ _ => rfl, fun _ _ h => h⟩
  exact .ite (h.latch b) (.ite ((h.latch b).raise (by decide)) ((h.latch b).trans (told _ _)))

theorem wakeHkc1 (h : Mailed a s) : Mailed a s.wakeHkc1 :=
  h.trans ⟨rfl, rfl, rfl, rfl, .of_regs rfl, fun _ _ _ _ => rfl, fun _ _ h => h⟩

theorem notifyHost (h : Mailed a s) (n : Nat) : Mailed a (s.notifyHost n) := .ite (h.bell _) (h.raise (by decide))

theorem fwReadAll (h : Mailed a s) : Mailed a s.fwReadAll :=
  h.foldl fun x _ hn => .ite (.refl x) ((refl x).setMbox (List.mem_range.mp hn) _)

theorem fwSend (h : Mailed a s) {n : Nat} (hn : n < 8) (msg : List Nat) : Mailed a (s.fwSend n msg) :=
  .ite ((h.setMbox hn _).notifyHost n) (h.fwReadAll.setMbox hn _)

theorem notice (h : Mailed a s) (code : Nat) (data : List Nat) : Mailed a (s.notice code data) :=
  .ite h (h.foldl fun x _ hn => (refl x).fwSend (List.mem_range.mp (List.mem_of_mem_filter hn)) _)

theorem mode (h : Mailed a s) (b : Bool) : Mailed a (s.setFlag MBOX_STATUS_MODE b) := by
  refine h.trans ⟨rfl, rfl, rfl, rfl, (Elsewhere.refl _ s).setFlag b (by decide), fun f _ _ hw => ?_, fun c hc hs => ?_⟩
  · exact State.get_set_other s _ (by omega) (.inr (.inr hw))
  · have apart : MBOX_DBELL_OFF ≠ MBOX_STATUS_OFF := by decide
    exact (State.flag_set_other s _ (g := ⟨MBOX_DBELL_OFF, c, 1⟩) hc (.inl apart)).trans hs

theorem mboxMode (h : Mailed a s) : Mailed a s.mboxMode := by
  unfold State.mboxMode
  extract_lets want s1 tx rx s2
  have h1 : Mailed a s1 := h.mode want
  have h2 : Mailed a s2 := .ite h1.wakeHkc1 h1
  exact .ite h (.ite ((h1.foldl fun x b _ => (refl x).bell b).foldl fun x b _ => (refl x).bell (8 + b)) (.ite (h2.raise (by decide)) h2))

/-! ### What a request's answer reads of the module -/

theorem get (h : Mailed a s) {f : Field} (hf : ¬ f.off / 65536 ∈ [2, 12]) : s.get f = a.get f := h.regs.get hf

theorem slot (h : Mailed a s) (n : Nat) : s.slot n = a.slot n := congrArg (fun x : House => sget (fun _ => Slot.empty) x.slots n) h.house

theorem slotState (h : Mailed a s) : s.slotState = a.slotState := by
  rw [State.slotState, State.slotState, State.romServes, State.romServes, h.house, h.regs.flag (by decide)]

theorem preferred (h : Mailed a s) : s.preferred = a.preferred := by
  rw [State.preferred, h.slot 0, h.slot 1]
  rfl

theorem slotWriteStatus (h : Mailed a s) (slot off addr len : Nat) :
    s.slotWriteStatus slot off addr len = a.slotWriteStatus slot off addr len := by
  have rom : s.romServes = a.romServes := by rw [State.romServes, State.romServes, h.house, h.regs.flag (by decide)]
  rw [State.slotWriteStatus, State.slotWriteStatus, h.slotState, rom, h.house, h.get (by decide)]

end Mailed

/-! ### A message from firmware (R346, R347, R349) -/

/-- A channel after a message for which its RX queue has room. -/
def Mbox.sent (m : Mbox) (msg : List Nat) : Mbox := { m with rx := m.rx ++ [msg] }

theorem State.fwSend_room {s : State} {n : Nat} {msg : List Nat} (hw : (s.mbox n).rxWait = [])
    (hc : (s.mbox n).rxCount + msg.length ≤ 8) : (s.fwSend n msg).mbox n = (s.mbox n).sent msg := by
  have room : ((s.mbox n).rxWait == [] && decide ((s.mbox n).rxCount + msg.length ≤ 8)) = true := by simp [hw, hc]
  rw [State.fwSend, if_pos room, State.notifyHost_mbox, State.mbox_setMbox_same]
  rfl

/-- A channel of which the oldest message in the TX queue has been taken. -/
def Mbox.taken (m : Mbox) : Mbox := { m with tx := m.tx.drop 1 }

/-- The message at the head of a TX queue, with none before it that firmware has read. -/
theorem Mbox.head_taken {m : Mbox} {msg : List Nat} {rest : List (List Nat)} (hg : m.got = []) (ht : m.tx = msg :: rest) :
    m.oldest = some msg ∧ m.served = m.taken := by
  simp [Mbox.oldest, Mbox.served, Mbox.taken, hg, ht]

/-- A message at the head of a channel is taken, and the answer to it stands in the RX queue. -/
theorem State.taken_answered {s : State} {ch : Nat} {msg answer : List Nat} {rest : List (List Nat)} (hc : ch < 8)
    (ht : (s.mbox ch).tx = msg :: rest) (hw : (s.mbox ch).rxWait = []) (hr : (s.mbox ch).rxCount ≤ 2) (ha : answer.length ≤ 6) :
    (((s.setMbox ch (s.mbox ch).taken).fwSend ch answer).mbox ch).tx = rest ∧
    (((s.setMbox ch (s.mbox ch).taken).fwSend ch answer).mbox ch).rx = (s.mbox ch).rx ++ [answer] ∧
    Mailed s ((s.setMbox ch (s.mbox ch).taken).fwSend ch answer) := by
  have sent := State.fwSend_room (s := s.setMbox ch (s.mbox ch).taken) (n := ch) (msg := answer)
    (by rw [State.mbox_setMbox_same]; exact hw) (by rw [State.mbox_setMbox_same]; exact Nat.add_le_add hr ha)
  rw [State.mbox_setMbox_same] at sent
  rw [sent]
  exact ⟨congrArg (List.drop 1) ht, rfl, ((Mailed.refl s).setMbox hc _).fwSend hc _⟩

/-- A good request that stands at the head of its channel is the one that firmware takes. -/
theorem State.takeRequest_asked {s : State} {ch code : Nat} {msg : List Nat} {rest : List (List Nat)} (h : s.asked ch code msg rest) :
    s.takeRequest ch code = (some msg, s.setMbox ch (s.mbox ch).taken) := by
  obtain ⟨-, -, serves, got, tx, good, hcode, -, -⟩ := h
  obtain ⟨oldest, served⟩ := Mbox.head_taken got tx
  simp only [State.takeRequest, oldest, served, serves, good, hcode, beq_self_eq_true, Bool.and_self, if_true]

/-- The reply to a request that has been taken. -/
theorem State.reply_asked {s : State} {ch code : Nat} {msg data : List Nat} {rest : List (List Nat)} (h : s.asked ch code msg rest)
    (hd : data.length ≤ 5) :
    ((s.setMbox ch (s.mbox ch).taken).reply ch msg data).replied s ch msg rest data ∧
    Mailed s ((s.setMbox ch (s.mbox ch).taken).reply ch msg data) := by
  obtain ⟨hc, -, -, -, tx, -, -, waits, count⟩ := h
  obtain ⟨taken, answered, rest⟩ := State.taken_answered (answer := replyHeader (msg.getD 0 0) data.length :: data) hc tx waits count
    (Nat.succ_le_succ hd)
  exact ⟨⟨taken, answered⟩, rest⟩

/-! ### Requests at the time of their command -/

@[simp] theorem State.pass_serves (s : State) (t : Nat) : (s.pass t).serves = s.serves :=
  State.pass_keeps (·.serves) (fun _ _ _ _ _ _ _ => rfl) s t

@[simp] theorem State.pass_goodRequest (s : State) (t : Nat) (msg : List Nat) : (s.pass t).goodRequest msg = s.goodRequest msg :=
  State.pass_keeps (·.goodRequest msg) (fun _ _ _ _ _ _ _ => rfl) s t

@[simp] theorem State.pass_slotState (s : State) (t : Nat) : (s.pass t).slotState = s.slotState :=
  State.pass_keeps (·.slotState) (fun _ _ _ _ _ _ _ => rfl) s t

@[simp] theorem State.pass_preferred (s : State) (t : Nat) : (s.pass t).preferred = s.preferred :=
  State.pass_keeps (·.preferred) (fun _ _ _ _ _ _ _ => rfl) s t

@[simp] theorem State.pass_slot (s : State) (t n : Nat) : (s.pass t).slot n = s.slot n :=
  State.pass_keeps (·.slot n) (fun _ _ _ _ _ _ _ => rfl) s t

@[simp] theorem State.pass_slotWriteStatus (s : State) (t slot off addr len : Nat) :
    (s.pass t).slotWriteStatus slot off addr len = s.slotWriteStatus slot off addr len :=
  State.pass_keeps (·.slotWriteStatus slot off addr len) (fun _ _ _ _ _ _ _ => rfl) s t

theorem State.asked.pass {s : State} {ch code : Nat} {msg : List Nat} {rest : List (List Nat)} (h : s.asked ch code msg rest) (t : Nat) :
    (s.pass t).asked ch code msg rest := by
  simpa only [State.asked, State.pass_powered, State.pass_serves, State.pass_mbox, State.pass_goodRequest] using h

theorem State.run_slot (s : State) (t : Nat) (g : State → State) (n : Nat) : (s.run t g).slot n = (g (s.pass t)).slot n :=
  congrArg (fun x : House => sget (fun _ => Slot.empty) x.slots n) (State.run_house s t g)

/-- A command whose effect is a request's answer. -/
theorem State.run_replied {s : State} {t ch : Nat} {f : State → State} {msg data : List Nat} {rest : List (List Nat)}
    (h : (f (s.pass t)).replied (s.pass t) ch msg rest data) : (s.run t f).replied s ch msg rest data := by
  rw [State.replied, State.pass_mbox] at h
  rwa [State.replied, State.run_mbox]

/-! ### The boot-flash services (R514, R515) -/

section

variable {s : State} {ch : Nat} {msg : List Nat} {rest : List (List Nat)}

theorem State.slotInfo_asked (h : s.asked ch 0x100 msg rest) : s.slotInfo ch = (s.setMbox ch (s.mbox ch).taken).reply ch msg
    (if s.slotState = true then
      [s.get HOUSE_BOOT_SLOT + 4 * s.preferred + 16 * bit (s.slot 0).verified + 32 * bit (s.slot 1).verified,
        (s.slot 0).generation, (s.slot 1).generation, (s.slot 0).fwVersion, (s.slot 1).fwVersion] else [1, 0, 0, 0, 0]) := by
  have same : Mailed s (s.setMbox ch (s.mbox ch).taken) := (Mailed.refl s).setMbox h.1 _
  simp only [State.slotInfo, State.takeRequest_asked h, same.slotState, same.slot, same.preferred,
    same.get (f := HOUSE_BOOT_SLOT) (by decide)]
  cases s.slotState <;> rfl

/-- The operation that a SLOT_WRITE request asks for (R514). -/
def writeOp (ch : Nat) (msg : List Nat) : FlashOp :=
  ⟨ch, 0x101, msg.getD 1 0 % 2, msg.getD 2 0, msg.getD 3 0 + 2 ^ 32 * (msg.getD 1 0 / 2 ^ 8 % 2), msg.getD 4 0⟩

/-- The status of a SLOT_WRITE request. -/
def State.writeStatus (s : State) (msg : List Nat) : Nat :=
  s.slotWriteStatus (msg.getD 1 0 % 2) (msg.getD 2 0) (msg.getD 3 0 + 2 ^ 32 * (msg.getD 1 0 / 2 ^ 8 % 2)) (msg.getD 4 0)

/-- A SLOT_WRITE begins: its slot is neither verified nor active. -/
def State.writeBegins (s : State) (ch : Nat) (msg : List Nat) : State :=
  let s := s.setSlot (msg.getD 1 0 % 2) { s.slot (msg.getD 1 0 % 2) with verified := false, activation := none }
  { s with house := { s.house with flashOp := some (writeOp ch msg) } }

theorem State.writeBegins_mbox (s : State) (ch : Nat) (msg : List Nat) (k : Nat) : (s.writeBegins ch msg).mbox k = s.mbox k := rfl

theorem State.slotWrite_asked (h : s.asked ch 0x101 msg rest) (hl : msg.getD 4 0 ≠ 0) : s.slotWrite ch =
    if s.writeStatus msg ≠ 0 then (s.setMbox ch (s.mbox ch).taken).reply ch msg [s.writeStatus msg]
    else ((s.setMbox ch (s.mbox ch).taken).reply ch msg [s.writeStatus msg]).writeBegins ch msg := by
  have same : Mailed s (s.setMbox ch (s.mbox ch).taken) := (Mailed.refl s).setMbox h.1 _
  simp only [State.slotWrite, State.takeRequest_asked h, same.slotWriteStatus, bne_iff_ne, beq_eq_false_iff_ne.mpr hl]
  rfl

/-- A SLOT_VERIFY begins. -/
def State.verifyBegins (s : State) (ch : Nat) (msg : List Nat) : State :=
  { s with house := { s.house with flashOp := some ⟨ch, 0x102, msg.getD 1 0 % 2, 0, 0, 0⟩ } }

theorem State.verifyBegins_mbox (s : State) (ch : Nat) (msg : List Nat) (k : Nat) : (s.verifyBegins ch msg).mbox k = s.mbox k := rfl

theorem State.slotVerify_asked (h : s.asked ch 0x102 msg rest) (hs : s.slotState = true) (hf : s.house.flashOp = none) :
    s.slotVerify ch = ((s.setMbox ch (s.mbox ch).taken).reply ch msg [0]).verifyBegins ch msg := by
  have same : Mailed s (s.setMbox ch (s.mbox ch).taken) := (Mailed.refl s).setMbox h.1 _
  simp only [State.slotVerify, State.takeRequest_asked h, same.slotState, hs, same.house, hf]
  rfl

/-- The COUNT of a slot's new activation record (R514): one above that of the other slot. -/
def State.activationCount (s : State) (slot : Nat) : Nat :=
  match (s.slot (1 - slot)).activation with
  | some c => (c + 1) % 2 ^ 32
  | none => 1

/-- A SLOT_ACTIVATE without RESTART gives its slot an activation record. -/
def State.activated (s : State) (slot : Nat) : State :=
  s.setSlot slot { s.slot slot with activation := some (s.activationCount slot) }

theorem State.activated_activation (s : State) (slot : Nat) : ((s.activated slot).slot slot).activation = some (s.activationCount slot) :=
  congrArg Slot.activation (sget_sput_same _ _ _)

theorem Mailed.activationCount {a s : State} (h : Mailed a s) (slot : Nat) : s.activationCount slot = a.activationCount slot := by
  rw [State.activationCount, h.slot, State.activationCount]

theorem State.pass_activationCount (s : State) (t slot : Nat) : (s.pass t).activationCount slot = s.activationCount slot := by
  rw [State.activationCount, State.pass_slot, State.activationCount]

theorem State.activated_mbox (s : State) (slot k : Nat) : (s.activated slot).mbox k = s.mbox k := rfl

theorem State.activate_asked (h : s.asked ch 0x103 msg rest) (hs : s.slotState = true) (hf : s.house.flashOp = none)
    (hv : (s.slot (msg.getD 1 0 % 2)).verified = true) (hr : msg.getD 1 0 / 2 ^ 8 % 2 = 0) :
    s.activate ch = ((s.setMbox ch (s.mbox ch).taken).reply ch msg [0]).activated (msg.getD 1 0 % 2) := by
  have same : Mailed s (s.setMbox ch (s.mbox ch).taken) := (Mailed.refl s).setMbox h.1 _
  have stays : (msg.getD 1 0 / 2 ^ 8 % 2 == 1) = false := by rw [hr]; rfl
  have accepted : s.slotActivate ch =
      (false, ((s.setMbox ch (s.mbox ch).taken).reply ch msg [0]).activated (msg.getD 1 0 % 2)) := by
    simp only [State.slotActivate, State.takeRequest_asked h, same.slotState, hs, same.house, hf, same.slot, hv, stays]
    rfl
  rw [State.activate, accepted]

end

@[simp] theorem State.slot_setSlot_same (s : State) (n : Nat) (x : Slot) : (s.setSlot n x).slot n = x := sget_sput_same _ _ _

/-! ### FLASH_DONE (R516) -/

theorem State.bell_house (s : State) (b : Nat) : (s.bell b).house = s.house := by
  have same : (s.latch ⟨MBOX_DBELL_OFF, b, 1⟩).house = s.house := rfl
  simp only [State.bell, apply_ite State.house, State.raise_house, same, ite_self]

theorem State.fwSend_house (s : State) (n : Nat) (msg : List Nat) : (s.fwSend n msg).house = s.house := by
  have told (x : State) : (x.notifyHost n).house = x.house := by
    simp only [State.notifyHost, apply_ite State.house, State.bell_house, State.raise_house, ite_self]
  have read : s.fwReadAll.house = s.house := foldl_keeps State.house _ (fun x k => by
    simp only [apply_ite State.house, State.setMbox_house, ite_self]) _ s
  simp only [State.fwSend, apply_ite State.house, told, State.setMbox_house, read, ite_self]

theorem State.flashNotice_house (s : State) (n status code result : Nat) :
    (s.flashNotice n status code result).house = s.house := by
  simp only [State.flashNotice, apply_ite State.house, State.fwSend_house, State.bell_house, ite_self]

theorem State.flashNotice_slot (s : State) (n status code result k : Nat) :
    (s.flashNotice n status code result).slot k = s.slot k :=
  congrArg (fun x : House => sget (fun _ => Slot.empty) x.slots k) (s.flashNotice_house n status code result)

/-- The module once its flash operation has ended. -/
def State.flashIdle (s : State) : State := { s with house := { s.house with flashOp := none } }

/-- A slot whose range has been programmed; its manifest shows where the range holds it (R506, R515). -/
def Slot.written (x : Slot) (off : Nat) (b : List (Nat × BitVec 8)) : Slot :=
  if off == 0 then { x with bytes := b, generation := flashWord b 8, fwVersion := flashWord b 12 } else { x with bytes := b }

theorem State.flashDone_write {s : State} {f : FlashOp} (hf : s.house.flashOp = some f) (hc : f.code = 0x101) (result : Nat) :
    s.flashDone true result = (s.flashIdle.setSlot f.slot ((s.slot f.slot).written f.off
      (programmed (s.slot f.slot).bytes f.off f.len (Mem.reads s.dram f.addr f.len)))).flashNotice f.channel 0 f.code 0 := by
  simp only [State.flashDone, hf, hc, beq_self_eq_true, if_true]
  rfl

theorem State.flashDone_verify {s : State} {f : FlashOp} (hf : s.house.flashOp = some f) (hc : f.code = 0x102) :
    s.flashDone true 1 = (s.flashIdle.setSlot f.slot { s.slot f.slot with verified := true }).flashNotice f.channel 0 f.code 1 := by
  simp only [State.flashDone, hf, hc]
  rfl

end Sys2Proof.Machine

open Sys2Proof Sys2Proof.Machine Sys2Proof.Machine.Reg

/-- Settles O39: a request is taken and answered on its channel, which what it starts in HOUSE leaves as it is; what FLASH_DONE tells
the host leaves HOUSE as it is. -/
theorem firmwareRequests : Obligations.FirmwareRequests := by
  refine ⟨?ping, ?version, ?bad, ?info, ?write, ?verify, ?activate, ?done⟩
  case ping =>
    intro s t ch msg rest h
    refine ⟨_, congrArg Host.Outcome.next (State.run_channel (fun s => s.ping ch) h.1 h.2.1), State.run_replied ?_⟩
    rw [State.ping, State.takeRequest_asked (h.pass t)]
    exact (State.reply_asked (data := []) (h.pass t) (Nat.zero_le 5)).1
  case version =>
    intro s t ch msg rest h
    have same : Mailed (s.pass t) ((s.pass t).setMbox ch ((s.pass t).mbox ch).taken) := (Mailed.refl _).setMbox h.1 _
    refine ⟨_, congrArg Host.Outcome.next (State.run_channel (fun s => s.version ch) h.1 h.2.1), State.run_replied ?_⟩
    rw [State.version, State.takeRequest_asked (h.pass t)]
    simp only [same.get (f := HOUSE_FW_VERSION) (by decide), same.get (f := HOUSE_BOOT_SLOT) (by decide), State.pass_get]
    exact (State.reply_asked (data := [_, _]) (h.pass t) (Nat.le_add_left 2 3)).1
  case bad =>
    intro s t ch msg rest hc hp hs hg ht bad hw hr
    obtain ⟨oldest, served⟩ := Mbox.head_taken hg ht
    obtain ⟨taken, answered, -⟩ := State.taken_answered (s := s.pass t) (ch := ch)
      (answer := [0xFFFF * 2 ^ 16 + 2 ^ 8 * msgSeq (msg.getD 0 0) + 1, msg.getD 0 0]) hc (by rwa [State.pass_mbox])
      (by rwa [State.pass_mbox]) (by rwa [State.pass_mbox]) (show 2 ≤ 6 by decide)
    have effect : (s.pass t).badMessage ch = ((s.pass t).setMbox ch ((s.pass t).mbox ch).taken).fwSend ch
        [0xFFFF * 2 ^ 16 + 2 ^ 8 * msgSeq (msg.getD 0 0) + 1, msg.getD 0 0] := by
      simp [State.badMessage, State.pass_mbox, oldest, served, hs, bad]
    refine ⟨_, congrArg Host.Outcome.next (State.run_channel (fun s => s.badMessage ch) hc hp), ?_, ?_⟩
    · rw [State.run_mbox, effect, taken]
    · rw [State.run_mbox, effect, answered, State.pass_mbox]
      have header : 0xFFFF * 2 ^ 16 + 2 ^ 8 * msgSeq (msg.getD 0 0) + 1 = 0xFFFF0001 + 2 ^ 8 * msgSeq (msg.getD 0 0) := by omega
      rw [header]
  case info =>
    intro s t ch msg rest h
    refine ⟨_, congrArg Host.Outcome.next (State.run_channel (fun s => s.slotInfo ch) h.1 h.2.1), State.run_replied ?_⟩
    rw [State.slotInfo_asked (h.pass t)]
    simp only [State.pass_slotState, State.pass_get, State.pass_preferred, State.pass_slot]
    refine (State.reply_asked (h.pass t) ?_).1
    split
    · exact Nat.le_refl 5
    · exact Nat.le_refl 5
  case write =>
    intro s t ch st msg rest h hl hst
    have status : (s.pass t).writeStatus msg = st := by rw [State.writeStatus, State.pass_slotWriteStatus, hst]
    obtain ⟨replied, same⟩ := State.reply_asked (h.pass t) (data := [st]) (show 1 ≤ 5 by decide)
    have effect := State.slotWrite_asked (h.pass t) hl
    rw [status] at effect
    refine ⟨_, congrArg Host.Outcome.next (State.run_channel (fun s => s.slotWrite ch) h.1 h.2.1), State.run_replied ?_,
      fun refused => ?_, fun begins => ?_⟩
    · rw [effect]
      split
      · exact replied
      · rwa [State.replied, State.writeBegins_mbox]
    · rw [State.run_house, effect, if_pos refused, same.house, State.pass_house]
      exact ⟨rfl, rfl⟩
    · rw [State.run_house, State.run_slot, effect, if_neg (not_not_intro begins), State.writeBegins]
      refine ⟨rfl, ?_, ?_⟩
      · exact congrArg Slot.verified (State.slot_setSlot_same _ _ _)
      · exact congrArg Slot.activation (State.slot_setSlot_same _ _ _)
  case verify =>
    intro s t ch msg rest h hs hf
    obtain ⟨replied, same⟩ := State.reply_asked (h.pass t) (data := [0]) (by decide)
    have effect := State.slotVerify_asked (h.pass t) (by rwa [State.pass_slotState]) (by rwa [State.pass_house])
    refine ⟨_, congrArg Host.Outcome.next (State.run_channel (fun s => s.slotVerify ch) h.1 h.2.1), State.run_replied ?_, ?_⟩
    · rwa [effect, State.replied, State.verifyBegins_mbox]
    · rw [State.run_house, effect, State.verifyBegins, same.house, State.pass_house]
      exact ⟨rfl, rfl⟩
  case activate =>
    intro s t ch msg rest h hs hf hv hr
    obtain ⟨replied, same⟩ := State.reply_asked (h.pass t) (data := [0]) (by decide)
    have effect := State.activate_asked (h.pass t) (by rwa [State.pass_slotState]) (by rwa [State.pass_house])
      (by rwa [State.pass_slot]) hr
    refine ⟨_, rfl, State.run_replied ?_, ?_⟩
    · rwa [effect, State.replied, State.activated_mbox]
    · refine Eq.trans (b := some (s.activationCount (msg.getD 1 0 % 2))) ?_ rfl
      rw [State.run_slot, effect, State.activated_activation, same.activationCount, State.pass_activationCount]
  case done =>
    intro s t f hp hf
    have op : (s.pass t).house.flashOp = some f := by rwa [State.pass_house]
    have run (result : Nat) : exec (.flashDone t true result) s = .next (s.run t fun s => s.flashDone true result) := by
      refine congrArg Host.Outcome.next ?_
      rw [State.run, State.run, State.inside_powered _ (by rwa [State.pass_powered])]
    refine ⟨fun hc => ⟨_, run 1, ?_, ?_⟩, fun hc => ⟨_, run 1, ?_, ?_⟩⟩
    · rw [State.run_house, State.flashDone_write op hc, State.flashNotice_house]
      rfl
    · rw [State.run_slot, State.flashDone_write op hc, State.flashNotice_slot, State.slot_setSlot_same, State.pass_slot, Slot.written]
      split <;> rfl
    · rw [State.run_house, State.flashDone_verify op hc, State.flashNotice_house]
      rfl
    · rw [State.run_slot, State.flashDone_verify op hc, State.flashNotice_slot, State.slot_setSlot_same]

end

section
/-! PROOF. Doorbell bits from the host (R351, R354), the locks with the order of their masters (R357 to R360), and what the loss and the
return of module firmware change (R355, R361). -/

namespace Sys2Proof.Machine

open Reg

/-! ### Doorbell bits (R351, R354) -/

/-- Beside the host's registers a notification shows in its doorbell bit alone. -/
theorem State.bell_shows (s : State) (b : Nat) {f : Field} (hf : ¬ f.off / 65536 ∈ [2]) :
    (s.bell b).flag f = (s.set ⟨MBOX_DBELL_OFF, b, 1⟩ 1).flag f := by
  have raised : ((s.latch ⟨MBOX_DBELL_OFF, b, 1⟩).raise 3).flag f = (s.latch ⟨MBOX_DBELL_OFF, b, 1⟩).flag f :=
    ((s.latch ⟨MBOX_DBELL_OFF, b, 1⟩).raise_elsewhere (by decide)).flag hf
  have told (x : State) (n : Nat) : ({ x with hk := { x.hk with bells := n } } : State).flag f = x.flag f := rfl
  simp only [State.bell, apply_ite (fun x : State => x.flag f), told, raised, ite_self, State.latch_flag]

/-- A notification sets its own doorbell bit and no other. -/
theorem State.bell_flag (s : State) (b : Nat) {c : Nat} (hc : c < 32) :
    (s.bell b).flag ⟨MBOX_DBELL_OFF, c, 1⟩ = (s.flag ⟨MBOX_DBELL_OFF, c, 1⟩ || c == b) := by
  rw [State.bell_shows s b (show ¬ MBOX_DBELL_OFF / 65536 ∈ [2] by decide)]
  by_cases same : c = b
  · subst same
    rw [State.flag_set_same s (f := ⟨MBOX_DBELL_OFF, c, 1⟩) hc rfl, beq_self_eq_true, Bool.or_true]
  · have apart : b + 1 ≤ c ∨ c + 1 ≤ b := by omega
    rw [State.flag_set_other s 1 (g := ⟨MBOX_DBELL_OFF, c, 1⟩) hc (.inr apart), beq_eq_false_iff_ne.mpr same, Bool.or_false]

theorem State.bells_flag (l : List Nat) {c : Nat} (hc : c < 32) (s : State) :
    (l.foldl (fun s b => s.bell b) s).flag ⟨MBOX_DBELL_OFF, c, 1⟩ = (s.flag ⟨MBOX_DBELL_OFF, c, 1⟩ || l.contains c) := by
  induction l generalizing s with
  | nil => rw [List.foldl_nil, List.contains_nil, Bool.or_false]
  | cons b l ih => rw [List.foldl_cons, ih, State.bell_flag _ _ hc, List.contains_cons, Bool.or_assoc]

/-- The masks of the doorbells stand beside the doorbells. -/
theorem State.bell_mask (s : State) (b c : Nat) :
    (s.bell b).flag ⟨MBOX_DBELL_MASK_OFF, c, 1⟩ = s.flag ⟨MBOX_DBELL_MASK_OFF, c, 1⟩ := by
  have apart : MBOX_DBELL_MASK_OFF ≠ MBOX_DBELL_OFF := by decide
  rw [State.bell_shows s b (show ¬ MBOX_DBELL_MASK_OFF / 65536 ∈ [2] by decide)]
  exact State.flag_of_reg (State.reg_set_other _ _ apart)

/-- Each doorbell bit for firmware notifies it while the mask bit is 1. -/
theorem State.bells_count {l : List Nat} (hl : ∀ b ∈ l, 24 ≤ b) (s : State) :
    (l.foldl (fun s b => s.bell b) s).hk.bells = s.hk.bells + (l.filter fun b => s.flag ⟨MBOX_DBELL_MASK_OFF, b, 1⟩).length := by
  induction l generalizing s with
  | nil => rfl
  | cons b l ih =>
    have firmware : (decide (8 ≤ b) && decide (b < 24)) = false := by
      rw [decide_eq_false (Nat.not_lt.mpr (hl b List.mem_cons_self)), Bool.and_false]
    rw [List.foldl_cons, ih (fun c hc => hl c (List.mem_cons_of_mem b hc)), State.bell_hk, firmware, List.filter_cons]
    simp only [State.bell_mask, Bool.not_false, Bool.and_true]
    split
    · rw [List.length_cons]
      exact Nat.add_right_comm _ _ _
    · rfl

/-- The doorbell bits [31:24] that a value writes 1. -/
theorem dbellSet_bits (v : Nat) : [24, 25, 26, 27, 28, 29, 30, 31].filter (fun b => v / 2 ^ b % 2 == 1) =
    ((List.range 8).filter fun k => decide (v / 2 ^ (24 + k) % 2 = 1)).map (24 + ·) := by
  have bits : [24, 25, 26, 27, 28, 29, 30, 31] = (List.range 8).map (24 + ·) := by decide
  rw [bits, List.filter_map]
  exact congrArg (List.map (24 + ·)) (List.filter_congr fun k _ => rfl)

theorem State.dbellSet_bells (s : State) (v : Nat) : (s.dbellSet v).hk.bells = s.hk.bells + ((List.range 8).filter fun k =>
    decide (v / 2 ^ (24 + k) % 2 = 1) && s.flag ⟨MBOX_DBELL_MASK_OFF, 24 + k, 1⟩).length := by
  have high : ∀ b ∈ [24, 25, 26, 27, 28, 29, 30, 31].filter (fun b => v / 2 ^ b % 2 == 1), 24 ≤ b := fun b hb =>
    (by decide : ∀ b ∈ [24, 25, 26, 27, 28, 29, 30, 31], 24 ≤ b) b (List.mem_filter.mp hb).1
  rw [State.dbellSet, State.bells_count high, dbellSet_bits, List.filter_map, List.length_map, List.filter_filter]
  simp only [Function.comp_apply, Bool.and_comm]

/-- A bit of a field is that field's flag. -/
theorem State.get_testBit (s : State) (f : Field) {i : Nat} (hi : i < f.width) :
    (s.get f).testBit i = s.flag ⟨f.off, f.lsb + i, 1⟩ := by
  rw [State.get, fget, testBit_getBits, decide_eq_true hi, Bool.true_and, Nat.testBit_eq_decide_div_mod_eq, State.flag_iff, State.get,
    fget, getBits, Nat.pow_one]
  rfl

theorem State.dbellSet_signals (s : State) {v : Nat} (hv : v < 2 ^ 32) :
    (s.dbellSet v).get MBOX_DBELL_TO_FW_SIG = s.get MBOX_DBELL_TO_FW_SIG ||| v / 2 ^ 24 := by
  have cut : v / 2 ^ 24 < 2 ^ 8 := by omega
  refine Nat.eq_of_testBit_eq fun i => ?_
  by_cases hi : i < 8
  · rw [Nat.testBit_or, State.get_testBit _ MBOX_DBELL_TO_FW_SIG hi, State.get_testBit _ MBOX_DBELL_TO_FW_SIG hi]
    have written : ([24, 25, 26, 27, 28, 29, 30, 31].filter (fun b => v / 2 ^ b % 2 == 1)).contains (24 + i) =
        (v / 2 ^ 24).testBit i := by
      rw [Nat.testBit_div_two_pow, Nat.testBit_eq_decide_div_mod_eq, dbellSet_bits, Bool.eq_iff_iff]
      simp only [List.contains_iff_mem, List.mem_map, List.mem_filter, List.mem_range, decide_eq_true_eq]
      constructor
      · rintro ⟨k, ⟨-, hk⟩, e⟩
        rwa [← Nat.add_left_cancel e, Nat.add_comm k]
      · exact fun h => ⟨i, ⟨hi, by rwa [Nat.add_comm 24 i]⟩, rfl⟩
    rw [← written]
    exact State.bells_flag _ (Nat.add_lt_add_left hi 24) s
  · have out (x : Nat) (hx : x < 2 ^ 8) : x.testBit i = false := Nat.testBit_lt_two_pow (hx.trans_le (Nat.pow_le_pow_right
      (by decide) (Nat.not_lt.mp hi)))
    rw [out _ (State.get_lt _ MBOX_DBELL_TO_FW_SIG), Nat.testBit_or, out _ (State.get_lt _ MBOX_DBELL_TO_FW_SIG), out _ cut]
    rfl

/-! ### Who acquires a lock (R357, R359) -/

/-- Of masters that read in one cycle, the one of the highest rank acquires. -/
theorem rank_foldl (l : List Master) (m : Master) : m.rank ≤ (l.foldl (fun w c => if w.rank < c.rank then c else w) m).rank ∧
    ∀ c ∈ l, c.rank ≤ (l.foldl (fun w c => if w.rank < c.rank then c else w) m).rank := by
  induction l generalizing m with
  | nil => exact ⟨Nat.le_refl _, fun c hc => absurd hc List.not_mem_nil⟩
  | cons b l ih =>
    obtain ⟨above, tops⟩ := ih (if m.rank < b.rank then b else m)
    have both : m.rank ≤ (if m.rank < b.rank then b else m).rank ∧ b.rank ≤ (if m.rank < b.rank then b else m).rank := by
      split
      · next lower => exact ⟨lower.le, Nat.le_refl _⟩
      · next higher => exact ⟨Nat.le_refl _, Nat.not_lt.mp higher⟩
    refine ⟨both.1.trans above, fun c hc => ?_⟩
    rcases List.mem_cons.mp hc with rfl | hc
    · exact both.2.trans above
    · exact tops c hc

theorem State.lockRead_free {s : State} {n : Nat} {m : Master} (h : s.holder n = none) (hm : m = .host → n < 12) :
    s.lockRead n m = ((s.acquire n (s.lockWinner n m)).lockWord n (s.lockWinner n m != m), s.acquire n (s.lockWinner n m)) := by
  have may : ¬ (decide (12 ≤ n) && m == .host) = true := by
    rw [Bool.and_eq_true, decide_eq_true_eq, beq_iff_eq]
    exact fun e => absurd (hm e.2) (Nat.not_lt.mpr e.1)
  rw [State.lockRead, if_neg may, h]

theorem State.lockRead_busy {s : State} {n : Nat} {m h : Master} (held : s.holder n = some h) (other : h ≠ m) :
    s.lockRead n m = (s.lockWord n true, s) := by
  have busy : (h != m) = true := by simpa using other
  rw [State.lockRead, held]
  simp only [busy, ite_self]

/-- A lock's HELD stands above the other fields of its record. -/
theorem State.peekHeld_get (s : State) {n : Nat} (v : Nat) {f : Field} (h : f.lsb + f.width ≤ 31) :
    (s.set (LOCK_PEEK_HELD n) v).get f = s.get f := State.get_set_other s v (h.trans (by decide)) (.inr (.inr h))

/-- A lock's COUNT stands below its OWNER. -/
theorem State.peekOwner_count (s : State) (n v : Nat) :
    (s.set (LOCK_PEEK_OWNER n) v).get (LOCK_PEEK_COUNT n) = s.get (LOCK_PEEK_COUNT n) :=
  State.get_set_other s v (show 8 + 16 ≤ 32 by decide) (.inr (.inr (show 8 + 16 ≤ 24 by decide)))

/-- A lock's record after it is acquired. -/
theorem State.acquire_peek (s : State) {n : Nat} (m : Master) (hn : n < 16) {f : Field} (ho : f.off = LOCK_PEEK_OFF n)
    (h32 : f.lsb + f.width ≤ 32) : (s.acquire n m).get f =
      (((s.count (LOCK_PEEK_COUNT n)).set (LOCK_PEEK_OWNER n) m.owner).set (LOCK_PEEK_HELD n) 1).get f := by
  have status : f.off ≠ LOCK_STATUS_OFF := by
    rw [ho, LOCK_PEEK_OFF, LOCK_STATUS_OFF]; omega
  have lock : f.off ≠ LOCK_OFF n := by
    rw [ho, LOCK_PEEK_OFF, LOCK_OFF]; omega
  unfold State.acquire State.setFlag
  rw [State.get_set_other _ _ h32 (.inl status), State.get_set_other _ _ h32 (.inl status), State.get_set_other _ _ h32 (.inl lock),
    State.get_set_other _ _ h32 (.inl lock)]
  rfl

theorem State.acquire_count (s : State) {n : Nat} (m : Master) (hn : n < 16) :
    (s.acquire n m).get (LOCK_PEEK_COUNT n) = (s.get (LOCK_PEEK_COUNT n) + 1) % 2 ^ 16 := by
  rw [State.acquire_peek s m hn rfl (show 8 + 16 ≤ 32 by decide),
    State.peekHeld_get _ _ (show 8 + 16 ≤ 31 by decide), State.peekOwner_count, State.count,
    State.get_set_same _ _ (show 8 + 16 ≤ 32 by decide)]
  exact Nat.mod_mod _ _

theorem State.acquire_owner (s : State) {n : Nat} (m : Master) (hn : n < 16) : (s.acquire n m).get (LOCK_PEEK_OWNER n) = m.owner := by
  have fits : m.owner < 2 ^ 4 := by cases m <;> decide
  rw [State.acquire_peek s m hn rfl (show 24 + 4 ≤ 32 by decide),
    State.peekHeld_get _ _ (show 24 + 4 ≤ 31 by decide), State.get_set_same _ _ (show 24 + 4 ≤ 32 by decide)]
  exact Nat.mod_eq_of_lt fits

theorem State.acquire_held (s : State) {n : Nat} (m : Master) (hn : n < 16) : (s.acquire n m).flag (LOCK_PEEK_HELD n) = true := by
  rw [State.flag_iff, State.acquire_peek s m hn rfl (show 31 + 1 ≤ 32 by decide), ← State.flag_iff,
    State.flag_set_same _ (show 31 + 1 ≤ 32 by decide) rfl]

theorem State.acquire_holder (s : State) (n : Nat) (m : Master) : (s.acquire n m).holder n = some m := by
  have first : (s.acquire n m).hk.holder = (n, m) :: s.hk.holder := rfl
  simp [State.holder, first]

theorem State.acquire_out (s : State) (n : Nat) (m : Master) : (s.acquire n m).out = s.out := rfl

theorem State.acquire_lockWord (s : State) {n : Nat} (m : Master) (busy : Bool) (hn : n < 16) : (s.acquire n m).lockWord n busy =
    2 ^ 31 * bit busy + 2 ^ 24 * m.owner + ((s.get (LOCK_PEEK_COUNT n) + 1) % 2 ^ 16) * 2 ^ 8 := by
  rw [State.lockWord, State.acquire_owner s m hn, State.acquire_count s m hn]

/-! ### A lock that becomes free (R357) -/

theorem State.freeLock_hk (s : State) (n : Nat) : (s.freeLock n).hk = { s.hk with holder := s.hk.holder.filter (·.1 != n) } := by
  rw [State.freeLock]
  split
  · rfl
  · rfl

theorem State.freeLock_holder (s : State) (n : Nat) : (s.freeLock n).holder n = none := by
  rw [State.holder, State.freeLock_hk, List.find?_eq_none.mpr fun e he => by simpa using (List.mem_filter.mp he).2]
  rfl

/-- A lock's record after it is freed. -/
theorem State.freeLock_peek (s : State) {n : Nat} (hn : n < 16) {f : Field} (ho : f.off = LOCK_PEEK_OFF n)
    (h32 : f.lsb + f.width ≤ 32) : (s.freeLock n).get f =
      ((s.set (LOCK_PEEK_HELD n) 0).set (LOCK_PEEK_OWNER n) 15).get f := by
  have status : f.off ≠ LOCK_STATUS_OFF := by
    rw [ho, LOCK_PEEK_OFF, LOCK_STATUS_OFF]; omega
  have lock : f.off ≠ LOCK_OFF n := by
    rw [ho, LOCK_PEEK_OFF, LOCK_OFF]; omega
  have injection : f.off ≠ KEEPER_INJ_STATUS_OFF := by
    rw [ho, LOCK_PEEK_OFF, KEEPER_INJ_STATUS_OFF]; omega
  have ended (x : State) : x.endInjection.get f = x.get f := State.get_set_other _ _ h32 (.inl injection)
  simp only [State.freeLock, apply_ite (State.get · f), ended, ite_self]
  rw [State.get_set_other _ _ h32 (.inl lock), State.get_set_other _ _ h32 (.inl lock), State.get_set_other _ _ h32 (.inl status),
    State.get_set_other _ _ h32 (.inl status)]
  rfl

theorem State.freeLock_record (s : State) {n : Nat} (hn : n < 16) : (s.freeLock n).flag (LOCK_PEEK_HELD n) = false ∧
    (s.freeLock n).get (LOCK_PEEK_OWNER n) = 15 ∧ (s.freeLock n).get (LOCK_PEEK_COUNT n) = s.get (LOCK_PEEK_COUNT n) := by
  refine ⟨?_, ?_, ?_⟩
  · rw [State.flag_iff, State.freeLock_peek s hn rfl (show 31 + 1 ≤ 32 by decide),
      State.get_set_other _ _ (f := LOCK_PEEK_OWNER n) (g := LOCK_PEEK_HELD n) (show 31 + 1 ≤ 32 by decide)
        (.inr (.inl (show 24 + 4 ≤ 31 by decide))),
      State.get_set_same _ _ (show 31 + 1 ≤ 32 by decide)]
    rfl
  · rw [State.freeLock_peek s hn rfl (show 24 + 4 ≤ 32 by decide), State.get_set_same _ _ (show 24 + 4 ≤ 32 by decide)]
    rfl
  · rw [State.freeLock_peek s hn rfl (show 8 + 16 ≤ 32 by decide),
      State.peekOwner_count, State.peekHeld_get _ _ (show 8 + 16 ≤ 31 by decide)]

/-- A lock that becomes free changes registers of the locks, and ends an injection. -/
theorem State.freeLock_reg (s : State) (n : Nat) {o : Nat} (ho : o < 0xD0000) (hi : o / 65536 ≠ 1) : (s.freeLock n).reg o = s.reg o := by
  have below (x : State) {f : Field} (v : Nat) (hf : 0xD0000 ≤ f.off) : (x.set f v).reg o = x.reg o :=
    State.reg_set_other x v (by omega)
  have status : 0xD0000 ≤ LOCK_STATUS_OFF := by decide
  have injection : o ≠ KEEPER_INJ_STATUS_OFF := fun e => hi (by rw [e]; rfl)
  have ended (x : State) : x.endInjection.reg o = x.reg o := State.reg_set_other _ _ injection
  simp only [State.freeLock, apply_ite (State.reg · o), ended, ite_self]
  rw [below _ _ (Nat.le_add_right _ _), below _ _ (Nat.le_add_right _ _), below _ _ status, below _ _ status,
    below _ _ ((by decide : 0xD0000 ≤ 0xD0040).trans (Nat.le_add_right _ _)),
    below _ _ ((by decide : 0xD0000 ≤ 0xD0040).trans (Nat.le_add_right _ _))]
  rfl

/-! ### Locks that the death of their master frees (R361) -/

theorem State.forceLock_hk (s : State) (n : Nat) : (s.forceLock n).hk = { s.hk with holder := s.hk.holder.filter (·.1 != n) } := by
  have heard : (⟨0x0A02, 10, subj 18 n, 0, 0, 0, 0⟩ : Report).reaction = .nothing := rfl
  exact (State.accept_hk _ _ _ _ _ _ heard).trans (s.freeLock_hk n)

theorem State.forceLock_reg (s : State) (n : Nat) {o : Nat} (ho : o < 0xD0000) (hi : ¬ o / 65536 ∈ [1, 2]) :
    (s.forceLock n).reg o = s.reg o := by
  have heard : (⟨0x0A02, 10, subj 18 n, 0, 0, 0, 0⟩ : Report).reaction = .nothing := rfl
  have keeper : o / 65536 ≠ 1 := fun e => hi (by rw [e]; exact List.mem_cons_self)
  have apart : ¬ o / 65536 ∈ [13] := by rw [List.mem_singleton]; omega
  have counted : Elsewhere [13] (s.freeLock n) ((s.freeLock n).bump LOCK_ERR_FORCED) := (Elsewhere.refl _ _).bump (by decide)
  exact ((State.fault_elsewhere _ _ _ _ heard).reg hi).trans ((counted.reg apart).trans (s.freeLock_reg n ho keeper))

theorem State.forceLocks_reg (s : State) (p : Master → Bool) {o : Nat} (ho : o < 0xD0000) (hi : ¬ o / 65536 ∈ [1, 2]) :
    (s.forceLocks p).reg o = s.reg o := by
  have kept := foldl_keeps (State.reg · o) (fun x (h : Nat × Master) => x.forceLock h.1) fun x h => x.forceLock_reg h.1 ho hi
  rw [State.forceLocks, kept]

theorem State.forced_holder (l : List (Nat × Master)) (s : State) :
    (l.foldl (fun s h => s.forceLock h.1) s).hk.holder = s.hk.holder.filter fun h => l.all (h.1 != ·.1) := by
  induction l generalizing s with
  | nil => exact (List.filter_true _).symm
  | cons e l ih =>
    rw [List.foldl_cons, ih, State.forceLock_hk, List.filter_filter]
    exact List.filter_congr fun h _ => Bool.and_comm _ _

/-- No master whose locks are forced free holds one any more. -/
theorem State.forceLocks_holder (s : State) (p : Master → Bool) : (s.forceLocks p).hk.holder.all (fun h => !p h.2) = true := by
  refine List.all_eq_true.mpr fun h hh => ?_
  rw [State.forceLocks, State.forced_holder] at hh
  obtain ⟨held, kept⟩ := List.mem_filter.mp hh
  rw [Bool.not_eq_true']
  by_contra dead
  have forced : h ∈ s.hk.holder.filter (fun h => p h.2) := List.mem_filter.mpr ⟨held, by simpa using dead⟩
  simpa using List.all_eq_true.mp kept h forced

/-! ### Module firmware lost and back (R355, R361) -/

/-- Firmware is lost: it runs no more, and what it had read of the channels and what waits for room goes. -/
def State.fwLost (s : State) : State :=
  ((List.range 8).foldl (fun (s : State) n => s.setMbox n { s.mbox n with rxWait := [], got := [] })
    ((s.set MBOX_STATUS_RECOVERY 1).set MBOX_STATUS_FW_READY 0)).mboxMode.bell 17

theorem State.fwWatchdog_eq {s : State} (hp : s.powered = true) (hr : s.flag MBOX_STATUS_FW_READY = true) :
    s.fwWatchdog = (s.fwLost.fault 0x0A09 10 (subj 14 10)).forceLocks Master.isFw := by
  rw [State.fwWatchdog, if_neg (by rw [hp, hr]; exact Bool.false_ne_true)]
  rfl

/-- Firmware is back. -/
def State.fwBack (s : State) : State :=
  let s := ((s.set MBOX_STATUS_FW_READY 1).set MBOX_STATUS_RECOVERY 0).bell 16
  { s with twin := { s.twin with tickStopped := false }, hk := { s.hk with hkc1On := true } }

theorem State.fwReady_eq {s : State} (hp : s.powered = true) (hs : s.romServes = false) (hr : s.flag MBOX_STATUS_FW_READY = false) :
    s.fwReady = if s.flag MBOX_STATUS_RECOVERY then s.fwBack.mboxMode.notice 0xC003 [] else s.fwBack.mboxMode := by
  rw [State.fwReady, if_neg (by rw [hp, hs, hr]; decide)]
  rfl

theorem State.fwLost_mailed (s : State) : Mailed ((s.set MBOX_STATUS_RECOVERY 1).set MBOX_STATUS_FW_READY 0) s.fwLost :=
  (((Mailed.refl _).foldl fun x _ hn => (Mailed.refl x).setMbox (List.mem_range.mp hn) _).mboxMode).bell 17

theorem State.fwLost_status (s : State) : s.fwLost.flag MBOX_STATUS_RECOVERY = true ∧ s.fwLost.flag MBOX_STATUS_FW_READY = false := by
  have same := s.fwLost_mailed
  refine ⟨?_, ?_⟩
  · rw [State.flag_iff, same.status MBOX_STATUS_RECOVERY rfl (by decide) (by decide), ← State.flag_iff,
      State.flag_set_other _ _ (by decide) (by decide), State.flag_set_same _ (by decide) rfl]
  · rw [State.flag_iff, same.status MBOX_STATUS_FW_READY rfl (by decide) (by decide), State.get_set_same _ _ (by decide)]
    rfl

theorem State.fwLost_keeps (s : State) : s.fwLost.now = s.now ∧ s.fwLost.house = s.house ∧ s.fwLost.keeper = s.keeper ∧
    s.fwLost.hk.holder = s.hk.holder ∧ Elsewhere [2, 12] s s.fwLost := by
  have same := s.fwLost_mailed
  exact ⟨same.now, same.house, same.keeper, same.holder,
    (((Elsewhere.refl _ s).set _ (by decide)).set _ (by decide)).trans same.regs⟩

theorem State.fwBack_shows (s : State) : s.fwBack.flag MBOX_STATUS_FW_READY = true ∧ s.fwBack.flag MBOX_STATUS_RECOVERY = false ∧
    s.fwBack.flag ⟨MBOX_DBELL_OFF, 16, 1⟩ = true := by
  have told : Mailed ((s.set MBOX_STATUS_FW_READY 1).set MBOX_STATUS_RECOVERY 0)
      (((s.set MBOX_STATUS_FW_READY 1).set MBOX_STATUS_RECOVERY 0).bell 16) := (Mailed.refl _).bell 16
  have back (f : Field) : s.fwBack.get f = (((s.set MBOX_STATUS_FW_READY 1).set MBOX_STATUS_RECOVERY 0).bell 16).get f := rfl
  refine ⟨?_, ?_, ?_⟩
  · rw [State.flag_iff, back, told.status MBOX_STATUS_FW_READY rfl (by decide) (by decide), ← State.flag_iff,
      State.flag_set_other _ _ (by decide) (by decide), State.flag_set_same _ (by decide) rfl]
  · rw [State.flag_iff, back, told.status MBOX_STATUS_RECOVERY rfl (by decide) (by decide), State.get_set_same _ _ (by decide)]
    rfl
  · rw [State.flag_iff, back, ← State.flag_iff, State.bell_flag _ _ (by decide), beq_self_eq_true, Bool.or_true]

/-- Notices leave FW_READY, RECOVERY and the doorbell bits that are set as they are. -/
theorem Mailed.shows {a s : State} (h : Mailed a s) : s.flag MBOX_STATUS_FW_READY = a.flag MBOX_STATUS_FW_READY ∧
    s.flag MBOX_STATUS_RECOVERY = a.flag MBOX_STATUS_RECOVERY := by
  refine ⟨?_, ?_⟩
  · rw [State.flag_iff, h.status MBOX_STATUS_FW_READY rfl (by decide) (by decide), ← State.flag_iff]
  · rw [State.flag_iff, h.status MBOX_STATUS_RECOVERY rfl (by decide) (by decide), ← State.flag_iff]

/-! ### Commands on locks -/

theorem State.emit_get (s : State) (o : Output) (f : Field) : (s.emit o).get f = s.get f := rfl

theorem State.emit_out (s : State) (o : Output) : (s.emit o).out = o :: s.out := rfl

theorem State.emit_holder (s : State) (o : Output) (n : Nat) : (s.emit o).holder n = s.holder n := rfl

theorem State.wroteNow_get (s : State) (m : Master) (off : Nat) (f : Field) : (s.wroteNow m off).get f = s.get f := rfl

theorem State.wroteNow_holder (s : State) (m : Master) (off n : Nat) : (s.wroteNow m off).holder n = s.holder n := rfl

@[simp] theorem State.pass_holder (s : State) (t n : Nat) : (s.pass t).holder n = s.holder n := by
  rw [State.holder, State.pass_hk, State.holder]

theorem State.run_holder (s : State) (t : Nat) (g : State → State) (n : Nat) : (s.run t g).holder n = (g (s.pass t)).holder n := by
  rw [State.holder, State.run_hk, State.holder]

/-- A lock stands in the block of the locks. -/
theorem lock_block {n : Nat} (hn : n < 16) : LOCK_OFF n / 65536 = 13 := by rw [LOCK_OFF]; omega

theorem lockPeek_block {n : Nat} (hn : n < 16) : LOCK_PEEK_OFF n / 65536 = 13 := by rw [LOCK_PEEK_OFF]; omega

theorem State.run_peek (s : State) (t : Nat) (g : State → State) {n : Nat} (hn : n < 16) {f : Field} (ho : f.off = LOCK_PEEK_OFF n) :
    (s.run t g).get f = (g (s.pass t)).get f :=
  s.run_getOf t g (by rw [ho, lockPeek_block hn]; decide) (by rw [ho, lockPeek_block hn]; decide)

theorem State.pass_lockWord (s : State) (t n : Nat) (busy : Bool) : (s.pass t).lockWord n busy = s.lockWord n busy := by
  rw [State.lockWord, State.pass_get, State.pass_get, State.lockWord]

end Sys2Proof.Machine

open Sys2Proof Sys2Proof.Machine Sys2Proof.Machine.Reg

/-- Settles O40: each command is one operation on the doorbells or on a lock, whose record other registers leave as it is; what
firmware's loss and return tell the host leaves MBOX_STATUS and the doorbell bits as they are. -/
theorem locksAndRecovery : Obligations.LocksAndRecovery := by
  refine ⟨?doorbell, ?acquire, ?ranks, ?busy, ?release, ?misrelease, ?watchdog, ?ready⟩
  case doorbell =>
    intro s t m v ht
    have effect : (s.pass t).regWrite m MBOX_DBELL_SET_OFF 4 v.toNat =
        ((s.pass t).dbellSet v.toNat).wroteNow m MBOX_DBELL_SET_OFF := by
      rw [State.regWrite_house _ ht (.inl (by decide)), State.writeHouse_dbellSet]
    refine ⟨_, rfl, ?_, ?_⟩
    · rw [State.run_getOf _ _ _ (by decide) (by decide), effect]
      exact ((s.pass t).dbellSet_signals v.isLt).trans (by rw [State.pass_get])
    · rw [State.run_hk, effect]
      refine ((s.pass t).dbellSet_bells v.toNat).trans ?_
      simp only [State.pass_hk, State.pass_flag]
  case acquire =>
    intro s t n r w hn hm hs may free wins
    have effect : (if n < 16 then (s.pass t).readOut r (LOCK_OFF n) else s.pass t) =
        ((s.pass t).acquire n w).emit (.readData (cutRead r.sub r.bytes (((s.pass t).acquire n w).lockWord n (w != r.master)))) := by
      rw [if_pos hn, State.readOut_lock hn (by rwa [State.pass_reaches]) (by rwa [State.pass_stalls]),
        State.lockRead_free (by rwa [State.pass_holder]) may, wins]
    refine ⟨_, rfl, ?_, ?_, ?_, ?_⟩
    · rw [State.run_holder, effect, State.emit_holder, State.acquire_holder]
    · rw [State.flag_iff, State.run_peek _ _ _ hn rfl, effect, State.emit_get, ← State.flag_iff, State.acquire_held _ w hn]
    · rw [State.run_peek _ _ _ hn rfl, effect, State.emit_get, State.acquire_count _ w hn, State.pass_get]
    · rw [State.run_out, effect, State.emit_out, State.acquire_lockWord _ w _ hn, State.pass_get, State.acquire_out]
  case ranks =>
    intro s n m
    obtain ⟨above, tops⟩ := rank_foldl (s.pending.filterMap (s.contends n)) m
    refine ⟨above, tops, fun none => ?_⟩
    rw [State.lockWinner, none]
    rfl
  case busy =>
    intro s t n r h hn hm hs held other light
    have effect : (if n < 16 then (s.pass t).readOut r (LOCK_OFF n) else s.pass t) =
        (s.pass t).emit (.readData (cutRead r.sub r.bytes (s.lockWord n true))) := by
      rw [if_pos hn, State.readOut_lock hn (by rwa [State.pass_reaches]) (by rwa [State.pass_stalls]),
        State.lockRead_busy (by rwa [State.pass_holder]) other, State.pass_lockWord]
    exact congrArg Host.Outcome.next
      (State.run_effect light effect rfl rfl rfl (State.emit_elsewhere [13] _ _) (by decide) (by decide))
  case release =>
    intro s t n m v hn ht held hv
    have effect : (if n < 16 then (s.pass t).regWrite m (LOCK_OFF n) 4 v.toNat else s.pass t) =
        ((s.pass t).freeLock n).wroteNow m (LOCK_OFF n) := by
      rw [if_pos hn, State.regWrite_house _ ht (.inr (lock_block hn)), State.writeHouse_lock _ _ _ hn, State.lockRelease,
        State.pass_holder, held, if_pos (beq_self_eq_true _), if_pos (by rw [hv]; rfl)]
    obtain ⟨free, owner, count⟩ := (s.pass t).freeLock_record hn
    refine ⟨_, rfl, ?_, ?_, ?_, ?_⟩
    · rw [State.run_holder, effect, State.wroteNow_holder, State.freeLock_holder]
    · rw [State.flag_iff, State.run_peek _ _ _ hn rfl, effect, State.wroteNow_get, ← State.flag_iff, free]
    · rw [State.run_peek _ _ _ hn rfl, effect, State.wroteNow_get, owner]
    · rw [State.run_peek _ _ _ hn rfl, effect, State.wroteNow_get, count, State.pass_get]
  case misrelease =>
    intro s t n m v hn ht held light
    have effect : (if n < 16 then (s.pass t).regWrite m (LOCK_OFF n) 4 v.toNat else s.pass t) =
        ((s.pass t).bump LOCK_ERR_MISRELEASE).wroteNow m (LOCK_OFF n) := by
      rw [if_pos hn, State.regWrite_house _ ht (.inr (lock_block hn)), State.writeHouse_lock _ _ _ hn, State.lockRelease,
        State.pass_holder, if_neg (by simpa using held)]
    have counted : Elsewhere [13] (s.pass t) (((s.pass t).bump LOCK_ERR_MISRELEASE).wroteNow m (LOCK_OFF n)) :=
      ((Elsewhere.refl _ _).bump (by decide)).trans (.of_regs rfl)
    exact congrArg Host.Outcome.next (State.run_effect light effect rfl rfl rfl counted (by decide) (by decide))
  case watchdog =>
    intro s t hp hr
    have heard : (⟨0x0A09, 10, subj 14 10, 0, 0, 0, 0⟩ : Report).reaction = .nothing := rfl
    have effect := State.fwWatchdog_eq (s := s.pass t) (by rwa [State.pass_powered]) (by rwa [State.pass_flag])
    have status (f : Field) (ho : f.off = MBOX_STATUS_OFF) : (s.run t fun s => s.fwWatchdog).flag f = (s.pass t).fwLost.flag f := by
      rw [State.run_flagOf _ _ _ (by rw [ho]; decide) (by rw [ho]; decide), effect]
      exact State.flag_of_reg ((State.forceLocks_reg _ _ (by rw [ho]; decide) (by rw [ho]; decide)).trans
        ((State.fault_elsewhere _ _ _ _ heard).reg (by rw [ho]; decide)))
    obtain ⟨recovery, ready⟩ := (s.pass t).fwLost_status
    refine ⟨_, rfl, (status _ rfl).trans recovery, (status _ rfl).trans ready, ?_, fun free hrec => ?_⟩
    · rw [State.run_hk, effect]
      exact State.forceLocks_holder _ _
    · obtain ⟨idle, pll, alive⟩ := (s.records_iff t).mp hrec
      obtain ⟨now, house, keeper, holder, regs⟩ := (s.pass t).fwLost_keeps
      have kept : (((s.pass t).fwLost.fault 0x0A09 10 (subj 14 10)).hk.holder.all fun h => !h.2.isFw) = true := by
        have same : ((s.pass t).fwLost.fault 0x0A09 10 (subj 14 10)).hk = (s.pass t).fwLost.hk := State.accept_hk _ _ _ _ _ _ heard
        rwa [same, holder, State.pass_hk]
      rw [State.run_newest, effect, State.forceLocks_none kept]
      refine State.fault_newest heard ?_ ?_ ?_
      · rwa [keeper, now, State.pass_keeper, State.pass_now]
      · rwa [house, State.pass_house]
      · rwa [regs.flag (by decide), State.pass_flag]
  case ready =>
    intro s t hp hs hr
    have rom : (s.pass t).romServes = false := by rwa [State.romServes, State.pass_house, State.pass_flag, ← State.romServes]
    have effect := State.fwReady_eq (s := s.pass t) (by rwa [State.pass_powered]) rom
      (by rwa [State.pass_flag])
    have told : Mailed (s.pass t).fwBack (s.pass t).fwReady := by
      rw [effect]
      exact .ite ((Mailed.refl _).mboxMode.notice _ _) (Mailed.refl _).mboxMode
    obtain ⟨ready, recovery, bell⟩ := (s.pass t).fwBack_shows
    refine ⟨_, rfl, ?_, ?_, ?_⟩
    · rw [State.run_flagOf _ _ _ (by decide) (by decide), told.shows.1, ready]
    · rw [State.run_flagOf _ _ _ (by decide) (by decide), told.shows.2, recovery]
    · rw [State.run_flagOf _ _ _ (by decide) (by decide), told.bells 16 (by decide) bell]

end

section
/-! PROOF. Fault injection (R483 to R485): what a write of KEEPER_INJ_CTRL does for the holder of LOCK_10 and for another master, and what
KEEPER does with an injected report at REACT 0. -/

namespace Sys2Proof.Machine

open Reg

/-! ### A report of which KEEPER keeps a record only (R484) -/

@[simp] theorem State.collect_house (s : State) (r : Report) (a b c d : Bool) : (s.collect r a b c d).house = s.house := by
  simp only [State.collect, apply_ite State.house, State.lose_house, State.record_house]
  split <;> (repeat' split) <;> simp

/-- A record leaves the injection alone. -/
theorem State.record_inj (s : State) (r : Report) (cls : Nat) (real injected : Bool) :
    (s.record r cls real injected).keeper.inj = s.keeper.inj := by
  simp only [State.record, apply_ite State.keeper, State.raise_keeper, State.event_keeper, State.set_keeper, ite_self]

/-- An injected report at REACT 0 counts, and is recorded or lost. -/
theorem State.collect_quiet (s : State) (r : Report) : ∃ f : Field, f.off = KEEPER_COUNTS_OFF ∧
    (s.collect r false true false false = (s.bump f).lose r.class_ ∨
      s.collect r false true false false = (s.bump f).record r r.class_ false true) := by
  refine ⟨match r.class_ with | 0 => KEEPER_COUNTS_CE | 1 => KEEPER_COUNTS_CC | _ => KEEPER_COUNTS_FT, ?_, ?_⟩
  · split
    · rfl
    · rfl
    · rfl
  · unfold State.collect
    extract_lets cls full s1 s2 busy lost
    have counted : s2 = s1 := by
      simp only [s2, full, Bool.or_self, Bool.false_and, Bool.false_eq_true, if_false]
      split
      · split
        · rfl
        · rfl
      · rfl
    rw [counted]
    cases lost
    · exact .inr rfl
    · exact .inl rfl

theorem State.quiet_inj (s : State) (r : Report) : (s.collect r false true false false).keeper.inj = s.keeper.inj := by
  obtain ⟨f, -, e | e⟩ := s.collect_quiet r
  · rw [e, State.lose_keeper, State.bump_keeper]
  · rw [e, State.record_inj, State.bump_keeper]

/-- Of KEEPER's registers it changes the counters, the loss and the next number. -/
theorem State.quiet_reg (s : State) (r : Report) {o : Nat} (host : o / 65536 ≠ 2) (count : o ≠ KEEPER_COUNTS_OFF)
    (lost : o ≠ KEEPER_LOST_OFF) (seq : o ≠ KEEPER_SEQ_OFF) : (s.collect r false true false false).reg o = s.reg o := by
  obtain ⟨f, hf, e | e⟩ := s.collect_quiet r
  · rw [e, State.lose_reg _ _ host lost lost, State.bump, State.bumpBy, State.reg_set_other _ _ (by rwa [hf])]
  · rw [e, State.record_reg _ _ _ _ _ host seq, State.bump, State.bumpBy, State.reg_set_other _ _ (by rwa [hf])]

/-! ### A write of KEEPER_INJ_CTRL (R483) -/

/-- A write of KEEPER_INJ_CTRL that a master may make. -/
theorem State.regWrite_injCtrl {s : State} {m : Master} (v : Nat) (h : s.takes m KEEPER_INJ_CTRL_OFF = true) :
    s.regWrite m KEEPER_INJ_CTRL_OFF 4 v = (s.injWrite m KEEPER_INJ_CTRL_OFF v).wroteNow m KEEPER_INJ_CTRL_OFF := by
  have runs : s.commitStopped KEEPER_INJ_CTRL_OFF = false := by
    simp only [State.takes, Bool.and_eq_true, Bool.not_eq_true'] at h
    exact h.2
  rw [State.regWrite_takes v h, State.regTakes, runs]
  rfl

theorem State.injWrite_denied {s : State} {m : Master} (off v : Nat) (h : s.holder 10 ≠ some m) :
    s.injWrite m off v = s.bump KEEPER_INJ_STATUS_DENIED := by
  rw [State.injWrite, if_pos (bne_iff_ne.mpr h)]

/-- The registers of the injection once CODE and REACT are written. -/
def State.injSet (s : State) (v : Nat) : State := (s.set KEEPER_INJ_CTRL_CODE v).set KEEPER_INJ_CTRL_REACT (v / 2 ^ 29)

theorem State.injWrite_held {s : State} {m : Master} (v : Nat) (h : s.holder 10 = some m) : s.injWrite m KEEPER_INJ_CTRL_OFF v =
    if v / 2 ^ 31 % 2 == 1 then (if v / 2 ^ 30 % 2 == 1 && s.keeper.inj.isSome then (s.injSet v).endInjection
      else s.injSet v).injectGo m
    else if v / 2 ^ 30 % 2 == 1 && s.keeper.inj.isSome then (s.injSet v).endInjection else s.injSet v := by
  have mine : (s.holder 10 != some m) = false := by rw [h, bne_self_eq_false]
  rw [State.injWrite, mine]
  rfl

/-- What INJECT_GO writes: GO 1 and STOP 0. -/
theorem goValue (v : Nat) : (2 ^ 31 + v % 2 ^ 30) / 2 ^ 31 % 2 = 1 ∧ (2 ^ 31 + v % 2 ^ 30) / 2 ^ 30 % 2 = 0 ∧
    (2 ^ 31 + v % 2 ^ 30) % 2 ^ 16 = v % 2 ^ 16 ∧ (2 ^ 31 + v % 2 ^ 30) / 2 ^ 29 % 2 = v / 2 ^ 29 % 2 := by omega

/-- What INJECT_STOP writes: GO 0 and STOP 1. -/
theorem stopValue (v : Nat) : (2 ^ 30 + v % 2 ^ 30) / 2 ^ 31 % 2 = 0 ∧ (2 ^ 30 + v % 2 ^ 30) / 2 ^ 30 % 2 = 1 := by omega

theorem State.injWrite_go {s : State} {m : Master} (v : Nat) (h : s.holder 10 = some m) :
    s.injWrite m KEEPER_INJ_CTRL_OFF (2 ^ 31 + v % 2 ^ 30) = (s.injSet (2 ^ 31 + v % 2 ^ 30)).injectGo m := by
  obtain ⟨go, stop, -, -⟩ := goValue v
  rw [State.injWrite_held _ h, go, stop]
  rfl

theorem State.injWrite_stop {s : State} {m : Master} (v : Nat) (h : s.holder 10 = some m) (hi : s.keeper.inj.isSome = true) :
    s.injWrite m KEEPER_INJ_CTRL_OFF (2 ^ 30 + v % 2 ^ 30) = (s.injSet (2 ^ 30 + v % 2 ^ 30)).endInjection := by
  obtain ⟨go, stop⟩ := stopValue v
  rw [State.injWrite_held _ h, go, stop, hi]
  rfl

theorem State.injSet_reg (s : State) (v : Nat) {o : Nat} (ho : o ≠ KEEPER_INJ_CTRL_OFF) : (s.injSet v).reg o = s.reg o :=
  (State.reg_set_other (s.set KEEPER_INJ_CTRL_CODE v) _ ho).trans (State.reg_set_other s _ ho)

/-- CODE and REACT as INJECT_GO writes them. -/
theorem State.injSet_go (s : State) (v : Nat) : (s.injSet (2 ^ 31 + v % 2 ^ 30)).get KEEPER_INJ_CTRL_CODE = v % 2 ^ 16 ∧
    (s.injSet (2 ^ 31 + v % 2 ^ 30)).flag KEEPER_INJ_CTRL_REACT = v.testBit 29 := by
  obtain ⟨-, -, code, react⟩ := goValue v
  refine ⟨?_, ?_⟩
  · rw [State.injSet, State.get_set_other _ _ (by decide) (by decide), State.get_set_same _ _ (by decide)]
    exact code
  · rw [State.injSet, State.flag_iff, State.get_set_same _ _ (by decide), Nat.testBit_eq_decide_div_mod_eq, ← react]
    rfl

/-- The first failure of R483 reads the state of the module, the layers and the injection. -/
theorem State.injSet_injectCode (s : State) (w code subject : Nat) (react : Bool) :
    (s.injSet w).injectCode code subject react = s.injectCode code subject react := rfl

theorem State.pass_injectCode (s : State) (t code subject : Nat) (react : Bool) :
    (s.pass t).injectCode code subject react = s.injectCode code subject react :=
  State.pass_keeps (·.injectCode code subject react) (fun _ _ _ _ _ _ _ => rfl) s t

/-! ### GO of the holder (R483, R484) -/

/-- REJ_CODE tells the first failure of a GO. -/
theorem State.injectGo_rejected {s : State} {m : Master}
    (h : s.injectCode (s.get KEEPER_INJ_CTRL_CODE) (s.reg KEEPER_INJ_SUBJECT_OFF) (s.flag KEEPER_INJ_CTRL_REACT) ≠ 0) :
    s.injectGo m = s.set KEEPER_INJ_STATUS_REJ_CODE
      (s.injectCode (s.get KEEPER_INJ_CTRL_CODE) (s.reg KEEPER_INJ_SUBJECT_OFF) (s.flag KEEPER_INJ_CTRL_REACT)) := by
  rw [State.injectGo]
  exact if_pos (bne_iff_ne.mpr h)

theorem State.injectCode_lt (s : State) (code subject : Nat) (react : Bool) : s.injectCode code subject react < 2 ^ 4 := by
  rw [State.injectCode]
  split
  · decide
  · split
    · decide
    · split
      · decide
      · split
        · decide
        · decide

/-- An injection that has begun, for its owner. -/
def State.injBegun (s : State) (m : Master) (i : Injection) : State :=
  let s := s.set KEEPER_INJ_STATUS_REJ_CODE 0
  let s := { s with keeper := { s.keeper with inj := some i } }
  (s.set KEEPER_INJ_STATUS_ACTIVE 1).set KEEPER_INJ_STATUS_OWNER m.owner

/-- At REACT 0 a GO begins the injection, and its report is recorded. -/
theorem State.injectGo_quiet {s : State} {m : Master} (hr : s.flag KEEPER_INJ_CTRL_REACT = false)
    (h : s.injectCode (s.get KEEPER_INJ_CTRL_CODE) (s.reg KEEPER_INJ_SUBJECT_OFF) false = 0) : ∃ i : Injection, ∃ r : Report,
    i.code = s.get KEEPER_INJ_CTRL_CODE ∧ i.subject = s.reg KEEPER_INJ_SUBJECT_OFF ∧ r.code = s.get KEEPER_INJ_CTRL_CODE ∧
    s.injectGo m = ((s.injBegun m i).collect r false true false false).driveErr := by
  refine ⟨⟨s.get KEEPER_INJ_CTRL_CODE, s.reg KEEPER_INJ_SUBJECT_OFF, false, m.owner,
    if s.get KEEPER_INJ_HOLD_US == 0 then s.now + 10 else s.now + 1000 * s.get KEEPER_INJ_HOLD_US⟩,
    s.injected (s.get KEEPER_INJ_CTRL_CODE) (s.reg KEEPER_INJ_SUBJECT_OFF), rfl, rfl, rfl, ?_⟩
  have hold : (s.set KEEPER_INJ_STATUS_REJ_CODE 0).get KEEPER_INJ_HOLD_US = s.get KEEPER_INJ_HOLD_US :=
    State.get_set_other _ _ (by decide) (by decide)
  simp only [State.injectGo, hr, h, hold, bne_self_eq_false, Bool.false_eq_true, if_false]
  rfl

theorem State.injBegun_shows (s : State) (m : Master) (i : Injection) : (s.injBegun m i).flag KEEPER_INJ_STATUS_ACTIVE = true ∧
    (s.injBegun m i).get KEEPER_INJ_STATUS_REJ_CODE = 0 ∧ (s.injBegun m i).get KEEPER_INJ_STATUS_OWNER = m.owner := by
  have fits : m.owner % 2 ^ 4 = m.owner := by cases m <;> rfl
  have begun (x : State) (f : Field) : ({ x with keeper := { x.keeper with inj := some i } } : State).get f = x.get f := rfl
  unfold State.injBegun
  refine ⟨?_, ?_, ?_⟩
  · rw [State.flag_set_other _ _ (by decide) (by decide), State.flag_set_same _ (by decide) rfl]
  · rw [State.get_set_other _ _ (by decide) (by decide), State.get_set_other _ _ (by decide) (by decide), begun,
      State.get_set_same _ _ (by decide)]
    rfl
  · rw [State.get_set_same _ _ (by decide)]
    exact fits

theorem State.injBegun_reg (s : State) (m : Master) (i : Injection) {o : Nat} (ho : o ≠ KEEPER_INJ_STATUS_OFF) :
    (s.injBegun m i).reg o = s.reg o := by
  have begun (x : State) : ({ x with keeper := { x.keeper with inj := some i } } : State).reg o = x.reg o := rfl
  unfold State.injBegun
  rw [State.reg_set_other _ _ ho, State.reg_set_other _ _ ho, begun, State.reg_set_other _ _ ho]

/-- The state after a GO of the holder at REACT 0, with the injection and its report. -/
def State.injQuiet (s : State) (m : Master) (v : Nat) (i : Injection) (r : Report) : State :=
  (((s.injSet (2 ^ 31 + v % 2 ^ 30)).injBegun m i).collect r false true false false).driveErr

section

variable (s : State) (m : Master) (v : Nat) (i : Injection) (r : Report)

/-- Beside the registers that the injection, the counters and the ERR pair have, none changes. -/
theorem State.injQuiet_reg {o : Nat} (host : o / 65536 ≠ 2) (other : ¬ o ∈ [KEEPER_COUNTS_OFF, KEEPER_LOST_OFF, KEEPER_SEQ_OFF,
    KEEPER_STATUS_OFF, KEEPER_INJ_CTRL_OFF, KEEPER_INJ_STATUS_OFF]) : (s.injQuiet m v i r).reg o = s.reg o := by
  simp only [List.mem_cons, List.not_mem_nil, or_false, not_or] at other
  obtain ⟨count, lost, seq, status, control, injection⟩ := other
  rw [State.injQuiet, State.driveErr_reg _ status, State.quiet_reg _ _ host count lost seq, State.injBegun_reg _ _ _ injection,
    State.injSet_reg _ _ control]

/-- It shows in its status register as it began. -/
theorem State.injQuiet_status : (s.injQuiet m v i r).reg KEEPER_INJ_STATUS_OFF =
    ((s.injSet (2 ^ 31 + v % 2 ^ 30)).injBegun m i).reg KEEPER_INJ_STATUS_OFF := by
  rw [State.injQuiet, State.driveErr_reg _ (by decide), State.quiet_reg _ _ (by decide) (by decide) (by decide) (by decide)]

theorem State.injQuiet_mode : (s.injQuiet m v i r).house.mode = s.house.mode := by
  rw [State.injQuiet, State.driveErr_mode, State.collect_house]
  rfl

theorem State.injQuiet_inj : (s.injQuiet m v i r).keeper.inj = some i := by
  rw [State.injQuiet, State.driveErr_keeper, State.quiet_inj]
  rfl

variable {s}

theorem State.injQuiet_newest {t : Nat} (h : s.records t = true) :
    ((s.pass t).injQuiet m v i r).newest = some (r.code, r.source, r.subject) := by
  obtain ⟨idle, pll, alive⟩ := (s.records_iff t).mp h
  rw [State.injQuiet, State.newest, State.driveErr_keeper]
  refine State.collect_newest ?_ ?_ ?_
  · rwa [← s.pass_keeper t, ← s.pass_now t] at idle
  · rwa [← s.pass_house t] at pll
  · have same : (((s.pass t).injSet (2 ^ 31 + v % 2 ^ 30)).injBegun m i).flag KEEPER_STATUS_FATAL = (s.pass t).flag KEEPER_STATUS_FATAL :=
      State.flag_of_reg ((State.injBegun_reg _ _ _ (by decide)).trans (State.injSet_reg _ _ (by decide)))
    rw [same, State.pass_flag, alive]

end

/-! ### Enables after a command -/

/-- A command that keeps the mode and EN_A leaves EN_A as it is where the mode emits, and 0 elsewhere (R365). -/
theorem State.run_enable {s : State} {t : Nat} {g : State → State} (hm : (g (s.pass t)).house.mode = s.house.mode)
    (ha : (g (s.pass t)).get GUARD_A_STATUS_EN_A = s.get GUARD_A_STATUS_EN_A) :
    (s.run t g).get GUARD_A_STATUS_EN_A = if s.house.mode.emitting then s.get GUARD_A_STATUS_EN_A else 0 := by
  rw [State.run]
  split
  · next emits => rw [State.settle_of _ _ _ (.inl (by rwa [hm])), ← ha]; rfl
  · next dark => exact (State.settle_dark _ _ _ (by rw [hm]; exact Bool.not_eq_true _ ▸ dark)).1

/-! ### The end of an injection -/

theorem State.endInjection_keeper (s : State) : s.endInjection.keeper = { s.keeper with inj := none } := rfl

theorem State.endInjection_flag (s : State) : s.endInjection.flag KEEPER_INJ_STATUS_ACTIVE = false := by
  rw [State.flag_iff, State.endInjection, State.get_set_same _ _ (by decide)]
  rfl

/-- HOLD has passed. -/
theorem State.injectExpiry_due {s : State} {i : Injection} (hi : s.keeper.inj = some i) (h : i.endsAt ≤ s.now) :
    s.injectExpiry = s.endInjection := by
  rw [State.injectExpiry, hi]
  exact if_pos h

/-- HOLD has not passed. -/
theorem State.injectExpiry_early {s : State} (h : ∀ i ∈ s.keeper.inj, s.now < i.endsAt) : s.injectExpiry = s := by
  rw [State.injectExpiry]
  split
  · next i hi => exact if_neg (Nat.not_le.mpr (h i hi))
  · rfl

end Sys2Proof.Machine

open Sys2Proof Sys2Proof.Machine Sys2Proof.Machine.Reg

/-- Settles O60: a write of KEEPER_INJ_CTRL by its cases; at REACT 0 KEEPER collects a report that is neither real nor reacts, which
leaves everything but its record, its count and the ERR pair as it is. -/
theorem faultInjection : Obligations.FaultInjection := by
  refine ⟨?denied, ?rejected, ?begun, ?stop, ?expiry, ?early⟩
  case denied =>
    intro s t m v c ht hn hc
    have denied (w : Nat) : ((s.run t fun s => s.regWrite m KEEPER_INJ_CTRL_OFF 4 w).keeper = s.keeper ∧
        (s.run t fun s => s.regWrite m KEEPER_INJ_CTRL_OFF 4 w).get KEEPER_INJ_STATUS_DENIED =
          min (s.get KEEPER_INJ_STATUS_DENIED + 1) 0xFF) := by
      have effect : (s.pass t).regWrite m KEEPER_INJ_CTRL_OFF 4 w =
          ((s.pass t).bump KEEPER_INJ_STATUS_DENIED).wroteNow m KEEPER_INJ_CTRL_OFF := by
        rw [State.regWrite_injCtrl _ ht, State.injWrite_denied _ _ (by rwa [State.pass_holder])]
      refine ⟨?_, ?_⟩
      · rw [State.run_keeper, effect]
        exact s.pass_keeper t
      · have small : min (s.get KEEPER_INJ_STATUS_DENIED + 1) 0xFF < 2 ^ 8 := by omega
        rw [State.run_getOf _ _ _ (by decide) (by decide), effect, State.wroteNow_get, State.bump, State.bumpBy,
          State.get_set_same _ _ (by decide), State.pass_get]
        exact Nat.mod_eq_of_lt small
    rcases List.mem_cons.mp hc with rfl | hc
    · exact ⟨_, rfl, denied _⟩
    · rw [List.mem_singleton.mp hc]
      exact ⟨_, rfl, denied _⟩
  case rejected =>
    intro s t m v ht hh bad
    obtain ⟨code, react⟩ := (s.pass t).injSet_go v.toNat
    have subject : ((s.pass t).injSet (2 ^ 31 + v.toNat % 2 ^ 30)).reg KEEPER_INJ_SUBJECT_OFF = s.reg KEEPER_INJ_SUBJECT_OFF := by
      rw [State.injSet_reg _ _ (by decide), State.pass_reg]
    have failure : ((s.pass t).injSet (2 ^ 31 + v.toNat % 2 ^ 30)).injectCode (v.toNat % 2 ^ 16) (s.reg KEEPER_INJ_SUBJECT_OFF)
        (v.toNat.testBit 29) = s.injectCode (v.toNat % 2 ^ 16) (s.reg KEEPER_INJ_SUBJECT_OFF) (v.toNat.testBit 29) := by
      rw [State.injSet_injectCode, State.pass_injectCode]
    have go := State.injectGo_rejected (s := (s.pass t).injSet (2 ^ 31 + v.toNat % 2 ^ 30)) (m := m)
      (by rwa [code, react, subject, failure])
    rw [code, react, subject, failure] at go
    have effect : (s.pass t).regWrite m KEEPER_INJ_CTRL_OFF 4 (2 ^ 31 + v.toNat % 2 ^ 30) =
        (((s.pass t).injSet (2 ^ 31 + v.toNat % 2 ^ 30)).set KEEPER_INJ_STATUS_REJ_CODE (s.injectCode (v.toNat % 2 ^ 16)
          (s.reg KEEPER_INJ_SUBJECT_OFF) (v.toNat.testBit 29))).wroteNow m KEEPER_INJ_CTRL_OFF := by
      rw [State.regWrite_injCtrl _ ht, State.injWrite_go _ (by rwa [State.pass_holder]), go]
    refine ⟨_, rfl, ?_, ?_⟩
    · rw [State.run_keeper, effect]
      exact s.pass_keeper t
    · rw [State.run_getOf _ _ _ (by decide) (by decide), effect, State.wroteNow_get, State.get_set_same _ _ (by decide)]
      exact Nat.mod_eq_of_lt (s.injectCode_lt _ _ _)
  case begun =>
    intro s t m v ht hh good react0
    obtain ⟨code, react⟩ := (s.pass t).injSet_go v.toNat
    have subject : ((s.pass t).injSet (2 ^ 31 + v.toNat % 2 ^ 30)).reg KEEPER_INJ_SUBJECT_OFF = s.reg KEEPER_INJ_SUBJECT_OFF := by
      rw [State.injSet_reg _ _ (by decide), State.pass_reg]
    obtain ⟨i, r, icode, isubject, rcode, go⟩ := State.injectGo_quiet (s := (s.pass t).injSet (2 ^ 31 + v.toNat % 2 ^ 30)) (m := m)
      (by rw [react, react0]) (by rwa [code, subject, State.injSet_injectCode, State.pass_injectCode, ← react0])
    have effect : (s.pass t).regWrite m KEEPER_INJ_CTRL_OFF 4 (2 ^ 31 + v.toNat % 2 ^ 30) =
        ((s.pass t).injQuiet m v.toNat i r).wroteNow m KEEPER_INJ_CTRL_OFF := by
      rw [State.regWrite_injCtrl _ ht, State.injWrite_go _ (by rwa [State.pass_holder]), go, State.injQuiet]
    have wrote (x : State) : (x.wroteNow m KEEPER_INJ_CTRL_OFF).house = x.house ∧ (x.wroteNow m KEEPER_INJ_CTRL_OFF).keeper = x.keeper :=
      ⟨rfl, rfl⟩
    obtain ⟨active, accepted, owner⟩ := ((s.pass t).injSet (2 ^ 31 + v.toNat % 2 ^ 30)).injBegun_shows m i
    have status := (s.pass t).injQuiet_status m v.toNat i r
    have mode : ((s.pass t).regWrite m KEEPER_INJ_CTRL_OFF 4 (2 ^ 31 + v.toNat % 2 ^ 30)).house.mode = s.house.mode := by
      rw [effect, (wrote _).1, State.injQuiet_mode, State.pass_house]
    refine ⟨_, rfl, ?_, ?_, ?_, ?_, ?_, ?_, fun b _ => ?_, ?_, fun rec => ?_⟩
    · rw [State.run_flagOf _ _ _ (by decide) (by decide), effect, State.wroteNow_flag, State.flag_of_reg status, active]
    · rw [State.run_getOf _ _ _ (by decide) (by decide), effect, State.wroteNow_get, State.get_of_reg status, accepted]
    · rw [State.run_getOf _ _ _ (by decide) (by decide), effect, State.wroteNow_get, State.get_of_reg status, owner]
    · rw [State.run_house, mode]
    · rw [State.run_keeper, effect, (wrote _).2, State.injQuiet_inj, Option.map_some, icode, code]
    · rw [State.run_keeper, effect, (wrote _).2, State.injQuiet_inj, Option.map_some, isubject, subject]
    · have block := openBit_block b
      rw [State.run_flagOf _ _ _ (by rw [block]; decide) (by rw [block]; decide), effect, State.wroteNow_flag, ← s.pass_flag t]
      refine State.flag_of_reg (State.injQuiet_reg _ _ _ _ _ (by rw [block]; decide) ?_)
      rcases openBit_off b with h | h
      · rw [h]; decide
      · rw [h]; decide
    · refine State.run_enable mode ?_
      rw [effect, State.wroteNow_get, State.get_of_reg (State.injQuiet_reg _ _ _ _ _ (by decide) (by decide)), State.pass_get]
    · rw [State.run_newest, effect, State.newest, (wrote _).2, ← State.newest, State.injQuiet_newest _ _ _ _ rec, Option.map_some, rcode,
        code]
  case stop =>
    intro s t m v i ht hh hi
    have effect : (s.pass t).regWrite m KEEPER_INJ_CTRL_OFF 4 (2 ^ 30 + v.toNat % 2 ^ 30) =
        ((s.pass t).injSet (2 ^ 30 + v.toNat % 2 ^ 30)).endInjection.wroteNow m KEEPER_INJ_CTRL_OFF := by
      rw [State.regWrite_injCtrl _ ht, State.injWrite_stop _ (by rwa [State.pass_holder]) (by rw [State.pass_keeper, hi]; rfl)]
    refine ⟨_, rfl, ?_, ?_⟩
    · rw [State.run_keeper, effect, ← s.pass_keeper t]
      rfl
    · rw [State.run_flagOf _ _ _ (by decide) (by decide), effect, State.wroteNow_flag, State.endInjection_flag]
  case expiry =>
    intro s t i hi due
    have ended := State.injectExpiry_due (s := s.pass t) (by rwa [State.pass_keeper]) (by rwa [State.pass_now])
    refine ⟨_, rfl, ?_, ?_⟩
    · rw [State.run_keeper, ended, State.endInjection_keeper, State.pass_keeper]
    · rw [State.run_flagOf _ _ _ (by decide) (by decide), ended, State.endInjection_flag]
  case early =>
    intro s t due light
    have kept : (s.pass t).injectExpiry = s.pass t := State.injectExpiry_early (by rwa [State.pass_keeper, State.pass_now])
    exact congrArg Host.Outcome.next (State.run_effect (bs := []) light kept rfl rfl rfl (.refl _ _) (by decide) (by decide))

end

section
/-! PROOF. The pins RESET_N and PERST_N (R361, R500, R505, R527): what a power-down keeps of the registers, the ERR pair while the module is
held, and the host's part after a reset whatever locks the host held. -/

namespace Sys2Proof.Machine

open Reg

/-! ### The ERR pair and LIGHT (R425, R480) -/

/-- The ERR pair's pins are all that `driveErr` changes of HOUSE. -/
theorem State.driveErr_house (s : State) : ∃ p e, s.driveErr.house = { s.house with errPin := p, errSince := e } := by
  unfold State.driveErr
  extract_lets src s1 opens s2 h pin
  exact ⟨pin.1, pin.2, rfl⟩

/-- A contributor that forces fault shows on the pair at once. -/
theorem State.driveErr_forced {s : State} (hm : s.house.mode ≠ .off) (hs : s.errSources ≠ 0) : s.driveErr.house.errPin = .fault := by
  unfold State.driveErr
  extract_lets src s1 opens s2 h pin
  have powered : (h.mode == .off) = false := beq_eq_false_iff_ne.mpr hm
  have forced : (src != 0) = true := bne_iff_ne.mpr hs
  have fault : pin.1 = .fault := by
    simp only [pin, powered, forced, Bool.false_eq_true, if_false, if_true]
  exact fault

/-- A module that RESET_N holds forces fault. -/
theorem State.errSources_held {s : State} (h : s.flag HOUSE_START_HELD = true) : s.errSources ≠ 0 := by
  simp only [State.errSources, h, Bool.or_true, Bool.true_or, bit, if_true]
  omega

theorem State.driveLight_house (s : State) : ∃ lit, s.driveLight.house = { s.house with lightOut := lit } ∧
    (s.house.mode = .stowed → lit = false) := by
  unfold State.driveLight
  extract_lets lit
  refine ⟨lit, rfl, fun hm => ?_⟩
  have dark : (s.house.mode == .show || s.house.mode == .solo) = false := by rw [hm]; rfl
  simp only [lit, dark, Bool.false_and]

theorem State.driveLight_reg (s : State) {o : Nat} (h : o ≠ SPLICE_STATUS_OFF) : s.driveLight.reg o = s.reg o :=
  State.reg_set_other ({ s with house := { s.house with lightOut := _ } }) _ h

/-! ### What a power-down keeps (R27, R505) -/

/-- A register after a power-down has its kept bits, and its cold value in the others. -/
theorem rread_keptRegs (stow : Bool) (regs : List (Nat × BitVec 32)) (o : Nat) : rread (keptRegs stow regs) o =
    (rread regs o &&& BitVec.ofNat 32 (keepMask stow o)) ||| (coldReg o &&& ~~~BitVec.ofNat 32 (keepMask stow o)) := by
  induction regs with
  | nil =>
    have whole (x m : BitVec 32) : x = (x &&& m) ||| (x &&& ~~~m) := by
      rw [← BitVec.and_or_distrib_left, BitVec.or_not_self, BitVec.and_allOnes]
    exact whole _ _
  | cons e regs ih =>
    obtain ⟨p, w⟩ := e
    rw [keptRegs, List.foldr_cons]
    by_cases here : o = p
    · subst here
      have mine : rread ((o, w) :: regs) o = w := if_pos rfl
      rw [rread_rwrite_same, mine]
    · have other : rread ((p, w) :: regs) o = rread regs o := if_neg fun e => here e.symm
      rw [rread_rwrite_other _ _ here, other, ← ih, keptRegs]

/-- HOUSE_START belongs to the logic that stays on. -/
theorem rread_keptRegs_start (stow : Bool) (regs : List (Nat × BitVec 32)) :
    rread (keptRegs stow regs) HOUSE_START_OFF = rread regs HOUSE_START_OFF := by
  have mask : BitVec.ofNat 32 (keepMask stow HOUSE_START_OFF) = BitVec.allOnes 32 := rfl
  rw [rread_keptRegs, mask, BitVec.and_allOnes, BitVec.not_allOnes, BitVec.and_zero, BitVec.or_zero]

/-- The logic die of a held module goes down: STOWED, dark, the ERR pair at fault, module DRAM empty. -/
theorem State.powerDown_held {s : State} (held : s.flag HOUSE_START_HELD = true) :
    (s.powerDown false).house.mode = .stowed ∧ (s.powerDown false).house.resetLow = s.house.resetLow ∧
    (s.powerDown false).get HOUSE_START_HELD = 1 ∧ (s.powerDown false).house.waking = none ∧
    (s.powerDown false).house.lightOut = false ∧ (s.powerDown false).house.errPin = .fault ∧ (s.powerDown false).dram = [] := by
  unfold State.powerDown
  extract_lets z h safe latch _ net keep _ _ _ _ _ _ _ t0 t1 t2 t3
  have house : t3.house = t0.house := by
    simp only [t3, t2, t1, apply_ite State.house, State.set_house, Bool.false_eq_true, if_false, ite_self]
  have dram : t3.dram = [] := by
    simp only [t3, t2, t1, apply_ite State.dram, State.set_dram, Bool.false_eq_true, if_false, ite_self]
    rfl
  have start : t3.reg HOUSE_START_OFF = s.reg HOUSE_START_OFF := by
    have kept : t0.reg HOUSE_START_OFF = s.reg HOUSE_START_OFF := congrArg BitVec.toNat (rread_keptRegs_start false s.regs)
    have state : t1.reg HOUSE_START_OFF = t0.reg HOUSE_START_OFF := State.reg_set_other t0 0 (by decide)
    have guard : t2.reg HOUSE_START_OFF = t1.reg HOUSE_START_OFF := by
      unfold t2
      split
      · exact (State.reg_set_other _ safe (by decide)).trans (State.reg_set_other t1 1 (by decide))
      · rfl
    exact guard.trans (state.trans kept)
  have stowed : t3.house.mode = .stowed := congrArg House.mode house
  obtain ⟨p, e, err⟩ := t3.driveErr_house
  obtain ⟨lit, light, dark⟩ := t3.driveErr.driveLight_house
  have fault : t3.driveErr.house.errPin = .fault :=
    State.driveErr_forced (by rw [stowed]; decide) (State.errSources_held ((State.flag_of_reg start).trans held))
  refine ⟨?_, ?_, ?_, ?_, ?_, ?_, ?_⟩
  · rw [State.driveLight_mode, State.driveErr_mode, stowed]
  · rw [light, err, house]
  · have shown : t3.driveErr.driveLight.reg HOUSE_START_OFF = s.reg HOUSE_START_OFF := by
      rw [State.driveLight_reg _ (by decide), State.driveErr_reg _ (by decide), start]
    rw [State.get_of_reg (f := HOUSE_START_HELD) shown]
    exact beq_iff_eq.mp held
  · rw [light, err, house]
    rfl
  · rw [light]
    exact dark (by rw [State.driveErr_mode, stowed])
  · rw [light]
    exact fault
  · rw [State.driveLight_dram, State.driveErr_dram, dram]

/-! ### RESET_N (R505) -/

/-- The level of RESET_N is recorded. -/
def State.resetPin (s : State) (low : Bool) : State := { s with house := { s.house with resetLow := low } }

/-- The module is held. -/
def State.heldNow (s : State) : State :=
  let s := (s.set HOUSE_START_HELD 1).driveErr
  { s with house := { s.house with heldWake := none } }

theorem State.resetAssert_eq {s : State} (ho : s.house.mode ≠ .off) (hf : s.house.mode ≠ .fatal) (hh : s.flag HOUSE_START_HELD = false)
    (hl : s.hk.holder = []) : s.resetAssert = (s.resetPin true).heldNow.powerDown false := by
  have held : (s.resetPin true).flag HOUSE_START_HELD = false := hh
  have off : (s.house.mode == .off) = false := beq_eq_false_iff_ne.mpr ho
  have fatal : (s.house.mode == .fatal) = false := beq_eq_false_iff_ne.mpr hf
  have free : (s.resetPin true).forceLocks (fun _ => true) = s.resetPin true :=
    State.forceLocks_none (by rw [State.resetPin, hl]; rfl)
  have mode : (s.resetPin true).house.mode = s.house.mode := rfl
  unfold State.resetAssert
  rw [← State.resetPin]
  simp only [mode, off, fatal, hh, free, Bool.or_self, Bool.false_eq_true, if_false]
  rfl

theorem State.heldNow_keeps (s : State) : s.heldNow.flag HOUSE_START_HELD = true ∧ s.heldNow.house.resetLow = s.house.resetLow := by
  have kept : s.heldNow.reg HOUSE_START_OFF = (s.set HOUSE_START_HELD 1).reg HOUSE_START_OFF := State.driveErr_reg _ (by decide)
  obtain ⟨p, e, err⟩ := (s.set HOUSE_START_HELD 1).driveErr_house
  refine ⟨?_, ?_⟩
  · rw [State.flag_of_reg (f := HOUSE_START_HELD) kept, State.flag_set_same _ (by decide) rfl]
  · exact (congrArg House.resetLow err :)

/-- The KIND of the wake sequence that the release of RESET_N starts. -/
def State.releaseKind (s : State) : Nat := if !s.house.coldPending then 2 else if s.house.brownMark then 1 else 0

/-- The module is released. -/
def State.released (s : State) : State :=
  let s : State := { s with house := { s.house with coldPending := false } }
  s.set HOUSE_START_HELD 0

theorem State.resetRelease_eq {s : State} (h : s.flag HOUSE_START_HELD = true) :
    s.resetRelease = ((s.resetPin false).released.wakeStart 2 s.releaseKind).driveErr := by
  have held : (s.resetPin false).flag HOUSE_START_HELD = true := h
  unfold State.resetRelease
  rw [← State.resetPin]
  simp only [held, Bool.not_true, Bool.false_eq_true, if_false]
  rfl

theorem State.wakeStart_house (s : State) (source kind : Nat) : (s.wakeStart source kind).house =
    { s.house with waking := some 0, retryWait := false, heldWake := none } := rfl

/-- HOUSE_START once a wake sequence has started. -/
theorem State.wakeStart_shows (s : State) (source kind : Nat) :
    (s.wakeStart source kind).get HOUSE_START_SOURCE = source % 2 ^ 4 ∧ (s.wakeStart source kind).get HOUSE_START_KIND = kind % 2 ^ 4 ∧
    (s.wakeStart source kind).get HOUSE_START_HELD = s.get HOUSE_START_HELD := by
  have shown (f : Field) : (s.wakeStart source kind).get f = ((((s.set HOUSE_START_SOURCE source).set HOUSE_START_KIND kind).set
      HOUSE_START_ATTEMPTS 1).set HOUSE_START_FAIL_STAGE 0).get f := rfl
  refine ⟨?_, ?_, ?_⟩
  · rw [shown, State.get_set_other _ _ (by decide) (by decide), State.get_set_other _ _ (by decide) (by decide),
      State.get_set_other _ _ (by decide) (by decide), State.get_set_same _ _ (by decide)]
    rfl
  · rw [shown, State.get_set_other _ _ (by decide) (by decide), State.get_set_other _ _ (by decide) (by decide),
      State.get_set_same _ _ (by decide)]
    rfl
  · rw [shown, State.get_set_other _ _ (by decide) (by decide), State.get_set_other _ _ (by decide) (by decide),
      State.get_set_other _ _ (by decide) (by decide), State.get_set_other _ _ (by decide) (by decide)]

/-! ### PERST_N (R527) -/

/-- The level of PERST_N as HOUSE records it. -/
def State.perstPin (s : State) : Bool := s.house.perstLow

theorem State.perstPin_of_house {s s' : State} (h : s'.house = s.house) : s'.perstPin = s.perstPin := congrArg House.perstLow h

theorem State.driveErr_perstPin (s : State) : s.driveErr.perstPin = s.perstPin := by
  obtain ⟨p, e, err⟩ := s.driveErr_house
  exact (congrArg House.perstLow err :)

theorem State.fault_perstPin (s : State) {code source subject : Nat}
    (h : (⟨code, source, subject, 0, 0, 0, 0⟩ : Report).reaction = .nothing) : (s.fault code source subject).perstPin = s.perstPin := by
  rw [State.fault, State.report, State.accept, h]
  simp only [State.react, ite_self]
  rw [State.driveErr_perstPin, State.perstPin_of_house (State.collect_house _ _ _ _ _ _)]

theorem State.freeLock_house (s : State) (n : Nat) : (s.freeLock n).house = s.house := by
  rw [State.freeLock]
  split
  · rfl
  · rfl

theorem State.forceLocks_perstPin (s : State) (p : Master → Bool) : (s.forceLocks p).perstPin = s.perstPin := by
  refine foldl_keeps State.perstPin (fun x (h : Nat × Master) => x.forceLock h.1) (fun x h => ?_) _ s
  rw [State.forceLock, State.fault_perstPin _ rfl]
  exact State.perstPin_of_house (x.freeLock_house h.1)

theorem State.ringsOff_perstPin (s : State) : s.ringsOff.perstPin = s.perstPin := by
  have load (x : State) (n : Nat) : (x.stopLoad n).perstPin = x.perstPin := by
    unfold State.stopLoad
    split
    · split
      · rfl
      · rfl
    · rfl
  have commits (x : State) (n : Nat) : (x.releaseCommits n).perstPin = x.perstPin := by
    unfold State.releaseCommits
    extract_lets
    split
    · rfl
    · rfl
  have state (x : State) (n st : Nat) : (x.setRingState n st).house = x.house := by
    simp only [State.setRingState, State.ringSummary, State.setFlag, State.set_house]
  have ring (x : State) (n : Nat) : (x.ringOff n).perstPin = x.perstPin := by
    unfold State.ringOff
    exact (State.perstPin_of_house (state _ n 0)).trans (commits (x.forgetRing n) n)
  refine foldl_keeps State.perstPin _ (fun s n => ?_) _ s
  split
  · rfl
  · exact (ring _ n).trans (load s n)

theorem State.mboxTear_house (s : State) (n : Nat) : (s.mboxTear n).house = s.house := by
  unfold State.mboxTear State.mboxDrop
  split
  · rfl
  · rw [State.bump_house, State.latch_house, State.setMbox_house]

theorem State.hostCold_house (s : State) : s.hostCold.house = s.house := by
  unfold State.hostCold
  extract_lets s1
  exact foldl_keeps State.house (fun (s : State) (e : Nat × Nat) => s.setReg e.1 e.2) (fun _ _ => rfl) _ s1

/-- A link-down by its parts. -/
theorem State.hostReset_eq (s : State) : s.hostReset false =
    (((List.range 8).foldl (fun s n => s.mboxTear n) s.ringsOff.hostCold).fault 0x0101 1 0).forceLocks (fun m => m == .host) := by
  simp only [State.hostReset, Bool.false_eq_true, if_false]

theorem State.hostReset_perstPin (s : State) : (s.hostReset false).perstPin = s.perstPin := by
  have torn (x : State) : ((List.range 8).foldl (fun s n => s.mboxTear n) x).house = x.house :=
    foldl_keeps State.house _ (fun s n => s.mboxTear_house n) _ x
  rw [State.hostReset_eq, State.forceLocks_perstPin, State.fault_perstPin _ rfl, State.perstPin_of_house (torn _),
    State.perstPin_of_house (State.hostCold_house _), State.ringsOff_perstPin]

/-- The host's side stays reset while its locks are released. -/
theorem HostFresh.self {link : Nat} {a s : State} (h : HostFresh link a s) : HostFresh link s s :=
  { h with dram := rfl, mode := rfl, hk := rfl }

theorem HostFresh.freeLock {link : Nat} {s : State} (h : HostFresh link s s) (n : Nat) :
    HostFresh link (s.freeLock n) (s.freeLock n) := by
  have locks {o : Nat} (ho : 0xD0000 ≤ o) : reportReg o = true := by
    have block : (o / 65536 != 2) = true := bne_iff_ne.mpr (by omega)
    rw [reportReg, block, Bool.true_or, Bool.true_or]
  have lock : reportReg (LOCK_OFF n) = true := locks (Nat.le_add_right _ _)
  have peek : reportReg (LOCK_PEEK_OFF n) = true := locks (by rw [LOCK_PEEK_OFF]; omega)
  have status : reportReg LOCK_STATUS_OFF = true := rfl
  have opened : HostFresh link { s with hk := { s.hk with holder := s.hk.holder.filter (fun h => h.1 != n) } }
      { s with hk := { s.hk with holder := s.hk.holder.filter (fun h => h.1 != n) } } := { h with hk := rfl }
  have freed := (((((opened.set (f := LOCK_PEEK_HELD n) (v := 0) peek).set (f := LOCK_PEEK_OWNER n) (v := 15) peek).set
    (f := ⟨LOCK_STATUS_OFF, n, 1⟩) (v := 0) status).set (f := ⟨LOCK_STATUS_OFF, 16 + n, 1⟩) (v := 0) status).set
    (f := LOCK_BUSY n) (v := 0) lock).set (f := LOCK_OWNER n) (v := 15) lock
  unfold State.freeLock
  split
  · exact HostFresh.self (HostFresh.set (f := KEEPER_INJ_STATUS_ACTIVE) (v := 0) { freed with } rfl)
  · exact freed.self

theorem HostFresh.forceLocks {link : Nat} {s : State} (h : HostFresh link s s) (p : Master → Bool) :
    HostFresh link (s.forceLocks p) (s.forceLocks p) := by
  refine List.foldlRecOn (motive := fun x => HostFresh link x x) _ _ h fun x hx e _ => ?_
  have heard : (⟨0x0A02, 10, subj 18 e.1, 0, 0, 0, 0⟩ : Report).reaction = .nothing := rfl
  exact (((hx.freeLock e.1).bump (f := LOCK_ERR_FORCED) rfl).fault heard).self

/-- A link-down takes the host's part to cold, whatever locks the host held. -/
theorem State.hostReset_down {s : State} (hc : s.house.config = []) :
    HostFresh (coldReg HOST_LINK_OFF).toNat (s.hostReset false) (s.hostReset false) := by
  have config : s.ringsOff.house.config = s.house.config := congrArg (fun p => p.2.2.1) s.ringsOff_apart
  have cold := State.hostCold_fresh (s := s.ringsOff) (by rw [config, hc]; rfl)
  have torn : HostFresh _ s.ringsOff ((List.range 8).foldl (fun s n => s.mboxTear n) s.ringsOff.hostCold) :=
    List.foldlRecOn _ _ cold fun y hy n hn => hy.mboxTear (List.mem_range.mp hn)
  have told := torn.fault (code := 0x0101) (source := 1) (subject := 0) rfl
  rw [State.hostReset_eq]
  exact told.self.forceLocks fun m => m == .host

/-- The level of PERST_N is recorded. -/
def State.perstSet (s : State) (low : Bool) : State := { s with house := { s.house with perstLow := low } }

theorem State.perst_eq (s : State) (low : Bool) : s.perst low =
    if low && !s.house.perstLow && s.powered then (s.perstSet low).hostReset false else s.perstSet low := rfl

end Sys2Proof.Machine

open Sys2Proof Sys2Proof.Machine Sys2Proof.Machine.Reg

/-- Settles O15: with no lock held RESET_N's assertion is a power-down of the held module; its release starts the wake sequence; the
reset of the host leaves HOUSE's record of PERST_N, and the host's part stays cold while the host's locks are released. -/
theorem resetCommands : Obligations.ResetCommands := by
  refine ⟨?assert, ?release, ?level, ?down⟩
  case assert =>
    intro s t hoff hfatal hh hl
    have effect := State.resetAssert_eq (s := s.pass t) (by rwa [State.pass_house]) (by rwa [State.pass_house])
      (by rwa [State.pass_flag]) (by rwa [State.pass_hk])
    obtain ⟨held, low⟩ := ((s.pass t).resetPin true).heldNow_keeps
    obtain ⟨mode, pin, start, waking, light, err, dram⟩ := State.powerDown_held held
    refine ⟨_, rfl, ?_, ?_, ?_, ?_, ?_, ?_, ?_⟩
    · rw [State.run_house, effect, mode]
    · rw [State.run_house, effect, pin, low]
      rfl
    · rw [State.run_getOf _ _ _ (by decide) (by decide), effect, start]
    · rw [State.run_house, effect, waking]
    · rw [State.run_house, effect, light]
    · rw [State.run_house, effect, err]
    · rw [State.run_dram, effect, dram]
  case release =>
    intro s t hh
    have effect := State.resetRelease_eq (s := s.pass t) (by rwa [State.pass_flag])
    have house : (s.pass t).resetRelease.house.resetLow = false ∧ (s.pass t).resetRelease.house.waking = some 0 ∧
        (s.pass t).resetRelease.house.coldPending = false := by
      obtain ⟨p, e, err⟩ := (((s.pass t).resetPin false).released.wakeStart 2 (s.pass t).releaseKind).driveErr_house
      rw [effect, err, State.wakeStart_house]
      exact ⟨rfl, rfl, rfl⟩
    obtain ⟨source, kind, held⟩ := ((s.pass t).resetPin false).released.wakeStart_shows 2 (s.pass t).releaseKind
    have shown (f : Field) (ho : f.off = HOUSE_START_OFF) : (s.run t fun s => s.resetRelease).get f =
        (((s.pass t).resetPin false).released.wakeStart 2 (s.pass t).releaseKind).get f := by
      rw [State.run_getOf _ _ _ (by rw [ho]; decide) (by rw [ho]; decide), effect]
      exact State.get_of_reg (State.driveErr_reg _ (by rw [ho]; decide))
    refine ⟨_, rfl, ?_, ?_, ?_, ?_, fun warm => ?_, ?_⟩
    · rw [State.run_house, house.1]
    · rw [shown _ rfl, held, State.released, State.get_set_same _ _ (by decide)]
      rfl
    · rw [State.run_house, house.2.1]
    · rw [shown _ rfl, source]
      rfl
    · have reset : (s.pass t).releaseKind = 2 := by rw [State.releaseKind, State.pass_house, warm]; rfl
      rw [shown _ rfl, kind, reset]
      rfl
    · rw [State.run_house, house.2.2]
  case level =>
    intro s t low
    refine ⟨_, rfl, ?_⟩
    beta_reduce
    rw [State.run_house, State.perst_eq]
    split
    · exact State.hostReset_perstPin _
    · rfl
  case down =>
    intro s t hp hl hc
    have falls : (true && !(s.pass t).house.perstLow && (s.pass t).powered) = true := by
      rw [State.pass_house, hl, State.pass_powered, hp]
      rfl
    have fresh := State.hostReset_down (s := (s.pass t).perstSet true) (by rw [State.perstSet, State.pass_house]; exact hc)
    have effect : (s.pass t).perst true = ((s.pass t).perstSet true).hostReset false := by rw [State.perst_eq, if_pos falls]
    refine ⟨_, rfl, ?_, ?_⟩
    · rw [State.run_getOf _ _ _ (by decide) (by decide), effect, fresh.link_get rfl]
      decide +kernel
    · rw [State.run_host, effect, fresh.rings]

end
